-- ==== Sys2Proof/Word.lean ====
section
/-! DEFINITION. The byte and the 32-bit word of the RV7192, and the update of one place of a fixed table. -/

namespace Sys2Proof

/-- One byte of a frame, a packet, an item or a memory. -/
abbrev Byte := BitVec 8

/-- One 32-bit register or memory word (R31, R589). -/
abbrev Word := BitVec 32

/-- The table `v` with place `i` changed by `f`; the other places stay. -/
def upd {α : Type} {n : Nat} (v : Vector α n) (i : Fin n) (f : α → α) : Vector α n :=
  v.set i.val (f v[i.val]) i.isLt

end Sys2Proof
end

