-- ==== Sys2Proof/Machine/Bits.lean ====
section
/-! DEFINITION. Bit fields, little-endian byte order, two's complement and the packet CRC. -/

namespace Sys2Proof.Machine
open Sys2Proof

/-- 1 for true, 0 for false. -/
def b2n (b : Bool) : Nat := if b then 1 else 0

/-- Bits `hi` down to `lo` of `w`, both ends included. -/
def bits (w hi lo : Nat) : Nat := (w >>> lo) % 2 ^ (hi + 1 - lo)

/-- The byte whose value is `n` modulo 256. -/
def byteOf (n : Nat) : Byte := BitVec.ofNat 8 n

/-- The `k` bytes of `n`, lowest first (R7). -/
def le : Nat → Nat → List Byte
  | 0, _ => []
  | k + 1, n => byteOf n :: le k (n / 256)

/-- The value of a little-endian byte sequence (R7). -/
def leVal : List Byte → Nat
  | [] => 0
  | b :: bs => b.toNat + 256 * leVal bs

/-- Byte `i` of a payload as a number; 0 past its end. -/
def byteAt (p : List Byte) (i : Nat) : Nat := (p.getD i 0).toNat

/-- The little-endian value of `k` bytes of a payload from byte `i` on (R7). -/
def leAt (p : List Byte) (i k : Nat) : Nat := leVal ((p.drop i).take k)

/-- Two's complement code of `x` in `w` bits. -/
def twos (w : Nat) (x : Int) : Nat := (x % (2 ^ w : Nat)).toNat

/-- A temperature in the 8 bits of its field, held at the ends of their range (R176, R741; DESIGN CHOICE, log entry 71). -/
def temp8 (x : Int) : Nat := twos 8 (max (-128) (min 127 x))

/-- The signed value of a `w`-bit two's complement code. -/
def signed (w n : Nat) : Int := if n % 2 ^ w < 2 ^ (w - 1) then (n % 2 ^ w : Nat) else (n % 2 ^ w : Nat) - (2 ^ w : Nat)

/-- A 32-bit word from its number. -/
def word (n : Nat) : Word := BitVec.ofNat 32 n

/-- The little-endian words of a byte sequence; a last short word is padded with 0x00. -/
def wordsOf : List Byte → List Word
  | b0 :: b1 :: b2 :: b3 :: bs => word (leVal [b0, b1, b2, b3]) :: wordsOf bs
  | [] => []
  | bs => [word (leVal bs)]

/-- The bytes of words, each lowest byte first (R7). -/
def bytesOf : List Word → List Byte
  | [] => []
  | w :: ws => le 4 w.toNat ++ bytesOf ws

/-- One bit step of the CRC of R504. -/
def crcBit (c : Nat) : Nat := if c.testBit 15 then ((c * 2) % 65536) ^^^ 0x1021 else (c * 2) % 65536

/-- One byte of the CRC of R504, most significant bit first. -/
def crcByte (c : Nat) (b : Byte) : Nat :=
  crcBit (crcBit (crcBit (crcBit (crcBit (crcBit (crcBit (crcBit (c ^^^ (b.toNat * 256)))))))))

/-- CRC-16/CCITT of a packet: polynomial 0x1021, initial 0xFFFF, no reflection, no complement (R504). -/
def crc16 (bs : List Byte) : Nat := bs.foldl crcByte 0xFFFF

/-- One bit step of the reflected CRC of R345. -/
def crcRefBit (c : Nat) : Nat := if c.testBit 0 then (c / 2) ^^^ 0x8408 else c / 2

/-- One byte of the reflected CRC of R345. -/
def crcRefByte (c : Nat) (b : Byte) : Nat :=
  crcRefBit (crcRefBit (crcRefBit (crcRefBit (crcRefBit (crcRefBit (crcRefBit (crcRefBit (c ^^^ b.toNat))))))))

end Sys2Proof.Machine
end

