-- ==== Sys2Proof/Machine/StTime.lean ====
section
/-! DEFINITION. State of the mains time base: PHC, sources, phase compares and quiet maps. -/

namespace Sys2Proof.Machine
open Sys2Proof

/-- States of the time base (R97). -/
inductive TbState where
  | virtual | acquire | locked | holdover
deriving DecidableEq, Repr

/-- Sources of phase (R89). -/
inductive TbSrc where
  | virtual | cask | zc
deriving DecidableEq, Repr

/-- What the time base keeps of an edge source (R91 to R94). -/
structure EdgeSrc where
  /-- last measured period in BCLK cycles; none until it delivers one, and then the VFREQ period holds (R94) -/
  period : Option Nat := none
  /-- TSC of the last accepted edge -/
  last : Option Nat := none
  /-- CASK_OK or ZC_OK: qualified (R92) -/
  ok : Bool := false
deriving DecidableEq, Repr

/-- Class of a bin (R121). -/
inductive BinClass where
  | unknown | quiet | noisy
deriving DecidableEq, Repr

/-- One quiet map entry (R120, R133). -/
structure QEntry where
  /-- FLOOR, 8 bits -/
  floor : Nat := 0
  /-- NOBS, 4 bits -/
  nobs : Nat := 0
  /-- CLASS, 2 bits -/
  cls : BinClass := .unknown
  /-- sum of the observations while NOBS is below QL_MIN (R120) -/
  sum : Nat := 0
deriving DecidableEq, Repr

/-- One phase compare (R107, R132). -/
structure Pcmp where
  /-- TGT -/
  tgt : Word := 0
  /-- PER, 17 bits -/
  per : Nat := 0
  /-- EN -/
  en : Bool := false
  /-- EVT -/
  evt : Bool := false
  /-- ZTRIG -/
  ztrig : Bool := false
  /-- FIRED -/
  fired : Bool := false
  /-- MISS, 8 bits -/
  miss : Nat := 0
deriving DecidableEq, Repr

/-- TB_CFG (R128). -/
structure TbCfg where
  /-- SRCSEL, 2 bits -/
  srcsel : Nat := 0
  /-- VFREQ, 1 bit -/
  vfreq : Bool := false
  /-- HOLD_CYC, 4 bits -/
  holdCyc : Nat := 4
  /-- QD_MAX, 5 bits -/
  qdMax : Nat := 4
  /-- QD_TOTAL, 5 bits -/
  qdTotal : Nat := 16
  /-- QL_MIN, 4 bits -/
  qlMin : Nat := 8
  /-- QMARGIN, 5 bits -/
  qmargin : Nat := 12
  /-- LEARN_EN, 1 bit -/
  learn : Bool := true
deriving DecidableEq, Repr

/-- TB_ZC (R129). -/
structure TbZc where
  /-- ZMODE, 2 bits -/
  zmode : Nat := 0
  /-- ZDELAY, 12 bits, µs -/
  zdelay : Nat := 0
  /-- DEGLITCH, 8 bits, µs -/
  deglitch : Nat := 20
deriving DecidableEq, Repr

/-- The time base. -/
structure Tb where
  /-- PHC with its 24 fractional bits; 32 + 24 bits; R84, R85, R126; reset 0 -/
  phc : BitVec 56 := 0
  /-- TB_INC; 24 bits; R85, R130; reset 253,391 -/
  inc : Nat := 253391
  /-- TB_STAT.STATE; 3 bits; R97, R127; reset 0x1 -/
  state : TbState := .virtual
  /-- TB_STAT.SRC; 2 bits; R89, R127; reset 0x0 -/
  src : TbSrc := .virtual
  /-- the Cask source, TB_STAT.CASK_OK; R91 to R94, R127; reset not qualified, period of VFREQ -/
  cask : EdgeSrc := {}
  /-- the MAINS_ZC source, TB_STAT.ZC_OK; R91 to R94, R127; reset not qualified, period of VFREQ -/
  zc : EdgeSrc := {}
  /-- TB_STAT.GAP; 1 bit, W1C; R88, R127; reset 0 -/
  gap : Bool := false
  /-- TB_STAT.STEP; 1 bit, W1C; R99, R127; reset 0 -/
  step : Bool := false
  /-- TB_STAT.LOST; 1 bit, W1C; R103, R127; reset 0 -/
  lost : Bool := false
  /-- TB_STAT.FREQ_OOR; 1 bit, W1C; R91, R127; reset 0 -/
  freqOor : Bool := false
  /-- TB_CFG; SRCSEL 2, VFREQ 1, HOLD_CYC 4, QD_MAX 5, QD_TOTAL 5, QL_MIN 4, QMARGIN 5, LEARN_EN 1 bits; R128; reset 0, 0, 4, 4, 16, 8, 12, 1 -/
  cfg : TbCfg := {}
  /-- TB_ZC; ZMODE 2, ZDELAY 12, DEGLITCH 8 bits; R129; reset 0, 0, 20 -/
  zcCfg : TbZc := {}
  /-- TB_FREQ.FREQ; 17 bits, mHz; R130; reset 50,000 -/
  freq : Nat := 50000
  /-- TB_ERR.ERR; 16 bits, signed pu; R130; reset 0x0000 -/
  err : Int := 0
  /-- TB_CNT.STEPS; 8 bits, saturating; R130; reset 0x00 -/
  steps : Nat := 0
  /-- TB_CNT.REJECTS; 8 bits, saturating; R130; reset 0x00 -/
  rejects : Nat := 0
  /-- TB_CNT.HOLDS; 8 bits, saturating; R130; reset 0x00 -/
  holds : Nat := 0
  /-- TB_CNT.GAPS; 8 bits, saturating; R130; reset 0x00 -/
  gaps : Nat := 0
  /-- TB_CAP_PHC; 32 bits; R87, R131; reset 0x0000_0000 -/
  capPhc : Word := 0
  /-- TB_CAP_TSCL and TB_CAP_TSCH; 64 bits; R87, R131; reset 0 -/
  capTsc : BitVec 64 := 0
  /-- phase compares PCMP0 to PCMP31; TGT 32, PER 17, EN, EVT, ZTRIG, FIRED, MISS 8 bits; R107, R132; reset 0 -/
  pcmp : Vector Pcmp 32 := Vector.replicate 32 {}
  /-- quiet map, 2 banks of 24 groups of 64 bins; FLOOR 8, NOBS 4, CLASS 2 bits and the running sum; R120, R133; reset 0 -/
  qmap : Vector (Vector (Vector QEntry 64) 24) 2 := Vector.replicate 2 (Vector.replicate 24 (Vector.replicate 64 {}))
  /-- class latched for the present bin, per coil group; 24 x 2 bits; R114; reset UNKNOWN -/
  latched : Vector BinClass 24 := Vector.replicate 24 .unknown
  /-- bin whose classes are latched, the bin of the last boundary; 6 bits; R114; reset 0 -/
  bin : Nat := 0
  /-- TSC of the last bin-boundary strobe, sent to every receive channel; none or a TSC; R114, R203; reset none -/
  strobe : Option Nat := none
  /-- bin boundaries in LOCKED or VIRTUAL since entry to M9, 64 a cycle; R123; reset 0 -/
  m9Bins : Nat := 0
  /-- consecutive good edges in ACQUIRE since the last step; count to 4; R100; reset 0 -/
  good : Nat := 0
  /-- consecutive edges above 2,048 pu in LOCKED; count to 2; R101; reset 0 -/
  bad : Nat := 0
  /-- Cask edges counted toward taking over from MAINS_ZC; count to 16; R104; reset 0 -/
  takeover : Nat := 0
  /-- HOLD_CYC in effect at the entry to HOLDOVER; 4 bits; R103; reset 0 -/
  holdCyc : Nat := 0
  /-- PHC with its fraction at the entry to HOLDOVER; 56 bits; R103; reset 0 -/
  holdPhc : BitVec 56 := 0
  /-- Cask delay in µs, loaded from calibration at boot; R89; reset 0 (R13, "cal") -/
  caskDelay : Nat := 0
  /-- PHC that AON recorded; 32 bits; R88; reset 0 -/
  aonPhc : Word := 0
  /-- frequency that AON recorded, mHz; 17 bits; R88; reset 0 -/
  aonFreq : Nat := 0
deriving DecidableEq, Repr

end Sys2Proof.Machine
end

