-- ==== Sys2Proof/Machine/StCoil.lean ====
section
/-! DEFINITION. State of the coils, the Kettles, the zone transmitters, the receive channels, Lauter, the probe sequencer, the zone engines and the presence table. -/

namespace Sys2Proof.Machine
open Sys2Proof

/-! Coils and drive (chapter 04) -/

/-- Role of a coil (R177). -/
inductive Role where
  | absent | free | active | guardDamp | guardNull | guardOpen | shadow | fault
deriving DecidableEq, Repr

/-- One entry of the layout table (R140). -/
structure Layout where
  /-- PRESENT -/
  present : Bool := false
  /-- EDGE -/
  edge : Bool := false
  /-- X, 0.1 mm -/
  x : Nat := 0
  /-- Y, 0.1 mm -/
  y : Nat := 0
  /-- RADIUS, 0.1 mm -/
  radius : Nat := 0
  /-- NB0 to NB5, NCOUNT of them -/
  nb : List Nat := []
deriving DecidableEq, Repr

/-- Coil calibration (R155, R178). -/
structure CoilCal where
  /-- TRIM, 6 bits -/
  trim : Nat := 0
  /-- VALID -/
  valid : Bool := false
  /-- PH_TRIM, 11 bits -/
  phTrim : Nat := 0
  /-- R_LOAD, 16 bits, 0.01 Ω -/
  rLoad : Nat := 0
  /-- GAIN, 16 bits -/
  gain : Nat := 0
  /-- CRE and CIM of each listed neighbour, 8 bits each, 1/128 -/
  cpl : List (Int × Int) := []
deriving DecidableEq, Repr

/-- A drive word (R143). -/
structure DriveWord where
  /-- EN -/
  en : Bool := false
  /-- AMP, 8 bits -/
  amp : Nat := 0
  /-- COARSE and FINE, 11 bits -/
  phase : Nat := 0
deriving DecidableEq, Repr

/-- Drive side of one coil (R177). -/
structure Coil where
  /-- layout table entry -/
  lay : Layout := {}
  /-- ROLE -/
  role : Role := .absent
  /-- OWNER, none for 31 -/
  owner : Option (Fin 24) := none
  /-- OC -/
  oc : Bool := false
  /-- OPEN -/
  opn : Bool := false
  /-- RON -/
  ron : Bool := false
  /-- LATCHED -/
  latched : Bool := false
  /-- FCOUNT, 4 bits -/
  fcount : Nat := 0
  /-- TSC of the last fault flag settings, latest first, at most three (R172) -/
  setTimes : List Nat := []
  /-- the rearm test burst is running (R172) -/
  rearm : Bool := false
  /-- TSC of the REARM write that started it (R173) -/
  rearmT : Nat := 0
  /-- drive word formed by the drive controller (R154) -/
  word : DriveWord := {}
  /-- drive word that the Kettle has from the last refresh (R145) -/
  kword : DriveWord := {}
  /-- driven at some time in the present bin (R118, R204) -/
  binDrv : Bool := false
  /-- owned by a zone at some time in the present bin (R118, R204) -/
  binOwn : Bool := false
  /-- COIL_CALn and COIL_NBn_j -/
  cal : CoilCal := {}
deriving DecidableEq, Repr

/-- One Kettle (R170, R176). -/
structure Kettle where
  /-- TEMP, 8 bits, °C -/
  temp : Int := 0
  /-- VDRV, 12 bits, 10 mV -/
  vdrv : Nat := 0
  /-- UV has occurred, W1C -/
  uv : Bool := false
  /-- OV has occurred, W1C -/
  ov : Bool := false
  /-- OT_WARN has occurred, W1C -/
  otWarn : Bool := false
  /-- OT_SHUT has occurred, W1C -/
  otShut : Bool := false
  /-- LINK has occurred, W1C -/
  link : Bool := false
  /-- UV condition in effect -/
  uvNow : Bool := false
  /-- OV condition in effect -/
  ovNow : Bool := false
  /-- OT_WARN condition in effect -/
  warnNow : Bool := false
  /-- OT_SHUT condition in effect -/
  shutNow : Bool := false
  /-- LINK condition in effect -/
  linkNow : Bool := false
  /-- parked by a park word (R24) -/
  parked : Bool := true
  /-- LINK_OK: drive link refreshing -/
  linkOk : Bool := false
  /-- K_LIM, W1C -/
  kLim : Bool := false
  /-- MEAS, 12 bits, mW -/
  meas : Nat := 0
deriving DecidableEq, Repr

/-- CALIBRATE in progress (R157, R433). -/
structure CalRun where
  /-- tag of the command -/
  tag : Fin 32
  /-- TARGET -/
  target : Nat := 1
  /-- STORE -/
  store : Bool := false
  /-- FIRST -/
  first : Nat := 0
  /-- LAST -/
  last : Nat := 0
deriving DecidableEq, Repr

/-- The bursts of a CALIBRATE or of a survey in M9 (R158, R682, R696). -/
structure BurstSeq where
  /-- tag of the command -/
  tag : Fin 32
  /-- a survey, not a CALIBRATE -/
  survey : Bool
  /-- coils still to be measured -/
  todo : List Nat
  /-- coil set in progress -/
  group : List Nat := []
  /-- bursts of the set already started -/
  step : Nat := 0
  /-- deferral of the next burst in pu (R115) -/
  wait : Nat := 0
  /-- deferral spent by the command in pu (R115, R116) -/
  spent : Nat := 0
  /-- trim codes that the search of the set has reached so far (R158) -/
  codes : List (Nat × Nat) := []
  /-- coils that the command has measured (R682, R696) -/
  got : List Nat := []
deriving DecidableEq, Repr

/-- The drive controller and the Kettles. -/
structure Drive where
  /-- coils CH0 to CH191; layout entry, COIL_STATn, COIL_CALn, COIL_NBn_j, drive words; R140, R143, R177, R178; reset ABSENT, OWNER 31, others 0 -/
  coil : Vector Coil 192 := Vector.replicate 192 {}
  /-- Kettle0 to Kettle3; DRV_KSTATk, DRV_KPWRk.MEAS, K_LIM, LINK_OK, fault conditions, park; R24, R170, R175, R176; reset 0, parked -/
  ket : Vector Kettle 4 := Vector.replicate 4 {}
  /-- EXTENT_X; 16 bits, 0.1 mm; R140; reset 0 -/
  extX : Nat := 0
  /-- EXTENT_Y; 16 bits, 0.1 mm; R140; reset 0 -/
  extY : Nat := 0
  /-- DRV_CTL.SWKILL; 1 bit; R175; reset 0 -/
  swkill : Bool := false
  /-- DRV_CTL.RAMP; 4 bits; R175; reset 15 -/
  ramp : Nat := 15
  /-- DRV_CTL.PROBE_RSV; 8 bits; R175; reset 10 -/
  probeRsv : Nat := 10
  /-- DRV_STAT.LAYOUT_OK; 1 bit; R175; reset 0 -/
  layoutOk : Bool := false
  /-- DRV_STAT.TOT_LIM; 1 bit, W1C; R175; reset 0 -/
  totLim : Bool := false
  /-- DRV_STAT.MEAS_LIM; 1 bit, W1C; R175; reset 0 -/
  measLim : Bool := false
  /-- DRV_PTOT.MEAS; 14 bits, mW; R176; reset 0 -/
  meas : Nat := 0
  /-- DRV_FCNT.COILF; 16 bits, saturating; R176; reset 0x0000 -/
  coilf : Nat := 0
  /-- DRV_FCNT.KETF; 16 bits, saturating; R176; reset 0x0000 -/
  ketf : Nat := 0
  /-- bursts of CALIBRATE or of the Kiln survey in the present slot: coil and amplitude; R158, R230, R682; reset none -/
  calBursts : List (Nat × Nat) := []
  /-- coil sets of a CALIBRATE or a survey in M9; none or one; R158, R230, R682; reset none -/
  seq : Option BurstSeq := none
  /-- CALIBRATE in progress; none or one; R157; reset none -/
  calRun : Option CalRun := none
deriving DecidableEq, Repr

/-- One transmit weight entry, ZEn_TXWk (R179). -/
structure TxW where
  /-- COIL, 0xFF unused -/
  coil : Nat := 0xFF
  /-- ROLE, 3 bits -/
  role : Nat := 0
  /-- AMP, 8 bits -/
  amp : Nat := 0
  /-- PHASE, 11 bits -/
  phase : Nat := 0
deriving DecidableEq, Repr

/-- A field ramp (R149). -/
inductive Ramp where
  | none | rising | falling
deriving DecidableEq, Repr

/-- Transmit side of a zone engine (R179). -/
structure ZoneTx where
  /-- ZEn_TXW0 to ZEn_TXW15 -/
  txw : Vector TxW 16 := Vector.replicate 16 {}
  /-- FIELD -/
  field : Bool := false
  /-- MIN_SCALE, 9 bits -/
  minScale : Nat := 128
  /-- SCALE, 9 bits -/
  scale : Nat := 256
  /-- LIM_COIL, W1C -/
  limCoil : Bool := false
  /-- LIM_KET, W1C -/
  limKet : Bool := false
  /-- LIM_TOT, W1C -/
  limTot : Bool := false
  /-- MEAS, W1C -/
  meas : Bool := false
  /-- RULE, W1C -/
  rule : Bool := false
  /-- REFUSED, W1C -/
  refused : Bool := false
  /-- COILF, W1C -/
  coilf : Bool := false
  /-- RULE_CODE, 4 bits -/
  ruleCode : Nat := 0
  /-- committed weights in effect -/
  cur : List TxW := []
  /-- a zone is driving from its first applied commit until it closes (R161) -/
  driving : Bool := false
  /-- commit submitted and not yet at its carrier boundary (R146) -/
  due : Option (List TxW) := none
  /-- TSC at which that commit was submitted (R146, R162) -/
  dueT : Nat := 0
  /-- the commit has been applied with that of a higher zone at the same carrier boundary (R162) -/
  early : Bool := false
  /-- commit held while a frame is sent, PENDING (R147) -/
  held : Option (List TxW) := none
  /-- ON: field on or ramping -/
  on : Bool := false
  /-- ramp in progress -/
  rampNow : Ramp := .none
  /-- TSC at the start of the last ramp (R149, R153) -/
  rampT : Nat := 0
  /-- BCLK cycles of that ramp (R149) -/
  rampLen : Nat := 0
deriving DecidableEq, Repr

/-- A complex number: a reading or baseline in cu (R252), a sample, a correlation. -/
abbrev Cplx := Int × Int

/-! Receive chain (chapter 05) -/

/-- One receive channel, RX_CHn (R208). -/
structure RxCh where
  /-- GAIN -/
  gain : Nat := 3
  /-- HVALID_Q -/
  hvQ : Bool := false
  /-- HIST_Q -/
  histQ : Nat := 0
  /-- HVALID_F -/
  hvF : Bool := false
  /-- HIST_F -/
  histF : Nat := 0
  /-- TSC at which the present run ends; REM counts the words to it, 16 BCLK cycles each -/
  invEnd : Nat := 0
  /-- CAUSE of the present run -/
  cause : Nat := 0
  /-- OVR, W1C -/
  ovr : Bool := false
  /-- SAT, W1C -/
  sat : Bool := false
  /-- G of the own loop, put aside while a probe burst holds PROBE_G (R197) -/
  saved : Option Nat := none
  /-- invalid runs that reach into the longest span that any block looks back over: TSC of start and end (R199, R224) -/
  runs : List (Nat × Nat) := []
  /-- TSC since which a condition of R201 has held, or last began to hold -/
  badT : Option Nat := some 0
  /-- TSC at which the present gain window of the own loop began (R192) -/
  winT : Nat := 0
  /-- last output of the decimation filter, in 1/256 of a step (R186, R188) -/
  hpX : Cplx := (0, 0)
  /-- last output of the high-pass, in 1/256 of a step (R188) -/
  hpY : Cplx := (0, 0)
deriving DecidableEq, Repr

/-- Receive controls of a zone engine (R209). -/
structure ZoneRx where
  /-- FILT -/
  filt : Nat := 0
  /-- AGC -/
  agc : Nat := 0
  /-- GFIX -/
  gfix : Nat := 3
  /-- GAIN of the receive set -/
  gain : Nat := 3
  /-- FROZEN -/
  frozen : Bool := false
  /-- held filter change, FPEND (R187) -/
  held : Option Nat := none
  /-- FILT_ACT -/
  filtAct : Nat := 0
  /-- CLIP, W1C -/
  clip : Bool := false
  /-- TSC at which the present gain window began (R192) -/
  winT : Nat := 0
  /-- the last gain step: its word, whether an overrange made it, the G before it and the members as they were; a detection in the same word
  discards it (R194) -/
  undo : Option (Nat × Bool × Nat × List (Fin 192 × RxCh)) := none
deriving DecidableEq, Repr

/-- The receive chain. -/
structure Rx where
  /-- RX_CFG.G_INIT; 3 bits; R207; reset 3 -/
  gInit : Nat := 3
  /-- RX_CFG.AGC_WIN; 5 bits; R207; reset 16 -/
  agcWin : Nat := 16
  /-- RX_CFG.LOW_TH; 3 bits; R207; reset 4 -/
  lowTh : Nat := 4
  /-- RX_CFG.PROBE_G; 3 bits; R207; reset 1 -/
  probeG : Nat := 1
  /-- RX_CFG.CSUB_EN; 1 bit; R207; reset 1 -/
  csub : Bool := true
  /-- RX_CFG.DCR_TRACK; 2 bits; R207; reset 1 -/
  dcr : Nat := 1
  /-- RX_CNT.OVR; 16 bits, saturating; R207; reset 0x0000 -/
  cntOvr : Nat := 0
  /-- RX_CNT.SAT; 16 bits, saturating; R207; reset 0x0000 -/
  cntSat : Nat := 0
  /-- channels RX_CH0 to RX_CH191; GAIN 3, HVALID_Q, HIST_Q 3, HVALID_F, HIST_F 3, CAUSE 3, REM 8, OVR, SAT bits; R196, R208; reset GAIN 3, others 0 -/
  ch : Vector RxCh 192 := Vector.replicate 192 {}
  /-- zone receive controls ZEn_RX_CTL and ZEn_RX_STAT; R209; reset FILT 0, AGC 0, GFIX 3, GAIN 3, others 0 -/
  zone : Vector ZoneRx 24 := Vector.replicate 24 {}
deriving DecidableEq, Repr

/-! Lauter (chapter 06) -/

/-- Allocation class of an engine or a zone (R231). -/
inductive LClass where
  | none | recog | track | probe
deriving DecidableEq, Repr

/-- One correlator engine, LE_STATe (R242). -/
structure Engine where
  /-- CLASS -/
  cls : LClass := .none
  /-- OWNER: a zone; none for the probe sequencer or a free engine -/
  zone : Option (Fin 24) := none
  /-- GROUP -/
  group : Nat := 0
  /-- LANES, 8 bits -/
  lanes : Nat := 0
  /-- fold slots, by their number in the list of R217 (0 to 9), each with the TSC at which it was emptied last (R214, R242) -/
  folds : List (Nat × Nat) := []
  /-- the coil whose burst a PROBE engine serves (R210, R229) -/
  coil : Option Nat := none
deriving DecidableEq, Repr

/-- One detection record, LZn_DET0 to LZn_DET3 (R228, R243). -/
structure Det where
  /-- TID -/
  tid : Nat := 0
  /-- VAR -/
  var : Nat := 0
  /-- QUIET -/
  quiet : Bool := false
  /-- SCORE -/
  score : Nat := 0
  /-- TH -/
  th : Nat := 0
  /-- SEQ -/
  seq : Nat := 0
  /-- PHC at the peak word -/
  phc : Nat := 0
  /-- TSC at the peak word, low word -/
  tscl : Nat := 0
  /-- MAG -/
  mag : Nat := 0
  /-- PHASE -/
  phase : Nat := 0
  /-- FRAC -/
  frac : Nat := 0
deriving DecidableEq, Repr

/-- A template that has crossed in the present peak search (R223, R225). -/
structure Cross where
  /-- TID -/
  tid : Nat
  /-- VAR -/
  var : Nat
  /-- highest score so far -/
  score : Nat
  /-- threshold at its first crossing -/
  th : Nat
  /-- THQ applied at its first crossing -/
  quiet : Bool
  /-- PHC at the word of the highest score -/
  phc : Nat
  /-- TSC at the word of the highest score -/
  tsc : Nat
deriving DecidableEq, Repr

/-- A request for engines that waits (R233) or is held (R236). -/
structure LReq where
  /-- class asked for -/
  cls : LClass
  /-- TMASK -/
  tmask : Nat
  /-- held because HOLD is 1 (R236) -/
  held : Bool
  /-- TSC when it was written -/
  since : Nat
  /-- engines were not free when it was written (R241) -/
  late : Bool := false
deriving DecidableEq, Repr

/-- Lauter registers of one zone (R243). -/
structure LZone where
  /-- LZn_REQ.CLASS, 2 bits -/
  reqClass : Nat := 0
  /-- LZn_REQ.TMASK, 14 bits -/
  reqMask : Nat := 0
  /-- LZn_STAT.CLASS -/
  cls : LClass := .none
  /-- TMASK granted -/
  tmask : Nat := 0
  /-- request waiting or held, WAIT -/
  wait : Option LReq := none
  /-- HOLD -/
  hold : Bool := false
  /-- LISTEN -/
  listen : Bool := false
  /-- REFUSE, 4 bits -/
  refuse : Nat := 0
  /-- detection queue, oldest first, at most two records (R227) -/
  dets : List Det := []
  /-- detections since opening, modulo 16 -/
  seq : Nat := 0
  /-- templates crossed in the present peak search; empty when none runs -/
  search : List Cross := []
  /-- TSC of the first crossing of the present peak search (R223) -/
  firstAt : Nat := 0
  /-- TSC of the last new highest score of the present peak search (R223) -/
  lastMax : Nat := 0
  /-- the peak search has ended: TSC at which its detection is declared (R223) -/
  due : Option Nat := none
  /-- DET, 8 bits -/
  det : Nat := 0
  /-- ALT, 8 bits -/
  alt : Nat := 0
  /-- LOST, 8 bits -/
  lost : Nat := 0
  /-- INELIG, 8 bits -/
  inelig : Nat := 0
deriving DecidableEq, Repr

/-- Lauter. -/
structure Lauter where
  /-- LAU_CFG.PROBE_ENG; 4 bits; R241; reset 6 -/
  probeEng : Nat := 6
  /-- LAU_CFG.PEAK_WIN; 5 bits; R241; reset 8 -/
  peakWin : Nat := 8
  /-- LAU_KADJ.KADJ; 8 bits, signed; R221, R241; reset 0x00 -/
  kadj : Int := 0
  /-- LAU_CNT.WAITS; 16 bits, saturating; R241; reset 0x0000 -/
  waits : Nat := 0
  /-- LAU_CNT.WAIT_MAX; 16 bits, µs; R241; reset 0x0000 -/
  waitMax : Nat := 0
  /-- engines LE0 to LE63, LE_STATe; R242; reset free, OWNER 31, others 0 -/
  eng : Vector Engine 64 := Vector.replicate 64 {}
  /-- zone blocks LZn_REQ, LZn_STAT, LZn_DET0 to LZn_DET3, LZn_CNT and the peak search; R243; reset 0 -/
  zone : Vector LZone 24 := Vector.replicate 24 {}
  /-- zones whose requests wait for engines, in the order in which they were written; R233; reset none -/
  order : List (Fin 24) := []
  /-- the device holds engines for probing (R234); 1 bit; reset 0 -/
  probing : Bool := false
  /-- the template library has been loaded; 1 bit; R215, R711; reset 0 -/
  lib : Bool := false
deriving DecidableEq, Repr

/-! Probe sequencer (chapter 07) -/


/-- Probe state of one coil (R253, R295, R762). -/
structure PrbC where
  /-- ELIG, 3 bits -/
  elig : Nat := 4
  /-- BVALID -/
  bvalid : Bool := false
  /-- BSRC -/
  bsrc : Bool := false
  /-- CHG -/
  chg : Bool := false
  /-- OCC -/
  occ : Bool := false
  /-- DELTA, 16 bits -/
  delta : Nat := 0
  /-- self baseline -/
  self : Cplx := (0, 0)
  /-- mutual baselines in the order of the neighbour list, none until seeded -/
  mutB : List (Option Cplx) := []
  /-- occupied reference -/
  ref : Option Cplx := none
  /-- the occupied reference is taken again from the next valid reading (R762) -/
  retake : Bool := false
deriving DecidableEq, Repr

/-- What an image is for (R256, R278, R279). -/
inductive ImgKind where
  | trigger                 -- a change against the baseline
  | occupied (entry : Nat)  -- a change against the occupied reference of an entry
  | close (entries : List Nat) (cause : Nat)  -- after a close with cause 3 or 4
deriving DecidableEq, Repr

/-- Stage of an image (R257). -/
inductive ImgStage where
  | queued | base | ext | reprobe
deriving DecidableEq, Repr

/-- A running image (R257). -/
structure Image where
  /-- coil c -/
  trig : Nat := 0
  /-- trigger reading; none after a Steep handover (R396) -/
  trigVal : Option Cplx := none
  /-- kind -/
  kind : ImgKind := .trigger
  /-- stage -/
  stage : ImgStage := .queued
  /-- groups of one or two coils still to be driven in this stage -/
  todo : List (List Nat) := []
  /-- valid self readings so far -/
  got : List (Nat × Cplx) := []
  /-- coils driven so far -/
  driven : List Nat := []
  /-- slots used -/
  slots : Nat := 0
  /-- restarts so far -/
  restarts : Nat := 0
  /-- triggers that the image started from before its restarts (R258) -/
  from_ : List Nat := []
deriving DecidableEq, Repr

/-- A burst of the present slot: the coil and the image it belongs to, none for the rotation (R246). -/
structure Burst where
  /-- driven coil -/
  coil : Nat
  /-- trigger coil of the image it belongs to -/
  image : Option Nat
deriving DecidableEq, Repr

/-- The probe sequencer. -/
structure Probe where
  /-- PRB_CFG.AMP; 8 bits; R294; reset 20 -/
  amp : Nat := 20
  /-- PRB_CFG.TH_S; 8 bits; R294; reset 75 -/
  thS : Nat := 75
  /-- PRB_CFG.TH_M; 8 bits; R294; reset 50 -/
  thM : Nat := 50
  /-- PRB_CFG.EN; 1 bit; R294; reset 1 -/
  en : Bool := true
  /-- PRB_CFG.DRIFT; 3 bits; R294; reset 6 -/
  drift : Nat := 6
  /-- PRB_STAT.PASS_US; 16 bits; R294; reset 0x0000 -/
  passUs : Nat := 0
  /-- PRB_CNT.TRIG; 8 bits, saturating; R294; reset 0x00 -/
  cntTrig : Nat := 0
  /-- PRB_CNT.FALSE; 8 bits, saturating; R294; reset 0x00 -/
  cntFalse : Nat := 0
  /-- PRB_CNT.INVAL; 8 bits, saturating; R294; reset 0x00 -/
  cntInval : Nat := 0
  /-- PRB_CNT.BSKIP; 8 bits, saturating; R294; reset 0x00 -/
  cntBskip : Nat := 0
  /-- PRB_PASS.PASSES; 32 bits, wrapping; R294; reset 0 -/
  passes : Word := 0
  /-- probe state of each coil, PRB_Cn, baselines and occupied references; R253, R295, R762; reset ELIG 4, others 0 -/
  coil : Vector PrbC 192 := Vector.replicate 192 {}
  /-- bursts of the present slot; R246; reset none -/
  bursts : List Burst := []
  /-- images running or due; R256; reset none -/
  images : List Image := []
  /-- coils of the present pass still to be driven; R249, R250; reset none -/
  passLeft : List Nat := []
  /-- coils ELIGIBLE at the start of the pass that have not yet given a valid reading; R249; reset none -/
  passWait : List Nat := []
  /-- TSC at the start of the pass; R294; reset 0 -/
  passStart : Nat := 0
  /-- coil declared by Steep, treated as a trigger at the first slot boundary; R396; reset none -/
  handover : Option Nat := none
deriving DecidableEq, Repr

/-! Zones and the presence table (chapter 07) -/

/-- State of a zone engine (R296). -/
inductive ZState where
  | free | opened | closing
deriving DecidableEq, Repr

/-- A zone engine's opening list and state (R296). -/
structure ZoneEng where
  /-- STATE -/
  state : ZState := .free
  /-- ENTRY: the first entry on the zone; none reads 0x1FF -/
  entry : Option Nat := none
  /-- OREF, W1C -/
  oref : Bool := false
  /-- ZEn_COIL0 to ZEn_COIL15: COIL and ROLE -/
  coilk : Vector (Nat × Nat) 16 := Vector.replicate 16 (0xFF, 0)
  /-- CAUSE of the close in progress (R271) -/
  cause : Nat := 0
  /-- reserved by SC for an entry that is OPENING (R266) -/
  reserved : Bool := false
  /-- cards or accessories identified in the zone so far (R316, R359) -/
  found : Nat := 0
  /-- TSC when the last command on the zone completed or its identification came (R271, R275) -/
  lastUse : Nat := 0
  /-- identified (R275) -/
  identified : Bool := false
  /-- weights of the zone's read plan (R309, R373) -/
  readPlan : List TxW := []
  /-- module that holds the engine, none when the Kwathes firmware serves it (R718) -/
  module : Option Nat := none
deriving DecidableEq, Repr

/-- State of a presence entry (R277). -/
inductive EState where
  | waiting | opening | opened | resting | unresponsive
deriving DecidableEq, Repr

/-- What the device keeps of an identified HF card (R320 to R333, R338). -/
structure Card where
  /-- TECH of CARD_INFO -/
  tech : Nat := 0
  /-- activation state of CARD_INFO -/
  act : Nat := 0
  /-- rate code of CARD_INFO -/
  rate : Nat := 0
  /-- FWI -/
  fwi : Nat := 0
  /-- FSC -/
  fsc : Nat := 0
  /-- INFO bytes -/
  info : List Byte := []
  /-- failures at the present rate (R321) -/
  fails : Nat := 0
  /-- presence checks missed in a row (R323) -/
  missed : Nat := 0
  /-- a late reply is waited for: the opcode and tag of the command it belongs to (R333) -/
  late : Option (Nat × Nat) := none
  /-- no late reply came: the next command reports DESYNC if reactivation fails (R333) -/
  desync : Bool := false
  /-- highest rates still used after steps down, as RATE (R321) -/
  cap : Nat := 0x66
  /-- deactivated: to be activated again before the next command (R321, R332) -/
  react : Bool := false
deriving DecidableEq, Repr

/-- What the device keeps of an accessory (R371 to R380). -/
structure Acc where
  /-- HANDLE -/
  handle : Nat := 0
  /-- ACT -/
  act : Bool := false
  /-- INFO, 8 bytes -/
  info : List Byte := []
  /-- power state: 0 off, 1 ramping, 2 feeding, 3 limited (R376) -/
  power : Nat := 0
  /-- PWR of the last reply -/
  pwr : Nat := 0
  /-- LIMIT of the ACC_POWER in effect -/
  limit : Nat := 0
  /-- pings unanswered in a row -/
  missed : Nat := 0
  /-- keep rounds in a row with PWR 3 -/
  exceeded : Nat := 0
  /-- TSC since which PWR has been below 2 with raising blocked; none otherwise (R375) -/
  lowSince : Option Nat := none
  /-- TSC at the start of the ramp -/
  rampStart : Nat := 0
  /-- TSC of the last valid reply -/
  lastReply : Nat := 0
  /-- field amplitude steps raised above the read plan -/
  boost : Nat := 0
deriving DecidableEq, Repr

/-- One presence entry (R283). -/
structure Entry where
  /-- reuse count, 7 bits -/
  reuse : Nat := 0
  /-- STATE -/
  state : EState := .waiting
  /-- KIND -/
  kind : Nat := 0
  /-- ZONE -/
  zone : Option (Fin 24) := none
  /-- PROTO -/
  proto : Nat := 0
  /-- UID -/
  uid : List Byte := []
  /-- SHARED -/
  shared : Bool := false
  /-- MOVED -/
  moved : Bool := false
  /-- PARTIAL -/
  part : Bool := false
  /-- MOVING -/
  moving : Bool := false
  /-- REASON -/
  reason : Nat := 0
  /-- X, 0.1 mm -/
  x : Nat := 0
  /-- Y, 0.1 mm -/
  y : Nat := 0
  /-- ANGLE -/
  angle : Nat := 0xFF
  /-- NACT -/
  nact : Nat := 0
  /-- PEAK -/
  peak : Nat := 0
  /-- GEN_CHG -/
  genChg : Word := 0
  /-- coils of the entry (R762) -/
  coils : List Nat := []
  /-- weights of its image (R260) -/
  weights : List (Nat × Nat) := []
  /-- place in the order of location (R274) -/
  order : Nat := 0
  /-- card data -/
  card : Card := {}
  /-- accessory data, for PROTO 0xE -/
  acc : Acc := {}
  /-- zone evicted for this entry (R275) -/
  evicts : Option (Fin 24) := none
deriving DecidableEq, Repr

/-- One located object (R260, R261). -/
structure Loc where
  /-- X -/
  x : Nat := 0
  /-- Y -/
  y : Nat := 0
  /-- ANGLE -/
  angle : Nat := 0xFF
  /-- KIND -/
  kind : Nat := 0
  /-- highest-weight coil -/
  peak : Nat := 0
  /-- PARTIAL (R263) -/
  part : Bool := false
  /-- MOVING (R258) -/
  moving : Bool := false
  /-- coils (R762) -/
  coils : List Nat := []
  /-- weights -/
  weights : List (Nat × Nat) := []
deriving DecidableEq, Repr

/-- A result that waits for the presence update step (R285). -/
inductive PResult where
  | object (l : Loc) (phc : Word)                     -- a newly confirmed object
  | moved (entry : Nat) (ls : List Loc) (kept : List Nat) (phc : Word)  -- a new image of an occupied object; coils not imaged (R279)
  | closed (entries : List Nat) (cause : Nat) (coils : List Nat) (phc : Word)  -- image after a close; its coils with a change (R278)
  | want (entry : Nat)                                 -- a command names an entry without a zone (R280)
  | zoneClosed (zone : Fin 24) (cause : Nat) (act : List Nat) (phc : Word)  -- a zone has closed; its active coils (R271, R278)
  | ident (zone : Fin 24) (proto : Nat) (uid : List Byte) (card : Card) (acc : Acc) (phc : Word)  -- identification (R317)
  | gone (entry : Nat) (phc : Word)                   -- a card of a shared zone is gone (R282)
  | replan                                            -- SC plans again (R268)
deriving DecidableEq, Repr

/-- One frozen snapshot (R291, R292). -/
structure Snap where
  /-- presence entries frozen, index and entry bytes -/
  pres : List (Nat × List Byte) := []
  /-- room entries frozen, index and entry bytes -/
  room : List (Nat × List Byte) := []
  /-- presence table frozen -/
  hasPres : Bool := false
  /-- room table frozen -/
  hasRoom : Bool := false
  /-- PGEN -/
  pgen : Word := 0
  /-- RGEN -/
  rgen : Word := 0
  /-- TSC of the last SNAPSHOT that named it -/
  named : Nat := 0
deriving DecidableEq, Repr

/-- SC's surface work: the presence table and the policy. -/
structure Surface where
  /-- zone engines ZE0 to ZE23: ZEn_STAT, ZEn_COILk; R269, R296; reset FREE, ENTRY 0x1FF, COIL 0xFF -/
  zone : Vector ZoneEng 24 := Vector.replicate 24 {}
  /-- presence table; 512 entries of R283; R283, R284; reset empty -/
  entry : Vector (Option Entry) 512 := Vector.replicate 512 none
  /-- reuse count of each index; 512 x 7 bits; R284; reset 0 -/
  reuse : Vector Nat 512 := Vector.replicate 512 0
  /-- PT_GEN; 32 bits; R285, R297; reset 0 -/
  gen : Word := 0
  /-- PT_CNT.FULL; 1 bit; R284, R297; reset 0 -/
  full : Bool := false
  /-- engines not FREE at the end of the last update step, PT_CNT.ZONES and ZONE_MAP; 24 bits; R297; reset 0 -/
  zoneMap : Nat := 0
  /-- tables at the acceptance of a SNAPSHOT not yet carried out, by its tag; R291; reset none -/
  taken : List (Nat × Snap) := []
  /-- results that wait for the update step, in order of arrival; R285; reset none -/
  pend : List PResult := []
  /-- place of the next object in the order of location; R274; reset 0 -/
  nextOrder : Nat := 0
  /-- engine opened last; R265; reset 23 -/
  lastOpened : Nat := 23
  /-- snapshot buffers; two of them; R292; reset not held -/
  snap : Vector (Option Snap) 2 := Vector.replicate 2 none
  /-- HOLD_MS; 16 bits; R293; reset 500 -/
  holdMs : Nat := 500
  /-- ZWAIT_MS; 16 bits; R293; reset 200 -/
  zwaitMs : Nat := 200
  /-- AUTO_IDENT; 1 bit; R293; reset 1 -/
  autoIdent : Bool := true
  /-- MIN_ACT; 4 bits; R293; reset 2 -/
  minAct : Nat := 2
  /-- policy written and not yet taken by an update step: HOLD_MS, ZWAIT_MS, AUTO_IDENT, MIN_ACT; R293; reset none -/
  newPolicy : Option (Nat × Nat × Bool × Nat) := none
deriving DecidableEq, Repr

end Sys2Proof.Machine
end

