-- ==== Sys2Proof/Machine/StRadio.lean ====
section
/-! DEFINITION. State of the room radio front end: channels, calibration records, the carrier, the canceller and the aerial
(chapter 11). -/

namespace Sys2Proof.Machine
open Sys2Proof

/-- State of the channel part of a calibration record (R415). -/
inductive ChCal where
  | none | part | valid | failed
deriving DecidableEq, Repr

/-- A canceller setting and the receive gain of the four chains (R413, R415). -/
structure Canc where
  /-- one vector modulator code per chain -/
  code : Vector Int 4 := Vector.replicate 4 0
  /-- receive gain of each chain -/
  gain : Vector Nat 4 := Vector.replicate 4 0
deriving DecidableEq, Repr

/-- The calibration record of a channel (R415, R437). -/
structure UhfCh where
  /-- CAL, 2 bits -/
  cal : ChCal := .none
  /-- VCO bands, IQ correction and equalisation, predistortion table; the manual gives no encoding -/
  part : List Nat := []
  /-- die temperature at calibration, °C -/
  temp : Int := 0
  /-- TSC at which the channel part was made, for AGE -/
  madeT : Nat := 0
  /-- TSC at which a calibration of the channel failed (R417) -/
  failT : Nat := 0
  /-- CANC_OK, 8 bits -/
  cancOk : BitVec 8 := 0
  /-- CANC_FAIL, 8 bits -/
  cancFail : BitVec 8 := 0
  /-- TSC at which the canceller of each configuration failed (R417) -/
  cancFailT : Vector Nat 8 := Vector.replicate 8 0
  /-- stored canceller settings of the configurations (R413) -/
  canc : Vector Canc 8 := Vector.replicate 8 {}
  /-- a residual that persisted asks for a canceller calibration, per configuration (R414) -/
  again : BitVec 8 := 0
  /-- treated as NONE at its next selection (R418) -/
  stale : Bool := false
  /-- TSC of the last carrier-off on the channel (R421) -/
  offT : Option Nat := none
deriving DecidableEq, Repr

/-- One entry of the channel table (R403, R431). -/
structure ChCfg where
  /-- FSTEP, 12 bits -/
  fstep : Nat := 0
  /-- EN -/
  en : Bool := false
  /-- PCAP, 6 bits -/
  pcap : Nat := 40
deriving DecidableEq, Repr

/-- One antenna configuration (R409, R431). -/
structure AntCfg where
  /-- TXPORT, 4 bits -/
  tx : Nat := 0
  /-- RXPORT0 to RXPORT3, 16 bits -/
  rx : Nat := 0x3210
  /-- RXEN, 4 bits -/
  en : Nat := 0
deriving DecidableEq, Repr

/-- Section TRANSMIT (R431). -/
structure TxCfg where
  /-- TXMODE: EXTERNAL -/
  ext : Bool := false
  /-- POWER -/
  power : Nat := 40
  /-- PA_LEAD, µs -/
  paLead : Nat := 10
  /-- HOPMODE -/
  hopMode : Nat := 2
  /-- DWELL_MS -/
  dwell : Nat := 400
  /-- REVISIT_MS -/
  revisit : Nat := 0
  /-- PA_TOP -/
  paTop : Nat := 1023
deriving DecidableEq, Repr

/-- Section COEX (R431). -/
structure CoexCfg where
  /-- ROLE, 2 bits -/
  role : Nat := 0
  /-- POL, 3 bits -/
  pol : Nat := 0
  /-- PRIMODE, 2 bits -/
  primode : Nat := 0
  /-- HI_MS -/
  hiMs : Nat := 20
  /-- GNT_TO, 10 µs units -/
  gntTo : Nat := 50
  /-- HOLD_MAX, ms -/
  holdMax : Nat := 20
deriving DecidableEq, Repr

/-- A change that the front end carries out (R416, R422). -/
inductive RfRun where
  | idle
  /-- a stored hop (R416) -/
  | hop
  /-- a change of the antenna configuration (R410) -/
  | acfg
  /-- the carrier turns on on a VALID channel (R423) -/
  | on
  /-- a full calibration (R416) -/
  | full
  /-- a canceller calibration (R416) -/
  | canc
deriving DecidableEq, Repr

/-- What a calibration measured (R412, R416). -/
structure CalRes where
  /-- lock times of SYN_T and SYN_R, 0.1 µs -/
  lock : Nat × Nat
  /-- image rejection of each chain, 0.1 dB -/
  image : Vector Int 4
  /-- the carrier against the power in effect, with predistortion, 0.1 dB -/
  pa : Int
  /-- residual carrier of each chain, 0.1 dBm -/
  resid : Vector Int 4
  /-- the channel part of a full calibration -/
  part : List Nat
  /-- canceller settings and receive gains -/
  canc : Canc
deriving DecidableEq, Repr

/-- A CALIBRATE with TARGET UHF under way (R433). -/
structure UhfCal where
  /-- tag of the command -/
  tag : Fin 32
  /-- channels still to come, the present one first -/
  left : List (Fin 64)
  /-- configurations still to come on the present channel -/
  cfgs : List (Fin 8)
  /-- the present channel has failed a calibration -/
  bad : Bool := false
  /-- channels done -/
  done : Nat := 0
  /-- channels failed -/
  failed : Nat := 0
deriving DecidableEq, Repr

/-- The room radio. -/
structure Uhf where
  /-- channel table CH_U0 to CH_U63; FSTEP 12, EN 1, PCAP 6 bits each; R403, R431; reset 0, 0, 40 -/
  chCfg : Vector ChCfg 64 := Vector.replicate 64 {}
  /-- antenna configurations ACFG0 to ACFG7; TXPORT 4, RXPORT0 to RXPORT3 16, RXEN 4 bits each; R409, R431; reset 0, 0x3210, 0 -/
  ant : Vector AntCfg 8 := Vector.replicate 8 {}
  /-- section TRANSMIT: TXMODE, POWER, PA_LEAD, HOPMODE, DWELL_MS, REVISIT_MS, PA_TOP; 1, 8, 8, 2, 16, 16, 10 bits; R405, R431; reset 0, 40, 10, 2, 400, 0, 1,023 -/
  txc : TxCfg := {}
  /-- COEX_CFG: ROLE, POL, PRIMODE, HI_MS, GNT_TO, HOLD_MAX; 2, 3, 2, 8, 8, 8 bits; R424, R431; reset 0, 0, 0, 20, 50, 20 -/
  coex : CoexCfg := {}
  /-- section COEX written and not yet in effect; none or one; R432; reset none -/
  coexNext : Option CoexCfg := none
  /-- UHF_CTL.CHAN; 6 bits; R436; reset 0 -/
  target : Fin 64 := 0
  /-- UHF_CTL.ACFG, byte 10 of section TRANSMIT; 3 bits; R431, R436; reset 0 -/
  acfgT : Fin 8 := 0
  /-- UHF_CTL.CARRIER; 1 bit; R436; reset 0 -/
  carrier : Bool := false
  /-- UHF_CTL.TXKILL; 1 bit; R408, R436; reset 0 -/
  txkill : Bool := false
  /-- UHF_STAT.CHAN; 6 bits; R436; reset 0 -/
  chan : Fin 64 := 0
  /-- UHF_STAT.ACFG; 3 bits; R436; reset 0 -/
  acfg : Fin 8 := 0
  /-- the carrier is on or ramps up; 1 bit; R407; reset 0 -/
  on : Bool := false
  /-- change being carried out, from which UHF_STAT.STATE follows; R416, R436; reset none -/
  run : RfRun := .idle
  /-- TSC of the origin of that change; R416; reset 0 -/
  runT : Nat := 0
  /-- TSC from which PA_EN is asserted in that change; R407; reset 0 -/
  paT : Nat := 0
  /-- TSC of the last tracking step of the cancellers; R413; reset 0 -/
  trackT : Nat := 0
  /-- HOP that follows the change being carried out; none or a channel; R422; reset none -/
  nextHop : Option (Fin 64) := none
  /-- start of the last ramp up; TSC; R407; reset 0 -/
  onT : Nat := 0
  /-- start of the carrier-on time on the present channel; none or TSC; R421; reset none -/
  dwellT : Option Nat := none
  /-- start of the last ramp down, none before the first; TSC; R407; reset none -/
  offT : Option Nat := none
  /-- the last carrier-off was without a ramp; 1 bit; R408; reset 0 -/
  cut : Bool := false
  /-- the device asks for the aerial, UHF_STAT.STATE WAIT_AERIAL; 1 bit; R426, R436; reset 0 -/
  want : Bool := false
  /-- UHF_STAT.HOLD; 1 bit; R426, R436; reset 0 -/
  hold : Bool := false
  /-- UHF_STAT.NOCHAN; 1 bit; R417, R436; reset 0 -/
  nochan : Bool := false
  /-- UHF_STAT.HREF; 1 bit, W1C; R421, R436; reset 0 -/
  href : Bool := false
  /-- invalid run of all chains: its end (TSC) and cause; none or one; R423; reset none -/
  inv : Option (Nat × Nat) := none
  /-- UHF_STAT.ICAUSE; 3 bits; R423, R436; reset 7 -/
  icause : Nat := 7
  /-- residual above -20 dBm since, per chain; 4 times none or TSC; R414; reset none -/
  resid : Vector (Option Nat) 4 := Vector.replicate 4 none
  /-- tracked canceller setting of the chains; R413; reset 0 (the manual gives no encoding: DESIGN CHOICE, log entry 26) -/
  track : Canc := {}
  /-- a tag reply window is open and tracking is frozen; 1 bit; R413; reset 0 -/
  frozen : Bool := false
  /-- UHF_CNT.CALS; 8 bits, saturating; R436; reset 0x00 -/
  cals : Nat := 0
  /-- UHF_CNT.CALFAIL; 8 bits, saturating; R417, R436; reset 0x00 -/
  calFail : Nat := 0
  /-- UHF_CNT.RESID; 8 bits, saturating; R414, R436; reset 0x00 -/
  cntResid : Nat := 0
  /-- UHF_CNT.PREEMPT; 8 bits, saturating; R422, R436; reset 0x00 -/
  preempt : Nat := 0
  /-- UHF_CHc and the calibration records; CAL 2, CANC_OK 8, CANC_FAIL 8, AGE 12 bits and contents; 64 of them, retained; R415, R437; reset NONE, 0, 0, 0 -/
  ch : Vector UhfCh 64 := Vector.replicate 64 {}
  /-- channels used in the present cycle of RANDOM, the latest first; R420; reset none -/
  cycle : List (Fin 64) := []
  /-- the last channel selected; none or one; R420; reset none -/
  lastCh : Option (Fin 64) := none
  /-- the carrier stays off until a channel refused by REVISIT_MS is permitted; 1 bit; R420; reset 0 -/
  revWait : Bool := false
  /-- COEX_REQ as driven with ROLE 1, asserted; 1 bit; R424; reset 0 -/
  reqOut : Bool := false
  /-- TSC at which the present request began, while it has not been granted yet; none or TSC; R426; reset none -/
  reqT : Option Nat := none
  /-- COEX_GNT asserted at the device with ROLE 1; 1 bit; R424; reset 0 -/
  gntIn : Bool := false
  /-- COEX_REQ asserted by the peer with ROLE 2, as it stands at the pin; 1 bit; R424; reset 0 -/
  peerPin : Bool := false
  /-- COEX_STAT.PEER_REQ, as taken at the last decision; 1 bit; R427, R437; reset 0 -/
  peerReq : Bool := false
  /-- COEX_STAT.PEER_PRI; 1 bit; R425, R437; reset 0 -/
  peerPri : Bool := false
  /-- TSC from which a request of the peer waits while the device radiates; R427; reset 0 -/
  peerT : Nat := 0
  /-- COEX_GNT as driven with ROLE 2, asserted; 1 bit; R424; reset 0 -/
  gntOut : Bool := false
  /-- COEX_GNT is due to the peer once the carrier is off; 1 bit; R427; reset 0 -/
  gntDue : Bool := false
  /-- COEX_STAT.BO_EXP; 3 bits; R428, R437; reset 3 -/
  boExp : Nat := 3
  /-- the last request ended in a yield or a withdrawal; 1 bit; R428; reset 0 -/
  yielded : Bool := false
  /-- backoff drawn, in slots, that begins when the peer releases; none or a number; R428; reset none -/
  boSlots : Option Nat := none
  /-- end of the running backoff; none or TSC; R428; reset none -/
  boEnd : Option Nat := none
  /-- COEX_STAT.YIELDS; 8 bits, saturating; R428, R437; reset 0x00 -/
  yields : Nat := 0
  /-- COEX_STAT.DENIED; 8 bits, saturating; R429, R437; reset 0x00 -/
  denied : Nat := 0
  /-- CALIBRATE with TARGET UHF under way; none or one; R433; reset none -/
  calRun : Option UhfCal := none
deriving DecidableEq, Repr

end Sys2Proof.Machine
end

