-- ==== Sys2Proof/Machine/StSys.lean ====
section
/-! DEFINITION. State of the balls and of the internal bus. -/

namespace Sys2Proof.Machine
open Sys2Proof

/-- Who issues an access (R34, R38). -/
inductive Master where
  | sc
  | zc (k : Fin 4)
  | ext (k : Fin 4) (module : Nat)
  | hsp
deriving DecidableEq, Repr

/-- A bus error or access fault (R35, R36). -/
structure BusErr where
  /-- who issued the access -/
  master : Master
  /-- address named -/
  addr : Nat
deriving DecidableEq, Repr

/-- A stalled access (R39, R665, R714). -/
structure Stall where
  /-- who issued it -/
  master : Master
  /-- domain it waits for; 49 for the flash controller (R714) -/
  dom : Nat
  /-- address -/
  addr : Nat
  /-- value written, none for a read -/
  data : Option Nat
  /-- TSC at which it began -/
  since : Nat
deriving DecidableEq, Repr

/-- The internal bus as its masters see it. -/
structure Bus where
  /-- MODEL'S OWN: value returned by the last register read; 32 bits; R15; reset 0 (DESIGN CHOICE, log entry 4) -/
  rdata : Nat := 0
  /-- MODEL'S OWN: last bus error or access fault; none or one; R35, R36; reset none (DESIGN CHOICE, log entry 4) -/
  err : Option BusErr := none
  /-- accesses that stall for a powered-down domain, oldest first; R39, R665; reset none -/
  stalls : List Stall := []
  /-- RC registers already read in the present BCLK cycle; R17; reset none -/
  rcRead : List Nat := []
deriving DecidableEq, Repr

/-- The balls (R746, R755). -/
structure Pins where
  /-- FKILL_N asserted, MODE_STAT.FKILL; 1 bit; R72, R166; reset deasserted (R73: FKILL 0) -/
  fkill : Bool := false
  /-- SYSRST_N asserted; 1 bit; R68, R755; reset deasserted -/
  sysrst : Bool := false
  /-- FKILL_N deasserted and the 1 ms before probing resumes is running: its start; none or a time; R72, R167; reset none -/
  resumeAt : Option Nat := none
deriving DecidableEq, Repr

end Sys2Proof.Machine
end

