-- ==== Sys2Proof/Machine/StEvent.lean ====
section
/-! DEFINITION. Operands of the events: what cards, tags, sensors and the outside world give to a step. -/

namespace Sys2Proof.Machine
open Sys2Proof

/-- A frame as the demodulator lane gives it (R305). -/
structure RxFrame where
  /-- bytes -/
  data : List Byte
  /-- valid bits in the last byte, 0 = 8 -/
  lastBits : Nat
  /-- CRC bytes received, none where the frame has none -/
  crc : List Byte
  /-- parity bits received, one for each whole byte, those of the CRC last -/
  par : List Bool
  /-- coding violation -/
  cod : Bool
  /-- first collided bit -/
  coll : Option Nat
deriving DecidableEq, Repr

/-- What a card or accessory declares at its activation (R320, R321, R360). -/
structure ActAns where
  /-- rates device to card, bit r for the code r of MAXRATE -/
  down : Nat
  /-- rates card to device -/
  up : Nat
  /-- different rates in the two directions allowed -/
  asym : Bool
  /-- FWI, or TO of NFC-DEP -/
  fwi : Nat
  /-- FSCI, or LR -/
  fsc : Nat
  /-- ATS of Type A, INFO of an accessory -/
  info : List Byte
deriving DecidableEq, Repr

/-- What the zone firmware makes of a frame (R299, R315 to R317, R320, R359, R360). -/
inductive FwResult where
  /-- nothing for the presence table -/
  | none
  /-- a complete valid identifier: PROTO, UID, what CARD_INFO and ACC_INFO keep -/
  | ident (proto : Nat) (uid : List Byte) (card : Card) (acc : Acc)
  /-- the last frame of an activation: the identifier, and what was declared -/
  | activated (uid : List Byte) (a : ActAns)
deriving DecidableEq, Repr

/-- How a card or accessory met an exchange so far. -/
inductive XResult where
  /-- the exchange goes on -/
  | running
  /-- a wait extension of so many BCLK cycles, answered with the same (R332, R369) -/
  | wait (t : Nat)
  /-- a valid reply: data, valid bits of the last byte, HDR and ECODE of an accessory -/
  | valid (data : List Byte) (lastBits hdr ecode : Nat)
  /-- no reply in the window -/
  | noResp
  /-- CRC wrong -/
  | crc
  /-- coding or parity wrong -/
  | coding
  /-- collision -/
  | collision
  /-- the reply breaks the protocol's rules -/
  | violation
  /-- the reactivation failed with the card present -/
  | reactFail
deriving DecidableEq, Repr

/-- What the field and the card gave to one step of an exchange. -/
structure XStep where
  /-- the zone's earliest start, pu from now (R115) -/
  treq : Nat
  /-- transmit part in pu -/
  l0 : Nat
  /-- listening part in pu -/
  l1 : Nat
  /-- transmission time and reply bound of the write test, and worst-case time of the exchange, BCLK cycles (R115, R328) -/
  bound : Nat
  /-- FLD after the one commit with higher weights that a failed check calls for (R310) -/
  fld2 : Option Int
  /-- what the card declared in the activation that the exchange needs first, none where it failed (R320, R322, R333, R360) -/
  act : Option ActAns
  /-- PWR that a PING sent before a write frame reported, none where none was answered (R368) -/
  ping : Option Nat
  /-- PWR that the PING after the one commit with higher weights reported (R368) -/
  ping2 : Option Nat := none
  /-- frames sent -/
  sent : Nat
  /-- the write frame's first modulation has been sent -/
  wrote : Bool
  /-- the write frame has been acknowledged -/
  acked : Bool
  /-- result -/
  res : XResult
  /-- the card answers the presence check after a missing reply (R336) -/
  present : Bool
deriving DecidableEq, Repr

/-- Fault codes of R600 that concern a coil. -/
inductive CoilFault where
  | oc | opn | ron
deriving DecidableEq, Repr

/-- Fault codes of R600 that concern a Kettle. -/
inductive KetFault where
  | uv | ov | otWarn | otShut | link
deriving DecidableEq, Repr

/-- The lane readings of one burst: lane 0, and a lane per listed neighbour; none is invalid (R229, R252). -/
structure Reading where
  /-- driven coil -/
  coil : Fin 192
  /-- self reading -/
  self : Option Cplx
  /-- mutual readings in the order of the neighbour list -/
  mutR : List (Option Cplx)
  /-- coil current at the Kettle's sense tap, mA (R158, R682) -/
  cur : Nat := 0
  /-- coil voltage, mV (R158) -/
  volt : Nat := 0
  /-- phase of the coil current against the drive, 1/2,048 cycle (R158, R682) -/
  ph : Int := 0
deriving DecidableEq, Repr

/-- The ADC samples before the end of each of some words of a channel, newest first (R185). -/
abbrev AdcWords := List (List Int)

/-- What a receive channel's valid words of a bin sum to (R119, R204). -/
structure BinMeas where
  /-- channel -/
  coil : Fin 192
  /-- sum of I -/
  sI : Int
  /-- sum of Q -/
  sQ : Int
  /-- sum of I² + Q² -/
  sP : Nat
deriving DecidableEq, Repr

/-- What the accessories of a zone answered to a round of PINGs and to a POWER (R373 to R376). -/
structure AccStep where
  /-- INFO read by the activation that the command needs first, none where it failed (R360) -/
  act : Option ActAns
  /-- PWR of each accessory pinged, by its entry; none where it did not answer -/
  pings : List (Nat × Option Nat)
  /-- EXT in the DONE that answered a POWER; none where none came -/
  done : Option Bool
deriving DecidableEq, Repr

/-- A fault that a Kettle reports (R170); `vdrv` in 10 mV and `temp` in °C as it measured them. -/
inductive DrvFault where
  | coil (c : Fin 192) (f : CoilFault)
  | kettle (k : Fin 4) (f : KetFault) (vdrv : Nat) (temp : Int)
deriving DecidableEq, Repr

/-- RF output as the Kettles measure it, mW (R164, R176). -/
structure PowerMeas where
  /-- coils above 600 mW -/
  coils : List (Fin 192)
  /-- output of each Kettle -/
  kets : Vector Nat 4
  /-- total output -/
  tot : Nat
deriving DecidableEq, Repr

/-- What came back in a slot (R445, R450). -/
inductive TagReply where
  /-- the RN16 did not decode, its preamble being detected; or, with an RN16, the reply to its ACK failed -/
  | collided (rn : Option Nat)
  /-- RN16, then PC, EPC with a valid CRC; reply power of each chain at its ball in 0.1 dBm, and preamble phases after equalisation in 0.1° -/
  | epc (rn pc : Nat) (epc : List Byte) (power phase : Vector Int 4)
deriving DecidableEq, Repr

/-- What came back to the last command of an access (R461 to R463). -/
inductive RAns where
  /-- no reply within its bound -/
  | silent
  /-- a reply with a wrong CRC -/
  | bad
  /-- an RN16, a handle or a new random number; the handle that answers Access -/
  | rn (w : Nat)
  /-- PC and EPC -/
  | epc (pc : Nat) (epc : List Byte)
  /-- the tag confirms a Write or a Lock -/
  | done
  /-- the words of a Read, or the response of 16 bytes to TAM1 -/
  | data (l : List Byte)
  /-- an error reply -/
  | error (code : Nat)
deriving DecidableEq, Repr

/-- One step of an access (R461, R462). -/
structure RStep where
  /-- the entropy source's number for the choice of a channel -/
  draw : Nat
  /-- the entropy source's 80 bits for a TAM1 that this step sends -/
  challenge : List Byte
  /-- power of the reply, 0.1 dBm -/
  rssi : Int
  /-- what came back to the last command -/
  ans : RAns
deriving DecidableEq, Repr

/-- Direction of one tracking step of a canceller code (R413). -/
inductive TrackDir where
  | down | stay | up
deriving DecidableEq, Repr

/-- One sample of the five converters of Cask: the voltage and the four currents, 24-bit codes (R471). -/
abbrev CSample := Vector Int 5

/-- A source (R567): private source `s` of target `t`, or shared source 32 + `i`. -/
inductive SrcId where
  | priv (t : Fin 5) (s : Fin 32)
  | shared (i : Fin 288)
deriving DecidableEq, Repr

/-- Which queue. -/
inductive QId where
  | evq | rspq | cq (n : Fin 24)
deriving DecidableEq, Repr

/-- What has happened in the present BCLK cycle (R16, R38, R595, R597). The model's own. -/
structure Cyc where
  /-- MODEL'S OWN: next place in the order of a cycle: 0 SC, 1 to 4 ZC0 to ZC3, 5 HSP, 6 hardware; R16, R17, R38; reset 0 (DESIGN CHOICE, log
  entry 70) -/
  slot : Nat := 0
  /-- MODEL'S OWN: capture queues with a DROP_REST that follows the reads of the cycle; R595; reset none (DESIGN CHOICE, log entry 70) -/
  drops : List (Fin 24) := []
  /-- MODEL'S OWN: queues with a FLUSH that acts at the end of the cycle; R597; reset none (DESIGN CHOICE, log entry 70) -/
  flushes : List QId := []
deriving DecidableEq, Repr

/-- How an entry ends (R558): with the words received, with a failed SRAM access after some words, or without the DDR strobe. -/
inductive MspEnd where
  | ok (rx : List Nat)
  | bus (rx : List Nat)
  | rserr
deriving DecidableEq, Repr

end Sys2Proof.Machine
end

