-- ==== Sys2Proof/Syntax.lean ====
section
/-! DEFINITION. The commands: one constructor per row of the opcode table. The operands are what a row is about: the tag of a command in
flight, the number of a coil, zone, queue or domain, the value written, or what a sensor, a card or the outside world gives. -/

namespace Sys2Proof
open Sys2Proof.Machine

/-- A command of the block. -/
inductive Instr where
  /-- REGISTER_WRITE (R15). A write to a register field that has no behaviour of its own sets RW fields, clears W1C bits or sets W1S bits under the access codes. -/
  | registerWrite (m : Master) (a : Nat) (v : Nat)
  /-- RC_FIELD_READ (R17). A read of an RC field returns its value and clears or restarts it; a second read in the same cycle returns 0. -/
  | rcFieldRead (m : Master) (a : Nat)
  /-- FKILL_ASSERT (R167). FKILL_N held low turns every bridge off within 1.5 µs, sets the kill status bits and makes SC close every zone with FIELD_LOW. -/
  | fkillAssert
  /-- FKILL_DEASSERT (R167). FKILL_N rising clears the kill status bits while the bridges stay off. -/
  | fkillDeassert
  /-- PROBE_RESUME (R72). 1 ms after FKILL_N is deasserted probing resumes if the mode permits HF fields. -/
  | probeResume
  /-- SET_MODE (R58). The SET_MODE command is checked and starts, queues as pending or refuses a mode transition. -/
  | setMode (tag : Fin 32)
  /-- DRAIN_END (R60). The drain of a transition ends when its commands have completed or the drain limit expires, and the transition starts. -/
  | drainEnd
  /-- TRANSITION_LEG_COMPLETE (R54). A leg of a mode transition completes, powering domains, closing zones and ending rounds, and the transition completes at its last leg. -/
  | transitionLegComplete
  /-- VMAIN_FALL (R658). A recognised fall of VMAIN below 9.0 V starts the backup switch-over, or enters M0 when VBKP_OK is 0. -/
  | vmainFall (mv : Nat)
  /-- VMAIN_SAG (R658). A fall of VMAIN to 10.2 V or below that does not reach 9.0 V counts in PMU_CNT.SAG. -/
  | vmainSag (mv : Nat)
  /-- BKP_RETURN (R71). After VMAIN has been above 10.2 V for 20 ms in M1 the device enters M4 with cause BKP_RETURN. -/
  | bkpReturn
  /-- VMAIN_QUALIFIED (R657). VMAIN above 10.2 V for 20 ms from M0 qualifies VMAIN and starts boot. -/
  | vmainQualified (mv : Nat)
  /-- VIO_MEASURE (R657). Boot measures VIO every 1 ms until it lies in a class, then sets the I/O class. -/
  | vioMeasure (mv : Nat)
  /-- VBKP_OK_RISE (R659). VBKP at 2.40 V or more for 1 ms sets VBKP_OK, and with VMAIN absent the device enters M1 from M0. -/
  | vbkpOkRise (mv : Nat)
  /-- VBKP_OK_FALL (R659). VBKP below 2.30 V clears VBKP_OK, and in M1 the device enters M0 losing retained state. -/
  | vbkpOkFall (mv : Nat)
  /-- BKP_LOW_CHANGE (R659). VBKP below 2.70 V or back at 2.80 V for 100 ms changes BKP_LOW and pushes a SYSTEM item. -/
  | bkpLowChange (low : Bool) (mv : Nat)
  /-- SYSRST_ASSERT (R68). SYSRST_N asserted with VMAIN present ends every mode and transition; in M1 it is ignored. -/
  | sysrstAssert
  /-- SYSRST_DEASSERT (R701). SYSRST_N deasserted starts boot in M2 with the reset state of R701. -/
  | sysrstDeassert
  /-- BOOT_DONE (R703). Boot completes, M4 is reached with cause BOOT_DONE and packet frames are served. -/
  | bootDone (fs : Vector (Nat × Nat) 48)
  /-- BOOT_FAIL (R708). No image verifies and boot enters M11 with the monitor. -/
  | bootFail
  /-- M3_WAKE_MATCH (R551). An HSP address match in M3 starts the transition to M4 with cause HSP_WAKE and discards the frame. -/
  | m3WakeMatch
  /-- QUALIFY (R79). The QUALIFY command starts or stops an HF or UHF test signal in M10. -/
  | qualify (tag : Fin 32) (draw : Nat)
  /-- QUALIFY_TEST_END (R83). A test without HOLD ends when DURATION has passed and its field ramps down. -/
  | qualifyTestEnd
  /-- SOURCE_EDGE (R91). An edge from Cask or MAINS_ZC is tested, and an accepted edge qualifies the source, steps or slews PHC and updates the state. -/
  | sourceEdge (zc : Bool) (rise : Bool) (stable : Nat) (width : Nat)
  /-- SOURCE_QUAL_LOSS (R92). No accepted edge for 1.5 periods ends a source's qualification and enters HOLDOVER. -/
  | sourceQualLoss (zc : Bool)
  /-- HOLDOVER_EXPIRY (R103). HOLD_CYC cycles in HOLDOVER make the time base enter VIRTUAL. -/
  | holdoverExpiry
  /-- TB_CFG_WRITE (R106). A write to TB_CFG.SRCSEL or TB_ZC takes effect at once and may enter HOLDOVER. -/
  | tbCfgWrite (zc : Bool) (v : Nat)
  /-- TB_CAP_GO (R87). A write of 1 to TB_CAP.GO captures PHC and TSC in the same cycle. -/
  | tbCapGo
  /-- PCMP_TGT_WRITE (R108). A write of a phase compare target with EN set fires at once if the target has passed. -/
  | pcmpTgtWrite (n : Fin 32) (v : Nat)
  /-- PCMP_FIRE (R107). A phase compare fires, sets FIRED, raises its source, starts the zone's armed sequence and advances a periodic target. -/
  | pcmpFire (n : Fin 32)
  /-- BIN_BOUNDARY (R114). At a phase-bin boundary the class of each group is latched and a strobe marks BIN on the next sample words. -/
  | binBoundary (ms : List BinMeas)
  /-- TIMEBASE_CFG (R134). The TIMEBASE_CFG command writes TB_CFG and TB_ZC and clears quiet map banks, or only reads. -/
  | timebaseCfg (tag : Fin 32)
  /-- QMAP_READ (R136). The QMAP_READ command returns the 64 quiet map entries of one bank and group. -/
  | qmapRead (tag : Fin 32)
  /-- TX_COMMIT (R146). A write of 1 to ZEn_TX_CTL.COMMIT submits the zone's transmit weights, held during a frame. -/
  | txCommit (n : Fin 24)
  /-- COMMIT_APPLY (R152). A commit is checked by the rules and the limiter and applied in one carrier cycle on every Kettle, or refused. -/
  | commitApply (n : Fin 24) (cur : List (Fin 192 × Nat))
  /-- FIELD_WRITE (R149). A write to ZEn_TX_CTL.FIELD starts the on or off ramp, after the rule check of condition 5 for field on. -/
  | fieldWrite (n : Fin 24) (on : Bool)
  /-- FIELD_RAMP_END (R149). A field ramp ends, and after an off ramp shadowed coils return to FREE. -/
  | fieldRampEnd (n : Fin 24)
  /-- DRIVE_LINK_REFRESH (R145). Each drive link refreshes all 48 drive words of its Kettle every 1.0 µs. -/
  | driveLinkRefresh (k : Fin 4)
  /-- LIMITER_REEVAL (R163). Every 10 µs the estimate is re-evaluated and the SCALE of zones over a limit is reduced by one common factor. -/
  | limiterReeval (ks : Vector (Nat × Int) 4) (cur : List (Fin 192 × Nat))
  /-- BACKSTOP_MEASURE (R164). A measured output above a limit lowers SCALE by 16 and stops a zone whose SCALE would fall below MIN_SCALE. -/
  | backstopMeasure (m : PowerMeas)
  /-- SWKILL_WRITE (R169). A write of DRV_CTL.SWKILL turns every bridge off, or on clearing lets probing resume. -/
  | swkillWrite (on : Bool)
  /-- DRIVER_FAULT (R170). A coil or Kettle fault turns off the coil or Kettle and pushes a DRIVER item. -/
  | driverFault (x : DrvFault)
  /-- KETTLE_FAULT_CLEAR (R170). A Kettle fault clears by itself after its recovery condition and a DRIVER item is pushed. -/
  | kettleFaultClear (k : Fin 4) (f : KetFault) (vdrv : Nat) (temp : Int)
  /-- RON_MONITOR_SCAN (R170). Every 10 ms the Kettle scans on-resistance monitors and faults a coil above twice its calibrated value. -/
  | ronMonitorScan (cs : List (Fin 192))
  /-- REARM (R172). A write of 1 to COIL_STATn.REARM clears a FAULT coil's flags and starts its test burst. -/
  | rearm (c : Fin 192)
  /-- REARM_TEST_END (R172). The rearm test burst ends and the coil becomes FREE or GUARD_DAMP, or returns to FAULT or is latched. -/
  | rearmTestEnd (c : Fin 192) (oc : Bool) (opn : Bool) (ron : Bool)
  /-- CALIBRATE_COILS (R157). The CALIBRATE command with TARGET COILS measures trims, gains and couplings of the named coils in M9. -/
  | calibrateCoils (tag : Fin 32)
  /-- CALIBRATE_DONE (R159). Coil or UHF calibration completes, stores the record if asked and replies. -/
  | calibrateDone
  /-- ADC_OVERRANGE (R192). An ADC sample at 0.98 of full scale marks invalid words and steps the gain down unless frozen. -/
  | adcOverrange (c : Fin 192) (x : Int) (ws : AdcWords)
  /-- AGC_WINDOW_END (R192). A gain window of AGC_WIN valid words completes and steps the gain up if the peak is below LOW_TH. -/
  | agcWindowEnd (c : Fin 192) (ws : List (Fin 192 × AdcWords))
  /-- INVALID_RUN_END (R200). A channel's invalid run count expires and its words become valid. -/
  | invalidRunEnd (c : Fin 192)
  /-- FILT_WRITE (R187). A write of ZEn_RX_CTL.FILT changes the receive set's profile, held while a frame is received. -/
  | filtWrite (n : Fin 24) (p : Nat)
  /-- AGC_MODE_WRITE (R195). A write of ZEn_RX_CTL.AGC or GFIX selects AUTO, HOLD or FIXED and may step the gain. -/
  | agcModeWrite (n : Fin 24) (agc : Nat) (gfix : Nat)
  /-- HCLR (R196). A write of 1 to RX_CMD.HCLR clears every gain history valid bit. -/
  | hclr
  /-- TEMPLATE_CROSSING (R223). The first eligible crossing of a template in an open window starts a peak search. -/
  | templateCrossing (n : Fin 24) (tid : Nat) (var : Nat) (xs : List Cplx)
  /-- PEAK_SEARCH_END (R223). A peak search ends after PEAK_WIN words without a new maximum or 256 words. -/
  | peakSearchEnd (n : Fin 24)
  /-- DETECTION_DECLARE (R226). A detection is declared, freezing the gain loop, handing off to the demodulator, setting HOLD and pushing the record. -/
  | detectionDeclare (n : Fin 24) (mag : Nat) (phase : Nat) (frac : Nat)
  /-- LZ_DPOP (R227). A write of 1 to LZn_DPOP removes the oldest detection record. -/
  | lzDpop (n : Fin 24)
  /-- LZ_REQ (R232). A write to LZn_REQ asks for an engine class, applied at once, held, waiting or refused. -/
  | lzReq (n : Fin 24) (cls : Nat) (m : Nat)
  /-- ENGINE_GRANT (R233). A waiting engine request is granted when enough free engines exist. -/
  | engineGrant
  /-- PROBE_ENG_CHANGE (R234). A change of LAU_CFG.PROBE_ENG grants or releases PROBE engines. -/
  | probeEngChange (v : Nat)
  /-- PROBE_SLOT_BOUNDARY (R246). At each probe slot boundary bursts end with their lane readings and new rotation or image bursts start. -/
  | probeSlotBoundary (rs : List Reading)
  /-- PRB_BCLR (R255). A write of 1 to PRB_CMD.BCLR reseeds every baseline. -/
  | prbBclr
  /-- PRESENCE_UPDATE_STEP (R285). SC applies pending results to the presence table, raises PT_GEN and pushes events. -/
  | presenceUpdateStep
  /-- ZONE_OPEN (R269). A write of 1 to ZEn_CTL.OPEN grants the listed coils to the zone and resets its resources, or is refused. -/
  | zoneOpen (n : Fin 24)
  /-- ZONE_CLOSE (R272). A write of 1 to ZEn_CTL.CLOSE starts the off ramp, releases Lauter engines and completes the zone's commands. -/
  | zoneClose (n : Fin 24) (cause : Nat)
  /-- ZONE_CLOSE_DONE (R272). After the off ramp the zone's coils return to FREE or SHADOW and the engine becomes FREE. -/
  | zoneCloseDone (n : Fin 24)
  /-- HOLD_TIME_EXPIRY (R271). HOLD_MS after its last command an idle identified zone closes with cause 1. -/
  | holdTimeExpiry (n : Fin 24)
  /-- ZONE_WAIT_TIMEOUT (R276). A command waiting for a zone completes with RESOURCE_BUSY after ZWAIT_MS. -/
  | zoneWaitTimeout (tag : Fin 32)
  /-- SNAPSHOT (R289). The SNAPSHOT command freezes the tables into a buffer or returns a page of one. -/
  | snapshot (tag : Fin 32)
  /-- SNAPSHOT_RELEASE_TIMEOUT (R292). A snapshot buffer not named for 1 s is released. -/
  | snapshotReleaseTimeout (b : Fin 2)
  /-- SURFACE_START (R293). The SURFACE_START command sets the surface policy. -/
  | surfaceStart (tag : Fin 32)
  /-- FRAME_SEND (R302). A write of 1 to ZEn_FR_CTL.SEND starts or arms a frame from the transmit buffer. -/
  | frameSend (n : Fin 24)
  /-- FRAME_TX_END (R304). A transmitted frame ends and sets TXDONE. -/
  | frameTxEnd (n : Fin 24)
  /-- LISTEN_WINDOW_OPEN (R304). The listening window opens WOPEN words after the end of the transmitted frame. -/
  | listenWindowOpen (n : Fin 24)
  /-- LISTEN_WINDOW_CLOSE (R306). The listening window closes without a detection and sets NORESP. -/
  | listenWindowClose (n : Fin 24)
  /-- FRAME_RX_END (R305). A received frame is written to a receive buffer with its check flags, clearing HOLD. -/
  | frameRxEnd (n : Fin 24) (x : RxFrame) (r : FwResult) (slotEnds : Bool)
  /-- FRAME_ABANDON (R306). A write of 1 to ZEn_FR_CTL.ABANDON stops the transmission or reception in progress. -/
  | frameAbandon (n : Fin 24)
  /-- RX_ACK (R305). A write to ZEn_FR_RXACK frees a receive buffer. -/
  | rxAck (n : Fin 24) (ack : Nat)
  /-- POWER_ON_WAIT_END (R312). The power-on wait after field-on ends and the wake train starts. -/
  | powerOnWaitEnd (n : Fin 24)
  /-- PRESENCE_CHECK (R323). Every 50 ms an idle identified zone checks its card and closes after two missing replies. -/
  | presenceCheck (n : Fin 24) (missing : List Nat)
  /-- LATE_REPLY_WAIT_END (R333). The wait for a late reply expires, pushing RESULT 2 and deactivating the card. -/
  | lateReplyWaitEnd (i : Fin 512)
  /-- ZONE_EXCHANGE (R326). The ZONE_EXCHANGE command carries one host operation to one entry. -/
  | zoneExchange (tag : Fin 32) (x : XStep)
  /-- HF_CONFIG (R337). The HF_CONFIG command sets technologies, rates, waits, retries and field thresholds. -/
  | hfConfig (tag : Fin 32)
  /-- CARD_INFO (R338). The CARD_INFO command returns the stored data of an identified card. -/
  | cardInfo (tag : Fin 32)
  /-- WORK_STOP_BEFORE_DEADLINE (R331). 0.1 ms before a command's deadline the device stops all activity it waits on. -/
  | workStopBeforeDeadline (tag : Fin 32)
  /-- COMMAND_DEADLINE (R518). A command still running at its deadline completes with DEADLINE or its write outcome. -/
  | commandDeadline (tag : Fin 32)
  /-- COMMAND_GUARD (R521). A command still ACTIVE 120 s after acceptance completes with INTERNAL or WRITE_UNKNOWN. -/
  | commandGuard (tag : Fin 32)
  /-- ACC_ROUND (R379). The ACC_ROUND command runs one seek round on the zone of an entry. -/
  | accRound (tag : Fin 32)
  /-- ACC_CONFIG (R378). The ACC_CONFIG command sets the accessory link configuration. -/
  | accConfig (tag : Fin 32)
  /-- ACC_EXCHANGE (R367). The ACC_EXCHANGE command carries one READ, WRITE or VENDOR operation to an accessory. -/
  | accExchange (tag : Fin 32) (x : XStep)
  /-- ACC_POWER (R376). The ACC_POWER command starts, changes or stops power delivery to an accessory. -/
  | accPower (tag : Fin 32) (a : AccStep)
  /-- ACC_INFO (R380). The ACC_INFO command returns stored accessory data. -/
  | accInfo (tag : Fin 32)
  /-- ACC_PING (R363). Every 50 ms an idle accessory zone pings its accessories and closes after two missing replies. -/
  | accPing (n : Fin 24) (missing : List Nat)
  /-- ACC_KEEP_PING (R374). Every KEEP_MS while feeding the device pings fed accessories and raises or lowers the field. -/
  | accKeepPing (n : Fin 24) (pings : List (Nat × Option Nat))
  /-- ACC_RAMP_LIMIT (R373). RAMP_MS without PWR 2 ends the ramp with FEED_LIMIT and restores the read plan. -/
  | accRampLimit (tag : Fin 32)
  /-- ACC_LOST_BUDGET (R375). PWR below 2 for 500 ms with raising blocked stops power delivery. -/
  | accLostBudget (i : Fin 512)
  /-- STEEP_SWEEP_START (R386). A Steep sweep starts every SWEEP period, or is skipped. -/
  | steepSweepStart (vdrv : Vector Nat 4)
  /-- STEEP_SWEEP_END (R392). A sweep ends and each coil is tested, learned or rearmed, scheduling a confirmation or counting a mass event. -/
  | steepSweepEnd (rs : Vector (Nat × Nat) 192)
  /-- STEEP_CONFIRM_START (R393). CONF_MS after a triggering sweep the confirmation sweep starts. -/
  | steepConfirmStart (vdrv : Vector Nat 4)
  /-- STEEP_CONFIRM_END (R393). The confirmation sweep ends and declares a detection or counts a false trigger. -/
  | steepConfirmEnd (rs : Vector (Nat × Nat) 192)
  /-- STEEP_CONFIG (R399). The STEEP_CONFIG command writes or reads the Steep configuration and may clear baselines. -/
  | steepConfig (tag : Fin 32)
  /-- UHF_HOP (R416). A write of 1 to UHF_CTL.HOP retunes to CHAN by stored hop or calibration, or is refused by REVISIT_MS. -/
  | uhfHop (c : Fin 64)
  /-- UHF_CARRIER_WRITE (R407). A write of UHF_CTL.CARRIER ramps the carrier up or down with PA_EN. -/
  | uhfCarrierWrite (v : Bool)
  /-- UHF_TXKILL_WRITE (R408). A write of UHF_CTL.TXKILL stops the carrier within 1 µs and deasserts PA_EN. -/
  | uhfTxkillWrite (v : Bool)
  /-- UHF_ACFG_WRITE (R410). A write of UHF_CTL.ACFG changes the antenna configuration with the carrier off. -/
  | uhfAcfgWrite (a : Fin 8)
  /-- UHF_HOP_DONE (R416). A hop or antenna change completes and the first valid word arrives. -/
  | uhfHopDone
  /-- UHF_CAL_END (R417). A channel or canceller calibration ends and sets the channel VALID or FAILED. -/
  | uhfCalEnd (x : CalRes)
  /-- UHF_DWELL_EXPIRY (R421). Carrier-on time on one channel reaches DWELL_MS and the carrier ramps down. -/
  | uhfDwellExpiry (draw : Nat)
  /-- CANCELLER_TRACK (R413). Every 2 µs with the carrier on the canceller tracks by one code. -/
  | cancellerTrack (dir : Vector TrackDir 4)
  /-- RESIDUAL_EXCURSION (R414). A chain's residual above -20 dBm marks its words invalid until tracking brings it back. -/
  | residualExcursion (i : Fin 4) (above : Bool)
  /-- RESIDUAL_PERSIST (R414). A residual above -20 dBm for 1 ms schedules a canceller calibration at the next hop. -/
  | residualPersist (i : Fin 4)
  /-- COEX_GNT_CHANGE (R426). As client, COEX_GNT asserting gives the aerial and deasserting ramps the carrier down. -/
  | coexGntChange (level : Bool)
  /-- COEX_GNT_TIMEOUT (R426). A request not granted within GNT_TO is withdrawn and retried after a backoff. -/
  | coexGntTimeout (draw : Nat)
  /-- COEX_DECISION (R427). Every 1 µs the arbiter decides between the peer's and the device's requests. -/
  | coexDecision (draw : Nat)
  /-- COEX_REQ_CHANGE (R427). As arbiter, the peer's COEX_REQ appearing or releasing is taken at the next decision. -/
  | coexReqChange (req : Bool) (pri : Bool)
  /-- COEX_HOLD_MAX (R427). HOLD_MAX after an equal-priority peer request the device grants the aerial. -/
  | coexHoldMax
  /-- COEX_BACKOFF_END (R428). The backoff after a yield ends and the device requests the aerial again. -/
  | coexBackoffEnd
  /-- AERIAL_WAIT_LIMIT (R429). A room command that cannot obtain the aerial by its deadline or 1 s completes with COEX_DENIED. -/
  | aerialWaitLimit (tag : Fin 32)
  /-- RADIO_CONFIG (R432). The RADIO_CONFIG command writes or reads a section of the radio configuration. -/
  | radioConfig (tag : Fin 32)
  /-- CALIBRATE_UHF (R433). The CALIBRATE command with TARGET UHF calibrates the named channels in M9. -/
  | calibrateUhf (tag : Fin 32)
  /-- ROOM_INVENTORY (R458). The ROOM_INVENTORY command starts, runs once, stops, clears or reports inventory. -/
  | roomInventory (tag : Fin 32) (draw : Nat)
  /-- ROOM_CONFIG (R459). The ROOM_CONFIG command sets ageing, the Q rule and the array description. -/
  | roomConfig (tag : Fin 32)
  /-- ROOM_ACCESS (R461). The ROOM_ACCESS command singulates one tag and reads, writes or locks it. -/
  | roomAccess (tag : Fin 32) (x : RStep)
  /-- ROOM_AUTH (R462). The ROOM_AUTH command authenticates one tag with TAM1. -/
  | roomAuth (tag : Fin 32) (x : RStep)
  /-- UHF_TAG_REPLY (R445). A tag reply is decoded or fails, deciding the slot and the next command and Q. -/
  | uhfTagReply (x : TagReply)
  /-- UHF_SLOT_EMPTY (R442). No preamble within the slot timeout declares the slot empty. -/
  | uhfSlotEmpty
  /-- ONCE_MAX_MS (R458). MAX_MS ends a ONCE pass, which completes with PARTIAL. -/
  | onceMaxMs (tag : Fin 32)
  /-- ROOM_UPDATE_STEP (R453). SC applies pending reads and results to the room table, ages entries, raises RGEN and pushes events. -/
  | roomUpdateStep
  /-- SEAL_CHANGE (R470). CASK_SEAL_N held at a new level for 50 ms changes the seal state with a commit and a log entry. -/
  | sealChange (low : Bool)
  /-- CASK_CYCLE_END (R473). At the end of each Cask cycle energy is added, VPRES evaluated, the pulse and CYCLE frame sent. -/
  | caskCycleEnd (ns : Nat) (xs : List CSample)
  /-- CASK_TIMED_COMMIT (R477). Every 900 s of CSEC Cask commits all twelve registers. -/
  | caskTimedCommit
  /-- CASK_REGS_TIMER (R491). Every 1,000 ms of CSEC Cask broadcasts a REGS frame. -/
  | caskRegsTimer
  /-- CASK_POWER_FAIL (R482). The supply in use below 2.45 V with no other supply starts the power-fail commit. -/
  | caskPowerFail
  /-- CASK_POWER_ON (R479). At Cask power-on the registers are recovered, self-tests run and HELLO is broadcast. -/
  | caskPowerOn (rom : Bool) (ram : Bool) (conv : Bool) (cbkp : Bool)
  /-- CASK_SUPPLY_SWITCH (R481). Cask switches between CVDD and CBKP at 2.95 V without interruption. -/
  | caskSupplySwitch (cbkp : Bool)
  /-- CASK_QUERY (R495). Cask's decoder answers one query with a QREPLY or discards it. -/
  | caskQuery
  /-- ADJ_IDENT (R488). The adjustment port IDENT request returns version, count and digest. -/
  | adjIdent
  /-- ADJ_PARAM_READ (R488). The adjustment port PARAM_READ request returns a parameter's values. -/
  | adjParamRead (id : Nat)
  /-- ADJ_LIVE (R488). The adjustment port LIVE request returns the CYCLE payload. -/
  | adjLive
  /-- ADJ_PARAM_STAGE (R488). The adjustment port PARAM_STAGE request stages a parameter value while OPEN. -/
  | adjParamStage (id : Nat) (v : Word)
  /-- ADJ_STAGE_DISCARD (R488). The adjustment port STAGE_DISCARD request discards staged values. -/
  | adjStageDiscard
  /-- ADJ_COMMIT (R490). The adjustment port ADJ_COMMIT request commits, blows a fuse and writes the new parameter block. -/
  | adjCommit
  /-- ADJ_FRAME_TIMEOUT (R488). An adjustment frame incomplete 10 ms after its 0x7E is discarded. -/
  | adjFrameTimeout
  /-- CASK_FRAME_RECEIVE (R496). The Cask link block checks a broadcast frame and updates its registers. -/
  | caskFrameReceive (noise : List Byte)
  /-- CASK_LINK_TIMEOUT (R496). No valid CYCLE for 50 ms clears LINK. -/
  | caskLinkTimeout
  /-- CL_QRY_READ (R498). An SC read of CL_QRY sends a query if none is outstanding. -/
  | clQryRead (m : Master) (q : Nat) (arg : Nat)
  /-- CASK_QUERY_TIMEOUT (R498). No QREPLY within 5 ms sets TIMEOUT and clears BUSY. -/
  | caskQueryTimeout
  /-- CASK_READ (R501). The CASK_READ command returns live values, registers or query data from Cask. -/
  | caskRead (tag : Fin 32)
  /-- STATUS_FRAME (R542). An HSP STATUS frame returns the status byte. -/
  | statusFrame (addr : Nat) (op : Nat) (n : Nat) (extra : Nat) (part : Option (Fin 8))
  /-- PKT_WR (R544). An HSP PKT_WR frame passes one command packet to SC. -/
  | pktWr (addr : Nat) (pkt : List Byte) (extra : Nat)
  /-- PKT_RD (R545). An HSP PKT_RD frame returns one reply, event or null packet, which leaves its queue when read whole. -/
  | pktRd (addr : Nat) (n : Nat) (extra : Nat)
  /-- PKT_REREAD (R547). An HSP PKT_REREAD frame returns the copy of the last packet read whole. -/
  | pktReread (addr : Nat) (n : Nat) (extra : Nat)
  /-- REG_RD (R548). An HSP REG_RD frame captures N words of the host window in one cycle and returns them. -/
  | regRd (addr : Nat) (off : Nat) (nm1 : Nat) (n : Nat) (extra : Nat)
  /-- REG_WR (R549). An HSP REG_WR frame writes N words of the host window in one cycle. -/
  | regWr (addr : Nat) (body : List Byte) (extra : Nat)
  /-- GET_STATUS (R532). The GET_STATUS command returns mode, generations, tag states and queue space. -/
  | getStatus (tag : Fin 32)
  /-- ECHO (R533). The ECHO command returns its data after HOLD. -/
  | echo (tag : Fin 32)
  /-- ECHO_HOLD_END (R533). HOLD after acceptance the ECHO reply is pushed. -/
  | echoHoldEnd (tag : Fin 32)
  /-- ABORT (R528). The ABORT command stops one or all active commands at their stop points. -/
  | abort (tag : Fin 32)
  /-- KWATHES_TEST (R516). Opcodes 0xF0-0xFF complete with WRONG_MODE or KEY_REFUSED. -/
  | kwathesTest (tag : Fin 32)
  /-- MSP_ENTRY_PUSH (R556). A write of MSP_QIN3 pushes a transfer entry, or refuses it. -/
  | mspEntryPush (v : Nat)
  /-- MSP_ENTRY_END (R558). A transfer entry ends, with or without error, and the next starts. -/
  | mspEntryEnd (x : MspEnd)
  /-- MSP_SLAVE_FRAME (R560). A frame clocked by an external master is served by the head entry or rejected. -/
  | mspSlaveFrame (rx : List Nat) (extra : Nat)
  /-- MSP_EN_WRITE (R558). A write of 0 to SPx_CTL.EN stops the queue after the entry in progress. -/
  | mspEnWrite (v : Bool)
  /-- XIP_MISS (R561). A window read missing the cache issues a serial line read. -/
  | xipMiss (k : Fin 5) (off : Nat)
  /-- XIP_LINE_FILL (R561). The missed line arrives and the stalled read completes. -/
  | xipLineFill (data : List Byte)
  /-- XIP_INVALIDATE (R562). A write of MSP_XCTL.INV or MSP_XCFG invalidates the cache. -/
  | xipInvalidate (xcfg : Option Nat)
  /-- XIP_INVALIDATE_DONE (R562). Cache invalidation completes and window reads resume. -/
  | xipInvalidateDone
  /-- SOURCE_MESSAGE (R571). A block's message or doorbell sets a source's PEND or coalesces. -/
  | sourceMessage (id : SrcId)
  /-- SOURCE_LINE_CHANGE (R570). A source line's level or edge sets PEND under its sensing mode. -/
  | sourceLineChange (id : SrcId)
  /-- EVR_CLAIM (R574). A read of EVR_CLAIM claims the lowest pending enabled source of the target. -/
  | evrClaim (t : Fin 6)
  /-- EVR_EOI (R575). A write to EVR_EOI completes the active source or counts a stray. -/
  | evrEoi (t : Fin 6) (n : Nat)
  /-- EVR_DOORBELL (R572). A write to EVR_DOORBELL messages an SW or doorbell source, or is refused. -/
  | evrDoorbell (w : Fin 6) (n : Nat) (tgt : Nat)
  /-- SOURCE_TARGET_WRITE (R583). A write of an assignable source's TARGET moves it unless it is active. -/
  | sourceTargetWrite (i : Fin 288) (t : Nat)
  /-- MODERATION_TIMEOUT (R576). TIME after a moderation window opened the target's interrupt is asserted. -/
  | moderationTimeout (t : Fin 6)
  /-- EVR_SOURCE_FAULT (R601). An SC private source not claimed within 1 s raises a DIAG item. -/
  | evrSourceFault (n : Fin 32)
  /-- QUEUE_PUSH (R591). A producer pushes a word, reserving on a header and committing on the last word. -/
  | queuePush (q : QId) (w : Word)
  /-- QUEUE_DATA_READ (R594). A read of Qx_DATA returns the next word of the head item and pops it at its last word. -/
  | queueDataRead (q : QId)
  /-- QUEUE_DROP_REST (R595). A write of 1 to Qx_CTL.DROP_REST discards the rest of the open item. -/
  | queueDropRest (q : QId)
  /-- QUEUE_FLUSH (R597). A write of 1 to Qx_CTL.FLUSH removes committed items and poisons a partial item. -/
  | queueFlush (q : QId)
  /-- TSC_L_READ (R612). A read of TSC_L returns the low word and loads the port's latch. -/
  | tscLRead (m : Master)
  /-- GT_CNT_WRITE (R615). A write of GTn_CNT sets the counter and clears the prescaler. -/
  | gtCntWrite (n : Fin 32) (v : Word)
  /-- GT_CTL_WRITE (R616). A write of GTn_CTL starts or stops counting, clears the prescaler on start and sets CEN. -/
  | gtCtlWrite (m : Master) (n : Fin 32) (v : Nat)
  /-- GT_CMP_WRITE (R617). A write of GTn_CMP fires at once if the value has passed. -/
  | gtCmpWrite (n : Fin 32) (v : Word)
  /-- GT_COMPARE_FIRE (R617). A timer compare fires, sets FIRED, messages its source and advances by PER. -/
  | gtCompareFire (n : Fin 32)
  /-- ZONE_TIMER_FIRE (R621). A zone timer compare fires, clears CEN and messages its source. -/
  | zoneTimerFire (n : Fin 24) (k : Fin 2)
  /-- KEY_LOAD (R647). The KEY_LOAD command fills a slot from a blob. -/
  | keyLoad (tag : Fin 32)
  /-- KEY_UNLOAD (R648). The KEY_UNLOAD command wipes one or all slots. -/
  | keyUnload (tag : Fin 32)
  /-- KEY_INFO (R649). The KEY_INFO command returns a slot's attributes. -/
  | keyInfo (tag : Fin 32)
  /-- CRYPTO (R650). The CRYPTO command runs one island operation. -/
  | crypto (tag : Fin 32)
  /-- RANDOM (R651). The RANDOM command returns random bytes. -/
  | random (tag : Fin 32)
  /-- KS_GO (R642). A write of KS_CTL.GO submits a request on a port. -/
  | ksGo (m : Master) (p : Fin 5)
  /-- KS_OP_COMPLETE (R640). An island operation completes, writes its output and lowers the slot's use count. -/
  | ksOpComplete (rnd : List Byte)
  /-- KS_REFUSAL_END (R638). Exactly 40 µs after it started a refused key operation reports its refusal. -/
  | ksRefusalEnd
  /-- ENTROPY_FAIL (R641). A failed health test clears ENT_OK and pushes ENTROPY_FAIL. -/
  | entropyFail
  /-- ENTROPY_RETEST (R641). Every 100 ms a failed source is retested and ENT_OK restored on pass. -/
  | entropyRetest (pass : Bool)
  /-- IDLE_TIMER_EXPIRY (R663). A domain's idle timer reaches IDLE and its power-down starts. -/
  | idleTimerExpiry (k : Fin 49)
  /-- DOMAIN_POWER_DOWN_DONE (R661). A domain finishes powering down with its state retained. -/
  | domainPowerDownDone (k : Fin 49)
  /-- DOMAIN_WAKE_READY (R661). A waking domain becomes ready and its stalled accesses complete. -/
  | domainWakeReady (k : Fin 49)
  /-- DOMAIN_WAKE_FAIL (R668). A domain not ready within 1 ms fails to wake, the access gets a bus error and a SYSTEM item is pushed. -/
  | domainWakeFail (k : Fin 49)
  /-- POWER_POLICY (R671). The POWER_POLICY command sets idle times and KEEP bits. -/
  | powerPolicy (tag : Fin 32)
  /-- GUARD_RAIL_STEP (R669). Every 10 µs a GUARD change moves the core rails by 5 mV. -/
  | guardRailStep
  /-- KILN_RO_MEASURE (R679). Every 60 s Kiln measures the ring-oscillator pairs of powered domains. -/
  | kilnRoMeasure (fs : Vector (Nat × Nat) 48)
  /-- KILN_REF_MEASURE (R687). Every 60 s Kiln measures converter references and updates KA_REF and KADJ. -/
  | kilnRefMeasure (ref : Vector Nat 24)
  /-- KILN_RON_AVERAGE (R682). Every hour Kiln averages each coil's on-resistance and updates L_D. -/
  | kilnRonAverage (ron : Vector (Option Nat) 192)
  /-- KILN_GUARD_LOWER (R685). After GUARD_REQ has stayed 10 mV below GUARD for 24 h Kiln lowers GUARD. -/
  | kilnGuardLower
  /-- KILN_DAY_BOUNDARY (R689). At each Kiln day boundary history, KA_FD, forecasts and the record are updated. -/
  | kilnDayBoundary
  /-- KILN_SURVEY_DUE (R694). SURVEY_DAYS after the last survey Kiln sets SURVEY_DUE. -/
  | kilnSurveyDue
  /-- KILN_SURVEY (R696). The KILN_SURVEY command measures pairs, references and coils and updates margins and levers. -/
  | kilnSurvey (tag : Fin 32) (fs : Vector (Nat × Nat) 48) (ref : Vector Nat 24)
  /-- KILN_READ (R697). The KILN_READ command returns Kiln summary, history, pairs or coils. -/
  | kilnRead (tag : Fin 32)
  /-- IMAGE_WRITE (R716). The IMAGE_WRITE command writes image data into a slot or module area. -/
  | imageWrite (tag : Fin 32)
  /-- IMAGE_COMMIT (R717). The IMAGE_COMMIT command verifies or confirms an image. -/
  | imageCommit (tag : Fin 32)
  /-- EXT_LOAD (R718). The EXT_LOAD command verifies a committed module and sets it LOADED. -/
  | extLoad (tag : Fin 32)
  /-- EXT_CONTROL (R718). The EXT_CONTROL command starts, stops, unloads or reports an extension module. -/
  | extControl (tag : Fin 32)
  /-- CONFIG_STORE (R719). The CONFIG_STORE command writes the layout or integrator record or programs IH. -/
  | configStore (tag : Fin 32)
  /-- FLASH_ERASE_DONE (R712). A sector erase completes, is timed and verified, or fails. -/
  | flashEraseDone (ok : Bool) (us : Nat)
  /-- FLASH_PROGRAM_DONE (R712). A flash program completes and is verified, or fails. -/
  | flashProgramDone (ok : Bool)
  /-- TEMP_MEASURE (R737). Every 1 ms the Tun junction is measured and HOT or SHUT entered or left. -/
  | tempMeasure (temp : Int)
  /-- LPX_STABLE (R757). After 4,096 stable LPX cycles LPCLK changes to the crystal. -/
  | lpxStable
  /-- LPX_STOP (R757). A stopped LPX is detected within 2 ms and LPCLK returns to the internal oscillator. -/
  | lpxStop
  /-- WTX_WAIT_LIMIT (R332). With DEADLINE 0, a command whose total extended waiting under S(WTX), RTOX or a Mirbit WAIT exceeds 10 s completes with WRITE_UNKNOWN or DEADLINE, DETAIL WTX_LIMIT, and the card is deactivated. -/
  | wtxWaitLimit (tag : Fin 32)
  /-- REVISIT_EXPIRY (R420). When every usable channel was refused by REVISIT_MS, the earliest one becomes permitted again and the carrier may return on it. -/
  | revisitExpiry (draw : Nat)
  /-- FAILED_CHANNEL_RETRY (R417). 10 s after a failed calibration the channel or configuration may be selected and calibrated again, which can end NOCHAN and push CHAN_AVAIL. -/
  | failedChannelRetry (draw : Nat)
  /-- CASK_ERASE_DONE (R478). A Cask cell erase that follows a commit completes, leaving the cell blank, and the next erase of the rotation starts. -/
  | caskEraseDone
  /-- CASK_SUPPLY_RECOVER (R482). The Cask supply rises above 2.6 V before Cask is held in reset, and Cask resumes measuring after the power-fail commit and writes POWER_UP. -/
  | caskSupplyRecover
  /-- CASK_HOLD_RESET (R482). The Cask supply falls below 2.2 V and Cask holds in reset, stopping any power-fail commit part way. -/
  | caskHoldReset (n : Fin 14) (part : Bool)
  /-- ADJ_BAD_COMMAND (R488). An adjustment port frame with a valid CRC and a CMD not in the table is answered with STATUS BAD_COMMAND. -/
  | adjBadCommand (cmd : BitVec 8)
deriving DecidableEq, Repr

end Sys2Proof
end

