-- ==== Sys2Proof/Config.lean ====
section
/-! DEFINITION. What one device fixes at manufacture, and the values that the manual leaves open: constants without a body. -/

namespace Sys2Proof.Config
open Sys2Proof

/-- The fused root, from which the island derives its keys (R630). -/
opaque root : BitVec 256

/-- GRADE of IDENT: true for the industrial grade 0x49, false for 0x43 (R4). -/
opaque gradeI : Bool

/-- FREE VALUE: USE_LIMIT of the blob that SEAL makes of a slot with a limited use count; the manual names none (R633, R635;
log entry 28). -/
opaque sealLimit : Nat → BitVec 24

/-- FREE VALUE: byte `i` of the wrapping of a key whose length RFC 3394 does not define, from the wrapping key and the key
(R639; log entry 29). -/
opaque wrapOdd : List Nat → List Nat → Nat → Byte

/-- FREE VALUE: whether an unwrapping of such a length verifies (R639; log entry 29). -/
opaque unwrapOddOk : List Nat → List Nat → Bool

/-- FREE VALUE: byte `i` of such an unwrapping (R639; log entry 29). -/
opaque unwrapOdd : List Nat → List Nat → Nat → Byte

/-- SHA-256 digest of Cask's mask-ROM firmware (R487). -/
opaque caskDigest : BitVec 256

/-- FWVER of Cask (R487). -/
opaque caskFwver : BitVec 16

/-- FREE VALUE: byte `i` of cell `c` of register `r` when the cell holds neither a valid record nor a blank (R478; log
entry 37). -/
opaque caskBad : Nat → Nat → Nat → Byte

/-- Number of SNAPSHOT records that the saved state takes in a journal sector; the manual gives none (R709; log entry 41). -/
opaque snapWords : Nat

/-- FREE VALUE: DATA of SNAPSHOT record `i` of a journal sector begun at a JSEQ; the manual gives the saved state no layout (R709; log entry 41). -/
opaque snapData : Nat → Nat → BitVec 32

/-- FREE VALUE: µs that an erase of a journal sector, or boot's repeated erase, takes, by JSEQ (R709, R710; log entry 41). -/
opaque jErase : Nat → BitVec 32

/-- FREE VALUE: GAIN that step 2 of CALIBRATE gives for a coil's voltage in mV and current in mA; the manual states no formula (R158; log
entry 62). -/
opaque calGain : Nat → Nat → BitVec 16

/-- PMU_VCORE.VSET, which boot loads from calibration, mV (R13, R669, R673). -/
opaque vset : BitVec 11

/-- The delay of the Cask zero-crossing output, which boot loads from calibration, µs (R13, R89). -/
opaque caskDelay : BitVec 12

/-- mV at the mains for 1 µV at VSENSE, in 2^-16: the integrator's divider, which the manual leaves to the integrator (R469, R471; log
entry 69). -/
opaque caskVRatio : Nat

/-- µA in the conductor for 0.1 µV at ISENSEc, in 2^-16: the integrator's sensor (R469, R471; log entry 69). -/
opaque caskIRatio : Fin 4 → Nat

/-- FREE VALUE: what a read returns to code that may not read there and is not extension code (R34, R40; log entry 49). -/
opaque noAccess : Nat → BitVec 32

/-- FREE VALUE: byte `a` of the boot ROM, whose contents the manual does not give (R34; log entry 49). -/
opaque rom : Nat → Byte

/-- FREE VALUE: tap `i` of the decimation filter of a profile, newest sample first, in 1/256 of a step of the word; the manual gives only
the filter's figures (R186; log entry 64). -/
opaque filterTap : Nat → Nat → Int

/-- Tap `i` of variant `var` of the template `tid`, I and Q; the manual gives no template's taps (R212, R215; log entry 65). -/
opaque templateTap : Nat → Nat → Nat → Int × Int

/-- FREE VALUE: FLD, in 0.1 dB, of a zone whose coils carry no current, at a time; the manual gives no logarithm of 0 (R308; log entry 66). -/
opaque fldOfNone : Nat → BitVec 16

end Sys2Proof.Config
end

