-- ==== Sys2Proof/Machine/Crypto.lean ====
section
/-! DEFINITION. The algorithms that the security island runs (R639), as the standards named in the manual define them:
AES and its modes, SHA-256, HMAC, the key derivation, RFC 3394 and P-256 (PRESUMED, log entry 27). Bytes are numbers below 256. -/

namespace Sys2Proof.Machine
open Sys2Proof

/-- The big-endian value of bytes. -/
def beVal (l : List Nat) : Nat := l.foldl (fun a b => 256 * a + b) 0

/-- `k` bytes of `n`, highest first. -/
def be : Nat → Nat → List Nat
  | 0, _ => []
  | k + 1, n => (n / 256 ^ k) % 256 :: be k n

/-- Exclusive or of two byte strings. -/
def xorB (a b : List Nat) : List Nat := List.zipWith (· ^^^ ·) a b

/-- A byte string cut into blocks of `k` bytes; `fuel` bounds their number. -/
def blocks (k : Nat) : Nat → List Nat → List (List Nat)
  | 0, _ => []
  | f + 1, l => if l = [] then [] else l.take k :: blocks k f (l.drop k)

/-- Blocks of 16 bytes. -/
def blocks16 (l : List Nat) : List (List Nat) := blocks 16 l.length l

/-- Zeros that fill a string to a multiple of 16 bytes. -/
def pad16 (l : List Nat) : List Nat := l ++ List.replicate ((16 - l.length % 16) % 16) 0

/-! AES -/

/-- Multiplication by x in the field of AES. -/
def xtime (a : Nat) : Nat := if a < 128 then 2 * a else (2 * a - 256) ^^^ 0x1B

/-- Product in the field of AES, over `k` bits of the second factor. -/
def gmulN : Nat → Nat → Nat → Nat
  | 0, _, _ => 0
  | k + 1, a, b => (if b % 2 = 1 then a else 0) ^^^ gmulN k (xtime a) (b / 2)

/-- Product in the field of AES. -/
def gmul (a b : Nat) : Nat := gmulN 8 a b

/-- Inverse in the field of AES, 0 for 0: the power 254. -/
def ginv (a : Nat) : Nat :=
  let a2 := gmul a a
  let a4 := gmul a2 a2
  let a8 := gmul a4 a4
  let a16 := gmul a8 a8
  let a32 := gmul a16 a16
  let a64 := gmul a32 a32
  let a128 := gmul a64 a64
  gmul a128 (gmul a64 (gmul a32 (gmul a16 (gmul a8 (gmul a4 a2)))))

/-- Left rotation of a byte. -/
def rotB (n a : Nat) : Nat := (a * 2 ^ n) % 256 + a / 2 ^ (8 - n)

/-- Substitution of AES. -/
def sbox (a : Nat) : Nat :=
  let b := ginv a
  b ^^^ rotB 1 b ^^^ rotB 2 b ^^^ rotB 3 b ^^^ rotB 4 b ^^^ 0x63

/-- Inverse substitution of AES. -/
def invSbox (a : Nat) : Nat := ginv (rotB 1 a ^^^ rotB 3 a ^^^ rotB 6 a ^^^ 0x05)

/-- Key words from the newest back: `i` is the number of the next word, `k` the words still to make. -/
def expandKey (nk : Nat) : Nat → Nat → Nat → List (List Nat) → List (List Nat)
  | 0, _, _, ws => ws
  | k + 1, i, rcon, ws =>
    let prev := ws.headD []
    let old := ws.getD (nk - 1) []
    let t :=
      if i % nk = 0 then xorB ((prev.drop 1 ++ prev.take 1).map sbox) [rcon, 0, 0, 0]
      else if nk > 6 ∧ i % nk = 4 then prev.map sbox
      else prev
    expandKey nk k (i + 1) (if i % nk = 0 then xtime rcon else rcon) (xorB old t :: ws)

/-- Round keys of AES, first to last. -/
def aesKeys (key : List Nat) : List (List Nat) :=
  let nk := key.length / 4
  let ws := (expandKey nk (4 * (nk + 7) - nk) nk 1 (blocks 4 nk key).reverse).reverse
  (blocks16 ws.flatten)

/-- Rows of the state shifted. -/
def shiftRows (s : List Nat) : List Nat := (List.range 16).map fun i => s.getD (i % 4 + 4 * ((i / 4 + i % 4) % 4)) 0

/-- Rows shifted back. -/
def invShiftRows (s : List Nat) : List Nat := (List.range 16).map fun i => s.getD (i % 4 + 4 * ((i / 4 + 4 - i % 4) % 4)) 0

/-- Columns multiplied by the circulant of `a b c d`. -/
def mixWith (a b c d : Nat) (s : List Nat) : List Nat :=
  (blocks 4 4 s).flatMap fun v =>
    let x := v.getD 0 0
    let y := v.getD 1 0
    let z := v.getD 2 0
    let w := v.getD 3 0
    [gmul x a ^^^ gmul y b ^^^ gmul z c ^^^ gmul w d, gmul x d ^^^ gmul y a ^^^ gmul z b ^^^ gmul w c,
     gmul x c ^^^ gmul y d ^^^ gmul z a ^^^ gmul w b, gmul x b ^^^ gmul y c ^^^ gmul z d ^^^ gmul w a]

/-- The rounds of AES encryption after the first key. -/
def aesRounds : List (List Nat) → List Nat → List Nat
  | [], s => s
  | [k], s => xorB (shiftRows (s.map sbox)) k
  | k :: ks, s => aesRounds ks (xorB (mixWith 2 3 1 1 (shiftRows (s.map sbox))) k)

/-- One block encrypted under a key of 16 or 32 bytes. -/
def aesEnc (key blk : List Nat) : List Nat :=
  match aesKeys key with
  | k :: ks => aesRounds ks (xorB blk k)
  | [] => blk

/-- The rounds of AES decryption after the last key. -/
def aesInvRounds : List (List Nat) → List Nat → List Nat
  | [], s => s
  | [k], s => xorB ((invShiftRows s).map invSbox) k
  | k :: ks, s => aesInvRounds ks (mixWith 14 11 13 9 (xorB ((invShiftRows s).map invSbox) k))

/-- One block decrypted. -/
def aesDec (key blk : List Nat) : List Nat :=
  match (aesKeys key).reverse with
  | k :: ks => aesInvRounds ks (xorB blk k)
  | [] => blk

/-- ECB. -/
def ecbEnc (key l : List Nat) : List Nat := (blocks16 l).flatMap (aesEnc key)

/-- ECB, decryption. -/
def ecbDec (key l : List Nat) : List Nat := (blocks16 l).flatMap (aesDec key)

/-- CBC over blocks. -/
def cbcEncB (key : List Nat) : List Nat → List (List Nat) → List Nat
  | _, [] => []
  | iv, b :: bs => let c := aesEnc key (xorB iv b); c ++ cbcEncB key c bs

/-- CBC over blocks, decryption. -/
def cbcDecB (key : List Nat) : List Nat → List (List Nat) → List Nat
  | _, [] => []
  | iv, b :: bs => xorB iv (aesDec key b) ++ cbcDecB key b bs

/-- The last block of a CBC chain from zeros. -/
def cbcMac (key l : List Nat) : List Nat := (blocks16 l).foldl (fun c b => aesEnc key (xorB c b)) (List.replicate 16 0)

/-- Doubling in the field of CMAC. -/
def dbl128 (n : Nat) : Nat := if n < 2 ^ 127 then 2 * n else (2 * n - 2 ^ 128) ^^^ 0x87

/-- CMAC, 16 bytes. -/
def cmac (key l : List Nat) : List Nat :=
  let k1 := dbl128 (beVal (aesEnc key (List.replicate 16 0)))
  let whole := l ≠ [] ∧ l.length % 16 = 0
  let n := if whole then l.length - 16 else l.length - l.length % 16
  let last := if whole then xorB (l.drop n) (be 16 k1) else xorB (pad16 (l.drop n ++ [0x80])) (be 16 (dbl128 k1))
  cbcMac key (l.take n ++ last)

/-- Counter mode: the key stream from counter block `ctr` with its last `w` bytes counting. -/
def ctrB (key : List Nat) (w : Nat) : Nat → List (List Nat) → List Nat
  | _, [] => []
  | c, b :: bs =>
    let blk := be 16 c
    let next := (c / 256 ^ w) * 256 ^ w + (c + 1) % 256 ^ w
    xorB b (aesEnc key blk) ++ ctrB key w next bs

/-- CCM: the formatted blocks of nonce, additional data and message. -/
def ccmMac (key nonce aad msg : List Nat) (t : Nat) : List Nat :=
  let q := 15 - nonce.length
  let b0 := ((if aad = [] then 0 else 64) + 8 * ((t - 2) / 2) + (q - 1)) :: (nonce ++ be q msg.length)
  let a := if aad = [] then [] else pad16 (be 2 aad.length ++ aad)
  cbcMac key (b0 ++ a ++ pad16 msg)

/-- CCM: first counter block. -/
def ccmCtr (nonce : List Nat) : Nat := beVal ((14 - nonce.length) :: (nonce ++ List.replicate (15 - nonce.length) 0))

/-- CCM encryption: ciphertext and tag of `t` bytes. -/
def ccmEnc (key nonce aad msg : List Nat) (t : Nat) : List Nat × List Nat :=
  let c0 := ccmCtr nonce
  let w := 15 - nonce.length
  (ctrB key w (c0 + 1) (blocks16 msg), (xorB (ccmMac key nonce aad msg t) (aesEnc key (be 16 c0))).take t)

/-- CCM decryption: the plaintext, none where the tag does not verify. -/
def ccmDec (key nonce aad ct tag : List Nat) : Option (List Nat) :=
  let c0 := ccmCtr nonce
  let m := ctrB key (15 - nonce.length) (c0 + 1) (blocks16 ct)
  if (xorB (ccmMac key nonce aad m tag.length) (aesEnc key (be 16 c0))).take tag.length = tag then some m else none

/-- Product in the field of GHASH over `k` bits of the first factor, highest first. -/
def ghMulN : Nat → Nat → Nat → Nat → Nat
  | 0, _, _, z => z
  | k + 1, x, v, z =>
    ghMulN k x (if v % 2 = 1 then (v / 2) ^^^ (0xE1 * 2 ^ 120) else v / 2) (if x.testBit k then z ^^^ v else z)

/-- GHASH under `h`. -/
def ghash (h : Nat) (l : List Nat) : Nat := (blocks16 l).foldl (fun y b => ghMulN 128 (y ^^^ beVal b) h 0) 0

/-- GCM: the whole tag of additional data and ciphertext. -/
def gcmTag (key nonce aad ct : List Nat) : List Nat :=
  let h := beVal (aesEnc key (List.replicate 16 0))
  let y := ghash h (pad16 aad ++ pad16 ct ++ be 8 (8 * aad.length) ++ be 8 (8 * ct.length))
  xorB (be 16 y) (aesEnc key (nonce ++ [0, 0, 0, 1]))

/-- GCM with a nonce of 12 bytes: ciphertext and whole tag. -/
def gcmEnc (key nonce aad msg : List Nat) : List Nat × List Nat :=
  let ct := ctrB key 4 (beVal (nonce ++ [0, 0, 0, 2])) (blocks16 msg)
  (ct, gcmTag key nonce aad ct)

/-- GCM decryption: the plaintext, none where the tag does not verify. -/
def gcmDec (key nonce aad ct tag : List Nat) : Option (List Nat) :=
  if (gcmTag key nonce aad ct).take tag.length = tag then some (ctrB key 4 (beVal (nonce ++ [0, 0, 0, 2])) (blocks16 ct)) else none

/-! SHA-256 and HMAC -/

/-- The round constants of SHA-256, the first in the highest 32 bits. -/
def shaRoundBits : Nat :=
  0x428a2f9871374491b5c0fbcfe9b5dba53956c25b59f111f1923f82a4ab1c5ed5d807aa9812835b01243185be550c7dc372be5d7480deb1fe9bdc06a7c19bf174e49b69c1efbe47860fc19dc6240ca1cc2de92c6f4a7484aa5cb0a9dc76f988da983e5152a831c66db00327c8bf597fc7c6e00bf3d5a7914706ca63511429296727b70a852e1b21384d2c6dfc53380d13650a7354766a0abb81c2c92e92722c85a2bfe8a1a81a664bc24b8b70c76c51a3d192e819d6990624f40e3585106aa07019a4c1161e376c082748774c34b0bcb5391c0cb34ed8aa4a5b9cca4f682e6ff3748f82ee78a5636f84c878148cc7020890befffaa4506cebbef9a3f7c67178f2

/-- The start value of the hash, its first word in the highest 32 bits. -/
def shaStartBits : Nat := 0x6a09e667bb67ae853c6ef372a54ff53a510e527f9b05688c1f83d9ab5be0cd19

/-- The `n` 32-bit words of a number, the highest first. -/
def shaWords (n x : Nat) : List Nat := (List.range n).map fun i => x / 2 ^ (32 * (n - 1 - i)) % 2 ^ 32

/-- Right rotation of a 32-bit word. -/
def rotr (n a : Nat) : Nat := a / 2 ^ n + (a % 2 ^ n) * 2 ^ (32 - n)

/-- The message schedule, newest word first. -/
def shaSched : Nat → List Nat → List Nat
  | 0, ws => ws
  | k + 1, ws =>
    let a := ws.getD 14 0
    let b := ws.getD 1 0
    let s0 := rotr 7 a ^^^ rotr 18 a ^^^ (a / 8)
    let s1 := rotr 17 b ^^^ rotr 19 b ^^^ (b / 1024)
    shaSched k ((ws.getD 15 0 + s0 + ws.getD 6 0 + s1) % 2 ^ 32 :: ws)

/-- One round on the eight working words; `kw` is constant plus schedule word. -/
def shaRound (v : List Nat) (kw : Nat) : List Nat :=
  match v with
  | [a, b, c, d, e, f, g, h] =>
    let t1 := h + (rotr 6 e ^^^ rotr 11 e ^^^ rotr 25 e) + ((e &&& f) ^^^ ((2 ^ 32 - 1 - e) &&& g)) + kw
    let t2 := (rotr 2 a ^^^ rotr 13 a ^^^ rotr 22 a) + ((a &&& b) ^^^ (a &&& c) ^^^ (b &&& c))
    [(t1 + t2) % 2 ^ 32, a, b, c, (d + t1) % 2 ^ 32, e, f, g]
  | _ => v

/-- One block taken into the hash. -/
def shaBlock (h blk : List Nat) : List Nat :=
  let w := (shaSched 48 ((blocks 4 16 blk).map beVal).reverse).reverse
  let v := (List.zipWith (· + ·) (shaWords 64 shaRoundBits) w).foldl shaRound h
  List.zipWith (fun a b => (a + b) % 2 ^ 32) h v

/-- SHA-256. -/
def sha256 (m : List Nat) : List Nat :=
  let z := (119 - m.length % 64) % 64
  let p := m ++ [0x80] ++ List.replicate z 0 ++ be 8 (8 * m.length)
  ((blocks 64 (p.length / 64) p).foldl shaBlock (shaWords 8 shaStartBits)).flatMap (be 4)

/-- HMAC with SHA-256. -/
def hmac (key m : List Nat) : List Nat :=
  let k := if key.length > 64 then sha256 key else key
  let k := k ++ List.replicate (64 - k.length) 0
  sha256 (k.map (· ^^^ 0x5C) ++ sha256 (k.map (· ^^^ 0x36) ++ m))

/-- The key derivation of R639 for `n` bytes: counter from 1 before the fixed data and the length in bits. -/
def kdf (prf : List Nat → List Nat) (fixed : List Nat) (n : Nat) : List Nat :=
  ((List.range ((n + 15) / 16)).flatMap fun i => prf (be 4 (i + 1) ++ fixed ++ be 4 (8 * n))).take n

/-! RFC 3394 -/

/-- One step of wrapping: register A and the block `r`. -/
def wrapStep (key : List Nat) (t : Nat) (a r : List Nat) : List Nat × List Nat :=
  let b := aesEnc key (a ++ r)
  (xorB (b.take 8) (be 8 t), b.drop 8)

/-- One pass of wrapping over the blocks, with the step number of the first. -/
def wrapPass (key : List Nat) : Nat → List Nat → List (List Nat) → List Nat × List (List Nat)
  | _, a, [] => (a, [])
  | t, a, r :: rs =>
    let s := wrapStep key t a r
    let rest := wrapPass key (t + 1) s.1 rs
    (rest.1, s.2 :: rest.2)

/-- RFC 3394 wrapping. -/
def keyWrap (key l : List Nat) : List Nat :=
  let rs := blocks 8 l.length l
  let n := rs.length
  let x := (List.range 6).foldl (fun x j => wrapPass key (n * j + 1) x.1 x.2) (List.replicate 8 0xA6, rs)
  x.1 ++ x.2.flatten

/-- One pass of unwrapping over the blocks, last first, with the step number of the last. -/
def unwrapPass (key : List Nat) : Nat → List Nat → List (List Nat) → List Nat × List (List Nat)
  | _, a, [] => (a, [])
  | t, a, r :: rs =>
    let b := aesDec key (xorB a (be 8 t) ++ r)
    let rest := unwrapPass key (t - 1) (b.take 8) rs
    (rest.1, b.drop 8 :: rest.2)

/-- RFC 3394 unwrapping, none where the check value is wrong. -/
def keyUnwrap (key l : List Nat) : Option (List Nat) :=
  let bs := blocks 8 l.length l
  let rs := (bs.drop 1).reverse
  let n := rs.length
  let x := (List.range 6).foldl (fun x j => unwrapPass key (n * (6 - j)) x.1 x.2) (bs.headD [], rs)
  if x.1 = List.replicate 8 0xA6 then some x.2.reverse.flatten else none

/-! P-256 -/

/-- Field prime. -/
def p256P : Nat := 0xffffffff00000001000000000000000000000000ffffffffffffffffffffffff

/-- Group order. -/
def p256N : Nat := 0xffffffff00000000ffffffffffffffffbce6faada7179e84f3b9cac2fc632551

/-- Coefficient b. -/
def p256B : Nat := 0x5ac635d8aa3a93e7b3ebbd55769886bc651d06b0cc53b0f63bce3c3e27d2604b

/-- Base point. -/
def p256G : Nat × Nat :=
  (0x6b17d1f2e12c4247f8bce6e563a440f277037d812deb33a0f4a13945d898c296,
   0x4fe342e2fe1a7f9b8ee7eb4a7c0f9e162bce33576b315ececbb6406837bf51f5)

/-- Power modulo `m`, over `k` bits of the exponent. -/
def powMod (m : Nat) : Nat → Nat → Nat → Nat → Nat
  | 0, _, _, acc => acc
  | k + 1, b, e, acc => powMod m k (b * b % m) (e / 2) (if e % 2 = 1 then acc * b % m else acc)

/-- Inverse modulo a prime of 256 bits. -/
def invMod (m a : Nat) : Nat := powMod m 256 (a % m) (m - 2) 1

/-- A point of P-256 in Jacobian coordinates; z 0 is the neutral point. -/
abbrev Jac := Nat × Nat × Nat

/-- Difference in the field. -/
def subP (a b : Nat) : Nat := (a + p256P - b % p256P) % p256P

/-- A point doubled. -/
def jacDbl (q : Jac) : Jac :=
  let (x, y, z) := q
  if z = 0 ∨ y = 0 then (1, 1, 0)
  else
    let zz := z * z % p256P
    let yy := y * y % p256P
    let s := 4 * x * yy % p256P
    let m := 3 * (subP x zz) * ((x + zz) % p256P) % p256P
    let x3 := subP (m * m) (2 * s)
    (x3, subP (m * subP s x3) (8 * yy * yy), 2 * y * z % p256P)

/-- Sum of two points. -/
def jacAdd (a b : Jac) : Jac :=
  let (x1, y1, z1) := a
  let (x2, y2, z2) := b
  if z1 = 0 then b
  else if z2 = 0 then a
  else
    let z1z := z1 * z1 % p256P
    let z2z := z2 * z2 % p256P
    let u1 := x1 * z2z % p256P
    let u2 := x2 * z1z % p256P
    let s1 := y1 * z2 * z2z % p256P
    let s2 := y2 * z1 * z1z % p256P
    if u1 = u2 then (if s1 = s2 then jacDbl a else (1, 1, 0))
    else
      let h := subP u2 u1
      let r := subP s2 s1
      let hh := h * h % p256P
      let hhh := h * hh % p256P
      let v := u1 * hh % p256P
      let x3 := subP (subP (r * r) hhh) (2 * v)
      (x3, subP (r * subP v x3) (s1 * hhh), h * z1 * z2 % p256P)

/-- A multiple of a point, over `k` bits of the factor. -/
def jacMul : Nat → Nat → Jac → Jac → Jac
  | 0, _, _, acc => acc
  | k + 1, e, q, acc => jacMul k (e / 2) (jacDbl q) (if e % 2 = 1 then jacAdd acc q else acc)

/-- Affine coordinates, none for the neutral point. -/
def jacAffine (q : Jac) : Option (Nat × Nat) :=
  if q.2.2 = 0 then none
  else
    let i := invMod p256P q.2.2
    let ii := i * i % p256P
    some (q.1 * ii % p256P, q.2.1 * ii % p256P * i % p256P)

/-- A multiple of an affine point. -/
def ecMul (e : Nat) (q : Nat × Nat) : Option (Nat × Nat) := jacAffine (jacMul 256 e (q.1, q.2, 1) (1, 1, 0))

/-- The bytes x then y name a point of P-256. -/
def ecPoint (l : List Nat) : Option (Nat × Nat) :=
  let x := beVal (l.take 32)
  let y := beVal (l.drop 32)
  if l.length = 64 ∧ x < p256P ∧ y < p256P ∧ y * y % p256P = (x * x * x + (p256P - 3) * x + p256B) % p256P then some (x, y) else none

/-- Public key of a private key, x then y. -/
def ecPub (d : Nat) : List Nat :=
  match ecMul (d % p256N) p256G with
  | some (x, y) => be 32 x ++ be 32 y
  | none => List.replicate 64 0

/-- ECDSA signature r, s of a digest with nonce `k`. -/
def ecdsaSign (d k : Nat) (digest : List Nat) : List Nat :=
  let r := ((ecMul (k % p256N) p256G).map fun q => q.1 % p256N).getD 0
  let s := invMod p256N k * ((beVal digest + r * d) % p256N) % p256N
  be 32 r ++ be 32 s

/-- ECDSA verification. -/
def ecdsaVerify (pub : Nat × Nat) (digest sig : List Nat) : Bool :=
  let r := beVal (sig.take 32)
  let s := beVal (sig.drop 32)
  if r = 0 ∨ s = 0 ∨ p256N ≤ r ∨ p256N ≤ s then false
  else
    let w := invMod p256N s
    let u1 := beVal digest * w % p256N
    let u2 := r * w % p256N
    match jacAffine (jacAdd (jacMul 256 u1 (p256G.1, p256G.2, 1) (1, 1, 0)) (jacMul 256 u2 (pub.1, pub.2, 1) (1, 1, 0))) with
    | some (x, _) => decide (x % p256N = r)
    | none => false

/-- CRC-32 of IEEE 802.3, one byte taken in (R709, R711). -/
def crc32Byte (c b : Nat) : Nat :=
  (List.range 8).foldl (fun c _ => if c % 2 = 1 then (c / 2) ^^^ 0xEDB88320 else c / 2) (c ^^^ b)

/-- CRC-32 of IEEE 802.3 (R709, R711). -/
def crc32 (l : List Nat) : Nat := (l.foldl crc32Byte 0xFFFFFFFF) ^^^ 0xFFFFFFFF

/-- Byte string as numbers. -/
def nums (l : List Byte) : List Nat := l.map fun b => b.toNat

/-- Numbers as a byte string. -/
def bytesN (l : List Nat) : List Byte := l.map byteOf

end Sys2Proof.Machine
end

