-- ==== Sys2Proof/Machine/Flags.lean ====
section
/-! DEFINITION. How flags and counters of the access codes change: W1C bits and saturating RC counters (R15 to R17). -/

namespace Sys2Proof.Machine
open Sys2Proof

/-- Count one more, staying at `top` (R75, R535, R554: counters that saturate). -/
def satInc (top n : Nat) : Nat := if n < top then n + 1 else top

/-- Count `k` more, staying at `top`. -/
def satAdd (top n k : Nat) : Nat := min top (n + k)

/-- Clear of a W1C bit: writing 1 clears it (R15). -/
def w1c (old written : Bool) : Bool := old && !written

end Sys2Proof.Machine
end

