-- ==== Sys2Proof/Machine/StCask.lean ====
section
/-! DEFINITION. State of the Cask die and of the Cask link block of Tun. -/

namespace Sys2Proof.Machine
open Sys2Proof

/-- The fields of a register record (R476). -/
structure CRec where
  /-- SEQ -/
  seq : Nat := 0
  /-- VALUE -/
  value : Nat := 0
  /-- CSEQ -/
  cseq : Nat := 0
  /-- CSEC -/
  csec : Nat := 0
deriving DecidableEq, Repr

/-- A cell: blank, with a valid record, or neither (R476, R478). -/
inductive CCell where
  | blank
  | full (r : CRec)
  | bad
deriving DecidableEq, Repr

/-- An energy register (R473, R475, R476). -/
structure CReg where
  /-- VALUE -/
  value : Nat := 0
  /-- accumulator, 1 µWh or 1 µvarh (R473) -/
  acc : Nat := 0
  /-- SEQ of the newest record -/
  seq : Nat := 0
  /-- cell of the newest record; 7 when there is none, so that cell 0 is next -/
  at_ : Fin 8 := 7
  /-- cells 0 to 7 -/
  cells : Vector CCell 8 := Vector.replicate 8 .blank
deriving DecidableEq, Repr

/-- A log entry (R484). -/
structure CLog where
  /-- NUM -/
  num : Nat
  /-- CSEC -/
  csec : Nat
  /-- TYPE -/
  type : Nat
  /-- CHAN -/
  chan : Nat
  /-- DATA -/
  data : Nat
  /-- VALUE -/
  value : Nat
deriving DecidableEq, Repr

/-- A parameter block (R489, R490). -/
structure CPar where
  /-- PBSEQ -/
  pbseq : Nat := 0
  /-- ADJCOUNT -/
  adj : Nat := 0
  /-- IDs 0x00 to 0x1F -/
  vals : Vector Word 32 := Vector.ofFn fun i =>
    if i.val = 0 then 230000 else if i.val = 1 then 50
    else if i.val = 2 ∨ (4 ≤ i.val ∧ i.val < 8) then 0x40000000 else 0
deriving DecidableEq, Repr

/-- The values of a cycle on one current channel (R493). -/
structure CChan where
  /-- IRMS, mA -/
  irms : Nat := 0
  /-- P, mW -/
  p : Int := 0
  /-- Q, mvar -/
  q : Int := 0
  /-- STATUS.REV (R473) -/
  rev : Bool := false
  /-- STATUS.OVR (R471) -/
  ovr : Bool := false
  /-- cycles overranged since the channel was last in range (R471) -/
  ovrCnt : Nat := 0
  /-- µs in range since the last overranged cycle (R471) -/
  inRange : Nat := 0
  /-- an OVERRANGE entry has been written and the channel has not been in range for 1 s since (R471) -/
  ovrLogged : Bool := false
deriving DecidableEq, Repr

/-- A frame of the broadcast (R491). -/
structure CFrame where
  /-- TYPE -/
  type : Nat
  /-- BSEQ -/
  bseq : BitVec 8
  /-- payload -/
  payload : List Byte
deriving DecidableEq, Repr

/-- Where the Cask supply stands (R482). -/
inductive CPhase where
  | off      -- no power, or held in reset
  | run      -- measuring
  | failing  -- the power-fail commit runs
deriving DecidableEq, Repr

/-- The Cask die. -/
structure Cask where
  /-- powered and measuring, or in a power failure; R481, R482; reset off (DESIGN CHOICE, log entry 36) -/
  phase : CPhase := .off
  /-- STATUS.CBKP; 1 bit; R481, R492; reset 0 -/
  cbkp : Bool := false
  /-- STATUS.SEALOPEN; 1 bit; R470, R492; reset 0 -/
  sealOpen : Bool := false
  /-- STATUS.VPRES; 1 bit; R472, R492; reset 0 -/
  vpres : Bool := false
  /-- consecutive cycles toward a change of VPRES; 0 to 1; R472; reset 0 -/
  vcount : Nat := 0
  /-- the cycle that ended last sent a zero-crossing pulse; 1 bit; R472; reset 0 -/
  pulse : Bool := false
  /-- STATUS.REGFAULT; 1 bit; R479, R492; reset 0 -/
  regFault : Bool := false
  /-- STATUS.SELFTEST_FAIL; 1 bit; R487, R492; reset 0 -/
  selfFail : Bool := false
  /-- the twelve energy registers; VALUE 64 bits, accumulator, SEQ 32 bits, 8 cells of 512 bytes each; R473 to R478; reset 0 and blank (R479: as shipped) -/
  regs : Vector CReg 12 := Vector.replicate 12 {}
  /-- CSEQ of the last commit; 32 bits; R477, R479; reset 0 (R479: as shipped) -/
  cseq : Nat := 0
  /-- CSEC, operating seconds; 32 bits; R468, R479; reset 0 (DESIGN CHOICE, log entry 36) -/
  csec : Nat := 0
  /-- CSEC at the last commit; 32 bits; R477; reset 0 -/
  comSec : Nat := 0
  /-- cells that wait for their erase, the one being erased first; R478; reset none -/
  erase : List (Fin 12 × Fin 8) := []
  /-- event log, one entry in each slot NUM modulo 1,024, oldest first; 1,024 x 16 bytes; R484; reset empty (DESIGN CHOICE, log entry 36) -/
  log : List CLog := []
  /-- NUM of the next log entry; 32 bits; R484; reset 0 -/
  nextNum : Nat := 0
  /-- adjustment counter, fuses blown; 0 to 512; R486; reset 0 (DESIGN CHOICE, log entry 36) -/
  fuses : Nat := 0
  /-- the two parameter pages; R490; reset page 0 with PBSEQ 0, VNOM 230,000, NOMF 50, gains 1, others 0 (DESIGN CHOICE, log entry 36) -/
  pages : Vector (Option CPar) 2 := #v[some {}, none]
  /-- parameter block in effect; R489, R490; reset that of page 0 -/
  par : CPar := {}
  /-- a newer block that takes effect at the next cycle boundary; none or one; R490; reset none -/
  parNext : Option CPar := none
  /-- staged values; 32 x none or 32 bits; R489; reset none -/
  staged : Vector (Option Word) 32 := Vector.replicate 32 none
  /-- FREQ of the last cycle, mHz; 32 bits; R493; reset 0 (DESIGN CHOICE, log entry 36) -/
  freq : Nat := 0
  /-- VRMS of the last cycle, mV; 32 bits; R493; reset 0 (DESIGN CHOICE, log entry 36) -/
  vrms : Nat := 0
  /-- IRMS, P, Q, REV and OVR of the last cycle and the overrange history, channels 0 to 3; R471, R473, R493; reset 0 (DESIGN CHOICE, log entry 36) -/
  chan : Vector CChan 4 := Vector.replicate 4 {}
  /-- BSEQ of the next frame; 8 bits; R491; reset 0 -/
  bseq : BitVec 8 := 0
  /-- query being served, QCODE and QARG; none or one; R495; reset none -/
  query : Option (Nat × Nat) := none
  /-- frames on their way to Tun, oldest first; R491; reset none -/
  wire : List CFrame := []
  /-- MODEL'S OWN: frame sent last on CASK_ATX; reset none (DESIGN CHOICE, log entry 4) -/
  atx : List Byte := []
deriving DecidableEq, Repr

/-- Who has sent the outstanding query (R498, R499, R501). -/
inductive QOwner where
  | raw                  -- a read of CL_QRY
  | ident                -- the IDENT query of R499
  | log                  -- a LOG query of R499
  | cmd (tag : Fin 32)   -- CASK_READ
deriving DecidableEq, Repr

/-- Catching up with the log after LINK has become 1 (R499). -/
structure CatchUp where
  /-- the next NUM of IDENT; none until IDENT has been read -/
  upTo : Option Nat := none
  /-- NUM of the next entry to read -/
  pos : Nat := 0
  /-- EVENT payloads that have arrived meanwhile, oldest first -/
  held : List (List Byte) := []
deriving DecidableEq, Repr

/-- The Cask link block, and what SC keeps of the log it forwards. -/
structure CaskLink where
  /-- CL_STAT.LINK; 1 bit; R496, R497; reset 0 -/
  link : Bool := false
  /-- payload of the last CYCLE: CL_STAT.CSTAT and VPRES, CL_FREQ, CL_VRMS, CL_IRMSc, CL_Pc, CL_Qc; 60 bytes; R493, R497; reset 0 -/
  cycle : List Byte := List.replicate 60 0
  /-- payload of the last REGS: CL_CSEC, CL_CSEQ, STATUS, CL_REGr; 108 bytes; R494, R497; reset 0 -/
  regs : List Byte := List.replicate 108 0
  /-- CL_STAT.BSEQ; 8 bits; R497; reset 0x00 -/
  bseq : BitVec 8 := 0
  /-- BSEQ of the last CYCLE; 8 bits; R501; reset 0 -/
  cycB : BitVec 8 := 0
  /-- BSEQ of the last REGS; 8 bits; R501; reset 0 -/
  regB : BitVec 8 := 0
  /-- TSC of the last valid CYCLE; R496, R501; none before the first -/
  cycT : Option Nat := none
  /-- TSC of the last valid REGS; R501; none before the first -/
  regT : Option Nat := none
  /-- CL_CNT.CRCERR; 16 bits, saturating, RC; R497; reset 0x0000 -/
  crcErr : Nat := 0
  /-- CL_CNT.GAPS; 16 bits, saturating, RC; R497; reset 0x0000 -/
  gaps : Nat := 0
  /-- CL_QSTAT.BUSY; 1 bit; R497; reset 0 -/
  busy : Bool := false
  /-- CL_QSTAT.DONE; 1 bit; R497; reset 0 -/
  done : Bool := false
  /-- CL_QSTAT.TIMEOUT; 1 bit; R497; reset 0 -/
  timeout : Bool := false
  /-- CL_QSTAT.QCODE; 3 bits; R497; reset 0 -/
  qcode : Nat := 0
  /-- CL_QSTAT.QARG; 10 bits; R497; reset 0 -/
  qarg : Nat := 0
  /-- CL_QSTAT.DLEN and CL_QBUF; 256 bytes; R497; reset DLEN 0, and the buffer, X, holds nothing (log entry 5) -/
  qbuf : List Byte := []
  /-- TSC of the last query; R498; reset 0 -/
  qT : Nat := 0
  /-- high words latched by reads of the low words of CL_REGr; 12 x 32 bits; R8, R497; reset 0 -/
  latch : Vector Word 12 := Vector.replicate 12 0
  /-- who sent the outstanding query; R498; reset none -/
  owner : Option QOwner := none
  /-- the outstanding query of CASK_READ is its second; 1 bit; R501; reset 0 -/
  again : Bool := false
  /-- last NUM that SC has forwarded; none or 32 bits; R499; reset none -/
  fwd : Option Nat := none
  /-- SC reads the log after LINK has become 1; R499; reset none -/
  catch_ : Option CatchUp := none
deriving DecidableEq, Repr

end Sys2Proof.Machine
end

