-- ==== Sys2Proof/Machine/StHf.lean ====
section
/-! DEFINITION. State of the framers and of the HF configuration (chapter 08). -/

namespace Sys2Proof.Machine
open Sys2Proof

/-- What a framer's transmitter is doing (R302). -/
inductive TxSt where
  | idle | armed | sending
deriving DecidableEq, Repr

/-- One slot of a wake train (R313, R359): WUPA, SENSF_REQ, WUPB, the listening for SENSF_RES, INVENTORY, or a seek round. -/
inductive WSlot where
  | wupa | sensf | wupb | sensfListen | inventory | seek
deriving DecidableEq, Repr

/-- ZEn_MB_STAT (R381). -/
structure MbStat where
  /-- RTYPE, 4 bits -/
  rtype : Nat := 0
  /-- PWR, 2 bits -/
  pwr : Nat := 0
  /-- EXT -/
  ext : Bool := false
  /-- ERR -/
  err : Bool := false
  /-- VAR, 2 bits -/
  var : Nat := 0
  /-- VALID -/
  valid : Bool := false
  /-- HDRERR, W1C -/
  hdrErr : Bool := false
deriving DecidableEq, Repr

/-- What Lauter hands to a zone's demodulator lane (R219, R226). -/
structure Demod where
  /-- TID: protocol and rate -/
  tid : Nat
  /-- VAR -/
  var : Nat
  /-- TSC at the peak word -/
  tsc : Nat
  /-- peak position after the peak word, 1/8 word -/
  frac : Nat
  /-- correlation phase, 1/2,048 cycle -/
  phase : Nat
deriving DecidableEq, Repr

/-- What a seek round waits for (R357). -/
inductive SeekWait where
  | handle                      -- a HANDLE in the present slot
  | aid (handle : Nat)          -- the AID after the ACK of this handle
  | select (handle : Nat) (rest : List Nat)    -- the DONE of a SELECT; handles still to be selected
  | halt (rest : List Nat)      -- the close of the window after a HALT; handles still to be selected
deriving DecidableEq, Repr

/-- A seek round (R357, R363). -/
structure Seek where
  /-- Q -/
  q : Nat
  /-- the states that SEEK selects, in their place in PARAM -/
  sel : Nat
  /-- the reactivation of a known accessory: one round, then SELECT (R363) -/
  once : Bool := false
  /-- present slot -/
  slot : Nat := 0
  /-- a collision so far -/
  coll : Bool := false
  /-- handles recorded -/
  got : List Nat := []
  /-- handles beyond the limit of accessories, to be selected and halted (R359) -/
  excess : List Nat := []
  /-- no further round follows -/
  last : Bool := false
  /-- the ACC_ROUND that runs the round (R379) -/
  tag : Option (Fin 32) := none
  /-- what it waits for -/
  wait : SeekWait := .handle
deriving DecidableEq, Repr

/-- The framer of a zone engine (R339). -/
structure Framer where
  /-- TECH, 3 bits -/
  tech : Nat := 0
  /-- TXRATE, 4 bits -/
  txRate : Nat := 0
  /-- RXRATE, 4 bits -/
  rxRate : Nat := 0
  /-- CRC_TX -/
  crcTx : Bool := true
  /-- CRC_RX -/
  crcRx : Bool := true
  /-- PAR -/
  par : Bool := true
  /-- ARM -/
  arm : Bool := false
  /-- LEN, 13 bits -/
  len : Nat := 0
  /-- LASTBITS, 3 bits -/
  lastBits : Nat := 0
  /-- WOPEN, 20 bits -/
  wopen : Nat := 1108
  /-- WCLOSE, 28 bits -/
  wclose : Nat := 118
  /-- transmitting or armed, TXBUSY -/
  tx : TxSt := .idle
  /-- the frame being sent: modulated and unmodulated intervals in carrier cycles (R302) -/
  wave : List (Bool × Nat) := []
  /-- TSC of its first modulation (R302) -/
  waveT : Nat := 0
  /-- a SEND held while a detection holds the zone (R303) -/
  heldSend : Bool := false
  /-- TXDONE, W1C -/
  txDone : Bool := false
  /-- RXDONE, W1C -/
  rxDone : Bool := false
  /-- NORESP, W1C -/
  noResp : Bool := false
  /-- CRCERR, W1C -/
  crcErr : Bool := false
  /-- PARERR, W1C -/
  parErr : Bool := false
  /-- CODERR, W1C -/
  codErr : Bool := false
  /-- COLL, W1C -/
  coll : Bool := false
  /-- ABANDONED, W1C -/
  abandoned : Bool := false
  /-- RXLOST, W1C -/
  rxLost : Bool := false
  /-- RXBUF -/
  rxBuf : Bool := false
  /-- RXLASTBITS, 3 bits -/
  rxLastBits : Nat := 0
  /-- RXLEN, 13 bits -/
  rxLen : Nat := 0
  /-- receive buffers 0 and 1 held until RXACK (R305) -/
  held0 : Bool := false
  /-- receive buffer 1 held -/
  held1 : Bool := false
  /-- buffer that the next frame takes (R305) -/
  nextBuf : Bool := false
  /-- COLLBIT, 16 bits -/
  collBit : Nat := 0
  /-- PHC at the end of the last frame sent -/
  tend : Word := 0
  /-- TSC at the end of the last frame sent while its window has not closed (R304) -/
  winFrom : Option Nat := none
  /-- what the demodulator lane works from while a frame is received (R226) -/
  demod : Option Demod := none
  /-- a detection came in the present window (R306) -/
  det : Bool := false
  /-- the frame of the present window was discarded: firmware has not seen it (R305) -/
  gone : Bool := false
  /-- TSC at the end of the last SENSF_REQ of the train (R313) -/
  sensfEnd : Nat := 0
  /-- DEPTH, 8 bits -/
  depth : Nat := 0
  /-- PAUSE, 8 bits -/
  pause : Nat := 32
  /-- EDGE, 4 bits -/
  edge : Nat := 3
  /-- ZEn_FR_CNT.RXLOST, 8 bits -/
  cntLost : Nat := 0
  /-- IGNORED, 4 bits -/
  cntIgnored : Nat := 0
  /-- EXCESS, 4 bits -/
  cntExcess : Nat := 0
  /-- DOWNRATE, 4 bits -/
  cntDown : Nat := 0
  /-- WRUNK, 8 bits -/
  cntWrunk : Nat := 0
  /-- ZEn_FLD.FLD, 0.1 dB; none where VALID is 0 -/
  fld : Option Int := none
  /-- transmit buffer, 4 KiB; bytes past the list read 0 -/
  txBuf : List Byte := []
  /-- receive buffer 0, 4 KiB -/
  rx0 : List Byte := []
  /-- receive buffer 1, 4 KiB -/
  rx1 : List Byte := []
  /-- ZEn_MB_STAT -/
  mb : MbStat := {}
  /-- seek round under way (R357) -/
  seek : Option Seek := none
  /-- seek rounds run in this train (R357) -/
  seekRounds : Nat := 0
  /-- words to wait before the next frame starts: the turnaround of R313 and R349 -/
  gap : Nat := 0
  /-- TSC of the last ABANDON (R306) -/
  abandT : Option Nat := none
  /-- TSC since which FLD has exceeded the planned field by more than 6 dB (R309) -/
  overT : Option Nat := none
  /-- power-on wait: TSC at which it ends (R312) -/
  powEnd : Option Nat := none
  /-- slots of the wake train still to come, the present one first (R313) -/
  slots : List WSlot := []
  /-- slots masked in this train (R314) -/
  masked : List WSlot := []
  /-- the masked slots are run again (R314) -/
  extra : Bool := false
  /-- TECH, V_MODE and AFI of HF_CONFIG taken at the start of the train (R337) -/
  tTech : Nat := 0x3F
  /-- V_MODE of the train -/
  tV : Nat := 1
  /-- AFI of the train -/
  tAfi : Nat := 0
  /-- Q_INIT of the train (R378) -/
  tQ : Nat := 0
  /-- wake trains completed without a card (R318) -/
  trains : Nat := 0
  /-- TSC of the last presence check of the zone's cards (R323) -/
  lastCheck : Nat := 0
  /-- TSC of the last PING round of the zone's accessories (R363, R374) -/
  lastPing : Nat := 0
deriving DecidableEq, Repr

/-- HF_CONFIG and the field threshold registers (R337, R340). -/
structure Hf where
  /-- framers of ZE0 to ZE23: ZEn_FR_CTL, ZEn_FR_TXLEN, ZEn_FR_WOPEN, ZEn_FR_WCLOSE, ZEn_FR_STAT, ZEn_FR_COLL, ZEn_FR_TEND, ZEn_MOD, ZEn_FR_CNT, ZEn_FLD, transmit buffer, receive buffers, wake train; R302 to R318, R339; reset of R339, buffers unwritten bytes 0 (DESIGN CHOICE, log entry 5) -/
  fr : Vector Framer 24 := Vector.replicate 24 {}
  /-- TECH; 6 bits; R337; reset 0x3F -/
  tech : Nat := 0x3F
  /-- MAXRATE; 8 bits; R337; reset 0x66 -/
  maxRate : Nat := 0x66
  /-- MAXRATE_F; 1 bit; R337; reset 1 -/
  maxRateF : Nat := 1
  /-- V_MODE; 2 bits; R337; reset 0x01 -/
  vMode : Nat := 1
  /-- POW_WAIT; 8 bits, 0.1 ms; R337; reset 50 -/
  powWait : Nat := 50
  /-- RETRY; 2 bits; R337; reset 2 -/
  retry : Nat := 2
  /-- AUTO_ACT; 2 bits; R337; reset 0x01 -/
  autoAct : Nat := 1
  /-- AFI; 8 bits; R337; reset 0x00 -/
  afi : Nat := 0
  /-- HF_FTH.RFLD_TH; 8 bits, 0.1 dB; R337, R340; reset 30 -/
  rfldTh : Nat := 30
  /-- HF_FTH.WFLD_TH; 8 bits, 0.1 dB; R337, R340; reset 60 -/
  wfldTh : Nat := 60
  /-- HF_FTH.KWADJ; 8 bits, 0.1 dB; R309, R340; reset 0x00 -/
  kwadj : Nat := 0
  /-- HF_FTH.WNOCAL; 1 bit; R310, R340; reset 0 -/
  wnocal : Bool := false
  /-- HF_FREF.FREF; 16 bits; R308, R340; reset 0x0000 -/
  fref : Nat := 0
deriving DecidableEq, Repr

/-- ACC_CONFIG (R378). -/
structure AccCfg where
  /-- EN; 1 bit; R378; reset 1 -/
  en : Bool := true
  /-- ORDER; 1 bit; R378; reset 0 -/
  order : Bool := false
  /-- Q_INIT; 3 bits; R378; reset 0 -/
  qInit : Nat := 0
  /-- PZ_MAX; 16 bits, mW; R378; reset 2,000 -/
  pzMax : Nat := 2000
  /-- RAMP_MS; 16 bits; R378; reset 200 -/
  rampMs : Nat := 200
  /-- KEEP_MS; 8 bits; R378; reset 20 -/
  keepMs : Nat := 20
deriving DecidableEq, Repr

end Sys2Proof.Machine
end

