-- ==== Sys2Proof/Machine/StHost.lean ====
section
/-! DEFINITION. State of the modes, the command protocol, the serial ports, the Event Router, the queues and the timers. -/

namespace Sys2Proof.Machine
open Sys2Proof

/-! Operating modes (chapter 02) -/

/-- The twelve modes (R46). -/
inductive Mode where
  | m0 | m1 | m2 | m3 | m4 | m5 | m6 | m7 | m8 | m9 | m10 | m11
deriving DecidableEq, Repr

/-- Work that a transition ends (R55, R60). -/
structure Ends where
  /-- zones and accessories -/
  surface : Bool := false
  /-- power delivery -/
  feed : Bool := false
  /-- inventory and room commands -/
  room : Bool := false
  /-- calibration and Kiln surveys -/
  cal : Bool := false
  /-- the test of M10 -/
  test : Bool := false
deriving DecidableEq, Repr

/-- A running transition or drain (R54, R60). -/
structure Trans where
  /-- tag of its SET_MODE, none for the other causes (R53) -/
  tag : Option (Fin 32) := none
  /-- CAUSE code of the entry it leads to (R74) -/
  cause : Nat := 0
  /-- TSC when the drain or the transition started (R53) -/
  start : Nat := 0
  /-- a drain is running and the transition has not started (R60) -/
  draining : Bool := false
  /-- TSC at which the drain limit is reached (R60) -/
  limit : Nat := 0
  /-- mode that is left (R46, R73) -/
  left : Mode := .m2
  /-- mode at which the chain stands (R54) -/
  at_ : Mode := .m4
  /-- modes still to be reached, the target last (R54) -/
  legs : List Mode := []
  /-- work that it ends (R55, R60, R61) -/
  ends : Ends := {}
  /-- STEEP_TO_FEED that takes effect with it (R57) -/
  stf : Bool := false
deriving DecidableEq, Repr

/-- The test of QUALIFY that runs in M10 (R79 to R83). -/
structure Qual where
  /-- TEST, 1 to 5 (R79) -/
  test : Nat := 0
  /-- the test runs until it is stopped (R79) -/
  hold : Bool := false
  /-- MOD100 (R79) -/
  mod100 : Bool := false
  /-- DURATION, ms (R79) -/
  duration : Nat := 0
  /-- FIRST (R79) -/
  first : Nat := 0
  /-- LAST (R79) -/
  last : Nat := 0
  /-- LEVEL (R79) -/
  level : Nat := 0
  /-- TECH (R79) -/
  tech : Nat := 0
  /-- RATE (R79) -/
  rate : Nat := 0
  /-- command not yet replied (R83) -/
  tag : Option (Fin 32) := none
  /-- limiter scale of the test's coil set, 1/256 (R80) -/
  scale : Nat := 256
  /-- TSC at its start -/
  start : Nat := 0
  /-- BCLK cycles of its ramp, for an HF test (R149) -/
  len : Nat := 0
  /-- DURATION has passed and a UHF test's carrier ramps down (R83) -/
  ended : Bool := false
deriving DecidableEq, Repr

/-- The mode registers and what stands behind them. -/
structure Modes where
  /-- MODE_STAT.CUR; 4 bits; R46, R73; reset 0x2 -/
  cur : Mode := .m2
  /-- MODE_STAT.PREV; 4 bits; R73; reset 0x0 -/
  prev : Mode := .m0
  /-- running transition or drain, from which MODE_STAT.BUSY and TGT follow; none or one; R63, R73; reset the boot, BUSY 1 and TGT 0x4 -/
  run : Option Trans := some { cause := 3, at_ := .m2, legs := [.m4] }
  /-- pending SET_MODE, MODE_STAT.PEND; none or a tag; R64, R73; reset none -/
  pending : Option (Fin 32) := none
  /-- MODE_STAT.BKP; 1 bit; R73; reset 0 -/
  bkp : Bool := false
  /-- MODE_STAT.STF; 1 bit; R73; reset 0 -/
  stf : Bool := false
  /-- MODE_STAT.SEQ; 8 bits; R73; reset 0x00 -/
  seq : BitVec 8 := 0
  /-- MODE_CAUSE.CAUSE; 8 bits; R74; reset 0x01 -/
  cause : Nat := 1
  /-- MODE_CAUSE.TAG; 8 bits; R74; reset 0x00 -/
  causeTag : Nat := 0
  /-- MODE_CAUSE.DURATION; 16 bits; R74; reset 0x0000 -/
  duration : Nat := 0
  /-- MODE_REFUSE.SUPERSEDED; 16 bits, saturating; R75; reset 0x0000 -/
  superseded : Nat := 0
  /-- MODE_REFUSE.REFUSED; 16 bits, saturating; R75; reset 0x0000 -/
  refused : Nat := 0
  /-- the test signal of M10; none or one; R79 to R83; reset none -/
  qual : Option Qual := none
  /-- HF test whose field still ramps off: the test, TSC of the start of the ramp and its BCLK cycles; none or one; R83, R149; reset none -/
  fading : Option (Qual × Nat × Nat) := none
  /-- Query commands that the running UHF_MOD or UHF_HOP test has sent; the last is followed by its empty-slot wait; a count; R81, R442; reset 0 -/
  testQ : Nat := 0
  /-- register service has started in M2 or in a wake; 1 bit; R550, R703; reset 0 -/
  regSvc : Bool := false
deriving DecidableEq, Repr

/-! Event Router (chapter 16) -/

/-- One source of the Event Router (R569, R586). -/
structure Src where
  /-- SENSE, 3 bits (R570) -/
  sense : Nat := 0
  /-- EN -/
  en : Bool := false
  /-- PEND -/
  pend : Bool := false
  /-- ACT -/
  act : Bool := false
  /-- the line as last sampled (R570) -/
  line : Bool := false
  /-- TARGET, 3 bits (R566) -/
  target : Nat := 4
  /-- SENDERS, 6 bits (R586) -/
  senders : Nat := 0
  /-- TSC when PEND was last set, for the fault of R601 -/
  since : Nat := 0
  /-- the fault of R601 has been raised for this PEND -/
  told : Bool := false
deriving DecidableEq, Repr

/-- The moderation window of a target (R576). -/
inductive ModWin where
  | closed
  | opened (since : Nat)
  | free
deriving DecidableEq, Repr

/-- One target of the Event Router (R585). -/
structure Target where
  /-- EVR_MOD.TIME, 10 bits -/
  time : Nat := 0
  /-- EVR_MOD.COUNT, 6 bits -/
  count : Nat := 1
  /-- EVR_STRAY_CNT.STRAY, 16 bits -/
  stray : Nat := 0
  /-- EVR_CNT.COAL, 16 bits -/
  coal : Nat := 0
  /-- EVR_CNT.DBERR, 16 bits -/
  dberr : Nat := 0
  /-- moderation window (R576) -/
  win : ModWin := .closed
  /-- TSC from which no source was pending or active; none while one is (R576) -/
  idleFrom : Option Nat := some 0
deriving DecidableEq, Repr

/-- Reset of the private sources of a zone core target (R579). -/
def zcPrivReset : Vector Src 32 := Vector.ofFn fun s =>
  if s.val < 12 then { en := true }
  else if s.val < 18 then {}
  else if s.val < 24 then { sense := 1 }
  else if s.val < 30 then {}
  else { en := true }

/-- Reset of the private sources of SC (R580). -/
def scPrivReset : Vector Src 32 := Vector.ofFn fun s =>
  if s.val < 14 then { en := true }
  else if s.val < 22 then {}
  else if s.val = 22 then { en := true }
  else if s.val < 31 then {}
  else { en := true }

/-- Reset of the shared sources 32 to 319 (R581, R582). -/
def sharedReset : Vector Src 288 := Vector.ofFn fun i =>
  let s := i.val + 32
  if s < 64 then {}
  else if s = 64 ∨ s = 65 then { en := true, target := 5 }
  else if s < 80 then { target := 5 }
  else { senders := 0x10 }

/-- The Event Router. -/
structure Evr where
  /-- private sources of targets ZC0 to ZC3 and SC; 5 x 32 sources; R567, R579, R580; reset R579, R580 -/
  priv : Vector (Vector Src 32) 5 := #v[zcPrivReset, zcPrivReset, zcPrivReset, zcPrivReset, scPrivReset]
  /-- shared sources 32 to 319; 288 sources; R567, R581, R582; reset R581, R582 -/
  shared : Vector Src 288 := sharedReset
  /-- the six targets' registers; EVR_MOD, EVR_STRAY_CNT, EVR_CNT, moderation window; R576, R585; reset TIME 0, COUNT 1, counters 0 -/
  targets : Vector Target 6 := Vector.replicate 6 {}
deriving DecidableEq, Repr

/-! Queues (chapter 16) -/

/-- One queue: EVQ, RSPQ or a capture queue (R588 to R598, R609). -/
structure Queue where
  /-- committed items, oldest first, each its words from the header on -/
  items : List (List Word) := []
  /-- the head item is open, with this many of its words read (R594) -/
  openAt : Option Nat := none
  /-- words of the partial item pushed so far (R591) -/
  part : List Word := []
  /-- words of the partial item still to come (R591) -/
  need : Nat := 0
  /-- words of a discarded or poisoned item that are dropped as they arrive (R592, R597) -/
  drop : Nat := 0
  /-- Qx_STAT.POISONED (R597) -/
  poisoned : Bool := false
  /-- a flushed EVQ item that leaves when the frame reading it ends (R597) -/
  flushOpen : Bool := false
  /-- Qx_STAT.WM (R606) -/
  wm : Bool := false
  /-- Qx_CTL.HI, 6 bits -/
  hi : Nat := 48
  /-- Qx_CTL.LO, 6 bits -/
  lo : Nat := 16
  /-- Qx_CNT.LOST, 16 bits -/
  lost : Nat := 0
  /-- Qx_CNT.POISON, 8 bits -/
  poison : Nat := 0
  /-- Qx_CNT.BADHDR, 8 bits -/
  badhdr : Nat := 0
deriving DecidableEq, Repr

/-- A capture queue's configuration and its samples run (R602, R603). -/
structure CqCfg where
  /-- MODE, 2 bits -/
  mode : Nat := 0
  /-- SCOUNT, 6 bits -/
  scount : Nat := 1
  /-- WMSRC, 1 bit -/
  wmsrc : Bool := false
  /-- items still to be captured in the samples run (R602) -/
  runLeft : Nat := 0
deriving DecidableEq, Repr

/-- The queues block. -/
structure Queues where
  /-- EVQ; 16 KiB, Qx_STAT, Qx_CTL, Qx_CNT; R588, R609; reset empty, HI 48, LO 32 -/
  evq : Queue := { lo := 32 }
  /-- RSPQ; 32 KiB; R588, R609; reset empty, HI 48, LO 16 -/
  rspq : Queue := {}
  /-- capture queues CQ0 to CQ23; 2 KiB each; R588, R609; reset empty, HI 48, LO 16 -/
  cq : Vector Queue 24 := Vector.replicate 24 {}
  /-- CQn_CFG and the samples run of each; MODE 2, SCOUNT 6, WMSRC 1 bits; R602, R609; reset 0, 1, 0 -/
  cfg : Vector CqCfg 24 := Vector.replicate 24 {}
  /-- EVQ loss count since the last event packet was read whole; R598; reset 0 -/
  loss : Nat := 0
  /-- loss count carried by the event packet now chosen; R598; reset 0 -/
  lossChosen : Nat := 0
  /-- Q_FCMAP.FC0_SEL; 4 bits; R607, R610; reset 1 -/
  fc0Sel : Nat := 1
  /-- Q_FCMAP.FC0_POL; 1 bit; R607, R610; reset 0 -/
  fc0Pol : Bool := false
  /-- Q_FCMAP.FC1_SEL; 4 bits; R607, R610; reset 2 -/
  fc1Sel : Nat := 2
  /-- Q_FCMAP.FC1_POL; 1 bit; R607, R610; reset 0 -/
  fc1Pol : Bool := false
  /-- boot has loaded Q_FCMAP; 1 bit; R607; reset 0 -/
  fcLoaded : Bool := false
  /-- levels that FC0 and FC1 hold while CORE is down; 1 bit each, true high; R607; reset low -/
  fcHold : Bool × Bool := (false, false)
  /-- Q_RSPGEN.GEN; 16 bits; R610; reset 0x0000 -/
  rspGen : Nat := 0
deriving DecidableEq, Repr

/-! Command protocol (chapter 14) -/

/-- What an accepted command is doing, as far as ABORT, deadlines and closes ask (R520, R530). -/
inductive Phase where
  | fresh        -- accepted, not yet carried out
  | turn         -- waits for its turn on an entry (R281)
  | zone         -- waits for a zone (R274 to R276)
  | aerial       -- waits for the aerial (R426 to R429)
  | modePending  -- the pending SET_MODE (R64)
  | modeRunning  -- a SET_MODE whose drain or transition has started (R66)
  | frames       -- exchanges frames with a card, an accessory or a tag
  | slots        -- runs an inventory pass or a seek round
  | ramp         -- ACC_POWER while ramping (R373)
  | coilSet      -- CALIBRATE or KILN_SURVEY works through coil sets or channels
  | query        -- CASK_READ waits for a QREPLY (R501)
  | holdTime     -- ECHO waits for its HOLD (R533)
  | test         -- QUALIFY has a test running (R83)
  | island       -- waits for the security island (R642)
  | flash        -- waits for flash operations, or a written policy for the end of a transition (R671)
  | aborting     -- ABORT waits for its targets (R531)
deriving DecidableEq, Repr

/-- A command in flight (R502, R509). -/
structure Cmd where
  /-- OPC -/
  opc : Nat := 0
  /-- BARRIER -/
  barrier : Bool := false
  /-- SILENT -/
  silent : Bool := false
  /-- DEADLINE in 0.1 ms, 0 none -/
  deadline : Nat := 0
  /-- TSC at acceptance -/
  accT : Nat := 0
  /-- place in the order of acceptance (R510) -/
  order : Nat := 0
  /-- bytes reserved in RSPQ (R513) -/
  resv : Nat := 0
  /-- PAYLOAD -/
  payload : List Byte := []
  /-- what it is doing -/
  phase : Phase := .fresh
  /-- a write frame has been sent and not acknowledged (R329, R334, R461) -/
  writeSent : Bool := false
  /-- ABORT or the deadline has asked it to stop at its stop point (R530, R331) -/
  stopReq : Bool := false
  /-- presence or room entry the command works on, by its index, 0xFFFF none -/
  entry : Nat := 0xFFFF
  /-- TSC at which it began to wait for a zone or the aerial (R276, R429) -/
  waitT : Nat := 0
  /-- bytes received or steps done so far, for the reply (R326, R461) -/
  got : List Byte := []
  /-- frames sent for the present exchange (R330) -/
  sent : Nat := 0
  /-- retries still allowed (R330) -/
  retries : Nat := 0
  /-- total of extended waiting asked for, in BCLK (R332) -/
  ext : Nat := 0
  /-- last failure of an exchange, a DETAIL code (R336) -/
  fail : Nat := 0
  /-- PHC at the end of the last frame received, 0 none (R325) -/
  rxPhc : Nat := 0
  /-- FLD at the last frame sent, none where not valid (R325) -/
  fldAt : Option Int := none
  /-- HDR of the accessory's last valid reply, 0 none (R366) -/
  rhdr : Nat := 0
  /-- words whose writes the tag has confirmed (R460) -/
  words : Nat := 0
  /-- power of the last reply of a tag, 0.1 dBm (R460) -/
  rssi : Int := 0
  /-- the key slot of a room command has been checked (R461 to R463) -/
  keyOk : Bool := false
  /-- deferral spent on the command, pu (R115) -/
  deferred : Nat := 0
  /-- PHC at which the placed exchange starts (R115) -/
  startAt : Option Word := none
deriving DecidableEq, Repr

/-- The state of a tag (R509): FREE, ACTIVE with its command, or DONE with the reservation of its reply and its status code. -/
inductive TagState where
  | free
  | active (c : Cmd)
  | done (resv st : Nat)
deriving DecidableEq, Repr

/-- An ABORT that waits for its targets (R531). -/
structure AbortRun where
  /-- tag of the ABORT -/
  tag : Fin 32
  /-- targets not yet completed -/
  targets : List (Fin 32) := []
  /-- TARGET byte of the command -/
  target : Nat := 0
  /-- COUNT so far (R528) -/
  count : Nat := 0
  /-- TSTATUS (R527) -/
  tstatus : Nat := 0xFF
deriving DecidableEq, Repr

/-- The command protocol. -/
structure Ncp where
  /-- the 32 tags; NCP_ACTIVE, NCP_DONE and the commands in flight; R509, R535; reset FREE -/
  tags : Vector TagState 32 := Vector.replicate 32 .free
  /-- place of the next command in the order of acceptance; R510; reset 0 -/
  nextOrder : Nat := 0
  /-- ABORT commands that wait for their targets; R531; reset none -/
  aborts : List AbortRun := []
  /-- NCP_RSPQ.REFFREE; 6 bits; R512, R535; reset 32 -/
  refFree : Nat := 32
  /-- NCP_CNT.BADPKT; 8 bits, saturating; R535; reset 0x00 -/
  badPkt : Nat := 0
  /-- NCP_CNT.FULL; 8 bits, saturating; R535; reset 0x00 -/
  full : Nat := 0
  /-- NCP_CNT.DROPPED; 8 bits, saturating; R512, R535; reset 0x00 -/
  dropped : Nat := 0
  /-- NCP_CNT.GUARD; 8 bits, saturating; R521, R535; reset 0x00 -/
  guard : Nat := 0
  /-- the last packet returned came from RSPQ; 1 bit; R508; reset 0 -/
  lastRsp : Bool := false
deriving DecidableEq, Repr

/-! Serial ports (chapter 15) -/

/-- The host serial port. -/
structure Hsp where
  /-- HSP_HCFG.ADDR; 4 bits; R554; reset 0x5 -/
  addr : Nat := 5
  /-- HSP_HCFG.DUMMY; 4 bits; R554; reset 2 -/
  dummy : Nat := 2
  /-- HSP_HCFG.DDR; 1 bit; R553, R554; reset 0 -/
  ddr : Bool := false
  /-- HSP_HSTAT.ERR; 1 bit, W1C; R543, R554; reset 0 -/
  err : Bool := false
  /-- HSP_HSTAT.LASTREJ; 3 bits; R543, R554; reset 0 -/
  lastRej : Nat := 0
  /-- re-read copy, HSP_HSTAT.RCOPY; none or a packet; R547; reset none -/
  copy : Option (List Byte) := none
  /-- HSP_HCNT.REJECT; 8 bits, saturating; R554; reset 0x00 -/
  reject : Nat := 0
  /-- HSP_HCNT.SHORT; 8 bits, saturating; R546, R554; reset 0x00 -/
  short : Nat := 0
  /-- HSP_HCNT.MISMATCH; 8 bits, saturating; R540, R554; reset 0x00 -/
  mismatch : Nat := 0
  /-- HSP_HCNT.WAKEDISC; 8 bits, saturating; R550, R554; reset 0x00 -/
  wakeDisc : Nat := 0
  /-- packet that a short read left at the head: true RSPQ, false EVQ; none or one bit; R546; reset none -/
  again : Option Bool := none
  /-- SPx_STAT.REJ of HSP; 1 bit, W1C; R543, R563; reset 0 -/
  rej : Bool := false
  /-- SPx_CNT.FRAMES of HSP; 16 bits, saturating; R563; reset 0x0000 -/
  frames : Nat := 0
  /-- SPx_CNT.ERRS of HSP; 16 bits, saturating; R563; reset 0x0000 -/
  errs : Nat := 0
  /-- MODEL'S OWN: bytes the device returned on HSP_DO in the last frame; reset none (DESIGN CHOICE, log entry 4) -/
  out : List Byte := []
  /-- MODEL'S OWN: edges of HSP_RS in the last frame, which holds it low outside DDR; R553; reset 0 (DESIGN CHOICE, log entry 4) -/
  rs : Nat := 0
deriving DecidableEq, Repr

/-- One transfer entry of MSP (R556). -/
structure MspEntry where
  /-- MSP_QIN0 -/
  q0 : Word := 0
  /-- TXADDR -/
  txAddr : Nat := 0
  /-- RXW -/
  rxw : Nat := 0
  /-- RXADDR -/
  rxAddr : Nat := 0
deriving DecidableEq, Repr

/-- One assertion of a select by MSP as master (R556, R557, R561). -/
structure MspBurst where
  /-- the select: 0 to 3 -/
  cs : Nat
  /-- words sent -/
  txw : Nat
  /-- idle SCK cycles between the phases -/
  dummy : Nat
  /-- words received -/
  rxw : Nat
  /-- time the select is asserted, FCLK cycles -/
  span : Nat
  /-- time it is deasserted after that at least, FCLK cycles -/
  gap : Nat
deriving DecidableEq, Repr

/-- One line of the execute-in-place cache (R561). -/
structure XLine where
  /-- line address in the window, in 32-byte lines -/
  tag : Nat
  /-- the 32 bytes -/
  data : List Byte
deriving DecidableEq, Repr

/-- A window miss in progress or waiting (R562). -/
structure XMiss where
  /-- core that reads: 0 SC, 1 to 4 ZC0 to ZC3 -/
  core : Fin 5
  /-- offset in the window -/
  off : Nat
  /-- the serial read has been issued -/
  issued : Bool
deriving DecidableEq, Repr

/-- The settings of SPx_CTL and SPx_WLEN of MSP (R563). -/
structure MspCtl where
  /-- MSEL -/
  msel : Bool := true
  /-- MODE3 -/
  mode3 : Bool := false
  /-- DIV_S -/
  divS : Nat := 9
  /-- DIV_D -/
  divD : Nat := 5
  /-- WLEN -/
  wlen : Nat := 8
deriving DecidableEq, Repr

/-- The memory serial port. -/
structure Msp where
  /-- SPx_CTL.MSEL, MODE3, DIV_S, DIV_D and SPx_WLEN.WLEN; 1, 1, 8, 8, 13 bits; R563; reset 1, 0, 9, 5, 8 -/
  ctl : MspCtl := {}
  /-- write of those fields held while BUSY is 1; none or one; R563; reset none -/
  held : Option MspCtl := none
  /-- SPx_CTL.CSGAP; 4 bits; R563; reset 2 -/
  csgap : Nat := 2
  /-- SPx_CTL.EN; 1 bit; R563; reset 0 -/
  en : Bool := false
  /-- an entry is in progress, SPx_STAT.BUSY; 1 bit; R563; reset 0 -/
  busy : Bool := false
  /-- SPx_STAT.REJ; 1 bit, W1C; R560, R563; reset 0 -/
  rej : Bool := false
  /-- SPx_STAT.RSERR; 1 bit, W1C; R558, R563; reset 0 -/
  rserr : Bool := false
  /-- SPx_STAT.OVF; 1 bit, W1C; R558, R563; reset 0 -/
  ovf : Bool := false
  /-- SPx_CNT.FRAMES; 16 bits, saturating; R563; reset 0x0000 -/
  frames : Nat := 0
  /-- SPx_CNT.ERRS; 16 bits, saturating; R563; reset 0x0000 -/
  errs : Nat := 0
  /-- MSP_QIN0 to MSP_QIN3; 32 bits each; R556; reset 0 -/
  qin : Vector Word 4 := Vector.replicate 4 0
  /-- transfer queue, head first; up to 16 entries; R556; reset empty -/
  queue : List MspEntry := []
  /-- MSP_QDONE.RXGOT; 16 bits; R559; reset 0x0000 -/
  rxGot : Nat := 0
  /-- MSP_QDONE.LASTERR; 3 bits; R559; reset 0 -/
  lastErr : Nat := 0
  /-- MSP_QDONE.DONE; 8 bits, saturating; R559; reset 0x00 -/
  done : Nat := 0
  /-- MSP_XCFG.EN; 1 bit; R563; reset 0 -/
  xen : Bool := false
  /-- MSP_XCFG.CS; 2 bits; R563; reset 0 -/
  xcs : Nat := 0
  /-- MSP_XCFG.A4; 1 bit; R563; reset 0 -/
  xa4 : Bool := false
  /-- MSP_XCFG.OPC; 8 bits; R563; reset 0x03 -/
  xopc : Nat := 3
  /-- MSP_XCFG.DUMMY; 5 bits; R563; reset 0 -/
  xdummy : Nat := 0
  /-- MSP_XCFG.DDR; 1 bit; R563; reset 0 -/
  xddr : Bool := false
  /-- MSP_XCTL.INVBUSY; 1 bit; R562; reset 0 -/
  invBusy : Bool := false
  /-- MSP_XCNT.MISS; 16 bits, saturating; R563; reset 0x0000 -/
  miss : Nat := 0
  /-- MSP_XCNT.BUSERR; 16 bits, saturating; R562, R563; reset 0x0000 -/
  busErr : Nat := 0
  /-- cache lines, most recently used first, at most 4 of a set; 64 KiB; R561; reset empty -/
  cache : List XLine := []
  /-- window reads that wait for a line, SPx_STAT.XBUSY; R562; reset none -/
  misses : List XMiss := []
  /-- assertions of the selects by the entry or the line read in progress, or last done; R557, R561; reset none -/
  run : List MspBurst := []
  /-- TSC at the start of that entry or line read; R555; reset 0 -/
  runT : Nat := 0
  /-- MODEL'S OWN: an entry that found the queue full, with the TSC of its push and OVF before it; reset none (R558, log entry 4) -/
  late : Option (MspEntry × Nat × Bool) := none
  /-- MODEL'S OWN: words of the last frame shifted out as slave or sent as master; reset none (DESIGN CHOICE, log entry 4) -/
  out : List Byte := []
deriving DecidableEq, Repr

/-! Timers (chapter 17) -/

/-- One general timer (R615, R625). -/
structure Gt where
  /-- CNT -/
  cnt : Word := 0
  /-- CMP -/
  cmp : Word := 0
  /-- PER, 31 bits -/
  per : Nat := 0
  /-- RUN -/
  run : Bool := false
  /-- CEN -/
  cen : Bool := false
  /-- PRE, 4 bits -/
  pre : Nat := 0
  /-- MODULE, 6 bits -/
  module : Nat := 0x3F
  /-- FIRED -/
  fired : Bool := false
  /-- MISS, 8 bits -/
  miss : Nat := 0
  /-- prescaler, counts from 0 to 2^PRE - 1 -/
  presc : Nat := 0
  /-- CNT written in the present cycle, which takes effect in the next (R615) -/
  load : Option Word := none
  /-- CMP and PER of a test that holds in the present cycle: the compare fires in it (R617) -/
  shot : Option (Word × Nat) := none
  /-- CMP has been written in the present cycle (R618) -/
  cmpSet : Bool := false
deriving DecidableEq, Repr

/-- One zone timer (R621, R626). -/
structure ZTimer where
  /-- CNT -/
  cnt : Word := 0
  /-- CMP -/
  cmp : Word := 0
  /-- RUN -/
  run : Bool := false
  /-- CEN -/
  cen : Bool := false
  /-- START, 2 bits -/
  start : Nat := 0
  /-- FIRED -/
  fired : Bool := false
  /-- the test of the compare holds in the present cycle (R621) -/
  shot : Bool := false
  /-- the event of START came in the present cycle: it wins over a write of CNT or RUN (R622) -/
  ev : Bool := false
deriving DecidableEq, Repr

/-- The timers block and the zone timer banks. -/
structure Timers where
  /-- TSC; 64 bits; R611; reset 0 -/
  tsc : BitVec 64 := 0
  /-- TSC_H latches of SC, ZC0 to ZC3 and HSP; 6 x 32 bits; R612; reset 0 -/
  latch : Vector Word 6 := Vector.replicate 6 0
  /-- TSC_STAT.GAP; 1 bit, W1C; R613, R625; reset 0 -/
  gap : Bool := false
  /-- TSC as AON recorded it; 64 bits; R613; reset 0 -/
  aonTsc : Nat := 0
  /-- LPCLK tick at which AON recorded it; R613; reset 0 -/
  aonLp : Nat := 0
  /-- fraction AON carries, in 1/32; 5 bits; R613; reset 0 -/
  aonFrac : Nat := 0
  /-- general timers GT0 to GT31; CNT 32, CMP 32, PER 31, RUN, CEN, PRE 4, MODULE 6, FIRED, MISS 8, prescaler 15 bits; R615, R625; reset 0, MODULE 0x3F -/
  gt : Vector Gt 32 := Vector.replicate 32 {}
  /-- zone timers ZEn_TM0 and ZEn_TM1; CNT 32, CMP 32, RUN, CEN, START 2, FIRED; R621, R626; reset 0 -/
  zt : Vector (Vector ZTimer 2) 24 := Vector.replicate 24 (Vector.replicate 2 {})
deriving DecidableEq, Repr

end Sys2Proof.Machine
end

