-- ==== Sys2Proof/Machine/StKey.lean ====
section
/-! DEFINITION. State of the security island and its key-store interface (chapter 18). -/

namespace Sys2Proof.Machine
open Sys2Proof

/-- State of a key slot (R631). -/
inductive SlotSt where
  | empty | loaded | exhausted
deriving DecidableEq, Repr

/-- A key slot (R631). -/
structure KSlot where
  /-- EMPTY, LOADED or EXHAUSTED -/
  st : SlotSt := .empty
  /-- KTYPE, 3 bits -/
  ktype : Nat := 0
  /-- USAGE, 16 bits -/
  usage : Nat := 0
  /-- BFLAGS, 2 bits -/
  bflags : Nat := 0
  /-- USES_LEFT, none unlimited -/
  uses : Option Nat := none
  /-- GRANT, 8 bits -/
  grant : Nat := 0
  /-- LABEL, 32 bits -/
  label : Nat := 0
  /-- the key, KLEN bytes -/
  key : List Nat := []
deriving DecidableEq, Repr

/-- Who asks the island (R642, R643). -/
inductive KSrc where
  /-- a request port, by the code that wrote GO -/
  | port (p : Fin 5) (m : Master)
  /-- an NCP command, through port 0 -/
  | ncp (tag : Fin 32)
deriving DecidableEq, Repr

/-- What is asked (R639, R647, R648, R651, R516, R462). -/
inductive KWhat where
  /-- an operation of R639 -/
  | op
  /-- KEY_LOAD -/
  | load
  /-- KEY_UNLOAD -/
  | unload
  /-- RANDOM -/
  | random
  /-- the slot check of ROOM_AUTH, or with KSLOT that of ROOM_ACCESS's password -/
  | tam
  /-- the password slot of ROOM_ACCESS -/
  | password
  /-- an opcode of 0xF0 to 0xFF, which is always refused (R516) -/
  | test
deriving DecidableEq, Repr

/-- A request to the island (R639, R650). -/
structure KReq where
  /-- who asks -/
  src : KSrc
  /-- what is asked -/
  what : KWhat
  /-- OP -/
  op : Nat := 0
  /-- KSLOT -/
  kslot : Nat := 0xFF
  /-- DSLOT -/
  dslot : Nat := 0xFF
  /-- FLAGS -/
  flags : Nat := 0
  /-- USAGE of a new key -/
  usage : Nat := 0
  /-- KTYPE of a new key -/
  ktype : Nat := 0
  /-- KLEN of a new key -/
  klen : Nat := 0
  /-- BFLAGS of a new key -/
  bflags : Nat := 0
  /-- USE_LIMIT of a new key -/
  limit : Nat := 0
  /-- GRANT of KEY_LOAD -/
  grant : Nat := 0
  /-- NONCE -/
  nonce : List Nat := []
  /-- AAD -/
  aad : List Nat := []
  /-- DATA, or the blob of KEY_LOAD -/
  data : List Nat := []
  /-- TAG -/
  tag : List Nat := []
  /-- N of RANDOM -/
  n : Nat := 0
  /-- KS_DST -/
  dst : Nat := 0
deriving DecidableEq, Repr

/-- The request in progress (R638, R642). -/
structure KRun where
  /-- the request -/
  req : KReq
  /-- TSC at which its processing started -/
  start : Nat
  /-- it is refused (R637) -/
  refused : Bool
deriving DecidableEq, Repr

/-- The registers of a request port (R653). -/
structure KsPort where
  /-- KS_CMD.OP -/
  op : Nat := 0
  /-- KS_CMD.KSLOT -/
  kslot : Nat := 0xFF
  /-- KS_CMD.DSLOT -/
  dslot : Nat := 0xFF
  /-- KS_CMD.FLAGS -/
  flags : Nat := 0
  /-- KS_ATTR, 27 bits -/
  attr : Nat := 0
  /-- KS_LIMIT.USE_LIMIT, 24 bits -/
  limit : Nat := 0
  /-- KS_SRC.ADDR -/
  src : Nat := 0
  /-- KS_DST.ADDR -/
  dst : Nat := 0
  /-- KS_LEN.DLEN -/
  dlen : Nat := 0
  /-- KS_LEN.ALEN -/
  alen : Nat := 0
  /-- KS_AUX.NLEN -/
  nlen : Nat := 0
  /-- KS_AUX.TLEN -/
  tlen : Nat := 0
  /-- KS_STAT.BUSY -/
  busy : Bool := false
  /-- KS_STAT.DONE, W1C -/
  done : Bool := false
  /-- KS_STAT.REFUSED, W1C -/
  refused : Bool := false
  /-- KS_STAT.RESULT -/
  result : Bool := false
  /-- KS_STAT.ERR, 2 bits -/
  err : Nat := 0
  /-- KS_STAT.OLEN, 13 bits -/
  olen : Nat := 0
  /-- KS_USES.USES_LEFT, 24 bits -/
  uses : Nat := 0
deriving DecidableEq, Repr

/-- The security island. -/
structure Island where
  /-- key slots KS0 to KS63, KS_SLOTs; state, KTYPE, KLEN, USAGE 16, BFLAGS, USES_LEFT 24, GRANT 8, LABEL 32 bits and the key; R631, R654; reset EMPTY -/
  slot : Vector KSlot 64 := Vector.replicate 64 {}
  /-- request ports 0 to 4; KS_CMD, KS_ATTR, KS_LIMIT, KS_SRC, KS_DST, KS_LEN, KS_AUX, KS_STAT, KS_USES; R653; reset R653 -/
  port : Vector KsPort 5 := Vector.replicate 5 {}
  /-- requests that wait, per port, first in first out; R642; reset none -/
  pend : Vector (List KReq) 5 := Vector.replicate 5 []
  /-- request in progress, KS_GSTAT.BUSY; none or one; R642, R644, R654; reset none -/
  cur : Option KRun := none
  /-- port served last; 3 bits; R642; reset 4 (the order begins at SC: DESIGN CHOICE, log entry 30) -/
  last : Fin 5 := 4
  /-- KS_GSTAT.ENT_OK; 1 bit; R641, R654; reset 0 -/
  entOk : Bool := false
  /-- TSC of the last retest of the entropy source; R641; reset 0 -/
  retestT : Nat := 0
  /-- DWK and DIK have been derived and the root cleared; 1 bit; R630; reset 0 -/
  derived : Bool := false
  /-- KS_GSTAT.HOLD; 1 bit; R644, R654; reset 0 -/
  hold : Bool := false
  /-- KS_GCNT.REFUSALS; 16 bits, saturating; R654; reset 0x0000 -/
  refusals : Nat := 0
  /-- KS_GCNT.HOLDS; 8 bits, saturating; R654; reset 0x00 -/
  holds : Nat := 0
  /-- KS_GCNT.ENTFAIL; 8 bits, saturating; R654; reset 0x00 -/
  entFail : Nat := 0
  /-- requests served by the random bit generator since its last seed; R641; reset 0 -/
  rbg : Nat := 0
  /-- IH of the fuses: programmed digest, KS_GSTAT.IHSET; none or 256 bits; R652, R719; reset none (fused: DESIGN CHOICE, log entry 31) -/
  ih : Option (List Nat) := none
deriving DecidableEq, Repr

end Sys2Proof.Machine
end

