-- ==== Sys2Proof/Machine/StKiln.lean ====
section
/-! DEFINITION. State of Kiln (chapter 20). -/

namespace Sys2Proof.Machine
open Sys2Proof

/-- What Kiln keeps of one coil (R682, R697). -/
structure KCoil where
  /-- BASE -/
  base : Bool := false
  /-- skipped at the last survey -/
  skipped : Bool := false
  /-- I_b, mA -/
  ib : Nat := 0
  /-- e_b, 1/2^20 cu per mA -/
  eb : Nat := 0
  /-- φ_b, 0.5° -/
  phb : Int := 0
  /-- on-resistance at the baseline, mΩ -/
  ronB : Nat := 0
  /-- on-resistance at the last survey, mΩ -/
  ronS : Nat := 0
  /-- hourly mean of the on-resistance, mΩ -/
  ron : Nat := 0
  /-- VDRV of the coil's Kettle at the baseline, 10 mV -/
  vb : Nat := 0
  /-- I_c of the last survey, scaled to `vb` -/
  ic : Nat := 0
  /-- L_D, 0.01 dB -/
  ld : Nat := 0
  /-- L_E, 0.01 dB -/
  le : Nat := 0
  /-- φ_c − φ_b, 0.5° -/
  ph : Int := 0
deriving DecidableEq, Repr

/-- A ring-oscillator pair (R679, R697). -/
structure KPair where
  /-- DEG_p, 0.01 % -/
  deg : Int := 0
  /-- a measurement has been taken -/
  valid : Bool := false
  /-- its domain was down at the last measurement (R678) -/
  stale : Bool := false
deriving DecidableEq, Repr

/-- One margin (R684, R692). -/
structure KMargin where
  /-- MARGIN, 0.1 %; none while UNKNOWN -/
  margin : Option Int := none
  /-- STATE -/
  state : Nat := 0
  /-- DAYS -/
  days : Nat := 0xFFFE
deriving DecidableEq, Repr

/-- A history entry (R689). -/
structure KHist where
  /-- Kiln day number -/
  day : Nat
  /-- the seven MARGIN values, none where UNKNOWN -/
  margins : List (Option Int)
deriving DecidableEq, Repr

/-- KILN_CFG (R699). -/
structure KilnCfg where
  /-- SURVEY_DAYS -/
  surveyDays : Nat := 90
  /-- WARN_DAYS -/
  warnDays : Nat := 180
  /-- FD_TGT -/
  fdTgt : Nat := 10
deriving DecidableEq, Repr

/-- Kiln. -/
structure Kiln where
  /-- KILN_CFG; 8, 10, 8 bits; R699; reset 90, 180, 10 -/
  cfg : KilnCfg := {}
  /-- KILN_STAT.SURVEY_DUE; 1 bit; R694, R699; reset 0 -/
  due : Bool := false
  /-- KILN_STAT.RECORD_OK; 1 bit; R699; reset 0 -/
  recordOk : Bool := false
  /-- history, oldest first; up to 60 entries; R689; reset empty -/
  hist : List KHist := []
  /-- KSEC at the last survey, from which SDAYS follows; none or 32 bits; R699; reset none (SDAYS 0xFFFF) -/
  surveyAt : Option Nat := none
  /-- the survey that has measured the pairs and the references; none or a TAG; R696; reset none -/
  measured : Option (Fin 32) := none
  /-- KILN_KSEC; 32 bits; R680, R699; reset 0x0000_0000 -/
  ksec : Nat := 0
  /-- part of a second of KSEC, in 1/32 BCLK cycle; R680; reset 0 -/
  frac : Nat := 0
  /-- KILN_EVT.STATE; 7 bits, W1C; R699; reset 0x00 -/
  evState : BitVec 7 := 0
  /-- KILN_EVT.LEVER; 1 bit, W1C; R699; reset 0 -/
  evLever : Bool := false
  /-- KILN_EVT.DUE; 1 bit, W1C; R699; reset 0 -/
  evDue : Bool := false
  /-- KA_FD; 8 bits; R687, R699; reset 0x00 -/
  kaFd : Nat := 0
  /-- KA_REF; 8 bits; R687; reset 0; none before the first reference measurement -/
  kaRef : Option Nat := none
  /-- the 48 ring-oscillator pairs; R679, R697; reset none measured -/
  pairs : Vector KPair 48 := Vector.replicate 48 {}
  /-- ΔREF_g of the 24 receive groups, 0.01 %; none before the first measurement; R679; reset none -/
  refs : Vector (Option Int) 24 := Vector.replicate 24 none
  /-- coils; Kiln baseline, last survey, L_D, L_E; 192 of them; R682; reset no baseline -/
  coil : Vector KCoil 192 := Vector.replicate 192 {}
  /-- margins 0 to 6, KILN_Mm and KILN_DAYSm; R684, R692, R699; reset UNKNOWN, DAYS 0xFFFE -/
  margin : Vector KMargin 7 := Vector.replicate 7 {}
  /-- KSEC of the last pair measurement; R679; reset 0 -/
  roAt : Nat := 0
  /-- KSEC of the last reference measurement; R679; reset 0 -/
  refAt : Nat := 0
  /-- KSEC of the last on-resistance average; R679; reset 0 -/
  ronAt : Nat := 0
  /-- KSEC since which GUARD_REQ has stayed 10 mV or more below GUARD; none or 32 bits; R685; reset none -/
  lowAt : Option Nat := none
  /-- KSEC of the last change of LAU_KADJ; none or 32 bits; R687; reset none -/
  kadjAt : Option Nat := none
  /-- Kiln day of the last day boundary; R689; reset 0 -/
  day : Nat := 0
  /-- listening time of the present day over all zones, in BCLK cycles; R681; reset 0 -/
  listen : Nat := 0
  /-- false detections of the present day over all zones; R681; reset 0 -/
  false_ : Nat := 0
  /-- a detection that no frame with valid checks has followed yet, per zone; 24 x 1 bit; R681; reset 0 -/
  open_ : Vector Bool 24 := Vector.replicate 24 false
  /-- listening time and false detections of the last days, oldest first, at most 7; R687; reset none -/
  days : List (Nat × Nat) := []
deriving DecidableEq, Repr

end Sys2Proof.Machine
end

