-- ==== Sys2Proof/Machine/StNvm.lean ====
section
/-! DEFINITION. State of the flash controller, the firmware slots, the extension modules, the records and boot (chapter 21). -/

namespace Sys2Proof.Machine
open Sys2Proof

/-- State of a firmware slot (R707). -/
inductive FwSlot where
  | empty | written | pending | trial | active | standby | failed
deriving DecidableEq, Repr

/-- State of an extension module (R715). -/
inductive ModSt where
  | absent | committed | loaded | running | stopped | faulted
deriving DecidableEq, Repr

/-- An extension module (R711, R715, R718). -/
structure Module where
  /-- state -/
  st : ModSt := .absent
  /-- first logical sector of its area -/
  sect : Nat := 0
  /-- number of its sectors -/
  nsect : Nat := 0
  /-- CMASK -/
  cmask : BitVec 4 := 0
  /-- ZMASK -/
  zmask : BitVec 24 := 0
  /-- TMASK -/
  tmask : BitVec 32 := 0
  /-- AUTOSTART -/
  auto : Bool := false
  /-- STOPS, stops under R36 since load -/
  stops : Nat := 0
  /-- partitions of the running instances: core, first address, bytes (R715) -/
  parts : List (Fin 4 × Nat × Nat) := []
deriving DecidableEq, Repr

/-- The integrator record (R711). -/
structure Integ where
  /-- TB_CFG -/
  tbCfg : TbCfg
  /-- TB_ZC -/
  tbZc : TbZc
  /-- RADIO_CONFIG section 1 -/
  chCfg : Vector ChCfg 64
  /-- RADIO_CONFIG section 2 -/
  ant : Vector AntCfg 8
  /-- RADIO_CONFIG section 3 -/
  txc : TxCfg
  /-- ACFG of section 3 -/
  acfg : Fin 8
  /-- RADIO_CONFIG section 4 -/
  coex : CoexCfg
  /-- MSP_XCFG: EN, CS, A4, OPC, DUMMY, DDR -/
  xcfg : Bool × Nat × Bool × Nat × Nat × Bool
  /-- SPx_CTL of MSP: MSEL, MODE3, DIV_S, DIV_D, CSGAP, EN -/
  ctl : MspCtl × Nat × Bool
  /-- POWER_POLICY: KEEP and the IDLE codes -/
  policy : Nat × Vector Nat 7
  /-- Q_FCMAP: FC0_SEL, FC0_POL, FC1_SEL, FC1_POL -/
  fcmap : Nat × Bool × Nat × Bool
  /-- KILN_CFG -/
  kilnCfg : KilnCfg
  /-- HF_FREF -/
  fref : Nat
deriving DecidableEq, Repr

/-- The Kiln record (R690). -/
structure KilnRec where
  /-- history -/
  hist : List KHist
  /-- the coils' Kiln baselines -/
  coil : Vector KCoil 192
  /-- KA_FD -/
  kaFd : Nat
  /-- GUARD -/
  guard : Nat
  /-- KSEC -/
  ksec : Nat
deriving DecidableEq, Repr

/-- Data of a record (R711). -/
inductive RecData where
  | layout (b : List Byte)
  | coils (c : Vector CoilCal 192)
  | uhf (p : Vector (Option (List Nat × Int)) 64)
  | integ (i : Integ)
  | kiln (k : KilnRec)
  | mods (m : Vector Module 63)
deriving DecidableEq, Repr

/-- A record type: SEQ and data of the valid record with the higher SEQ, and which of its two sectors holds it (R711). -/
structure Rec where
  /-- SEQ -/
  seq : Nat
  /-- it lies in the second sector of the type -/
  second : Bool
  /-- data -/
  data : RecData
  /-- its sector has been erased for a rewrite in place that has not ended (R713) -/
  lost : Bool := false
deriving DecidableEq, Repr

/-- An operation of the flash controller (R709, R712). -/
inductive FOp where
  | erase (sector : Nat)
  | prog (sector off : Nat) (data : List Byte)
deriving DecidableEq, Repr

/-- What an operation is part of, and what follows when the last one has ended. -/
inductive FWho where
  /-- IMAGE_WRITE of a tag, which may have completed meanwhile (R518, R716) -/
  | image (tag : Option (Fin 32))
  /-- a record of a type; the command that it completes, with its reply without SEQ (R711) -/
  | record (typ : Fin 6) (data : RecData) (tag : Option (Fin 32)) (reply : List Byte)
  /-- the erase of a spare after a program has failed (R713) -/
  | spare
deriving DecidableEq, Repr

/-- Work of the flash controller: its operations, the one that runs first. -/
structure FJob where
  /-- operations still to come -/
  ops : List FOp
  /-- what they are part of -/
  who : FWho
deriving DecidableEq, Repr

/-- A write session of IMAGE_WRITE (R716). -/
structure Session where
  /-- module, none for a firmware slot -/
  module : Option (Fin 63)
  /-- slot B -/
  slotB : Bool
  /-- NEXT -/
  next : Nat
  /-- 192 + BODY_LEN -/
  total : Nat
  /-- first logical sector of the target -/
  base : Nat
  /-- sectors of the image erased in the session, from 0 on -/
  erased : Nat
  /-- sectors erased by the command that runs -/
  count : Nat
deriving DecidableEq, Repr

/-- One FL_SECTs (R721). -/
structure Sector where
  /-- PHYS, 8 bits -/
  phys : Nat := 0
  /-- BAD -/
  bad : Bool := false
  /-- GROWTH, 16 bits -/
  growth : Nat := 1000
deriving DecidableEq, Repr

/-- A journal record (R709). -/
structure JRec where
  /-- TYPE: 1 ERASE_BEGIN, 2 ERASE_DONE, 3 RETIRE, 4 SLOT, 5 MODULE, 6 SNAPSHOT -/
  typ : Nat
  /-- ARG -/
  arg : Nat := 0
  /-- SECTOR -/
  sector : Nat := 0
  /-- JSEQ, filled in by the journal -/
  seq : Nat := 0
  /-- DATA -/
  data : Nat := 0
deriving DecidableEq, Repr

/-- Flash controller, slots, modules, records and boot. -/
structure Nvm where
  /-- fused digest KH0; 256 bits; R652; reset 0 (DESIGN CHOICE, log entry 40) -/
  kh0 : BitVec 256 := 0
  /-- fused digest KH1; 256 bits; R652; reset 0 (DESIGN CHOICE, log entry 40) -/
  kh1 : BitVec 256 := 0
  /-- KH0 revoked; 1 fuse; R652, R717; reset 0 (DESIGN CHOICE, log entry 40) -/
  kh0Rev : Bool := false
  /-- rollback counter of the firmware; 64 fuses; R706; reset 0 (DESIGN CHOICE, log entry 40) -/
  svnFw : Nat := 0
  /-- rollback counter of the modules; 32 fuses; R706; reset 0 (DESIGN CHOICE, log entry 40) -/
  svnMod : Nat := 0
  /-- fused baselines of the 48 ring-oscillator pairs, 0.01 %; R679; reset 0 (DESIGN CHOICE, log entry 40) -/
  pairBase : Vector Int 48 := Vector.replicate 48 0
  /-- fused values of the 24 reference monitors, in the monitor's steps; 24 x 16 bits; R679; reset 10,000 (DESIGN CHOICE, log entry 40) -/
  refBase : Vector Nat 24 := Vector.replicate 24 10000
  /-- fused first-erase times of physical sectors 0 to 255, µs; R679, R712; reset 20,000 (DESIGN CHOICE, log entry 40) -/
  eraseBase : Vector Nat 256 := Vector.replicate 256 20000
  /-- FL_SECTs: PHYS, BAD, GROWTH of logical sectors 0 to 247; 8, 1, 16 bits each; R709, R721; reset identity, 0, 1,000 (DESIGN CHOICE, log entry 40) -/
  sect : Vector Sector 248 := Vector.ofFn fun i => { phys := i.val }
  /-- free spares, lowest first, from which FL_STAT.SPARES follows; up to 8; R709, R713; reset 248 to 255 (DESIGN CHOICE, log entry 40) -/
  spares : List Nat := [248, 249, 250, 251, 252, 253, 254, 255]
  /-- state of slot A, BOOT_HSTAT.STATE_A; 3 bits; R707, R722; reset EMPTY (DESIGN CHOICE, log entry 40) -/
  slotA : FwSlot := .empty
  /-- state of slot B, BOOT_HSTAT.STATE_B; 3 bits; R707, R722; reset EMPTY (DESIGN CHOICE, log entry 40) -/
  slotB : FwSlot := .empty
  /-- the modules, numbers 0 to 62; R711, R715; reset ABSENT (DESIGN CHOICE, log entry 40) -/
  mods : Vector Module 63 := Vector.replicate 63 {}
  /-- the records of types 1 to 6; R711; reset none (DESIGN CHOICE, log entry 40) -/
  recs : Vector (Option Rec) 6 := Vector.replicate 6 none
  /-- active journal sector: 1 when it is logical sector 1; 1 bit; R709; reset 0 (DESIGN CHOICE, log entry 40) -/
  jOther : Bool := false
  /-- journal records in the active sector, oldest first; R709; reset none (DESIGN CHOICE, log entry 40) -/
  jrec : List JRec := []
  /-- journal records in the other sector, oldest first; R709; reset none (DESIGN CHOICE, log entry 40) -/
  jold : List JRec := []
  /-- JSEQ of the next journal record; 32 bits; R709; reset 0 (DESIGN CHOICE, log entry 40) -/
  jseq : Nat := 0
  /-- physical sector of an ERASE_BEGIN without its ERASE_DONE, with the logical sector; none or one; R709, R710; reset none (DESIGN CHOICE, log entry 40) -/
  begun : Option (Nat × Nat) := none
  /-- FL_EVT.RETIRED; 1 bit, W1C; R721; reset 0 -/
  evRetired : Bool := false
  /-- FL_EVT.RECOVERED; 1 bit, W1C; R721; reset 0 -/
  evRecovered : Bool := false
  /-- FL_EVT.SPARE_OUT; 1 bit, W1C; R721; reset 0 -/
  evSpareOut : Bool := false
  /-- FL_CNT.ERASEFAIL; 8 bits, saturating, RC; R721; reset 0x00 -/
  eraseFail : Nat := 0
  /-- FL_CNT.PROGFAIL; 8 bits, saturating, RC; R721; reset 0x00 -/
  progFail : Nat := 0
  /-- FL_CNT.RETIRED; 8 bits, saturating, RC; R721; reset 0x00 -/
  retired : Nat := 0
  /-- FL_CNT.RECOVERED; 8 bits, saturating, RC; R721; reset 0x00 -/
  recovered : Nat := 0
  /-- work of the controller, from which FL_STAT.BUSY, OP and SECTOR follow; R721; reset none -/
  jobs : List FJob := []
  /-- write session; none or one; R716; reset none -/
  sess : Option Session := none
  /-- boot has scanned the journal and loaded the fields whose Reset is cal; 1 bit; R13, R703; reset 0 -/
  scanned : Bool := false
  /-- BOOT_HSTAT.RSTCAUSE; 3 bits; R701, R722; reset 1 (power-on, R701) -/
  rstCause : Nat := 1
  /-- BOOT_HSTAT.SLOT, slot booted; 1 bit; R722; reset 0 (DESIGN CHOICE, log entry 40) -/
  bootedB : Bool := false
  /-- a firmware image runs; 1 bit; R703; reset 0 -/
  fwRuns : Bool := false
  /-- FW_HVER.VERSION; 32 bits; R722; reset 0x0000_0000 -/
  fwver : Nat := 0
  /-- BOOT_HSTAT.FAILCODE; 4 bits; R722; reset 0 -/
  failCode : Nat := 0
  /-- BOOT_HSTAT.MONITOR; 1 bit; R720, R722; reset 0 -/
  monitor : Bool := false
  /-- BOOT_HSTAT.FALLBACK; 1 bit; R708, R722; reset 0 -/
  fallback : Bool := false
deriving DecidableEq, Repr

end Sys2Proof.Machine
end

