-- ==== Sys2Proof/Machine/StPmu.lean ====
section
/-! DEFINITION. State of the power management unit and of the thermal monitor. -/

namespace Sys2Proof.Machine
open Sys2Proof

/-- PSTATE of a domain (R674). -/
inductive PState where
  | down | up | goingDown | waking
deriving DecidableEq, Repr

/-- State of a domain that the mode gives (R47, R674). -/
inductive MState where
  | off | on | idle | down | probe
deriving DecidableEq, Repr

/-- One power domain (R661, R674). -/
structure Dom where
  /-- PSTATE, 2 bits -/
  p : PState := .down
  /-- KEEP, 1 bit -/
  keep : Bool := false
  /-- IDLE code, 11 bits -/
  idle : Nat := 0
  /-- WAKES, 16 bits -/
  wakes : Nat := 0
  /-- SMAX, 16 bits, 0.1 µs -/
  smax : Nat := 0
  /-- a wake that starts when the power-down completes (R666) -/
  rewake : Bool := false
  /-- a power-down that starts when the wake completes (R666) -/
  redown : Bool := false
  /-- the idle time counted so far, in BCLK cycles (R663) -/
  count : Nat := 0
  /-- IDLE code of the running count (R670) -/
  lim : Nat := 0
  /-- TSC at which the present wake started (R668) -/
  since : Nat := 0
deriving DecidableEq, Repr

/-- The idle timer restarts, with the IDLE value of now (R663, R670). -/
def Dom.restart (m : Dom) : Dom := { m with count := 0, lim := m.idle }

/-- IDLE code of a domain after reset (R661, R670). -/
def idleReset (d : Nat) : Nat :=
  if d < 2 then 0
  else if d < 14 then 100
  else if d = 14 ∨ d = 15 then 1024 + 1
  else if d < 20 then 1024 + 2
  else if d < 48 then 1024 + 1
  else 1024 + 5

/-- Domains at reset: AON, CORE, MEM0 to MEM11 and SEC powered, the others down (R47 for M2, R675). -/
def domReset : Vector Dom 49 := Vector.ofFn fun d => { p := if d.val < 15 then .up else .down, idle := idleReset d.val, lim := idleReset d.val }

/-- Where boot stands (R657, R703). -/
inductive BootStage where
  | off        -- no boot runs
  | held       -- SYSRST_N holds the device at the start of M2 (R755)
  | waitVio    -- boot waits for VIO to lie in a class (R657)
  | running    -- an image has been selected and boot goes on
  | failed     -- no image verified
deriving DecidableEq, Repr

/-- A written POWER_POLICY held until a transition completes (R671). -/
structure PolicyHold where
  /-- tag of the command -/
  tag : Fin 32
deriving DecidableEq, Repr

/-- The power management unit. -/
structure Pmu where
  /-- PMU_STAT.VMAIN_OK; 1 bit; R673; reset 0 -/
  vmainOk : Bool := false
  /-- PMU_STAT.VBKP_OK; 1 bit; R659, R673; reset 0 -/
  vbkpOk : Bool := false
  /-- PMU_STAT.VIO33; 1 bit; R657, R673; reset 0 -/
  vio33 : Bool := false
  /-- PMU_STAT.BKP_LOW; 1 bit; R659, R673; reset 0 -/
  bkpLow : Bool := false
  /-- PMU_STAT.RCOUNT; 1 bit; R673; reset 0 -/
  rcount : Bool := false
  /-- PMU_VMON.VMAIN; 12 bits, 10 mV; R673; reset 0x000 -/
  vmainMon : Nat := 0
  /-- PMU_VMON.VBKP; 10 bits, 10 mV; R673; reset 0x000 -/
  vbkpMon : Nat := 0
  /-- PMU_VMON.VIO; 10 bits, 10 mV; R673; reset 0x000 -/
  vioMon : Nat := 0
  /-- PMU_EVT.BKP_LOW; 1 bit, W1C; R673; reset 0 -/
  evBkpLow : Bool := false
  /-- PMU_EVT.BKP_OK; 1 bit, W1C; R673; reset 0 -/
  evBkpOk : Bool := false
  /-- PMU_EVT.WAKEFAIL; 1 bit, W1C; R668, R673; reset 0 -/
  evWakeFail : Bool := false
  /-- PMU_EVT.RETURN; 1 bit, W1C; R673; reset 0 -/
  evReturn : Bool := false
  /-- PMU_CNT.SWITCH; 8 bits, saturating; R673; reset 0x00 -/
  cntSwitch : Nat := 0
  /-- PMU_CNT.RESTART; 8 bits, saturating; R673; reset 0x00 -/
  cntRestart : Nat := 0
  /-- PMU_CNT.WAKEFAIL; 8 bits, saturating; R668, R673; reset 0x00 -/
  cntWakeFail : Nat := 0
  /-- PMU_CNT.SAG; 8 bits, saturating; R658, R673; reset 0x00 -/
  cntSag : Nat := 0
  /-- PMU_VCORE.VSET; 11 bits, mV; R673; reset 0 (R13, "cal") -/
  vset : Nat := 0
  /-- PMU_VCORE.GUARD; 8 bits, mV; R669, R673; reset 0x00 -/
  guard : Nat := 0
  /-- guardband the rails have reached, mV; 8 bits; R669; reset 0 -/
  railGuard : Nat := 0
  /-- power domains 0 to 48; PSTATE 2, KEEP, IDLE 11, WAKES 16, SMAX 16 bits, idle timer and wake time; R661, R663, R674; reset PSTATE UP for 0 to 14 (R47, R675), DOWN for the others, IDLE of R661, others 0 -/
  dom : Vector Dom 49 := domReset
  /-- POWER_POLICY has been written since power-on reset or SYSRST_N, so that boot does not load another; 1 bit; R670, R701; reset 0 -/
  policySet : Bool := false
  /-- KEEP of POWER_POLICY; 7 bits; R670; reset 0x00 -/
  keep : Nat := 0
  /-- IDLE of the seven classes; 7 x 11 bits; R670; reset of R661 -/
  classIdle : Vector Nat 7 := #v[100, 1025, 1025, 1026, 1025, 1025, 1029]
  /-- POWER_POLICY commands held while a transition runs; R671; reset none -/
  held : List PolicyHold := []
  /-- POWER_POLICY commands whose reply waits for the power-ups that their KEEP bits cause; R671; reset none -/
  keepWait : List (Fin 32) := []
  /-- TSC of the last step of the rails; 64 bits; R669; reset 0 -/
  railT : Nat := 0
  /-- stage of boot; R657, R703; reset boot waits for VIO -/
  boot : BootStage := .waitVio
  /-- LPCLK ticks since AON was powered, of which STP_DETT takes 32 bits; R613, R400; reset 0 -/
  lp : Nat := 0
  /-- part of an LPCLK tick gone by while BCLK runs, in 1/32 BCLK cycle; R613; reset 0 -/
  lpFrac : Nat := 0
  /-- LPCLK runs from the crystal; 1 bit; R757; reset 0 -/
  lpx : Bool := false
  /-- M1 has been reached since the switch-over, so that the return count may run; 1 bit; R71; reset 0 -/
  inHold : Bool := false
deriving DecidableEq, Repr

/-- The thermal monitor (R737, R741). -/
structure Thermal where
  /-- TH_STAT.TEMP; 8 bits, °C; R741; reset 0x00 -/
  temp : Int := 0
  /-- TH_STAT.HOT; 1 bit; R741; reset 0 -/
  hot : Bool := false
  /-- TH_STAT.SHUT; 1 bit; R741; reset 0 -/
  shut : Bool := false
  /-- TH_STAT.HOTEV; 1 bit, W1C; R741; reset 0 -/
  hotEv : Bool := false
  /-- TH_STAT.SHUTEV; 1 bit, W1C; R741; reset 0 -/
  shutEv : Bool := false
  /-- TH_STAT.PEAK; 8 bits, °C; R741; reset 0x80 -/
  peak : Int := -128
  /-- the last measurement was 125 °C or more; 1 bit; R737; reset 0 -/
  over125 : Bool := false
  /-- the last measurement was 140 °C or more; 1 bit; R737; reset 0 -/
  over140 : Bool := false
deriving DecidableEq, Repr

end Sys2Proof.Machine
end

