-- ==== Sys2Proof/Machine/StRoom.lean ====
section
/-! DEFINITION. State of the room inventory and the room table (chapter 12). -/

namespace Sys2Proof.Machine
open Sys2Proof

/-- One entry of the room table (R452). -/
structure REntry where
  /-- FLAGS.DIR -/
  dir : Bool := false
  /-- FLAGS.AUTH -/
  auth : Bool := false
  /-- FLAGS.AUTH_FAIL -/
  authFail : Bool := false
  /-- the whole EPC as received, EPC_LEN bytes -/
  epc : List Byte := []
  /-- PC -/
  pc : Nat := 0
  /-- CHAN -/
  chan : Nat := 0
  /-- ACFG -/
  acfg : Nat := 0
  /-- RSSI, 0.1 dBm -/
  rssi : Int := 0
  /-- AZ, 0.1° -/
  az : Nat := 0x7FFF
  /-- DQ -/
  dq : Nat := 0
  /-- READS -/
  reads : Nat := 0
  /-- LAST_PHC -/
  lastPhc : Word := 0
  /-- GEN_CHG -/
  genChg : Word := 0
  /-- estimates of the last 4 reads, latest first; none is not valid (R450) -/
  ests : List (Option Nat) := []
  /-- AZ at the last NEW or MOVED event (R455) -/
  movedAz : Option Nat := none
  /-- TSC of the last read (R454) -/
  lastT : Nat := 0
deriving DecidableEq, Repr

/-- A read of a tag that waits for the room update step (R445, R450, R453). -/
structure RRead where
  /-- PC -/
  pc : Nat
  /-- EPC -/
  epc : List Byte
  /-- channel -/
  chan : Nat
  /-- antenna configuration -/
  acfg : Nat
  /-- reply power at the strongest chain -/
  rssi : Int
  /-- estimate, none where it is not valid -/
  est : Option Nat
  /-- DQ -/
  dq : Nat
  /-- PHC at the end of the read -/
  phc : Word
  /-- TSC at the end of the read -/
  t : Nat
deriving DecidableEq, Repr

/-- A read or a result that waits for the room update step (R453). -/
inductive RPend where
  | read (r : RRead)
  | auth (index reuse : Nat) (pass : Bool) (phc : Word)
  | clear (tag : Option (Fin 32)) (phc : Word)
deriving DecidableEq, Repr

/-- The parameters of an inventory (R457). -/
structure InvPar where
  /-- PROFILE -/
  profile : Nat := 0
  /-- SESSION -/
  session : Nat := 0
  /-- TARGET: 0 A, 1 B, 2 AB -/
  target : Nat := 0
  /-- SEL of Query -/
  sel : Nat := 0
  /-- Q_INIT -/
  qInit : Nat := 0
  /-- the SELECT byte -/
  select : Nat := 0
  /-- MASKLEN -/
  maskLen : Nat := 0
  /-- POINTER -/
  pointer : Nat := 0
  /-- MASK -/
  mask : List Byte := []
deriving DecidableEq, Repr

/-- A ONCE under way (R446, R458). -/
structure OnceRun where
  /-- tag of the command -/
  tag : Fin 32
  /-- entries created -/
  new : Nat := 0
  /-- reads made -/
  reads : Nat := 0
  /-- TSC at acceptance -/
  start : Nat := 0
  /-- MAX_MS -/
  maxMs : Nat := 0
deriving DecidableEq, Repr

/-- The array description of an antenna configuration (R449, R459). -/
structure ArrCfg where
  /-- ARRAY -/
  kind : Nat := 0
  /-- SPACING, 0.1 mm -/
  d : Nat := 1500
  /-- PH_OFF1 to PH_OFF3, 0.1° -/
  ph : Vector Int 3 := Vector.replicate 3 0
  /-- AZ_REF, 0.1° -/
  ref : Nat := 0
deriving DecidableEq, Repr

/-- ROOM_CONFIG (R459). -/
structure RoomCfg where
  /-- AGE_S -/
  age : Nat := 30
  /-- C, tenths -/
  c : Nat := 3
  /-- MOVE_DEG -/
  move : Nat := 15
  /-- array descriptions -/
  arr : Vector ArrCfg 8 := Vector.replicate 8 {}
deriving DecidableEq, Repr

/-- A command that the room radio sends to tags (R439). -/
inductive AirCmd where
  | select (action target bank pointer len : Nat) (mask : List Byte)
  | query (profile sel session : Nat) (tgtB : Bool) (q : Nat)
  | queryRep (session : Nat)
  | queryAdjust (session : Nat) (step : Int)
  | ack (rn : Nat)
  | nak
  | reqRn (rn : Nat)
  /-- half of the access password, cover-coded -/
  | access (half handle : Nat)
  | read (bank pointer count handle : Nat)
  /-- a word, cover-coded -/
  | write (bank pointer word handle : Nat)
  | lock (payload handle : Nat)
  /-- TAM1 of ISO/IEC 29167-10 -/
  | authenticate (keyId : Nat) (challenge : List Byte) (handle : Nat)
deriving DecidableEq, Repr

/-- What an access waits for (R461, R462). -/
inductive AccStage where
  /-- the radio -/
  | start
  /-- the RN16 after Select and Query -/
  | rn16
  /-- PC and EPC after ACK -/
  | epc
  /-- the handle after Req_RN -/
  | handle
  /-- the random number that covers a half of the password -/
  | pwRn (second : Bool)
  /-- the answer to Access with a half of the password -/
  | pw (second : Bool)
  /-- the random number that covers a word -/
  | opRn
  /-- the answer to Read, Write, Lock or Authenticate -/
  | op
deriving DecidableEq, Repr

/-- The access that has the radio (R461, R462). -/
structure AccRun where
  /-- stage -/
  stage : AccStage := .start
  /-- EPC of the entry -/
  epc : List Byte := []
  /-- RN16 of the singulation, 16 bits -/
  rn : Nat := 0
  /-- handle, 16 bits -/
  handle : Nat := 0
  /-- challenge of TAM1, 80 bits -/
  chall : List Byte := []
deriving DecidableEq, Repr

/-- The room inventory. -/
structure Room where
  /-- RT_GEN.GEN, RGEN; 32 bits; R453, R467; reset 0x0000_0000 -/
  gen : Word := 0
  /-- room table, by index from 0 to 4,095, rising; RT_CNT.ENTRIES; R451, R452, R467; reset empty -/
  table : List (Nat × REntry) := []
  /-- reuse counts of the indices whose count is not 0, by index, rising; 4 bits each; R451; reset none -/
  reuse : List (Nat × Nat) := []
  /-- RT_CNT.FULL; 1 bit; R454, R467; reset 0 -/
  full : Bool := false
  /-- reads and results that wait for the step, in order of arrival; R453; reset none -/
  pend : List RPend := []
  /-- TSC of the last room update step; R453; reset 0 -/
  stepT : Nat := 0
  /-- the last update step was one of the room table; 1 bit; R456; reset 0 -/
  lastRoom : Bool := false
  /-- ROOM_CONFIG; AGE_S 12, C 3, MOVE_DEG 7 bits and 8 array descriptions; R459; reset 30, 3, 15, ARRAY 0, SPACING 1,500, others 0 -/
  cfg : RoomCfg := {}
  /-- ROOM_CONFIG in effect in the present round; R459; reset as cfg -/
  act : RoomCfg := {}
  /-- inventory requested, with its parameters; none or one; R458; reset none -/
  inv : Option InvPar := none
  /-- parameters that a RUN has replaced, taken at the next round; none or one; R458; reset none -/
  next : Option InvPar := none
  /-- ONCE under way; none or one; R458; reset none -/
  once : Option OnceRun := none
  /-- RUN commands that wait for the first Query; R458; reset none -/
  runTags : List (Fin 32) := []
  /-- STOP commands that wait for the slot boundary; R458; reset none -/
  stopTags : List (Fin 32) := []
  /-- a slot of a round is under way; 1 bit; R444; reset 0 -/
  slot : Bool := false
  /-- TSC at the start of that slot; R447; reset 0 -/
  slotT : Nat := 0
  /-- TSC at the end of the command that began the slot; R442; reset 0 -/
  cmdEnd : Nat := 0
  /-- commands sent to tags since the last reply; R439, R443, R445, R461; reset none -/
  air : List AirCmd := []
  /-- stage, EPC, RN16, handle and challenge of the access that has the radio; R461, R462; reset start, none, 0, 0, none -/
  acc : AccRun := {}
  /-- a Select goes before the next Query; 1 bit; R443; reset 0 -/
  needSel : Bool := false
  /-- the round queries target B; 1 bit; R443; reset 0 -/
  tgtB : Bool := false
  /-- targets queried in this pass, A and B; 2 bits; R446; reset 0 -/
  doneA : Bool := false
  /-- target B has been queried in this pass -/
  doneB : Bool := false
  /-- Qfp in tenths; R444; reset 0 -/
  qfp : Nat := 0
  /-- Q; 4 bits; R444; reset 0 -/
  q : Nat := 0
  /-- slots of the round still to come, the present one included; R444; reset 0 -/
  left : Nat := 0
  /-- a slot of the round had a reply; 1 bit; R446; reset 0 -/
  replied : Bool := false
  /-- access or authentication that has the radio, RT_CNT.ACCESS; none or a tag; R461, R467; reset none -/
  access : Option (Fin 32) := none
  /-- TSC of the reads of the last second, latest first, RT_CNT.RATE; R467; reset none -/
  recent : List Nat := []
deriving DecidableEq, Repr

end Sys2Proof.Machine
end

