-- ==== Sys2Proof/Machine/StSteep.lean ====
section
/-! DEFINITION. State of the Steep controller (chapter 10). -/

namespace Sys2Proof.Machine
open Sys2Proof

/-- State of a coil in Steep (R388). -/
inductive StpState where
  | off | learn | armed | occ | unstable
deriving DecidableEq, Repr

/-- One coil of the Steep table (R390, R400). -/
structure StpC where
  /-- STATE -/
  state : StpState := .off
  /-- PRESENT, from the layout table (R387) -/
  present : Bool := false
  /-- NB0 to NB5 (R387) -/
  nb : List (Fin 192) := []
  /-- TRIM, 32 where COIL_CALn.VALID is 0 (R387) -/
  trim : Nat := 32
  /-- the coil is in FAULT (R387) -/
  fault : Bool := false
  /-- the coil is LATCHED (R387) -/
  latched : Bool := false
  /-- it has a baseline (R389) -/
  hasB : Bool := false
  /-- BA, 10 bits -/
  ba : Nat := 0
  /-- BP, 6 bits -/
  bp : Nat := 0
  /-- SA, 10 bits -/
  sa : Nat := 0
  /-- SP, 6 bits -/
  sp : Nat := 0
  /-- occupied reference, amplitude and phase -/
  ref : Nat × Nat := (0, 0)
  /-- LCOUNT, 5 bits -/
  lcount : Nat := 0
  /-- restarts of the count (R390) -/
  restarts : Nat := 0
  /-- sum of the amplitude samples since the restart -/
  sumA : Nat := 0
  /-- first phase sample since the restart -/
  p0 : Nat := 0
  /-- sum of the later phase samples' differences from it -/
  sumP : Int := 0
deriving DecidableEq, Repr

/-- What Steep does (STP_STAT.STATE, R400). -/
inductive StpStage where
  | stopped | waiting | sweep | confirm | handover
deriving DecidableEq, Repr

/-- STP_CFG0 and STP_CFG1 (R399, R400). -/
structure StpCfg where
  /-- SWEEP -/
  sweep : Nat := 25
  /-- BURST -/
  burst : Nat := 8
  /-- AMP -/
  amp : Nat := 12
  /-- TH_A -/
  thA : Nat := 24
  /-- TH_P -/
  thP : Nat := 3
  /-- LEARN -/
  learn : Nat := 8
  /-- MASS -/
  mass : Nat := 48
  /-- CONF_MS -/
  confMs : Nat := 2
  /-- DRIFT -/
  drift : Nat := 6
deriving DecidableEq, Repr

/-- The Steep controller. -/
structure Steep where
  /-- STP_CFG0 and STP_CFG1; SWEEP 8, BURST 6, AMP 6, TH_A 8, TH_P 4, LEARN 4, MASS 8, CONF_MS 4, DRIFT 3 bits; R399, R400; reset 25, 8, 12, 24, 3, 8, 48, 2, 6 -/
  cfg : StpCfg := {}
  /-- STP_STAT.STATE; 3 bits; R400; reset 0 -/
  stage : StpStage := .stopped
  /-- coils of the retained table: STP_Cn and the occupied references; R387, R388, R400; reset not by SYSRST_N, 0 after M0 -/
  coil : Vector StpC 192 := Vector.replicate 192 {}
  /-- the next sweep is the entry sweep; 1 bit; R389; reset 0 -/
  entry : Bool := false
  /-- LPCLK tick at which the next sweep starts; R386; reset 0 -/
  nextAt : Nat := 0
  /-- coils that triggered and the LPCLK tick at which their sweep ended; none or one; R392; reset none -/
  trig : Option (List (Fin 192) × Nat) := none
  /-- STP_CNT.TRIG; 8 bits, saturating; R400; reset 0x00 -/
  cntTrig : Nat := 0
  /-- STP_CNT.FALSE; 8 bits, saturating; R393, R400; reset 0x00 -/
  cntFalse : Nat := 0
  /-- STP_CNT.MASSEV; 8 bits, saturating; R392, R400; reset 0x00 -/
  cntMass : Nat := 0
  /-- STP_CNT.DISC; 8 bits, saturating; R395, R400; reset 0x00 -/
  cntDisc : Nat := 0
  /-- STP_SWEEPS.SWEEPS; 24 bits, wrapping; R400; reset 0 -/
  sweeps : Nat := 0
  /-- STP_SWEEPS.SKIP; 8 bits, saturating; R386, R400; reset 0x00 -/
  skip : Nat := 0
  /-- STP_DET.COIL; 8 bits; R394, R400; reset 0xFF -/
  detCoil : Nat := 0xFF
  /-- STP_DET.NCONF; 8 bits; R393, R400; reset 0x00 -/
  nconf : Nat := 0
  /-- STP_DET.VALID; 1 bit, W1C; R394, R400; reset 0 -/
  valid : Bool := false
  /-- STP_DET.DISC; 1 bit, W1C; R395, R400; reset 0 -/
  disc : Bool := false
  /-- STP_DETT.TICKS; 32 bits; R394, R400; reset 0 -/
  ticks : Word := 0
  /-- schedule of the stay in M3: coils with their slots, in slot order; R385; reset empty -/
  sched : List (Nat × Fin 192) := []
  /-- LPCLK tick at which the sweep or confirmation sweep under way started; R385; reset 0 -/
  startAt : Nat := 0
  /-- STP_SCHED.SLOTS; 8 bits; R385, R400; reset 48 -/
  slots : Nat := 48
deriving DecidableEq, Repr

end Sys2Proof.Machine
end

