-- ==== Sys2Proof/Machine/State.lean ====
section
/-! DEFINITION. The state of the device, the reasons a step can stop, and the state after reset. -/

namespace Sys2Proof.Machine
open Sys2Proof

/-- Everything the manual gives the device but its byte memories: one part per chapter. -/
structure Dev where
  mode : Modes := {}
  tb : Tb := {}
  drv : Drive := {}
  tx : Vector ZoneTx 24 := Vector.replicate 24 {}
  rx : Rx := {}
  lau : Lauter := {}
  prb : Probe := {}
  sf : Surface := {}
  hf : Hf := {}
  acc : AccCfg := {}
  stp : Steep := {}
  uhf : Uhf := {}
  key : Island := {}
  room : Room := {}
  cask : Cask := {}
  cl : CaskLink := {}
  nvm : Nvm := {}
  kiln : Kiln := {}
  ncp : Ncp := {}
  hsp : Hsp := {}
  msp : Msp := {}
  evr : Evr := {}
  qs : Queues := {}
  tim : Timers := {}
  pmu : Pmu := {}
  th : Thermal := {}
  pin : Pins := {}
  bus : Bus := {}
  cyc : Cyc := {}
deriving DecidableEq, Repr

/-- The state of the model. -/
structure State where
  /-- the device -/
  dev : Dev := {}
  /-- SRAM, 6 MiB at 0x1000_0000 (R34): listed bytes by address, rising, none of them 0 -/
  sram : List Host.Cell := []
  /-- flash, 2 MiB, by physical address (R34, R709): listed bytes by address, rising, none of them 0xFF -/
  flash : List Host.Cell := []
  /-- MODEL'S OWN: commands that wait, first in, first out -/
  pending : List Instr := []
deriving DecidableEq, Repr

/-- Reasons a step stops with a fault. No rule of the manual stops the device, so no command raises one. -/
inductive Fault where
  /-- Raised by no command: whatever the manual calls an error is an effect on the state. Safe. -/
  | none
deriving DecidableEq, Repr

/-- Reasons a step is refused. -/
inductive Refusal where
  /-- A command without a meaning, raised by `exec` for an arm that names it. Safe: the model stops where the device goes on. -/
  | notModelled (mnemonic : String)
deriving DecidableEq, Repr

/-- The machine right after power-on reset, as boot starts in M2 (R46, R73, R701): every field at the value its part names. -/
def State.reset : State := {}

/-- What a command answers. -/
abbrev Out := Host.Outcome State Fault Refusal

end Sys2Proof.Machine
end

