-- ==== Sys2Proof/Machine/Update.lean ====
section
/-! DEFINITION. Change of one part of the device, the other parts as they are. -/

namespace Sys2Proof.Machine
open Sys2Proof

/-- The device with its part `mode` changed by `f`. -/
def Dev.onMode (d : Dev) (f : Modes → Modes) : Dev := { d with mode := f d.mode }

/-- The device with its part `tb` changed by `f`. -/
def Dev.onTb (d : Dev) (f : Tb → Tb) : Dev := { d with tb := f d.tb }

/-- The device with its part `drv` changed by `f`. -/
def Dev.onDrv (d : Dev) (f : Drive → Drive) : Dev := { d with drv := f d.drv }

/-- The device with its part `tx` changed by `f`. -/
def Dev.onTx (d : Dev) (f : Vector ZoneTx 24 → Vector ZoneTx 24) : Dev := { d with tx := f d.tx }

/-- The device with its part `rx` changed by `f`. -/
def Dev.onRx (d : Dev) (f : Rx → Rx) : Dev := { d with rx := f d.rx }

/-- The device with its part `lau` changed by `f`. -/
def Dev.onLau (d : Dev) (f : Lauter → Lauter) : Dev := { d with lau := f d.lau }

/-- The device with its part `prb` changed by `f`. -/
def Dev.onPrb (d : Dev) (f : Probe → Probe) : Dev := { d with prb := f d.prb }

/-- The device with its part `sf` changed by `f`. -/
def Dev.onSf (d : Dev) (f : Surface → Surface) : Dev := { d with sf := f d.sf }

/-- The device with its part `hf` changed by `f`. -/
def Dev.onHf (d : Dev) (f : Hf → Hf) : Dev := { d with hf := f d.hf }

/-- The device with its part `acc` changed by `f`. -/
def Dev.onAcc (d : Dev) (f : AccCfg → AccCfg) : Dev := { d with acc := f d.acc }

/-- The device with its part `stp` changed by `f`. -/
def Dev.onStp (d : Dev) (f : Steep → Steep) : Dev := { d with stp := f d.stp }

/-- The device with its part `uhf` changed by `f`. -/
def Dev.onUhf (d : Dev) (f : Uhf → Uhf) : Dev := { d with uhf := f d.uhf }

/-- The device with its part `key` changed by `f`. -/
def Dev.onKey (d : Dev) (f : Island → Island) : Dev := { d with key := f d.key }

/-- The device with its part `room` changed by `f`. -/
def Dev.onRoom (d : Dev) (f : Room → Room) : Dev := { d with room := f d.room }

/-- The device with its part `cask` changed by `f`. -/
def Dev.onCask (d : Dev) (f : Cask → Cask) : Dev := { d with cask := f d.cask }

/-- The device with its part `cl` changed by `f`. -/
def Dev.onCl (d : Dev) (f : CaskLink → CaskLink) : Dev := { d with cl := f d.cl }

/-- The device with its part `nvm` changed by `f`. -/
def Dev.onNvm (d : Dev) (f : Nvm → Nvm) : Dev := { d with nvm := f d.nvm }

/-- The device with its part `kiln` changed by `f`. -/
def Dev.onKiln (d : Dev) (f : Kiln → Kiln) : Dev := { d with kiln := f d.kiln }

/-- The device with its part `ncp` changed by `f`. -/
def Dev.onNcp (d : Dev) (f : Ncp → Ncp) : Dev := { d with ncp := f d.ncp }

/-- The device with its part `hsp` changed by `f`. -/
def Dev.onHsp (d : Dev) (f : Hsp → Hsp) : Dev := { d with hsp := f d.hsp }

/-- The device with its part `msp` changed by `f`. -/
def Dev.onMsp (d : Dev) (f : Msp → Msp) : Dev := { d with msp := f d.msp }

/-- The device with its part `evr` changed by `f`. -/
def Dev.onEvr (d : Dev) (f : Evr → Evr) : Dev := { d with evr := f d.evr }

/-- The device with its part `qs` changed by `f`. -/
def Dev.onQs (d : Dev) (f : Queues → Queues) : Dev := { d with qs := f d.qs }

/-- The device with its part `tim` changed by `f`. -/
def Dev.onTim (d : Dev) (f : Timers → Timers) : Dev := { d with tim := f d.tim }

/-- The device with its part `pmu` changed by `f`. -/
def Dev.onPmu (d : Dev) (f : Pmu → Pmu) : Dev := { d with pmu := f d.pmu }

/-- The device with its part `th` changed by `f`. -/
def Dev.onTh (d : Dev) (f : Thermal → Thermal) : Dev := { d with th := f d.th }

/-- The device with its part `pin` changed by `f`. -/
def Dev.onPin (d : Dev) (f : Pins → Pins) : Dev := { d with pin := f d.pin }

/-- The device with its part `bus` changed by `f`. -/
def Dev.onBus (d : Dev) (f : Bus → Bus) : Dev := { d with bus := f d.bus }

/-- The device with its part `cyc` changed by `f`. -/
def Dev.onCyc (d : Dev) (f : Cyc → Cyc) : Dev := { d with cyc := f d.cyc }

end Sys2Proof.Machine
end

