-- ==== Sys2Proof/Machine/Ops.lean ====
section
/-! DEFINITION. Time, the Event Router, the queues, event items, replies and completions. -/

namespace Sys2Proof.Machine
open Sys2Proof

/-! Time -/

/-- The time of the model: TSC, in BCLK cycles (R611). -/
def Dev.now (d : Dev) : Nat := d.tim.tsc.toNat

/-- BCLK cycles of `n` µs at 216.96 MHz (R30). -/
def usT (n : Nat) : Nat := n * 21696 / 100

/-- BCLK cycles of `n` ms (R30). -/
def msT (n : Nat) : Nat := n * 216960

/-- BCLK cycles of `n` deadline steps of 0.1 ms (R502). -/
def dlT (n : Nat) : Nat := n * 21696

/-- Whole µs of `t` BCLK cycles, rounded down. -/
def toUs (t : Nat) : Nat := t * 100 / 21696

/-- PHC as software reads it, without its fraction (R84, R126). -/
def Dev.phc (d : Dev) : Nat := d.tb.phc.toNat >>> 24

/-- PHC[15:0], the phase in pu (R84). -/
def Dev.phase (d : Dev) : Nat := d.phc % 65536

/-- Code of a mode (R46). -/
def Mode.code : Mode → Nat
  | .m0 => 0 | .m1 => 1 | .m2 => 2 | .m3 => 3 | .m4 => 4 | .m5 => 5
  | .m6 => 6 | .m7 => 7 | .m8 => 8 | .m9 => 9 | .m10 => 10 | .m11 => 11

/-- Mode of a code (R46). -/
def Mode.ofCode : Nat → Option Mode
  | 0 => some .m0 | 1 => some .m1 | 2 => some .m2 | 3 => some .m3 | 4 => some .m4 | 5 => some .m5
  | 6 => some .m6 | 7 => some .m7 | 8 => some .m8 | 9 => some .m9 | 10 => some .m10 | 11 => some .m11
  | _ => none

/-- MODE_STAT.BUSY: a transition or a drain runs (R73). -/
def Dev.busy (d : Dev) : Bool := d.mode.run.isSome

/-- MODE_STAT.TGT (R73). -/
def Dev.tgt (d : Dev) : Mode :=
  match d.mode.run with
  | some t => t.legs.getLast?.getD d.mode.cur
  | none => d.mode.cur

/-- The mode permits zone fields and probes (R47). -/
def Mode.surface : Mode → Bool
  | .m5 | .m7 | .m8 => true
  | _ => false

/-- The mode's HF field entry is not "None" (R47, R48). -/
def Mode.hfAllowed : Mode → Bool
  | .m3 | .m5 | .m7 | .m8 | .m9 | .m10 => true
  | _ => false

/-- The mode's UHF transmit entry is not "None" (R47, R48). -/
def Mode.uhfAllowed : Mode → Bool
  | .m6 | .m7 | .m9 | .m10 => true
  | _ => false

/-- The mode permits inventory and room commands (R47, R51). -/
def Mode.room : Mode → Bool
  | .m6 | .m7 => true
  | _ => false

/-- The domain state that the mode gives (R47). -/
def mstate (m : Mode) (dom : Nat) : MState :=
  if dom = 0 then (if m = .m0 then .off else .on)
  else
    match m with
    | .m0 => .off
    | .m1 => .down
    | .m2 | .m11 => if dom < 15 then .on else .down
    | .m3 => if 44 ≤ dom ∧ dom < 48 then .probe else .down
    | .m4 => if dom = 1 then .on else .idle
    | .m5 | .m8 =>
      if dom = 1 ∨ dom = 15 ∨ (20 ≤ dom ∧ dom < 48) then .on else if dom = 48 then .down else .idle
    | .m6 => if dom = 1 ∨ dom = 48 then .on else if dom < 15 then .idle else .down
    | .m7 | .m9 | .m10 => if dom = 1 ∨ dom = 15 ∨ 20 ≤ dom then .on else .idle

/-- BCLK runs: CORE is powered (R30, R613). -/
def Dev.bclk (d : Dev) : Bool := d.pmu.dom[1].p = .up

/-! Wake of a domain (R664 to R666) -/

/-- A wake of domain `k` by an access or a message (R39, R664, R665, R666). -/
def wakeDom (k : Fin 49) (d : Dev) : Dev :=
  let now := d.now
  d.onPmu fun p => { p with dom := upd p.dom k fun m =>
    match m.p with
    | .down => { m with p := .waking, wakes := satInc 65535 m.wakes, since := now }
    | .goingDown => { m with rewake := true, wakes := if m.rewake then m.wakes else satInc 65535 m.wakes }
    | _ => m.restart }

/-! Event Router (R566 to R583) -/

/-- The source itself. -/
def Dev.src (d : Dev) : SrcId → Src
  | .priv t s => d.evr.priv[t][s]
  | .shared i => d.evr.shared[i]

/-- Change of one source. -/
def onSrc (id : SrcId) (f : Src → Src) (d : Dev) : Dev :=
  match id with
  | .priv t s => d.onEvr fun e => { e with priv := upd e.priv t fun b => upd b s f }
  | .shared i => d.onEvr fun e => { e with shared := upd e.shared i f }

/-- The target that a source has (R566, R567). -/
def Dev.srcTarget (d : Dev) : SrcId → Nat
  | .priv t _ => t.val
  | .shared i => d.evr.shared[i].target

/-- Reserved numbers, which are never pending (R580, R581). -/
def SrcId.reserved : SrcId → Bool
  | .priv t s => t.val = 4 && 23 ≤ s.val && s.val ≤ 30
  | .shared i => 40 ≤ i.val && i.val ≤ 47

/-- The sources of target `t` with their numbers, lowest first (R567, R568). -/
def Dev.sources (d : Dev) (t : Nat) : List (Nat × Src) :=
  (if h : t < 5 then (List.finRange 32).map fun s => (s.val, d.evr.priv[t][s]) else []) ++
  ((List.finRange 288).filter fun i => d.evr.shared[i].target = t).map fun i => (i.val + 32, d.evr.shared[i])

/-- Sources of `t` with EN = 1 and PEND = 1, lowest number first. -/
def Dev.ready (d : Dev) (t : Nat) : List Nat :=
  ((d.sources t).filter fun x => x.2.en && x.2.pend).map (·.1)

/-- The active source of `t` (R568, R585). -/
def Dev.active (d : Dev) (t : Nat) : Option Nat :=
  ((d.sources t).filter fun x => x.2.act).head?.map (·.1)

/-- The source of target `t` that number `n` names (R567). -/
def srcOf (t n : Nat) : Option SrcId :=
  if n < 32 then (if h : t < 5 then some (.priv ⟨t, h⟩ (Fin.ofNat 32 n)) else none)
  else if h : n - 32 < 288 then some (.shared ⟨n - 32, h⟩) else none

/-- The moderation of target `t` after a change of its sources (R576). -/
def modUpdate (t : Fin 6) (d : Dev) : Dev :=
  let ss := d.sources t
  let anyBusy := ss.any fun x => x.2.pend || x.2.act
  let anyAct := ss.any fun x => x.2.act
  let ready := ss.any fun x => x.2.en && x.2.pend
  let now := d.now
  d.onEvr fun e => { e with targets := upd e.targets t fun g =>
    let idle := match g.idleFrom with
      | some t0 => decide (now - t0 ≥ usT g.time)
      | none => false
    let win :=
      match g.win with
      | .closed => if ready && !anyAct then (if g.time = 0 || idle then .free else .opened now) else .closed
      | .opened s =>
        if g.time = 0 || decide ((d.ready t).length ≥ g.count) || decide (now - s ≥ usT g.time) then .free else .opened s
      | .free => .free
    let win := if win = .free && !ready && !anyAct then .closed else win
    { g with
      win := win
      idleFrom := if anyBusy then none else match g.idleFrom with
        | some t0 => some t0
        | none => some now } }

/-- Moderation of the target with code `t`, where there is one. -/
def modUpdateN (t : Nat) (d : Dev) : Dev := if h : t < 6 then modUpdate ⟨t, h⟩ d else d

/-- Moderation holds target `t` (R576, EVR_STAT.MODWAIT). -/
def Dev.modWait (d : Dev) (t : Fin 6) : Bool :=
  match d.evr.targets[t].win with
  | .opened t0 => decide (d.now - t0 < usT d.evr.targets[t].time)
  | _ => false

/-- Interrupt input of target `t` asserted (R573). -/
def Dev.irq (d : Dev) (t : Fin 6) : Bool :=
  !(d.ready t).isEmpty && (d.active t).isNone && !d.modWait t

/-- A wake of the zone core that is target `t` (R664). -/
def wakeCore (t : Nat) (d : Dev) : Dev := if h : t < 4 then wakeDom ⟨16 + t, by omega⟩ d else d

/-- A message for a source (R571, R576, R664). -/
def message (id : SrcId) (d : Dev) : Dev :=
  if id.reserved || (d.src id).sense ≠ 0 then d
  else
    let t := d.srcTarget id
    let s := d.src id
    let d1 :=
      if s.pend then
        (if h : t < 6 then d.onEvr fun e => { e with targets := upd e.targets ⟨t, h⟩ fun g => { g with coal := satInc 65535 g.coal } } else d)
      else modUpdateN t (onSrc id (fun s => { s with pend := true, since := d.now, told := false }) d)
    if s.en then wakeCore t d1 else d1

/-- Message for private source `s` of SC (R580). -/
def msgSc (s : Fin 32) (d : Dev) : Dev := message (.priv 4 s) d

/-- Zone core target of zone `n` (R27, R579). -/
def zcOf (n : Fin 24) : Fin 5 := Fin.ofNat 5 (n.val / 6)

/-- Message for private source `base + j` of the zone core target of zone `n` (R579). -/
def msgZone (n : Fin 24) (base : Nat) (d : Dev) : Dev :=
  message (.priv (zcOf n) (Fin.ofNat 32 (base + n.val % 6))) d

/-- Message for HOST source 64 + `k` (R582). -/
def msgHost (k : Nat) (d : Dev) : Dev := message (.shared (Fin.ofNat 288 (32 + k))) d

/-! Bus errors (R35, R580) -/

/-- A bus error on the core that issued an access; SC learns of one of a zone core (R35, R580). -/
def busError (m : Master) (a : Nat) (d : Dev) : Dev :=
  let d := d.onBus fun b => { b with err := some { master := m, addr := a } }
  if m = .sc then d else msgSc 22 d

/-- The core by its place in the order of R38: SC, ZC0 to ZC3. -/
def coreMaster (k : Fin 5) : Master := if h : k.val = 0 then .sc else .zc ⟨k.val - 1, by omega⟩

/-! Queues (R588 to R598, R606) -/

/-- Capacity in bytes (R588). -/
def QId.cap : QId → Nat
  | .evq => 16384
  | .rspq => 32768
  | .cq _ => 2048

/-- The queue itself. -/
def Dev.queue (d : Dev) : QId → Queue
  | .evq => d.qs.evq
  | .rspq => d.qs.rspq
  | .cq n => d.qs.cq[n]

/-- Change of one queue. -/
def onQueue (q : QId) (f : Queue → Queue) (d : Dev) : Dev :=
  match q with
  | .evq => d.onQs fun s => { s with evq := f s.evq }
  | .rspq => d.onQs fun s => { s with rspq := f s.rspq }
  | .cq n => d.onQs fun s => { s with cq := upd s.cq n f }

/-- Words held by committed items. -/
def itemWords (l : List (List Word)) : Nat := (l.map List.length).sum

/-- USED: bytes committed or reserved (R591, R609). -/
def Queue.used (q : Queue) : Nat := 4 * (itemWords q.items + q.part.length + q.need)

/-- DEPTH: committed items (R609). -/
def Queue.depth (q : Queue) : Nat := q.items.length

/-- WM after USED has changed (R606). -/
def Queue.setWm (q : Queue) (cap : Nat) : Queue :=
  { q with wm := if q.used * 64 ≥ q.hi * cap then true else if q.used * 64 ≤ q.lo * cap then false else q.wm }

/-- The head item leaves, its remaining words with it (R595). -/
def Queue.dropHead (q : Queue) (cap : Nat) : Queue :=
  if q.items = [] then q else { q with items := q.items.drop 1, openAt := none }.setWm cap

/-! A BCLK cycle (R16, R17, R38) -/

/-- The accesses of the cycle are over and hardware acts: the DROP_REST of the cycle follow its reads (R595; DESIGN CHOICE, log entry 70). -/
def Dev.event (d : Dev) : Dev :=
  if 6 ≤ d.cyc.slot then d
  else
    let d := d.cyc.drops.foldl (fun d n => onQueue (.cq n) (fun q => q.dropHead 2048) d) d
    d.onCyc fun c => { c with slot := 6, drops := [] }

/-- The device changed, the memories as they are. -/
def State.on (s : State) (f : Dev → Dev) : State := { s with dev := f s.dev }

/-- The state as hardware finds it. -/
def State.ev (s : State) : State := s.on Dev.event

/-- A command that changes the device alone, by hardware or firmware after the accesses of the cycle. -/
def onDev (s : State) (f : Dev → Dev) : Out := .next (s.ev.on f)

/-- WORDS of a header (R589). -/
def hdrWords (w : Word) : Nat := bits w.toNat 15 4

/-- A header that the queue accepts (R589 to R591). -/
def QId.hdrOk (q : QId) (w : Word) : Bool :=
  let n := hdrWords w
  let t := bits w.toNat 3 0
  1 ≤ t && t ≤ 13 && (match q with
    | .rspq => 4 ≤ n && n ≤ 1092
    | _ => 2 ≤ n && n ≤ 16)

/-- Items dropped from the head, oldest first and never the open one, until `need` bytes are free (R592).
Returns what remains and how many were dropped. -/
def discard (opn : Bool) (cap need held : Nat) : List (List Word) → List (List Word) × Nat
  | [] => ([], 0)
  | x :: xs =>
    if 4 * (itemWords (x :: xs) + held) + need ≤ cap then (x :: xs, 0)
    else if opn then
      let r := discard false cap need (held + x.length) xs
      (x :: r.1, r.2)
    else
      let r := discard false cap need held xs
      (r.1, r.2 + 1)

/-- Space made for a reservation of `n` words in EVQ or a capture queue (R592). -/
def Queue.makeRoom (q : Queue) (cap n : Nat) : Queue × Nat :=
  let r := discard q.openAt.isSome cap (4 * n) (q.part.length + q.need) q.items
  ({ q with items := r.1, lost := satAdd 65535 q.lost r.2 }, r.2)

/-- Count of EVQ items lost, with the source EVQ_LOSS (R582, R598). -/
def evqLost (k : Nat) (d : Dev) : Dev :=
  if k = 0 then d else msgHost 2 (d.onQs fun s => { s with loss := s.loss + k })

/-- Messages and marks after a commit (R582, R591, R606); `silent` keeps RSP from being raised (R503). -/
def afterCommit (q : QId) (silent : Bool) (wm0 : Bool) (d : Dev) : Dev :=
  let d := match q with
    | .evq => msgHost 1 d
    | .rspq => if silent then d else msgHost 0 d
    | .cq n => msgZone n 18 d
  match q with
  | .evq => if (d.queue q).wm && !wm0 then msgHost 4 d else d
  | .rspq => if (d.queue q).wm && !wm0 then msgHost 5 d else d
  | .cq _ => d

/-- Message of a watermark that a reservation has set (R582, R606). -/
def wmMessage (q : QId) (wm0 : Bool) (d : Dev) : Dev :=
  match q with
  | .evq => if (d.queue q).wm && !wm0 then msgHost 4 d else d
  | .rspq => if (d.queue q).wm && !wm0 then msgHost 5 d else d
  | .cq _ => d

/-- An item pushed whole by SC or by a zone engine (R591 to R593). -/
def pushItem (q : QId) (silent : Bool) (ws : List Word) (d : Dev) : Dev :=
  let q0 := d.queue q
  let n := ws.length
  match q with
  | .rspq =>
    if 4 * n + q0.used ≤ q.cap then
      afterCommit q silent q0.wm (onQueue q (fun x => { x with items := x.items ++ [ws], poisoned := false }.setWm q.cap) d)
    else onQueue q (fun x => { x with lost := satInc 65535 x.lost }) d
  | _ =>
    let r := q0.makeRoom q.cap n
    let d := onQueue q (fun _ => r.1) d
    let d := if q = .evq then evqLost r.2 d else d
    if 4 * n + r.1.used ≤ q.cap then
      afterCommit q silent q0.wm (onQueue q (fun x => { x with items := x.items ++ [ws], poisoned := false }.setWm q.cap) d)
    else
      let d := onQueue q (fun x => { x with lost := satInc 65535 x.lost }) d
      if q = .evq then evqLost 1 d else d

/-- Header of an item (R589). -/
def header (typ words gen : Nat) : Word := word (typ + 16 * words + 65536 * (gen % 65536))

/-- An event item of `typ` with generation `gen` pushed to EVQ (R589, R590). -/
def pushEvent (typ gen : Nat) (payload : List Byte) (d : Dev) : Dev :=
  let ws := wordsOf payload
  pushItem .evq false (header typ (ws.length + 1) gen :: ws) d

/-- An event item whose GEN is PT_GEN at the push (R590). -/
def pushPt (typ : Nat) (payload : List Byte) (d : Dev) : Dev := pushEvent typ d.sf.gen.toNat payload d

/-- A SYSTEM item of 12 payload bytes: ORIGIN, EVT, bytes 2 to 7, PHC (R677, R723, R743). -/
def pushSystem (origin evt : Nat) (b2to7 : List Byte) (d : Dev) : Dev :=
  pushPt 12 ([byteOf origin, byteOf evt] ++ b2to7 ++ le 4 d.phc) d

/-- A DIAG item: CODE, bytes 1 to 11, PHC (R601). -/
def pushDiag (code : Nat) (b1to11 : List Byte) (d : Dev) : Dev :=
  pushPt 10 ((byteOf code :: b1to11) ++ List.replicate (11 - b1to11.length) 0 ++ le 4 d.phc) d

/-! Replies and completions (R506 to R525) -/

/-- Status codes (R517). -/
inductive Status where
  | ok | partly | deadline | noTag | protocolErr | fieldLow | writeUnknown | aborted | notPending | tagBusy
  | inflightFull | badPacket | badOpcode | badParam | wrongMode | keyRefused | powerTransition
  | resourceBusy | coexDenied | internal
deriving DecidableEq, Repr

/-- Code of a status (R517). -/
def Status.code : Status → Nat
  | .ok => 0 | .partly => 1 | .deadline => 2 | .noTag => 3 | .protocolErr => 4 | .fieldLow => 5
  | .writeUnknown => 6 | .aborted => 8 | .notPending => 9 | .tagBusy => 0x0A | .inflightFull => 0x0B
  | .badPacket => 0x0C | .badOpcode => 0x0D | .badParam => 0x0E | .wrongMode => 0x0F | .keyRefused => 0x10
  | .powerTransition => 0x12 | .resourceBusy => 0x13 | .coexDenied => 0x14 | .internal => 0x1F

/-- A reply packet with REMAIN 0, which the read fills in (R506). -/
def replyPacket (opc tagByte status elapsed : Nat) (payload : List Byte) : List Byte :=
  let p := [byteOf opc, byteOf tagByte] ++ le 2 payload.length ++ [byteOf status, 0] ++ le 2 (min 65535 elapsed) ++ payload
  p ++ le 2 (crc16 p)

/-- GEN of the reply to opcode `opc`: RGEN for 0x40 to 0x4F, PT_GEN otherwise (R525). -/
def replyGen (opc : Nat) (d : Dev) : Nat :=
  if 0x40 ≤ opc ∧ opc ≤ 0x4F then d.room.gen.toNat else d.sf.gen.toNat

/-- The command in flight under `tag`, if it is ACTIVE. -/
def Dev.cmd (d : Dev) (tag : Fin 32) : Option Cmd :=
  match d.ncp.tags[tag] with
  | .active c => some c
  | _ => none

/-- Change of the command under `tag`. -/
def onCmd (tag : Fin 32) (f : Cmd → Cmd) (d : Dev) : Dev :=
  d.onNcp fun n => { n with tags := upd n.tags tag fun
    | .active c => .active (f c)
    | t => t }

/-- The tags that are ACTIVE and whose command meets `p`. -/
def Dev.activeTags (d : Dev) (p : Cmd → Bool) : List (Fin 32) :=
  (List.finRange 32).filter fun t => match d.ncp.tags[t] with
    | .active c => p c
    | _ => false

/-- A command held by a barrier (R524): one accepted before it that has not completed stands in its way.
GET_STATUS and ABORT neither hold nor are held. -/
def Dev.isHeld (d : Dev) (tag : Fin 32) : Bool :=
  match d.cmd tag with
  | none => false
  | some c =>
    if c.opc = 1 ∨ c.opc = 4 then false
    else !(d.activeTags fun e => decide (e.order < c.order) &&
      (c.barrier || (e.barrier && e.opc ≠ 1 && e.opc ≠ 4))).isEmpty

/-- One command completes: its reply is pushed and its tag becomes DONE (R507, R509, R525, R593). -/
def completeOne (tag : Fin 32) (st : Status) (payload : List Byte) (d : Dev) : Dev :=
  match d.cmd tag with
  | none => d
  | some c =>
    let tagByte := tag.val + 32 * b2n c.barrier + 128
    let pkt := replyPacket c.opc tagByte st.code ((d.now - c.accT) / 21696) payload
    let ws := wordsOf pkt
    let full := decide (4 * (ws.length + 1) + d.qs.rspq.used > QId.rspq.cap)
    let d := pushItem .rspq c.silent (header 1 (ws.length + 1) (replyGen c.opc d) :: ws) d
    let d := if full then pushDiag 3 [byteOf c.opc, byteOf tag.val] d else d
    d.onNcp fun n => { n with tags := upd n.tags tag fun _ => .done c.resv (if c.opc = 4 then 0xFF else st.code) }

/-- ABORT commands learn that `tag` has completed with `st`; one whose targets have all completed completes itself (R528, R531). -/
def settleAborts (tag : Fin 32) (st : Status) (d : Dev) : Dev :=
  let upd1 := d.ncp.aborts.map fun a =>
    if a.targets.contains tag then
      { a with
        targets := a.targets.filter (· ≠ tag)
        count := if st = .aborted ∨ st = .writeUnknown then a.count + 1 else a.count
        tstatus := if a.target ≥ 128 then 0xFF else st.code }
    else a
  let finished := upd1.filter fun a => a.targets.isEmpty
  let d := d.onNcp fun n => { n with aborts := upd1.filter fun a => !a.targets.isEmpty }
  finished.foldl (fun d a =>
    completeOne a.tag (if a.count ≥ 1 then .ok else .notPending)
      [byteOf a.target, byteOf a.tstatus, byteOf a.count, 0] d) d

/-- Reserved reply payload RPL of an opcode of the opcode table; none for one that it does not list (R515). -/
def rpl (opc : Nat) : Option Nat :=
  match opc with
  | 0x01 => some 32 | 0x02 => some 4 | 0x03 => some 256 | 0x04 => some 4 | 0x05 => some 992 | 0x07 => some 8
  | 0x08 => some 260 | 0x0A => some 8 | 0x0B => some 16 | 0x0C => some 16 | 0x0D => some 16 | 0x0E => some 8
  | 0x10 => some 4 | 0x11 => some 12 | 0x12 => some 72 | 0x18 => some 4108
  | 0x30 => some 9 | 0x31 => some 8 | 0x32 => some 44 | 0x33 => some 8 | 0x34 => some 16
  | 0x40 => some 12 | 0x41 => some 20 | 0x42 => some 140 | 0x43 => some 12 | 0x50 => some 264
  | 0x60 => some 8 | 0x61 => some 4 | 0x62 => some 16 | 0x63 => some 4128 | 0x64 => some 256
  | 0x70 => some 16 | 0x72 => some 12 | 0x80 => some 4 | 0x84 => some 16 | 0x92 => some 130 | 0x93 => some 256 | 0x94 => some 8
  | _ => if 0xF0 ≤ opc ∧ opc ≤ 0xFF then some 64 else none

/-- A command of an opcode that the table does not list, which no barrier holds (R514, R524). -/
def Dev.unlisted (d : Dev) : Option (Fin 32) :=
  (d.activeTags fun c => (rpl c.opc).isNone).find? fun t => !d.isHeld t

/-- Commands of unlisted opcodes complete as soon as no barrier holds them (R514, R524); `fuel` bounds their number. -/
def sweep : Nat → Dev → Dev
  | 0, d => d
  | k + 1, d => match d.unlisted with
    | some t => sweep k (settleAborts t .badOpcode (completeOne t .badOpcode [] d))
    | none => d

/-- A command completes with a status and a reply payload (R507, R525, R531); what that releases follows (R524). -/
def complete (tag : Fin 32) (st : Status) (payload : List Byte) (d : Dev) : Dev :=
  if (d.cmd tag).isSome then sweep 32 (settleAborts tag st (completeOne tag st payload d)) else d

/-- A command completes without a reply payload (R507). -/
def fail (tag : Fin 32) (st : Status) (d : Dev) : Dev := complete tag st [] d

end Sys2Proof.Machine
end

