-- ==== Sys2Proof/Machine/Trig.lean ====
section
/-! DEFINITION. Sines, angles and their inverses on a grid of 0.05°, for the direction estimates of R450. The rounding is a
DESIGN CHOICE (log entry 32). -/

namespace Sys2Proof.Machine
open Sys2Proof

/-- The largest `k` below `lo + 2 ^ fuel` with `p k`, for a `p` that holds up to some `k` and at `lo`. -/
def bsearch (p : Nat → Bool) : Nat → Nat → Nat
  | 0, lo => lo
  | f + 1, lo => if p (lo + 2 ^ f) then bsearch p f (lo + 2 ^ f) else bsearch p f lo

/-- The whole part of a square root. -/
def sqrtFloor (n : Nat) : Nat := bsearch (fun k => decide (k * k ≤ n)) (Nat.log2 n / 2 + 1) 0

/-- One unit of the scale of sines. -/
def unit : Int := 10 ^ 12

/-- π / 3600 in units of 10^-12: one step of 0.05°. -/
def stepRad : Int := 872664626

/-- Sine of `h` steps of 0.05°, 0 to 900, in the scale. -/
def sinLow (h : Nat) : Int :=
  let x := (h : Int) * stepRad
  let x2 := x * x / unit
  let t3 := x * x2 / unit / 6
  let t5 := t3 * x2 / unit / 20
  let t7 := t5 * x2 / unit / 42
  let t9 := t7 * x2 / unit / 72
  x - t3 + t5 - t7 + t9

/-- Cosine of `h` steps of 0.05°, 0 to 900, in the scale. -/
def cosLow (h : Nat) : Int :=
  let x := (h : Int) * stepRad
  let x2 := x * x / unit
  let t2 := x2 / 2
  let t4 := t2 * x2 / unit / 12
  let t6 := t4 * x2 / unit / 30
  let t8 := t6 * x2 / unit / 56
  unit - t2 + t4 - t6 + t8

/-- Sine of `h` steps of 0.05°, 0 to 1,800. -/
def sinQ (h : Nat) : Int := if h ≤ 900 then sinLow h else cosLow (1800 - h)

/-- Cosine of `h` steps of 0.05°, 0 to 1,800. -/
def cosQ (h : Nat) : Int := if h ≤ 900 then cosLow h else sinLow (1800 - h)

/-- Sine and cosine of an angle in 0.1°. -/
def sinCos (a : Int) : Int × Int :=
  let k := (a % 3600).toNat
  let h := 2 * (k % 900)
  match k / 900 with
  | 0 => (sinQ h, cosQ h)
  | 1 => (cosQ h, -sinQ h)
  | 2 => (-sinQ h, -cosQ h)
  | _ => (-cosQ h, sinQ h)

/-- Angle of a direction with `x` and `y` not negative, in steps of 0.05°. -/
def atanQ (y x : Int) : Nat := bsearch (fun h => decide (h ≤ 1800) && decide (sinQ (min h 1800) * x ≤ y * cosQ (min h 1800))) 11 0

/-- Angle of a direction in 0.1°, 0 to 3,599, to the nearest; 0 for no direction. -/
def atan2 (y x : Int) : Nat :=
  let h :=
    if x = 0 ∧ y = 0 then 0
    else if 0 ≤ x ∧ 0 ≤ y then atanQ y x
    else if x < 0 ∧ 0 ≤ y then 3600 - atanQ y (-x)
    else if x < 0 then 3600 + atanQ (-y) (-x)
    else 7200 - atanQ (-y) x
  ((h + 1) / 2) % 3600

/-- The angle from -1,800 to 1,799 of 0.1°. -/
def signedDeg (a : Nat) : Int := if a < 1800 then a else (a : Int) - 3600

/-- Arc sine of `n / m` with `n` at most `m`, in 0.1°, to the nearest. -/
def asinDeg (n m : Nat) : Nat :=
  (bsearch (fun h => decide (h ≤ 1800) && decide (sinQ (min h 1800) * m ≤ (n : Int) * unit)) 11 0 + 1) / 2

end Sys2Proof.Machine
end

