-- ==== Sys2Proof/Machine/FrameOps.lean ====
section
/-! DEFINITION. The shape of a transmitted field in time: the ramp of R149, the frames that the framer codes, and the factor by which
they multiply the amplitude (R148, R300, R302, R341, R345). The bit orders, starts and ends of frame that the standards named in R298 give
are PRESUMED (log entry 60). -/

namespace Sys2Proof.Machine
open Sys2Proof

/-! Ramps (R149) -/

/-- BCLK cycles of a ramp of RAMP + 1 carrier cycles (R149, R175). -/
def rampCycles (ramp : Nat) : Nat := 16 * (ramp + 1)

/-- Share of the full amplitude, in 1/256, `t` BCLK cycles after the start of a raised-cosine on ramp of `len` cycles; it changes with the
carrier cycle. The rounding is a DESIGN CHOICE (log entry 60). -/
def rampUp (t len : Nat) : Nat :=
  let n := len / 16
  let i := t / 16
  if n ≤ i then 256 else ((unit - (sinCos ((1800 * i / n : Nat) : Int)).2) * 128 / unit).toNat

/-- The same for an off ramp. -/
def rampDn (t len : Nat) : Nat := 256 - rampUp t len

/-- The first carrier-cycle boundary at least 0.25 µs after `t`; boundaries lie at multiples of 16 BCLK cycles of TSC (R146, R302; DESIGN
CHOICE, log entry 60). -/
def carrierAfter (t : Nat) : Nat := (100 * t + 5424 + 1599) / 1600 * 16

/-! Modulation (R148) -/

/-- Modulated and unmodulated intervals in turn, with their lengths in carrier cycles. -/
abbrev Wave := List (Bool × Nat)

/-- Length in carrier cycles. -/
def Wave.len (w : Wave) : Nat := (w.map (·.2)).sum

/-- Amplitude in 1/256 at the `i`-th carrier cycle: DEPTH in a modulated interval and 256 in another, each reached in EDGE cycles; the
shape of an edge, a straight line, is a DESIGN CHOICE (log entry 60). `prev` is the amplitude before the interval. -/
def Wave.factor (depth edge : Nat) : (prev : Nat) → Wave → Nat → Nat
  | _, [], _ => 256
  | prev, (m, n) :: rest, i =>
    let full := if m then depth else 256
    if n ≤ i then Wave.factor depth edge full rest (i - n)
    else if edge ≤ i then full
    else (prev * (edge - i) + full * i) / max 1 edge

/-- An unmodulated interval. -/
def high (n : Nat) : Wave := [(false, n)]

/-- A modulated interval. -/
def low (n : Nat) : Wave := [(true, n)]

/-! Bits of a frame -/

/-- The eight bits of a byte, least significant first. -/
def lsb (b : Byte) : List Bool := (List.range 8).map fun i => b.getLsbD i

/-- Exclusive or of the bits of a byte. -/
def parity (b : Byte) : Bool := (lsb b).foldl xor false

/-- CRC_A of the bytes of a frame, and CRC_B, which ISO/IEC 15693 and the Mirbit link share (R302, R345). -/
def crcA (l : List Byte) : Nat := l.foldl crcRefByte 0x6363

/-- CRC of R345. -/
def crc345 (l : List Byte) : Nat := (l.foldl crcRefByte 0xFFFF) ^^^ 0xFFFF

/-- CRC of JIS X 6319-4, high byte first. -/
def crcF (l : List Byte) : List Byte :=
  let c := l.foldl crcByte 0
  [byteOf (c / 256), byteOf c]

/-- The CRC of a technology as it follows a frame (R302). -/
def crcOf (tech : Nat) (l : List Byte) : List Byte :=
  match tech with
  | 1 => le 2 (crcA l)
  | 2 => le 2 (crc345 l)
  | 3 => crcF l
  | 4 => le 2 (crc345 l)
  | 5 => le 2 (crc345 l)
  | _ => []

/-- Bits of a byte sequence with `last` valid bits in its last byte, 0 for 8, each in the order that `f` gives (R302). -/
def frameBits (f : Byte → List Bool) (last : Nat) : List Byte → List Bool
  | [] => []
  | [b] => if last = 0 then f b else (f b).take last
  | b :: bs => f b ++ frameBits f last bs

/-! Codings (R300, R341) -/

/-- Carrier cycles of a bit at a rate code (R300, R337). -/
def etu (rate : Nat) : Nat := 128 >>> rate

/-- One symbol of modified Miller: a pause after half a bit, no pause, a pause at once. -/
def millerBit (e pause : Nat) (prev b : Bool) : Wave :=
  if b then high (e / 2) ++ low pause ++ high (e / 2 - pause) else if prev then high e else low pause ++ high (e - pause)

/-- Modified Miller after a bit `prev`. -/
def miller (e pause : Nat) : (prev : Bool) → List Bool → Wave
  | _, [] => []
  | prev, b :: bs => millerBit e pause prev b ++ miller e pause b bs

/-- A Type A frame: start, bits, a logic 0 and a bit without a pause. -/
def waveA (e pause : Nat) (bs : List Bool) : Wave := low pause ++ high (e - pause) ++ miller e pause false (bs ++ [false]) ++ high e

/-- NRZ-L: a logic 0 is modulated. -/
def nrz (e : Nat) (bs : List Bool) : Wave := bs.map fun b => (!b, e)

/-- A Type B character. -/
def charB (b : Byte) : List Bool := [false] ++ lsb b ++ [true]

/-- A frame of NRZ-L characters: start, characters, end. -/
def waveB (e : Nat) (l : List Byte) : Wave := low (10 * e) ++ high (2 * e) ++ nrz e (l.flatMap charB) ++ low (10 * e)

/-- Manchester: a logic 0 is modulated in its first half. -/
def manchester (e : Nat) (bs : List Bool) : Wave := bs.flatMap fun b => [(!b, e / 2), (b, e / 2)]

/-- A JIS X 6319-4 frame: 48 zeros, the sync bytes, and the bytes most significant bit first. -/
def waveF (e : Nat) (l : List Byte) : Wave :=
  manchester e (List.replicate 48 false ++ ([byteOf 0xB2, byteOf 0x4D] ++ l).flatMap fun b => (lsb b).reverse)

/-- Eight intervals of which those that `m` names are modulated, of 128 carrier cycles each. -/
def slots15 (n : Nat) (m : Nat → Bool) (pause : Nat) : Wave :=
  (List.range n).flatMap fun i => if m i then low pause ++ high (128 - pause) else high 128

/-- 1-of-4 pulse position coding of a byte, the low pair of bits first. -/
def pulses (pause : Nat) (b : Byte) : Wave :=
  (List.range 4).flatMap fun i => slots15 8 (fun k => decide (k = 2 * (b.toNat / 4 ^ i % 4) + 1)) pause

/-- An ISO/IEC 15693 frame: start, bytes, end. -/
def waveV (pause : Nat) (l : List Byte) : Wave :=
  slots15 8 (fun k => decide (k = 0) || decide (k = 5)) pause ++ l.flatMap (pulses pause) ++ slots15 4 (fun k => decide (k = 2)) pause

/-- A Mirbit downlink frame (R341). -/
def waveM (l : List Byte) : Wave :=
  low 384 ++ high 128 ++ ((l.flatMap lsb).flatMap fun b => [(b, 128), (!b, 128)]) ++ low 384 ++ high 128

/-- The frame that the framer codes (R302): `last` valid bits in the last byte, parity on Type A, the CRC of the technology. -/
def frameWave (tech rate pause : Nat) (par crc : Bool) (last : Nat) (l : List Byte) : Wave :=
  let body := if crc then l ++ crcOf tech l else l
  let last := if crc then 0 else last
  let whole := decide (last = 0)
  match tech with
  | 1 =>
    if 4 ≤ rate then waveB (etu rate) body
    else
      let full := if whole then body else body.dropLast
      let tail := if whole then [] else body.drop (body.length - 1)
      let one (b : Byte) : List Bool := if par then lsb b ++ [!parity b] else lsb b
      waveA (etu rate) pause (full.flatMap one ++ frameBits lsb last tail)
  | 2 => waveB (etu rate) body
  | 3 => waveF (etu rate) body
  | 4 => waveV pause body
  | 5 => waveM body
  | _ => []

/-- DEPTH, PAUSE and EDGE of a technology and rate; `full` asks for 100 % modulation of ISO/IEC 15693 (R300, R341). -/
def modOf (tech rate : Nat) (full : Bool) : Nat × Nat × Nat :=
  match tech with
  | 1 => if rate = 0 then (0, 32, 3) else if rate = 1 then (0, 16, 2) else if rate ≤ 3 then (0, 32 >>> rate, 1) else (209, 32, 1)
  | 2 => if rate ≤ 3 then (209, 32, 2) else (209, 32, 1)
  | 3 => (209, 32, 2)
  | 4 => (if full then 0 else 209, 128, 3)
  | 5 => (209, 32, 2)
  | _ => (0, 32, 3)

/-! Test frames (R80) -/

/-- One step of the PRBS-9 x^9 + x^5 + 1: the next bit is the exclusive or of the bits five and nine places back; the newest bit stands
lowest. -/
def prbsStep (s : Nat) : Nat := (2 * s) % 512 + b2n (xor (s.testBit 8) (s.testBit 4))

/-- `n` bits of the sequence, its oldest bit out first. -/
def prbsBits : Nat → Nat → List Bool
  | 0, _ => []
  | n + 1, s => s.testBit 8 :: prbsBits n (prbsStep s)

/-- The state of the sequence after `n` steps. -/
def prbsAfter : Nat → Nat → Nat
  | 0, s => s
  | n + 1, s => prbsAfter n (prbsStep s)

/-- Bytes of bits, least significant first. -/
def bytesOfBits : Nat → List Bool → List Byte
  | 0, _ => []
  | n + 1, bs => byteOf (((List.range 8).map fun i => b2n (bs.getD i false) * 2 ^ i).sum) :: bytesOfBits n (bs.drop 8)

/-- Frame `j` of a modulated test: 64 bytes of the sequence, which repeats after 511 bits (R80). -/
def testFrame (tech rate pause j : Nat) : Wave :=
  frameWave tech rate pause true true 0 (bytesOfBits 64 (prbsBits 512 (prbsAfter (512 * j % 511) 0x1FF)))

/-- Amplitude of a modulated test, in 1/256, at carrier cycle `i` from its start: frames with 1,024 unmodulated cycles between them
(R80, R148). -/
def testFactor (tech rate : Nat) (full : Bool) (i : Nat) : Nat :=
  let m := modOf tech rate full
  let one := (testFrame tech rate m.2.1 0).len + 1024
  let w := testFrame tech rate m.2.1 (i / one)
  Wave.factor m.1 m.2.2 256 w (i % one)

end Sys2Proof.Machine
end

