-- ==== Sys2Proof/Machine/DriveOps.lean ====
section
/-! DEFINITION. Coils, drive words, rule checks, power estimate and limiter, ramps, kills and driver faults (chapter 04). -/

namespace Sys2Proof.Machine
open Sys2Proof

/-! Coils and their neighbours -/

/-- Kettle of a coil: 48 coils each (R22, R145). -/
def kOf (c : Fin 192) : Fin 4 := Fin.ofNat 4 (c.val / 48)

/-- Coil with number `n`, for a number below 192. -/
def coilNo (n : Nat) : Option (Fin 192) := if h : n < 192 then some ⟨n, h⟩ else none

/-- All coils. -/
def allCoils : List (Fin 192) := List.finRange 192

/-- Layout neighbours of a coil (R140). -/
def Drive.nbs (d : Drive) (c : Fin 192) : List (Fin 192) := d.coil[c].lay.nb.filterMap coilNo

/-- Change of one coil. -/
def Drive.onCoil (d : Drive) (c : Fin 192) (f : Coil → Coil) : Drive := { d with coil := upd d.coil c f }

/-- Change of one Kettle. -/
def Drive.onKet (d : Drive) (k : Fin 4) (f : Kettle → Kettle) : Drive := { d with ket := upd d.ket k f }

/-- Change of every coil. -/
def Drive.mapCoils (d : Drive) (f : Fin 192 → Coil → Coil) : Drive :=
  { d with coil := Vector.ofFn fun c => f c d.coil[c] }

/-- Code of a role (R177). -/
def Role.code : Role → Nat
  | .absent => 0 | .free => 1 | .active => 2 | .guardDamp => 3 | .guardNull => 4 | .guardOpen => 5 | .shadow => 6 | .fault => 7

/-- Role that a TXW or coil-list role code gives (R179, R296). -/
def Role.ofTxw : Nat → Option Role
  | 1 => some .active | 2 => some .guardDamp | 3 => some .guardNull | 4 => some .guardOpen | _ => none

/-- The role is driven with a weight (R154). -/
def Role.driven : Role → Bool
  | .active => true | .guardNull => true | _ => false

/-- Calibration in force: the values of R156 where VALID is 0. -/
def CoilCal.eff (c : CoilCal) : CoilCal :=
  if c.valid then c else { trim := 32, valid := false, phTrim := 0, rLoad := 1000, gain := 16384, cpl := [] }

/-! Power (R160) -/

/-- (16/π²) × 10^13, rounded (DESIGN CHOICE, log entry 8: the manual gives π, not its digits). -/
def piRatio : Nat := 16211389382774

/-- P_c in nW at `v` × 10 mV, `r` × 0.01 Ω and amplitude `amp` (R160). -/
def powerNw (v r amp : Nat) : Nat := 5 * piRatio * v ^ 2 * amp ^ 2 / (10 ^ 7 * 65025 * max 1 r)

/-- Greatest number at most `n` that meets `p`; 0 if none does. -/
def searchDown (p : Nat → Bool) : Nat → Nat
  | 0 => 0
  | n + 1 => if p (n + 1) then n + 1 else searchDown p n

/-- A_MAX_c: largest AMP with P_c at most 600 mW (R160). -/
def aMax (v r : Nat) : Nat := searchDown (fun a => decide (5 * piRatio * v ^ 2 * a ^ 2 ≤ 600 * 10 ^ 13 * 65025 * max 1 r)) 255

/-- P_FULL_c in mW (R160, R178). -/
def pFull (v r : Nat) : Nat := 5 * piRatio * v ^ 2 / (10 ^ 13 * max 1 r)

/-- AMP of a drive word (R154). -/
def ampWord (amp scale gain : Nat) : Nat := min 255 (((amp * scale / 256) * gain + 8192) / 16384)

/-- VDRV at the Kettle of a coil, 10 mV. -/
def Drive.vOf (d : Drive) (c : Fin 192) : Nat := d.ket[kOf c].vdrv

/-- Driven entries of a weight set with their coils and amplitudes at a scale; a faulted coil is not driven (R154, R171). -/
def Drive.drivenAt (d : Drive) (ws : List TxW) (scale : Nat) : List (Fin 192 × Nat) :=
  ws.filterMap fun w =>
    match coilNo w.coil, Role.ofTxw w.role with
    | some c, some r =>
      let a := ampWord w.amp scale d.coil[c].cal.eff.gain
      if r.driven && decide (a > 0) && decide (d.coil[c].role ≠ .fault) then some (c, a) else none
    | _, _ => none

/-- Estimated power of a weight set on Kettle `k`, nW (R160, R161). -/
def Drive.estKet (d : Drive) (ws : List TxW) (scale : Nat) (k : Fin 4) : Nat :=
  ((d.drivenAt ws scale).map fun x =>
    if kOf x.1 = k then powerNw (d.vOf x.1) d.coil[x.1].cal.eff.rLoad x.2 else 0).sum

/-- Estimated power of a weight set in total, nW. -/
def Drive.estTot (d : Drive) (ws : List TxW) (scale : Nat) : Nat :=
  ((d.drivenAt ws scale).map fun x => powerNw (d.vOf x.1) d.coil[x.1].cal.eff.rLoad x.2).sum

/-- The driving zones (R161). -/
def Dev.driving (d : Dev) : List (Fin 24) := (List.finRange 24).filter fun n => d.tx[n].driving

/-- The zone has a driven coil on Kettle `k`. -/
def Dev.onKettle (d : Dev) (n : Fin 24) (k : Fin 4) : Bool :=
  (d.drv.drivenAt d.tx[n].cur 256).any fun x => decide (kOf x.1 = k)

/-- Sum of the estimates of driving zones on Kettle `k`, each scale changed by `g` (R161, R163). -/
def Dev.sumKet (d : Dev) (zs : List (Fin 24)) (k : Fin 4) (g : Nat → Nat) : Nat :=
  (zs.map fun n => d.drv.estKet d.tx[n].cur (g d.tx[n].scale) k).sum

/-- Sum of the estimates of driving zones in total. -/
def Dev.sumTot (d : Dev) (zs : List (Fin 24)) (g : Nat → Nat) : Nat :=
  (zs.map fun n => d.drv.estTot d.tx[n].cur (g d.tx[n].scale)).sum

/-- A hardware kill of the bridges is in effect (R23, R169). -/
def Dev.killed (d : Dev) : Bool := d.pin.fkill || d.drv.swkill

/-- A Kettle fault holds Kettle `k` off, DRV_STAT.KFAULT (R170). -/
def Kettle.off (k : Kettle) : Bool := k.uvNow || k.ovNow || k.shutNow || k.linkNow

/-- A transition that ends surface work has started (R55). -/
def Dev.leaving (d : Dev) : Bool :=
  match d.mode.run with
  | some t => t.ends.surface && !t.draining
  | none => false

/-- The probe rotation runs (R48, R55, R72, R142, R161, R169, R294). -/
def Dev.rotating (d : Dev) : Bool :=
  d.mode.cur.surface && !d.leaving && d.prb.en && d.drv.layoutOk && !d.killed && d.pin.resumeAt.isNone

/-- Reserve on one Kettle, nW (R161). -/
def Dev.reserveNw (d : Dev) : Nat := if d.rotating then d.drv.probeRsv * 10 ^ 7 else 0

/-- Limit of Kettle `k`, nW (R161, R165). -/
def Dev.ketLimit (d : Dev) (k : Fin 4) : Nat := if d.drv.ket[k].warnNow then 1500 * 10 ^ 6 else 3000 * 10 ^ 6

/-- Total limit, nW (R161, R738). -/
def Dev.totLimit (d : Dev) : Nat := if d.th.hot then 5000 * 10 ^ 6 else 10000 * 10 ^ 6

/-- floor(256 × √(avail / p)), at most 256 (R161). -/
def sqrtTerm (avail p : Nat) : Nat := searchDown (fun s => decide (s ^ 2 * p ≤ 65536 * avail)) 256

/-- What the limiter finds for a weight set (R161). -/
structure Limit where
  /-- avail ≤ 0 on a term that applies, or SCALE below MIN_SCALE -/
  refuse : Bool
  /-- SCALE -/
  scale : Nat
  /-- the coil term was below 1 -/
  coil : Bool
  /-- Kettles whose term was below 1 -/
  kets : List (Fin 4)
  /-- the total term was below 1 -/
  tot : Bool
deriving DecidableEq, Repr

/-- The limiter's computation for a commit of zone `n` (R161, R162). -/
def Dev.limit (d : Dev) (n : Fin 24) (ws : List TxW) : Limit :=
  let dr := d.drv.drivenAt ws 256
  let others := d.driving.filter (· ≠ n)
  let coilTerms := dr.map fun x => (aMax (d.drv.vOf x.1) d.drv.coil[x.1].cal.eff.rLoad, x.2)
  let fCoil := coilTerms.foldl (fun f x => min f (256 * x.1 / max 1 x.2)) 256
  let kets := (List.finRange 4).filter fun k => dr.any fun x => decide (kOf x.1 = k)
  let ketTerms := kets.map fun k =>
    (k, d.ketLimit k - (d.reserveNw + d.sumKet others k id), d.drv.estKet ws 256 k)
  let tAvail := d.totLimit - (4 * d.reserveNw + d.sumTot others id)
  let tP := d.drv.estTot ws 256
  let fKet := ketTerms.foldl (fun f x => min f (sqrtTerm x.2.1 x.2.2)) fCoil
  let scale := if dr.isEmpty then 256 else min fKet (sqrtTerm tAvail tP)
  { refuse := !dr.isEmpty && (ketTerms.any (fun x => decide (x.2.1 = 0)) || decide (tAvail = 0) || decide (scale < d.tx[n].minScale))
    scale := scale
    coil := coilTerms.any fun x => decide (x.1 < x.2)
    kets := (ketTerms.filter fun x => decide (x.2.1 < x.2.2)).map (·.1)
    tot := !dr.isEmpty && decide (tAvail < tP) }

/-! The HF tests of M10 (R80) -/

/-- The test drives coils (R79). -/
def Qual.hf (q : Qual) : Bool := q.test = 1 || q.test = 2

/-- The weights of an HF test: LEVEL on every present coil of FIRST to LAST that is not in FAULT (R80). -/
def Dev.testWs (d : Dev) (q : Qual) : List TxW :=
  if q.hf then
    (allCoils.filter fun c => decide (q.first ≤ c.val) && decide (c.val ≤ q.last) && decide (d.drv.coil[c].role ≠ .absent) &&
      decide (d.drv.coil[c].role ≠ .fault)).map fun c => { coil := c.val, role := 1, amp := q.level, phase := 0 }
  else []

/-- The test whose field still ramps off (R83, R149). -/
def Dev.fade (d : Dev) : Option (Qual × Nat × Nat) :=
  match d.mode.fading with
  | some (q, t, n) => if d.now < t + n then some (q, t, n) else none
  | none => none

/-- The weights of the HF test that runs, with its scale (R80). -/
def Dev.testNow (d : Dev) : List TxW × Nat :=
  match d.mode.qual with
  | some q => (d.testWs q, q.scale)
  | none => ([], 256)

/-- The re-evaluation of R163 on the one scale of an HF test (R80). -/
def reevalTest (d : Dev) : Dev :=
  match d.mode.qual with
  | none => d
  | some q =>
    let ws := d.testWs q
    let fits (sc : Nat) : Bool := decide (d.drv.estTot ws sc ≤ d.totLimit) &&
      (List.finRange 4).all fun k => decide (d.drv.estKet ws sc k ≤ d.ketLimit k)
    if !q.hf || fits q.scale then d
    else
      let F := searchDown (fun F => fits (q.scale * F / 256)) 255
      d.onMode fun m => { m with qual := some { q with scale := q.scale * F / 256 } }

/-! Rule checks (R152) -/

/-- The field of a zone is on or ramping (R149, R151). -/
def Dev.lit (d : Dev) (n : Fin 24) : Bool := d.tx[n].on

/-- An ACTIVE coil of a zone other than `n` whose field is on (R152). -/
def Dev.foreignActive (d : Dev) (n : Fin 24) (c : Fin 192) : Bool :=
  d.drv.coil[c].role = .active && (match d.drv.coil[c].owner with
    | some m => decide (m ≠ n) && d.lit m
    | none => false)

/-- Entries in use of a TXW set. -/
def usedTx (ws : List TxW) : List TxW := ws.filter fun w => decide (w.coil ≠ 0xFF) && decide (w.role ≠ 0)

/-- A fault of coil `c` has been detected in the present carrier cycle, and takes precedence over a commit that drives it (R173). -/
def Dev.faultNow (d : Dev) (c : Fin 192) : Bool :=
  match d.drv.coil[c].setTimes with
  | t :: _ => decide (t / 16 = d.now / 16)
  | [] => false

/-- RULE_CODE of a commit, 0 where no rule fails (R150, R152, R173). -/
def Dev.ruleCode (d : Dev) (n : Fin 24) (ws : List TxW) : Nat :=
  let coilOf (w : TxW) : Fin 192 := Fin.ofNat 192 w.coil
  let owned (w : TxW) : Bool := decide (w.coil < 192) && decide (d.drv.coil[coilOf w].owner = some n)
  let acts := ws.filter fun w => decide (w.role = 1)
  let nearActive (w : TxW) : Bool := (d.drv.nbs (coilOf w)).any fun b => acts.any fun a => decide (a.coil = b.val)
  let nearForeign (w : TxW) : Bool := (d.drv.nbs (coilOf w)).any fun b => d.foreignActive n b
  if !(ws.all owned) then 1
  else if ws.any (fun w => decide ((ws.filter fun v => decide (v.coil = w.coil)).length > 1)) then 2
  else if acts.length > 9 then 3
  else if ws.any (fun w => decide (d.drv.coil[coilOf w].role = .fault) && !d.faultNow (coilOf w)) then 4
  else if acts.any nearForeign then 5
  else if ws.any (fun w => decide (w.role = 3) && nearForeign w) then 6
  else if ws.any (fun w => (decide (w.role = 3) || decide (w.role = 4)) && !nearActive w) then 7
  else if ws.any (fun w => decide (w.role = 3) && !d.drv.coil[coilOf w].cal.valid) then 8
  else if ws.any (fun w => decide (w.role = 3) && decide (acts.foldl (fun m a => max m a.amp) 0 < w.amp)) then 9
  else 0

/-! Drive words, shadows and the transmit status -/

/-- The bridge of coil `c` may switch: after FKILL_N has risen the bridges remain off until probing resumes (R23, R48, R167, R169,
R170). -/
def Dev.bridgeOk (d : Dev) (c : Fin 192) : Bool :=
  d.mode.cur.hfAllowed && !d.killed && d.pin.resumeAt.isNone && !d.drv.ket[kOf c].off

/-- Drive word of a burst at amplitude `amp` with the coil's trims (R154, R172). -/
def Dev.burstWord (d : Dev) (c : Fin 192) (amp : Nat) : DriveWord :=
  if d.bridgeOk c then { en := decide (amp > 0), amp := amp, phase := d.drv.coil[c].cal.eff.phTrim } else {}

/-- The HF test that drives coil `c`: the one that runs, or the one whose field still ramps off (R80, R83). -/
def Dev.testOf (d : Dev) (c : Fin 192) : Option Qual :=
  ([d.mode.qual, d.fade.map (·.1)].filterMap id).find? fun q => (d.testWs q).any fun w => decide (w.coil = c.val)

/-- Amplitude of a CALIBRATE or survey burst on a coil, where one runs (R158, R682). -/
def Drive.calAmp (v : Drive) (c : Fin 192) : Option Nat := (v.calBursts.find? fun x => decide (x.1 = c.val)).map (·.2)

/-- Drive word of coil `c` (R47, R48, R143, R149, R154, R158, R171, R172, R246): a zone's word keeps its amplitude and phase while its
field is off, and its bridge switches only in a mode that permits zone fields. -/
def Dev.formWord (d : Dev) (c : Fin 192) : DriveWord :=
  let k := d.drv.coil[c]
  if k.rearm then d.burstWord c 16
  else
    match d.drv.calAmp c with
    | some a => d.burstWord c a
    | none =>
      if k.role = .fault then {}
      else if d.prb.bursts.any (fun b => decide (b.coil = c.val)) then d.burstWord c d.prb.amp
      else match d.testOf c with
        | some q => d.burstWord c (ampWord q.level q.scale k.cal.eff.gain)
        | none =>
          match k.owner with
          | some n =>
            match (d.tx[n].cur).find? (fun w => decide (w.coil = c.val)) with
            | some w =>
              let a := ampWord w.amp d.tx[n].scale k.cal.eff.gain
              { en := k.role.driven && d.lit n && d.mode.cur.surface && d.bridgeOk c && decide (a > 0), amp := a
                phase := (w.phase + k.cal.eff.phTrim) % 2048 }
            | none => {}
          | none => {}

/-! The field in time (R80, R148, R149) -/

/-- Share of its amplitude, in 1/256, that an HF test drives now: its ramps and its modulation (R80, R83). -/
def Qual.gain (q : Qual) (now : Nat) : Nat :=
  let last := q.start + msT q.duration
  let up := rampUp (now - q.start) q.len
  let dn := if q.hold || decide (now < last) then 256 else rampDn (now - last) q.len
  let m := if q.test = 2 ∧ q.start + q.len ≤ now ∧ (q.hold ∨ now < last) then testFactor q.tech q.rate q.mod100 ((now - q.start - q.len) / 16)
    else 256
  up * dn / 256 * m / 256

/-- Share of the committed amplitude that the ramp of a zone gives now (R149). -/
def ZoneTx.rampGain (t : ZoneTx) (now : Nat) : Nat :=
  match t.rampNow with
  | .none => 256
  | .rising => rampUp (now - t.rampT) t.rampLen
  | .falling => rampDn (now - t.rampT) t.rampLen

/-- The factor by which the framer multiplies the amplitude of every driven coil of its zone (R148). -/
def Framer.factor (f : Framer) (now : Nat) : Nat :=
  if f.tx = .sending ∧ f.waveT ≤ now then Wave.factor f.depth f.edge 256 f.wave ((now - f.waveT) / 16) else 256

/-- Amplitude share of coil `c` now: of the test that drives it, or of its zone; a burst has none (R80, R148, R149, R246). -/
def Dev.gainOf (d : Dev) (c : Fin 192) : Nat :=
  let now := d.now
  let k := d.drv.coil[c]
  if k.rearm || (d.drv.calAmp c).isSome || d.prb.bursts.any (fun b => decide (b.coil = c.val)) then 256
  else match d.testOf c with
    | some q => (match d.fade with
      | some (f, t, n) => if d.mode.qual = some q then q.gain now else if f = q then rampDn (now - t) n else 256
      | none => q.gain now)
    | none => match k.owner with
      | some n => (d.tx[n]).rampGain now * (d.hf.fr[n]).factor now / 256
      | none => 256

/-- The drive word that a refresh of the drive link carries: the word formed, with its ramp and its modulation (R145, R148, R149). -/
def Dev.linkWord (d : Dev) (c : Fin 192) : DriveWord :=
  let w := d.drv.coil[c].word
  if w.en then { w with amp := w.amp * d.gainOf c / 256 } else w

/-- Drive words formed again (R154); what is driven or owned now has been so in the present bin (R118, R204). -/
def rewords (d : Dev) : Dev :=
  d.onDrv fun v => v.mapCoils fun c k =>
    let w := d.formWord c
    { k with word := w, binDrv := k.binDrv || w.en, binOwn := k.binOwn || k.owner.isSome }

/-- A FREE coil that the fields now make SHADOW (R151). -/
def Dev.shadowed (d : Dev) (c : Fin 192) : Bool :=
  (d.drv.nbs c).any fun b => decide (d.drv.coil[b].role = .active) && (match d.drv.coil[b].owner with
    | some m => d.lit m
    | none => false)

/-- FREE and SHADOW taken again from the fields that are on (R151). -/
def reshadow (d : Dev) : Dev :=
  d.onDrv fun v => v.mapCoils fun c k =>
    { k with role := match k.role with
        | .free => if d.shadowed c then .shadow else .free
        | .shadow => if d.shadowed c then .shadow else .free
        | r => r }

/-- Shadows and drive words after a change. -/
def redrive (d : Dev) : Dev := rewords (reshadow d)

/-- Change of a zone's transmit side. -/
def onTxZ (n : Fin 24) (f : ZoneTx → ZoneTx) (d : Dev) : Dev := d.onTx fun t => upd t n f

/-- Message of the cluster's transmit status (R579). -/
def txMsg (n : Fin 24) (d : Dev) : Dev := message (.priv (zcOf n) 30) d

/-- A commit or field-on refused by a rule (R152, R153). -/
def ruleRefuse (n : Fin 24) (code : Nat) (d : Dev) : Dev :=
  txMsg n (onTxZ n (fun t => { t with rule := true, ruleCode := code }) d)

/-- Roles that an applied commit gives its coils; a coil in FAULT keeps its role (R173, R179). -/
def takeRoles (n : Fin 24) (ws : List TxW) (d : Dev) : Dev :=
  d.onDrv fun v => v.mapCoils fun c k =>
    match ws.find? (fun w => decide (w.coil = c.val)) with
    | some w =>
      match Role.ofTxw w.role with
      | some r => if k.owner = some n ∧ k.role ≠ .fault then { k with role := r } else k
      | none => k
    | none => k

/-- A commit checked by the rules and the limiter and applied or refused (R152, R154, R161, R162). -/
def applyCommit (n : Fin 24) (ws : List TxW) (d : Dev) : Dev :=
  let ws := usedTx ws
  let code := d.ruleCode n ws
  if code ≠ 0 then ruleRefuse n code d
  else
    let l := d.limit n ws
    if l.refuse then txMsg n (onTxZ n (fun t => { t with refused := true }) d)
    else
      let d := onTxZ n (fun t => { t with
        cur := ws, driving := true, scale := l.scale, limCoil := t.limCoil || l.coil,
        limKet := t.limKet || !l.kets.isEmpty, limTot := t.limTot || l.tot }) d
      let d := d.onDrv fun v => { v with
        totLim := v.totLim || l.tot
        ket := Vector.ofFn fun k => { v.ket[k] with kLim := v.ket[k].kLim || l.kets.contains k } }
      redrive (takeRoles n ws d)

/-- A field stopped at once, without a ramp (R149). -/
def fieldStop (n : Fin 24) (d : Dev) : Dev :=
  redrive (onTxZ n (fun t => { t with field := false, on := false, rampNow := .none }) d)

/-- A ramp of a zone's field starts (R149). -/
def startRamp (n : Fin 24) (r : Ramp) (on : Bool) (d : Dev) : Dev :=
  let now := d.now
  let len := rampCycles d.drv.ramp
  onTxZ n (fun t => { t with field := on, on := true, rampNow := r, rampT := now, rampLen := len }) d

/-- Zones whose active coils, with their field on, neighbour the committed active coils of zone `n` (R153). -/
def Dev.rivals (d : Dev) (n : Fin 24) : List (Fin 24) :=
  let cs := (d.tx[n].cur.filter fun w => decide (w.role = 1)).flatMap fun w => d.drv.nbs (Fin.ofNat 192 w.coil)
  (List.finRange 24).filter fun m => decide (m ≠ n) && d.lit m &&
    cs.any fun b => decide (d.drv.coil[b].role = .active) && decide (d.drv.coil[b].owner = some m)

/-- A higher-numbered zone whose field has turned on in the present BCLK cycle (R153). -/
def Dev.yields (d : Dev) (n m : Fin 24) : Bool :=
  decide (n < m) && decide (d.tx[m].rampNow = .rising) && decide (d.tx[m].rampT = d.now)

/-- A field on, with its check against foreign active coils; of two neighbours that turn on in one cycle the lower-numbered zone does.
In a mode that permits no zone fields the write has no effect (R47, R48, R149, R151, R153, R168). -/
def fieldOn (n : Fin 24) (d : Dev) : Dev :=
  if !d.mode.cur.surface then d
  else if d.killed || (d.tx[n].on && d.tx[n].rampNow ≠ .falling) then onTxZ n (fun t => { t with field := true }) d
  else if (d.rivals n).any fun m => !d.yields n m then ruleRefuse n 5 d
  else
    let d := (d.rivals n).foldl (fun d m => ruleRefuse m 5 (fieldStop m d)) d
    redrive (startRamp n .rising true d)

/-- A field off with its ramp; without one where the bridges are held off (R149). -/
def fieldOff (n : Fin 24) (d : Dev) : Dev :=
  if !d.tx[n].on then onTxZ n (fun t => { t with field := false }) d
  else if d.killed then fieldStop n d
  else if d.tx[n].rampNow = .falling then onTxZ n (fun t => { t with field := false }) d
  else redrive (startRamp n .falling false d)

/-- The present ramp ends (R149, R151). -/
def rampEnd (n : Fin 24) (d : Dev) : Dev :=
  match d.tx[n].rampNow with
  | .none => d
  | .rising => onTxZ n (fun t => { t with rampNow := .none }) d
  | .falling => redrive (onTxZ n (fun t => { t with rampNow := .none, on := false }) d)

/-! Kills (R167, R169) -/

/-- Every bridge off at once: off ramps end, and the Kettles hold every word off (R23, R149, R167). -/
def bridgesOff (d : Dev) : Dev :=
  let d := d.onTx fun t => t.map fun z => if z.rampNow = .falling then { z with rampNow := .none, on := false } else z
  let d := redrive d
  d.onDrv fun v => v.mapCoils fun _ k => { k with kword := { k.kword with en := false } }

/-! Driver faults (R170 to R173, R600) -/

/-- FAULT byte (R600). -/
def CoilFault.code : CoilFault → Nat
  | .oc => 1 | .opn => 2 | .ron => 3

/-- FAULT byte (R600). -/
def KetFault.code : KetFault → Nat
  | .uv => 4 | .ov => 5 | .otWarn => 6 | .otShut => 7 | .link => 8

/-- A zone number as a byte, 0xFF none. -/
def ownerByte (o : Option (Fin 24)) : Nat :=
  match o with
  | some n => n.val
  | none => 0xFF

/-- DRIVER item of a coil (R600). -/
def pushCoilFault (c : Fin 192) (f : CoilFault) (owner : Option (Fin 24)) (d : Dev) : Dev :=
  let k := d.drv.coil[c]
  let kt := d.drv.ket[kOf c]
  pushPt 9 ([byteOf (kOf c).val, byteOf c.val, byteOf f.code, 1, byteOf k.role.code, byteOf (ownerByte owner),
    byteOf k.fcount, byteOf (b2n k.latched)] ++ le 2 kt.vdrv ++ [byteOf (temp8 kt.temp), 0] ++ le 4 d.phc) d

/-- DRIVER item of a Kettle (R600). -/
def pushKetFault (k : Fin 4) (f : KetFault) (set : Bool) (d : Dev) : Dev :=
  let kt := d.drv.ket[k]
  pushPt 9 ([byteOf k.val, 0xFF, byteOf f.code, byteOf (b2n set), 0xFF, 0xFF, 0, 0] ++ le 2 kt.vdrv ++
    [byteOf (temp8 kt.temp), 0] ++ le 4 d.phc) d

/-- A fault flag of a coil set: FCOUNT, the latch of R172 and DRV_FCNT (R172, R176, R177). -/
def setCoilFlag (c : Fin 192) (f : CoilFault) (d : Dev) : Dev :=
  let now := d.now
  d.onDrv fun v =>
    let v := v.onCoil c fun k =>
      let times := (now :: k.setTimes.filter fun t => decide (now - t ≤ 216960000)).take 3
      { k with
        oc := k.oc || f = .oc, opn := k.opn || f = .opn, ron := k.ron || f = .ron
        fcount := satInc 15 k.fcount, setTimes := times, latched := k.latched || decide (times.length ≥ 3) }
    { v with coilf := satInc 65535 v.coilf }

/-- A coil fault: the coil is off in role FAULT and stays with its zone (R170, R171, R173). -/
def coilFault (c : Fin 192) (f : CoilFault) (d : Dev) : Dev :=
  let owner := d.drv.coil[c].owner
  let d := setCoilFlag c f d
  let d := d.onDrv fun v => v.onCoil c fun k => { k with role := .fault, rearm := false }
  let d := redrive d
  let d := match owner with
    | some n => txMsg n (onTxZ n (fun t => { t with coilf := true }) d)
    | none => d
  pushCoilFault c f owner (msgSc 1 d)

/-- Condition and flag of a Kettle fault (R170, R176). -/
def Kettle.set (k : Kettle) : KetFault → Kettle
  | .uv => { k with uv := true, uvNow := true }
  | .ov => { k with ov := true, ovNow := true }
  | .otWarn => { k with otWarn := true, warnNow := true }
  | .otShut => { k with otShut := true, shutNow := true }
  | .link => { k with link := true, linkNow := true, linkOk := false }

/-- A Kettle fault condition that has ended. -/
def Kettle.clear (k : Kettle) : KetFault → Kettle
  | .uv => { k with uvNow := false }
  | .ov => { k with ovNow := false }
  | .otWarn => { k with warnNow := false }
  | .otShut => { k with shutNow := false }
  | .link => { k with linkNow := false, linkOk := true }

/-- The condition is in effect. -/
def Kettle.has (k : Kettle) : KetFault → Bool
  | .uv => k.uvNow | .ov => k.ovNow | .otWarn => k.warnNow | .otShut => k.shutNow | .link => k.linkNow

/-- Detection limits of a Kettle fault (R170). LINK is what the Kettle saw. -/
def KetFault.met : KetFault → (vdrv : Nat) → (temp : Int) → Bool
  | .uv, v, _ => decide (v < 750)
  | .ov, v, _ => decide (v > 1600)
  | .otWarn, _, t => decide (t ≥ 125)
  | .otShut, _, t => decide (t ≥ 150)
  | .link, _, _ => true

/-- Recovery limits of a Kettle fault (R170). -/
def KetFault.ended : KetFault → (vdrv : Nat) → (temp : Int) → Bool
  | .uv, v, _ => decide (v ≥ 780)
  | .ov, v, _ => decide (v ≤ 1550)
  | .otWarn, _, t => decide (t < 115)
  | .otShut, _, t => decide (t < 125)
  | .link, _, _ => true

/-- Every coil that the zone's committed weights drive is held off by a Kettle fault (R171). -/
def Dev.heldOff (d : Dev) (n : Fin 24) : Bool :=
  let cs := d.drv.drivenAt d.tx[n].cur 256
  !cs.isEmpty && cs.all fun x => d.drv.ket[kOf x.1].off

/-- The link of a Kettle refreshes, unless its fault holds it (R24, R145, R175). -/
def Dev.linkUp (d : Dev) (k : Fin 4) : Bool := !d.drv.ket[k].parked && d.drv.ket[k].linkOk

/-! The re-evaluation of the limiter (R163) and the backstop (R164) -/

/-- Largest F from 0 to 255 for which the estimate of the zones meets a limit (R163). -/
def largestF (fits : Nat → Bool) : Nat := searchDown fits 255

/-- SCALE of each zone concerned multiplied by F/256 (R163). -/
def scaleBy (zs : List (Fin 24)) (F : Nat) (f : ZoneTx → ZoneTx) (d : Dev) : Dev :=
  d.onTx fun t => Vector.ofFn fun n => if zs.contains n then f { t[n] with scale := t[n].scale * F / 256 } else t[n]

/-- Re-evaluation of the term of Kettle `k` (R163, R165). -/
def reevalKet (k : Fin 4) (d : Dev) : Dev :=
  let zs := d.driving.filter fun n => d.onKettle n k
  let lim := d.ketLimit k - d.reserveNw
  if d.sumKet zs k id ≤ lim then d
  else
    let F := largestF fun F => decide (d.sumKet zs k (fun s => s * F / 256) ≤ lim)
    (scaleBy zs F (fun t => { t with limKet := true }) d).onDrv fun v => v.onKet k fun x => { x with kLim := true }

/-- Re-evaluation of the total term (R163, R738). -/
def reevalTot (d : Dev) : Dev :=
  let zs := d.driving
  let lim := d.totLimit - 4 * d.reserveNw
  if d.sumTot zs id ≤ lim then d
  else
    let F := largestF fun F => decide (d.sumTot zs (fun s => s * F / 256) ≤ lim)
    (scaleBy zs F (fun t => { t with limTot := true }) d).onDrv fun v => { v with totLim := true }

/-- DRV_KPWRk.EST and DRV_PTOT.EST in mW (R176). -/
def Dev.estKetMw (d : Dev) (k : Fin 4) : Nat :=
  (d.sumKet d.driving k id + d.drv.estKet d.testNow.1 d.testNow.2 k) / 10 ^ 6

/-- DRV_PTOT.EST (R176). -/
def Dev.estTotMw (d : Dev) : Nat := (d.sumTot d.driving id + d.drv.estTot d.testNow.1 d.testNow.2) / 10 ^ 6

end Sys2Proof.Machine
end

