-- ==== Sys2Proof/Machine/SampleOps.lean ====
section
/-! DEFINITION. From ADC samples to fabric sample words: mixing, decimation, carrier removal and word formation (chapter 05, R31, R185 to
R189). Samples come newest first. Fixed-point widths are a DESIGN CHOICE, the filter taps a free value (log entry 64). -/

namespace Sys2Proof.Machine
open Sys2Proof

/-- Sum of complex numbers. -/
def csum (l : List Cplx) : Cplx := ((l.map (·.1)).sum, (l.map (·.2)).sum)

/-- An ADC sample times (−j)^m, m its place in its group of four (R185). -/
def mixSample (m : Nat) (x : Int) : Cplx :=
  match m % 4 with
  | 0 => (x, 0) | 1 => (0, -x) | 2 => (-x, 0) | _ => (0, x)

/-- The samples before a word's end mixed down, the newest being the last of its group of four (R185). -/
def mixDown (xs : List Int) : List Cplx := xs.zipIdx.map fun p => mixSample (3 - p.2 % 4) p.1

/-- The decimation filter of a profile at a word, in 1/256 of a step of the word (R186; the taps are a free value, log entry 64). -/
def decimate (profile : Nat) (xs : List Int) : Cplx :=
  csum ((mixDown xs).zipIdx.map fun p => let t := Config.filterTap profile p.2; (p.1.1 * t, p.1.2 * t))

/-- Share of the difference that the high-pass takes back at each word, in 2^-16: corners of 5, 15 and 40 kHz, and 400 kHz while it acquires
(R188; log entry 64). -/
def cornerStep : Nat → Nat
  | 0 => 152 | 1 => 455 | 2 => 1215 | _ => 12147

/-- One step of the first-order high-pass from its last input `x1` and output `y1` (R188). -/
def highPass (k : Nat) (x1 y1 x : Int) : Int := x - x1 + y1 - y1 * k / 65536

/-- The nearest whole step of a value in 1/256 of a step. -/
def wholeStep (v : Int) : Int := (v + 128) / 256

/-- A component held to ±16,383 (R189). -/
def clip15 (v : Int) : Int := max (-16383) (min 16383 v)

/-- A fabric sample word; I and Q read 0 in an invalid one (R31, R189). -/
def fabricWord (i q : Int) (inv bin : Bool) : Word :=
  word ((if inv then 0 else twos 15 (clip15 i) * 2 ^ 17 + twos 15 (clip15 q) * 4) + 2 * b2n inv + b2n bin)

/-- I and Q of a fabric sample word (R31). -/
def sampleIQ (w : Word) : Cplx := (signed 15 (w.toNat / 2 ^ 17), signed 15 (w.toNat / 4 % 2 ^ 15))

/-- One word of a channel: the filter's output and the high-pass output, both in 1/256 of a step (R185 to R188). -/
def channelStep (profile k : Nat) (x1 y1 : Cplx) (xs : List Int) : Cplx × Cplx :=
  let x := decimate profile xs
  (x, (highPass k x1.1 y1.1 x.1, highPass k x1.2 y1.2 x.2))

/-- I or Q of a word saturates (R189). -/
def saturates (y : Cplx) : Bool := decide (16383 < (wholeStep y.1).natAbs) || decide (16383 < (wholeStep y.2).natAbs)

end Sys2Proof.Machine
end

