-- ==== Sys2Proof/Machine/RxOps.lean ====
section
/-! DEFINITION. Receive sets, gain loops and their histories, invalid runs (chapter 05). -/

namespace Sys2Proof.Machine
open Sys2Proof

/-- A coil is a member of a zone's receive set (R191). -/
def Dev.member (d : Dev) (n : Fin 24) (c : Fin 192) : Bool :=
  d.drv.coil[c].owner = some n && (d.drv.coil[c].role = .active || d.drv.coil[c].role = .guardOpen)

/-- The receive set of a zone (R191). -/
def Dev.members (d : Dev) (n : Fin 24) : List (Fin 192) := allCoils.filter fun c => d.member n c

/-- The zone whose receive set a channel belongs to; LINKED is 1 where there is one (R191). -/
def Dev.setOf (d : Dev) (c : Fin 192) : Option (Fin 24) :=
  match d.drv.coil[c].owner with
  | some n => if d.member n c then some n else none
  | none => none

/-- Domain of the channel's HFRX group (R205). -/
def hfrxDom (c : Fin 192) : Fin 49 := Fin.ofNat 49 (20 + c.val / 8)

/-- The conditions of R201, under which every word is marked with no count. -/
def Dev.alwaysInv (d : Dev) (c : Fin 192) : Bool :=
  d.drv.coil[c].role = .absent || d.drv.coil[c].role = .fault || d.pmu.dom[hfrxDom c].p ≠ .up

/-- RX_CHn.INV (R201, R208). -/
def Dev.chInv (d : Dev) (c : Fin 192) : Bool := d.alwaysInv c || decide (d.now < d.rx.ch[c].invEnd)

/-- RX_CHn.CAUSE (R200, R201, R208). -/
def Dev.chCause (d : Dev) (c : Fin 192) : Nat :=
  if d.alwaysInv c then 7 else if d.now < d.rx.ch[c].invEnd then d.rx.ch[c].cause else 0

/-- RX_CHn.REM (R200, R208). -/
def Dev.chRem (d : Dev) (c : Fin 192) : Nat :=
  if d.alwaysInv c then 0 else (d.rx.ch[c].invEnd - d.now + 15) / 16

/-- A zone's combined word is invalid (R202). -/
def Dev.zoneInv (d : Dev) (n : Fin 24) : Bool := (d.members n).isEmpty || (d.members n).any fun c => d.chInv c

/-- Change of one channel. -/
def onCh (c : Fin 192) (f : RxCh → RxCh) (d : Dev) : Dev := d.onRx fun r => { r with ch := upd r.ch c f }

/-- Change of a zone's receive controls. -/
def onZRx (n : Fin 24) (f : ZoneRx → ZoneRx) (d : Dev) : Dev := d.onRx fun r => { r with zone := upd r.zone n f }

/-- Runs that a look-back may still meet: the longest span and the longest bin lie within 2^19 BCLK cycles. -/
def keepRuns (now : Nat) (l : List (Nat × Nat)) : List (Nat × Nat) := l.filter fun r => decide (now ≤ r.2 + 2 ^ 19)

/-- A channel enters a run in its history; the end of a condition of R201 enters the run of that condition (R199, R201). -/
def RxCh.enter (x : RxCh) (now words cause : Nat) : RxCh :=
  let old := match x.badT with
    | some t => if cause = 3 ∨ cause = 6 then [(t, now)] else []
    | none => []
  { x with runs := keepRuns now ((now, now + 16 * words) :: (old ++ x.runs)), badT := if cause = 3 ∨ cause = 6 then none else x.badT }

/-- An invalid run of `words` words: the later of the two ends holds, and the higher cause where they are equal (R199, R200). -/
def RxCh.mark (x0 : RxCh) (now words cause : Nat) : RxCh :=
  let x := x0.enter now words cause
  let e := now + 16 * words
  if x.invEnd < e ∨ x.invEnd ≤ now then { x with invEnd := e, cause := cause }
  else if x.invEnd = e then { x with cause := max x.cause cause }
  else x

/-- Words up to `b` that a list of word intervals, sorted by their starts, covers after `a`. -/
def covered (b : Nat) : Nat → List (Nat × Nat) → Nat
  | _, [] => 0
  | a, (s, e) :: rest =>
    let s := max a s
    let e := min b e
    if s < e then e - s + covered b e rest else covered b a rest

/-- An interval put in its place by its start. -/
def insertRun (r : Nat × Nat) : List (Nat × Nat) → List (Nat × Nat)
  | [] => [r]
  | x :: xs => if r.1 ≤ x.1 then r :: x :: xs else x :: insertRun r xs

/-- Intervals of words in which a channel's words are invalid, by their numbers (R199, R201). -/
def Dev.badWords (d : Dev) (c : Fin 192) : List (Nat × Nat) :=
  let x := d.rx.ch[c]
  (x.runs.map fun r => (r.1 / 16, r.2 / 16)) ++ (if d.alwaysInv c then [(x.badT.getD 0 / 16, d.now / 16)] else [])

/-- Words after TSC `a` up to TSC `b` that are valid on every channel of a list (R202, R204, R224). -/
def Dev.validIn (d : Dev) (cs : List (Fin 192)) (a b : Nat) : Nat :=
  b / 16 - a / 16 - covered (b / 16) (a / 16) ((cs.flatMap d.badWords).foldr insertRun [])

/-- A condition of R201 begins to hold on channels of a list. -/
def goBad (cs : List (Fin 192)) (d : Dev) : Dev :=
  let now := d.now
  cs.foldl (fun d c => onCh c (fun x => { x with badT := some (x.badT.getD now) }) d) d

/-- The run marked on the channels of a list (R199). -/
def markAll (cs : List (Fin 192)) (words cause : Nat) (d : Dev) : Dev :=
  let now := d.now
  d.onRx fun r => { r with ch := Vector.ofFn fun c => if cs.contains c then r.ch[c].mark now words cause else r.ch[c] }

/-- Gain of the channels of a list: a change is a gain step of 6 words, cause 1 (R197, R199). -/
def setGain (cs : List (Fin 192)) (g : Nat) (d : Dev) : Dev :=
  let now := d.now
  d.onRx fun r => { r with
    ch := Vector.ofFn fun c => if cs.contains c && decide (r.ch[c].gain ≠ g) then RxCh.mark { r.ch[c] with gain := g } now 6 1 else r.ch[c] }

/-- A step of a channel's own loop, which writes HIST_Q (R192, R196). -/
def ownStep (c : Fin 192) (g : Nat) (d : Dev) : Dev :=
  let now := d.now
  onCh c (fun x => { x with histQ := g, hvQ := true, winT := now }) (setGain [c] g d)

/-- Gain of a zone's receive set (R191, R195, R197). -/
def setZoneGain (n : Fin 24) (g : Nat) (d : Dev) : Dev :=
  let now := d.now
  onZRx n (fun z => { z with gain := g, winT := now }) (setGain (d.members n) g d)

/-- A gain step of a set's own loop, kept so that a detection in the same word can discard it (R192, R194). -/
def stepZone (n : Fin 24) (ovr : Bool) (g : Nat) (d : Dev) : Dev :=
  let old := (d.members n).map fun c => (c, d.rx.ch[c])
  let now := d.now
  onZRx n (fun z => { z with undo := some (now / 16, ovr, z.gain, old) }) (setZoneGain n g d)

/-- A detection freezes the loop; a step decided in its word is discarded, and an overrange in it sets CLIP (R193, R194). -/
def freezeLoop (n : Fin 24) (d : Dev) : Dev :=
  let d := onZRx n (fun z => { z with frozen := true }) d
  match d.rx.zone[n].undo with
  | some (w, ovr, g, old) =>
    if w = d.now / 16 then
      onZRx n (fun z => { z with gain := g, clip := z.clip || ovr, undo := none })
        (old.foldl (fun d x => onCh x.1 (fun _ => x.2) d) d)
    else d
  | none => d

/-- Lowest valid HIST_Q of a list of channels, G_INIT if none is valid (R197). -/
def Rx.lowQ (r : Rx) (cs : List (Fin 192)) : Nat :=
  match (cs.filter fun c => r.ch[c].hvQ).map fun c => r.ch[c].histQ with
  | [] => r.gInit
  | g :: gs => gs.foldl min g

/-- Lowest valid HIST_F of a list of channels, G_INIT if none is valid (R197). -/
def Rx.lowF (r : Rx) (cs : List (Fin 192)) : Nat :=
  match (cs.filter fun c => r.ch[c].hvF).map fun c => r.ch[c].histF with
  | [] => r.gInit
  | g :: gs => gs.foldl min g

/-- Loop mode FIXED or HOLD keeps the gain from the starting rules (R195; DEDUCED, log entry 20). -/
def ZoneRx.auto (z : ZoneRx) : Bool := z.agc = 0

/-- HIST_F of the members of a set when the zone's field turns off (R196). -/
def keepF (cs : List (Fin 192)) (g : Nat) (d : Dev) : Dev :=
  cs.foldl (fun d c => onCh c (fun x => { x with histF := g, hvF := true }) d) d

/-- The zone's field is on, and no off ramp runs (R196, R197). -/
def Dev.fieldUp (d : Dev) (n : Fin 24) : Bool := d.tx[n].on && decide (d.tx[n].rampNow ≠ .falling)

/-- The coil is driven by its zone's field and no off ramp runs. -/
def Dev.drvOn (d : Dev) (c : Fin 192) : Bool :=
  d.drv.coil[c].word.en && (match d.drv.coil[c].owner with
    | some n => decide (d.tx[n].rampNow ≠ .falling)
    | none => false)

/-- The coils of a list with their layout neighbours (R199). -/
def Drive.around (v : Drive) (cs : List (Fin 192)) : List (Fin 192) :=
  allCoils.filter fun c => cs.contains c || (v.nbs c).any fun b => cs.contains b

/-- What a change of fields from `b` to `d` does in the receive chain (R196, R197, R199). -/
def rxField (b d : Dev) : Dev :=
  let ev := allCoils.filter fun c => decide (b.drvOn c ≠ d.drvOn c)
  let zs := List.finRange 24
  let d := zs.foldl (fun d n => if b.fieldUp n && !d.fieldUp n then keepF (b.members n) b.rx.zone[n].gain d else d) d
  let d := zs.foldl (fun d n =>
    if !b.fieldUp n && d.fieldUp n && d.rx.zone[n].auto then setZoneGain n (d.rx.lowF (d.members n)) d else d) d
  markAll (d.drv.around ev) 96 4 d

/-- Occupied coils that have returned to FREE since `b`: their references are to be taken again (R762). -/
def freedCoils (b d : Dev) : Dev :=
  d.onPrb fun p => { p with coil := Vector.ofFn fun c =>
    if b.drv.coil[c].role ≠ .free ∧ d.drv.coil[c].role = .free ∧ p.coil[c].occ then { p.coil[c] with retake := true } else p.coil[c] }

/-- What a change of roles, owners or trims from `b` to `d` does in the receive chain (R197, R199) and to occupied references (R762). -/
def rxRoles (b d : Dev) : Dev :=
  let ch := allCoils.filter fun c =>
    decide (b.drv.coil[c].role ≠ d.drv.coil[c].role) || decide (b.drv.coil[c].owner ≠ d.drv.coil[c].owner) ||
    decide (b.drv.coil[c].cal.eff.trim ≠ d.drv.coil[c].cal.eff.trim)
  let d := ch.foldl (fun d c =>
    match b.setOf c, d.setOf c with
    | _, some n => if b.setOf c = some n then d else setGain [c] d.rx.zone[n].gain (onCh c (fun x => { x with saved := none }) d)
    | some _, none => setGain [c] (if d.rx.ch[c].hvQ then d.rx.ch[c].histQ else d.rx.gInit) d
    | none, none => d) d
  let bad := ch.filter fun c => d.alwaysInv c && !b.alwaysInv c
  freedCoils b (goBad bad (markAll ch 40 3 d))

/-- A change of the drive side with its effects on the receive chain. -/
def withRx (f : Dev → Dev) (d : Dev) : Dev := rxField d (rxRoles d (f d))

/-- A commit with its effects on the receive chain: roles change, the field does not turn on or off. -/
def withRxRoles (f : Dev → Dev) (d : Dev) : Dev := rxRoles d (f d)

/-- A filter profile in effect on a zone's receive set (R187, R199). -/
def applyFilt (n : Fin 24) (p : Nat) (d : Dev) : Dev :=
  if d.rx.zone[n].filtAct = p then onZRx n (fun z => { z with filt := p, held := none }) d
  else markAll (d.members n) 24 2 (onZRx n (fun z => { z with filt := p, filtAct := p, held := none }) d)

/-- A held filter change applies at the frame's end or abandonment (R187). -/
def heldFilt (n : Fin 24) (d : Dev) : Dev :=
  match d.rx.zone[n].held with
  | some p => applyFilt n p d
  | none => d

/-- The gain loop of a zone unfreezes; its first window starts at the next word (R193). -/
def unfreeze (n : Fin 24) (d : Dev) : Dev :=
  let now := d.now
  onZRx n (fun z => { z with frozen := false, winT := if z.frozen then now else z.winT }) d

/-- Receive controls of a zone at its opening, with the starting gain of its set (R195, R197, R209). -/
def openRx (n : Fin 24) (d : Dev) : Dev :=
  let g := d.rx.lowQ (d.members n)
  setZoneGain n g (onZRx n (fun _ => {}) d)

/-- Channels at PROBE_G while a burst drives coil `c`: the coil and its neighbours outside receive sets (R197). -/
def probeGainOn (c : Fin 192) (d : Dev) : Dev :=
  let cs := (d.drv.around [c]).filter fun x => (d.setOf x).isNone && d.rx.ch[x].saved.isNone
  let d := cs.foldl (fun d x => onCh x (fun y => { y with saved := some y.gain }) d) d
  setGain cs d.rx.probeG d

/-- Those channels return to their own loops after the burst (R197). -/
def probeGainOff (c : Fin 192) (d : Dev) : Dev :=
  let cs := d.drv.around [c]
  cs.foldl (fun d x =>
    match d.rx.ch[x].saved with
    | some g =>
      let now := d.now
      onCh x (fun y => { y with saved := none, winT := now }) (setGain [x] g d)
    | none => d) d

/-- RX_CFG.PROBE_G written: channels held by a burst follow at the next word (R207). -/
def probeGainWrite (g : Nat) (d : Dev) : Dev :=
  let d := d.onRx fun r => { r with probeG := g }
  setGain (allCoils.filter fun c => d.rx.ch[c].saved.isSome) g d

/-- The corner of a channel's high-pass: it acquires in the runs of field, reassignment and power-up (R188). -/
def Dev.corner (d : Dev) (c : Fin 192) : Nat :=
  if d.chInv c && (d.chCause c = 3 || d.chCause c = 4 || d.chCause c = 6) then 3 else d.rx.dcr

/-- The profile of a channel's decimation filter: WIDE outside receive sets (R187). -/
def Dev.profile (d : Dev) (c : Fin 192) : Nat := match d.setOf c with
  | some n => d.rx.zone[n].filtAct
  | none => 0

/-- One word of a channel formed from the ADC samples before its end; a saturated word counts (R185 to R189). -/
def formChannel (c : Fin 192) (xs : List Int) (d : Dev) : Dev :=
  let x := d.rx.ch[c]
  let r := channelStep (d.profile c) (cornerStep (d.corner c)) x.hpX x.hpY xs
  let sat := !d.chInv c && saturates r.2
  let d := onCh c (fun x => { x with hpX := r.1, hpY := r.2, sat := x.sat || sat }) d
  if sat then d.onRx fun r => { r with cntSat := satInc 65535 r.cntSat } else d

/-- The word that a channel has formed last (R31, R189, R203). -/
def Dev.channelWord (d : Dev) (c : Fin 192) (bin : Bool) : Word :=
  let y := d.rx.ch[c].hpY
  fabricWord (wholeStep y.1) (wholeStep y.2) (d.chInv c) bin

/-- BIN of a word taken now: it is the first at or after the last strobe (R31, R114, R203). -/
def Dev.binNow (d : Dev) : Bool := match d.tb.strobe with
  | some t => decide (d.now / 16 = (t + 15) / 16)
  | none => false

/-- A word of the zone's combined stream with the sum `v` of its members: invalid where a member's word is (R31, R202, R203). -/
def Dev.zoneWord (d : Dev) (n : Fin 24) (v : Cplx) : Word := fabricWord v.1 v.2 (d.zoneInv n) d.binNow

end Sys2Proof.Machine
end

