-- ==== Sys2Proof/Machine/LauOps.lean ====
section
/-! DEFINITION. The template library, the engines and their allocation, the peak search (chapter 06). -/

namespace Sys2Proof.Machine
open Sys2Proof

/-! The template library (R215, R217) -/

/-- One row of the library (R215). -/
structure Tmpl where
  /-- TID -/
  tid : Nat
  /-- fold slots, by their number -/
  slots : List Nat
  /-- lanes -/
  lanes : Nat
  /-- span in words -/
  span : Nat
  /-- GROUP -/
  group : Nat
  /-- THQ -/
  thq : Nat
  /-- THR -/
  thr : Nat
deriving DecidableEq, Repr

/-- The template library (R215); fold slots are numbered in the order of R217. -/
def library : List Tmpl :=
  [ ⟨1, [0], 1, 512, 0, 300, 460⟩, ⟨2, [0], 2, 1024, 0, 240, 400⟩, ⟨3, [0], 1, 512, 0, 300, 460⟩, ⟨4, [1], 1, 256, 0, 300, 460⟩,
    ⟨5, [2], 1, 128, 0, 300, 460⟩, ⟨6, [3], 2, 512, 0, 240, 400⟩, ⟨7, [5], 2, 1024, 1, 240, 400⟩, ⟨8, [4], 2, 64, 1, 240, 400⟩,
    ⟨9, [4], 2, 64, 1, 240, 400⟩, ⟨10, [4], 1, 32, 1, 300, 460⟩, ⟨11, [6], 1, 4096, 2, 300, 460⟩, ⟨12, [6, 7], 2, 4096, 2, 240, 400⟩,
    ⟨13, [8], 1, 16384, 2, 300, 460⟩, ⟨14, [9], 3, 8192, 2, 300, 460⟩ ]

/-- The template with a TID. -/
def tmpl (tid : Nat) : Option Tmpl := library.find? fun t => decide (t.tid = tid)

/-- Fold slots of a RECOG group (R217). -/
def groupSlots : Nat → List Nat
  | 0 => [0, 1, 2, 3] | 1 => [4, 5] | _ => [6, 7, 8, 9]

/-- Lanes of a RECOG group (R217). -/
def groupLanes : Nat → Nat
  | 0 => 0xFF | _ => 0x7F

/-- MIX, as the divisor of fs with 0 for none, and S of a fold slot (R215, R217). -/
def slotFold : Nat → Nat × Nat
  | 0 => (16, 16) | 1 => (16, 8) | 2 => (16, 4) | 3 => (0, 8) | 4 => (0, 1) | 5 => (0, 16) | 6 => (32, 128) | 7 => (28, 128)
  | 8 => (32, 512) | _ => (64, 256)

/-- Words that fill a fold slot: the span of the longest template that runs on it; a probe lane spans 256 (R229, R239, R242). -/
def slotSpan (ts : List Tmpl) (s : Nat) : Nat := ((ts.filter fun t => t.slots.contains s).map fun t => t.span).foldl max 0

/-- The templates of a TMASK (R231, R243). -/
def maskTmpls (m : Nat) : List Tmpl := library.filter fun t => m.testBit (t.tid - 1)

/-- The distinct fold slots of a TMASK. -/
def maskSlots (m : Nat) : List Nat := ((maskTmpls m).flatMap fun t => t.slots).eraseDups

/-- Refusal code of a TRACK request, 0 where it is not refused (R232). -/
def trackRefuse (m : Nat) : Nat :=
  if maskTmpls m = [] then 1
  else if ((maskTmpls m).map fun t => t.lanes).sum > 8 then 2
  else if (maskSlots m).length > 4 then 3
  else 0

/-- First lane of a template in its RECOG group, lanes taken in the order of R215 (DESIGN CHOICE, log entry 21). -/
def firstLane (t : Tmpl) : Nat :=
  ((library.filter fun u => decide (u.group = t.group) && decide (u.tid < t.tid)).map fun u => u.lanes).sum

/-- Lanes that run for a TMASK: those of the RECOG group where one group holds all, else the lowest (DESIGN CHOICE, log entry 21). -/
def trackLanes (m : Nat) (keep : Bool) : Nat :=
  if keep then ((maskTmpls m).map fun t => (2 ^ t.lanes - 1) * 2 ^ firstLane t).sum
  else 2 ^ ((maskTmpls m).map fun t => t.lanes).sum - 1

/-! Engines -/

/-- Code of a class (R242). -/
def LClass.code : LClass → Nat
  | .none => 0 | .recog => 1 | .track => 2 | .probe => 3

/-- Engines that a class needs (R231). -/
def LClass.need : LClass → Nat
  | .none => 0 | .recog => 3 | .track => 1 | .probe => 0

/-- Engines that are free, lowest first. -/
def Lauter.freeEng (l : Lauter) : List (Fin 64) := (List.finRange 64).filter fun e => decide (l.eng[e].cls = .none)

/-- Engines held for probing, lowest first (R230, R241). -/
def Lauter.probeEngs (l : Lauter) : List (Fin 64) := (List.finRange 64).filter fun e => decide (l.eng[e].cls = .probe)

/-- Engines of a zone, lowest first. -/
def Lauter.zoneEngs (l : Lauter) (n : Fin 24) : List (Fin 64) := (List.finRange 64).filter fun e => decide (l.eng[e].zone = some n)

/-- Change of one zone's Lauter block. -/
def onLz (n : Fin 24) (f : LZone → LZone) (d : Dev) : Dev := d.onLau fun l => { l with zone := upd l.zone n f }

/-- Engines released (R213). -/
def Lauter.release (l : Lauter) (es : List (Fin 64)) : Lauter :=
  { l with eng := Vector.ofFn fun e => if es.contains e then {} else l.eng[e] }

/-- The kept engine of a zone configured for a TMASK: slots already there keep their history; where more than four would stand, those that no
template of the mask reads give way, the last first (R210, R214, R235; DESIGN CHOICE, log entry 65). -/
def Engine.track (e : Engine) (n : Fin 24) (m : Nat) (now : Nat) : Engine :=
  let one := match maskTmpls m with
    | [] => false
    | t :: ts => ts.all fun u => decide (u.group = t.group)
  { cls := .track, zone := some n, group := 0, lanes := trackLanes m one
    folds :=
      let need := (maskSlots m).map fun s => match e.folds.find? fun x => decide (x.1 = s) with
        | some x => x
        | none => (s, now)
      need ++ (e.folds.filter fun x => !(maskSlots m).contains x.1).take (4 - need.length) }

/-- Allocation of a zone changed to a class that does not raise its engine count (R233, R235). -/
def applyClass (n : Fin 24) (c : LClass) (m : Nat) (d : Dev) : Dev :=
  let now := d.now
  d.onLau fun (l0 : Lauter) =>
    let es := l0.zoneEngs n
    let l : Lauter := match c with
      | .track =>
        let grp := match maskTmpls m with
          | [] => 3
          | t :: ts => if ts.all fun u => decide (u.group = t.group) then t.group else 3
        let keep := match es.find? (fun (e : Fin 64) => decide ((l0.eng[e]).cls = LClass.recog) && decide ((l0.eng[e]).group = grp)) with
          | some e => some e
          | none => es.head?
        match keep with
        | some k =>
          let l := l0.release (es.filter (· ≠ k))
          { l with eng := upd l.eng k fun e => e.track n m now }
        | none => l0
      | .none => l0.release es
      | _ => l0
    { l with zone := upd l.zone n fun z => { z with cls := c, tmask := if c = .track then m else 0, wait := none }
             order := l.order.filter (· ≠ n) }

/-- Class of a number (R243). -/
def LClass.ofReq : Nat → LClass
  | 1 => .recog | 2 => .track | _ => .none

/-- A request enters the waiting order: at its back, but before higher zones of the same cycle (R233). -/
def Lauter.enqueue (l : Lauter) (n : Fin 24) (now : Nat) : List (Fin 24) :=
  let o := l.order.filter (· ≠ n)
  let ahead (m : Fin 24) : Bool := match l.zone[m].wait with
    | some r => decide (r.since < now) || decide (m < n)
    | none => true
  o.takeWhile ahead ++ n :: o.dropWhile ahead

/-- Waiting requests for which the free engines do not suffice, those ahead and the probe sequencer being served first: each is counted once
(R234, R238, R241). -/
def judgeWaits (d : Dev) : Dev :=
  d.onLau fun l =>
    let free := l.freeEng.length - (if l.probing then l.probeEng - l.probeEngs.length else 0)
    let r := l.order.foldl (fun (a : Nat × List (Fin 24)) n => match l.zone[n].wait with
      | some r =>
        let need := a.1 + (r.cls.need - l.zone[n].cls.need)
        (need, if free < need ∧ r.late = false then a.2 ++ [n] else a.2)
      | none => a) (0, [])
    { l with
      zone := Vector.ofFn fun n => if r.2.contains n then { l.zone[n] with wait := l.zone[n].wait.map fun x => { x with late := true } } else l.zone[n]
      waits := satAdd 65535 l.waits r.2.length }

/-- A checked request of a zone that is not in HOLD: applied, or put into the waiting order (R233, R236, R241). -/
def request (n : Fin 24) (c : LClass) (m : Nat) (d : Dev) : Dev :=
  if c.need ≤ d.lau.zone[n].cls.need then applyClass n c m d
  else
    let now := d.now
    judgeWaits (d.onLau fun l => { l with
      zone := upd l.zone n fun z => { z with wait := some { cls := c, tmask := m, held := false, since := now } }
      order := l.enqueue n now })

/-- HOLD of a zone clears: a held request applies (R226, R236). -/
def clearHold (n : Fin 24) (d : Dev) : Dev :=
  let d := onLz n (fun z => { z with hold := false }) d
  match d.lau.zone[n].wait with
  | some r => if r.held then request n r.cls r.tmask (onLz n (fun z => { z with wait := none }) d) else d
  | none => d

/-- Engines that the probe sequencer is to hold, served from free engines before any zone (R234). -/
def serveProbe (d : Dev) : Dev :=
  d.onLau fun l =>
    if l.probing then
      let es := l.freeEng.take (l.probeEng - l.probeEngs.length)
      { l with eng := Vector.ofFn fun e => if es.contains e then { cls := .probe } else l.eng[e] }
    else l

/-- PROBE engines above PROBE_ENG released, the highest-numbered first, once they serve no burst (R234). -/
def trimProbe (d : Dev) : Dev := d.onLau fun l => l.release ((l.probeEngs.drop l.probeEng).filter fun e => (l.eng[e]).coil.isNone)

/-- PROBE engines take the bursts of a list of coils, the lowest engine the first: lane 0 the driven coil, lanes 1 to 6 its neighbours; the new
input stream empties the slot none S8 (R210, R213, R214, R229). -/
def engOn (cs : List (Fin 192)) (d : Dev) : Dev :=
  let now := d.now
  d.onLau fun l =>
    let es := (l.probeEngs.filter fun e => (l.eng[e]).coil.isNone).zip cs
    { l with eng := es.foldl (fun v x => upd v x.1 fun e => { e with
        coil := some x.2.val, lanes := 2 ^ (1 + min 6 (d.drv.nbs x.2).length) - 1, folds := [(3, now)] }) l.eng }

/-- PROBE engines whose bursts end stop their lanes (R213, R229). -/
def engOff (stop : Nat → Bool) (d : Dev) : Dev :=
  d.onLau fun l => { l with eng := l.eng.map fun e => if e.coil.any stop then { e with coil := none, lanes := 0, folds := [] } else e }

/-- Grant of a request to its zone (R217, R231, R233). -/
def grantTo (n : Fin 24) (r : LReq) (d : Dev) : Dev :=
  let now := d.now
  d.onLau fun l =>
    let l := l.release (l.zoneEngs n)
    let es := l.freeEng
    let l := match r.cls with
      | .recog =>
        { l with eng := Vector.ofFn fun e => match es.findIdx? (· = e) with
          | some g => if g < 3 then
              { cls := .recog, zone := some n, group := g, lanes := groupLanes g,
                folds := (groupSlots g).map fun s => (s, now) } else l.eng[e]
          | none => l.eng[e] }
      | .track =>
        match es.head? with
        | some k => { l with eng := upd l.eng k fun _ => Engine.track {} n r.tmask now }
        | none => l
      | _ => l
    { l with
      zone := upd l.zone n fun z => { z with cls := r.cls, tmask := if r.cls = .track then r.tmask else 0, wait := none }
      order := l.order.filter (· ≠ n)
      waitMax := if r.late then max l.waitMax (min 65535 (toUs (now - r.since))) else l.waitMax }

/-- Grant of the request at the head of the waiting order, where engines suffice (R233). -/
def grantHead (d : Dev) : Dev :=
  let d := serveProbe d
  match d.lau.order with
  | [] => d
  | n :: _ =>
    match d.lau.zone[n].wait with
    | some r => if r.cls.need ≤ d.lau.freeEng.length + d.lau.zone[n].cls.need then grantTo n r d else d
    | none => d.onLau fun l => { l with order := l.order.filter (· ≠ n) }

/-- Every engine released and every zone NONE: FAB is not On (R234). -/
def lauOff (d : Dev) : Dev :=
  d.onLau fun l => { l with
    eng := Vector.replicate 64 {}, probing := false, order := []
    zone := l.zone.map fun z => { z with cls := .none, tmask := 0, wait := none } }

/-- Lauter block of a zone at its opening: LZn_CNT keeps counting (R237). -/
def LZone.opened (z : LZone) : LZone := { det := z.det, alt := z.alt, lost := z.lost, inelig := z.inelig }

/-- A zone's engines released and its waiting request removed at closing (R237, R272). -/
def lauClose (n : Fin 24) (d : Dev) : Dev :=
  let d := d.onLau fun l =>
    let l := l.release (l.zoneEngs n)
    { l with zone := upd l.zone n fun z => { z with reqClass := 0, cls := .none, tmask := 0, wait := none, hold := false, listen := false, search := [], due := none }
             order := l.order.filter (· ≠ n) }
  serveProbe d

/-! Crossings and detections (R113, R221 to R228) -/

/-- The zone's class for the present bin is QUIET: every group with an active coil of the zone is (R113). -/
def Dev.zoneQuiet (d : Dev) (n : Fin 24) : Bool :=
  let acts := allCoils.filter fun c => decide (d.drv.coil[c].owner = some n) && decide (d.drv.coil[c].role = .active)
  !acts.isEmpty && acts.all fun c => decide (d.tb.latched[Fin.ofNat 24 (c.val / 8)] = .quiet)

/-- TH of a template for a zone (R221). -/
def Dev.threshold (d : Dev) (n : Fin 24) (t : Tmpl) : Nat :=
  (min 1000 (max 128 (((if d.zoneQuiet n then t.thq else t.thr) : Nat) + d.lau.kadj))).toNat

/-- The template runs on an engine of the zone (R231, R235). -/
def Dev.runs (d : Dev) (n : Fin 24) (t : Tmpl) : Bool :=
  match d.lau.zone[n].cls with
  | .recog => true
  | .track => d.lau.zone[n].tmask.testBit (t.tid - 1)
  | _ => false

/-- The template has crossed in the present search (R223). -/
def LZone.crossed (z : LZone) (tid : Nat) : Option Cross := z.search.find? fun y => decide (y.tid = tid)

/-- A score at the present word entered in the search: a template that has crossed keeps its highest score, with its word and, of several
rate variants, the one that R225 prefers (R223, R225). -/
def LZone.cross (z : LZone) (x : Cross) (now : Nat) : LZone :=
  let rises := match z.crossed x.tid with
    | some y => decide (y.score < x.score)
    | none => true
  { z with
    search := match z.crossed x.tid with
      | some _ => z.search.map fun y => if y.tid = x.tid ∧ (y.score < x.score ∨ (y.score = x.score ∧ x.var < y.var)) then
          { y with var := x.var, score := x.score, phc := x.phc, tsc := x.tsc } else y
      | none => z.search ++ [x]
    firstAt := if z.search.isEmpty then now else z.firstAt
    lastMax := if rises then now else z.lastMax }

/-- The crossed template that the detection takes (R225). -/
def better (a b : Cross) : Cross := if b.score > a.score ∨ (b.score = a.score ∧ b.tid < a.tid) then b else a

/-- The best of a search. -/
def bestOf : List Cross → Option Cross
  | [] => none
  | x :: xs => some (xs.foldl better x)

/-- A record pushed to the detection queue of two (R227). -/
def LZone.pushDet (z : LZone) (r : Det) : LZone :=
  if z.dets.length < 2 then { z with dets := z.dets ++ [r] }
  else { z with dets := z.dets.drop 1 ++ [r], lost := satInc 255 z.lost }

/-! Reports to Kiln (R681) -/

/-- A detection: one before it that no valid frame has followed was false (R681). -/
def kilnDet (n : Fin 24) (d : Dev) : Dev :=
  d.onKiln fun k => { k with false_ := if k.open_[n] then k.false_ + 1 else k.false_, open_ := upd k.open_ n fun _ => true }

/-- The frame after a detection, with valid checks or not (R681). -/
def kilnFrame (n : Fin 24) (valid : Bool) (d : Dev) : Dev :=
  d.onKiln fun k => { k with
    false_ := if k.open_[n] && !valid then k.false_ + 1 else k.false_, open_ := upd k.open_ n fun _ => false }

end Sys2Proof.Machine
end

