-- ==== Sys2Proof/Machine/LocOps.lean ====
section
/-! DEFINITION. Readings, baselines, location and the splitting of an image into objects (chapter 07). -/

namespace Sys2Proof.Machine
open Sys2Proof

/-! Whole square roots -/

/-- Bits of a square root, from bit `k` down. -/
def isqrtBits (n : Nat) : Nat → Nat → Nat
  | 0, r => r
  | k + 1, r => isqrtBits n k (if (r + 2 ^ k) ^ 2 ≤ n then r + 2 ^ k else r)

/-- Whole square root, rounded down, of a number below 2^64. -/
def isqrt (n : Nat) : Nat := isqrtBits n 32 0

/-! Readings and baselines (R252 to R255). Baselines are kept in 1/256 cu (DESIGN CHOICE, log entry 22). -/

/-- A reading in the scale of a baseline. -/
def upCu (r : Cplx) : Cplx := (r.1 * 256, r.2 * 256)

/-- |a − b| in whole cu, rounded down (R253). -/
def deltaCu (a b : Cplx) : Nat := isqrt (((a.1 - b.1) ^ 2 + (a.2 - b.2) ^ 2).toNat / 65536)

/-- |a − b| in whole cu of two readings. -/
def deltaRd (a b : Cplx) : Nat := isqrt ((a.1 - b.1) ^ 2 + (a.2 - b.2) ^ 2).toNat

/-- A baseline moved toward a reading by 2^-DRIFT of the difference (R254). -/
def driftTo (base rd : Cplx) (drift : Nat) : Cplx :=
  (base.1 + (rd.1 - base.1) / (2 ^ drift : Nat), base.2 + (rd.2 - base.2) / (2 ^ drift : Nat))

/-- A self reading is a change (R253). -/
def Probe.selfChange (p : Probe) (delta : Nat) : Bool := decide (8 * p.thS ≤ delta)

/-- A mutual reading is a change (R253). -/
def Probe.mutChange (p : Probe) (delta : Nat) : Bool := decide (8 * p.thM ≤ delta)

/-- The probe's drive amplitude in 1/256 cu: (AMP/255)(4/π)VDRV over ±8.0 V of R183 (DEDUCED, log entry 22). -/
def probeCu (amp v : Nat) : Nat := amp * 12732395447 * v * 65536 * 256 / (255 * 10 ^ 12 * 8)

/-- A mutual baseline from calibration, C(n, g) × the drive amplitude (R255). -/
def calMut (c : Int × Int) (a : Nat) : Cplx := (c.1 * a / 128, c.2 * a / 128)

/-! Location (R260, R261) -/

/-- cos and sin of the odd degrees 1 to 89, times 10^12. -/
def oddDegrees : List (Int × Int) :=
  [(999847695156, 17452406437), (998629534755, 52335956243), (996194698092, 87155742748), (992546151641, 121869343405), (987688340595, 156434465040), (981627183448, 190808995377), (974370064785, 224951054344), (965925826289, 258819045103), (956304755963, 292371704723), (945518575599, 325568154457), (933580426497, 358367949545), (920504853452, 390731128489), (906307787037, 422618261741), (891006524188, 453990499740), (874619707139, 484809620246)] ++
  [(857167300702, 515038074910), (838670567945, 544639035015), (819152044289, 573576436351), (798635510047, 601815023152), (777145961457, 629320391050), (754709580223, 656059028991), (731353701619, 681998360062), (707106781187, 707106781187), (681998360062, 731353701619), (656059028991, 754709580223), (629320391050, 777145961457), (601815023152, 798635510047), (573576436351, 819152044289), (544639035015, 838670567945), (515038074910, 857167300702)] ++
  [(484809620246, 874619707139), (453990499740, 891006524188), (422618261741, 906307787037), (390731128489, 920504853452), (358367949545, 933580426497), (325568154457, 945518575599), (292371704723, 956304755963), (258819045103, 965925826289), (224951054344, 974370064785), (190808995377, 981627183448), (156434465040, 987688340595), (121869343405, 992546151641), (87155742748, 996194698092), (52335956243, 998629534755), (17452406437, 999847695156)]

/-- Number of odd degrees up to the direction (c, s), which lies from 0 to below 90 degrees. -/
def oddCount (c s : Int) : Nat := (oddDegrees.filter fun d => decide (d.2 * c ≤ d.1 * s)).length

/-- round(θ/2) for a direction (c, s) at θ from 0 to below 180 degrees. -/
def halfAngle (c s : Int) : Nat := if 0 < c then oddCount c s else 45 + oddCount s (-c)

/-- ANGLE of R260 from (Sxx − Syy, 2 Sxy). -/
def angleOf (c s : Int) : Nat :=
  if s > 0 ∨ (s = 0 ∧ c > 0) then halfAngle c s % 180
  else if s = 0 then 90
  else (halfAngle (-c) (-s) + 90) % 180

/-- One imaged coil: index, centre and weight w(j). -/
structure Wt where
  /-- coil -/
  coil : Nat
  /-- x -/
  x : Nat
  /-- y -/
  y : Nat
  /-- Δself in cu -/
  delta : Nat
  /-- w(j) -/
  w : Nat
deriving DecidableEq, Repr

/-- Rounded quotient, half up. -/
def roundDiv (a b : Nat) : Nat := (2 * a + b) / (2 * b)

/-- The entry of highest value under `f`, the lower index on a tie. -/
def heaviest (f : Wt → Nat) : List Wt → Option Wt
  | [] => none
  | x :: xs => some (xs.foldl (fun a b => if f b > f a ∨ (f b = f a ∧ b.coil < a.coil) then b else a) x)

/-- KIND from the scaled moments (R261): `t` and `dd` are W × trace and W² × discriminant. -/
def kindOf (W : Nat) (t dd : Int) : Nat :=
  if t < 20000 * W ∧ dd < (20000 * W - t) ^ 2 then 1
  else if t > 204800 * W ∨ dd > (204800 * W - t) ^ 2 then 3
  else 2

/-- Location, orientation and size of one object (R260, R261). -/
def locate (ws : List Wt) : Loc :=
  let W := (ws.map fun j => j.w).sum
  let wl := ws.map fun j => (j.coil, j.w)
  let pk := match heaviest (fun j => j.w) ws with
    | some j => j.coil
    | none => 0
  if W = 0 then
    match heaviest (fun j => j.delta) ws with
    | some j => { x := j.x, y := j.y, angle := 0xFF, kind := 0, peak := j.coil, weights := wl }
    | none => {}
  else
    let X := roundDiv ((ws.map fun j => j.w * j.x).sum) W
    let Y := roundDiv ((ws.map fun j => j.w * j.y).sum) W
    let dx (j : Wt) : Int := (j.x : Int) - X
    let dy (j : Wt) : Int := (j.y : Int) - Y
    let sxx : Int := (ws.map fun j => (j.w : Int) * dx j ^ 2).sum
    let syy : Int := (ws.map fun j => (j.w : Int) * dy j ^ 2).sum
    let sxy : Int := (ws.map fun j => (j.w : Int) * dx j * dy j).sum
    let t := sxx + syy
    let dd := (sxx - syy) ^ 2 + 4 * sxy ^ 2
    { x := X, y := Y, angle := if t > 0 ∧ 25 * dd ≥ t ^ 2 then angleOf (sxx - syy) (2 * sxy) else 0xFF
      kind := kindOf W t dd, peak := pk, weights := wl }

/-! Splitting an image (R262) -/

/-- Steps from `start` to every coil through the neighbour lists, at most `n` rounds. -/
def stepsFrom (v : Drive) (start : Nat) : Nat → List (Nat × Nat) → List Nat → List (Nat × Nat)
  | 0, acc, _ => acc
  | n + 1, acc, front =>
    let next := (front.flatMap fun c => match coilNo c with
      | some k => v.coil[k].lay.nb
      | none => []).eraseDups.filter fun c => !(acc.any fun x => decide (x.1 = c))
    if next.isEmpty then acc
    else
      let dist := match front.head? with
        | some f => match acc.find? fun x => decide (x.1 = f) with
          | some x => x.2 + 1
          | none => 1
        | none => 1
      stepsFrom v start n (acc ++ next.map fun c => (c, dist)) next

/-- Neighbour steps from a coil to every coil that it reaches. -/
def Drive.dists (v : Drive) (c : Nat) : List (Nat × Nat) := stepsFrom v c 192 [(c, 0)] [c]

/-- Steps between two coils in a table of `dists`. -/
def distIn (t : List (Nat × Nat)) (c : Nat) : Option Nat := (t.find? fun x => decide (x.1 = c)).map (·.2)

/-- Imaged layout neighbours of an imaged coil. -/
def imgNbs (v : Drive) (ws : List Wt) (j : Wt) : List Wt :=
  match coilNo j.coil with
  | some k => ws.filter fun x => v.coil[k].lay.nb.contains x.coil
  | none => []

/-- A local maximum (R262). -/
def isMax (v : Drive) (ws : List Wt) (j : Wt) : Bool :=
  decide (0 < j.w) && (imgNbs v ws j).all fun x => decide (x.w < j.w) || (decide (x.w = j.w) && decide (j.coil < x.coil))

/-- Two maxima may both be seeds (R262). -/
def splits (v : Drive) (ws : List Wt) (a b : Wt) : Bool :=
  let da := v.dists a.coil
  let db := v.dists b.coil
  match distIn da b.coil with
  | none => true
  | some n =>
    decide (3 ≤ n) && (List.range 192).all fun c =>
      match distIn da c, distIn db c with
      | some p, some q =>
        if p + q = n ∧ c ≠ a.coil ∧ c ≠ b.coil then
          match ws.find? fun x => decide (x.coil = c) with
          | some x => decide (2 * x.w < min a.w b.w)
          | none => false
        else true
      | _, _ => true

/-- Descending weight, the lower index first on a tie. -/
def insertWt (x : Wt) : List Wt → List Wt
  | [] => [x]
  | y :: ys => if y.w < x.w ∨ (y.w = x.w ∧ x.coil < y.coil) then x :: y :: ys else y :: insertWt x ys

/-- Sorted by descending weight. -/
def sortWt (l : List Wt) : List Wt := l.foldl (fun a x => insertWt x a) []

/-- The seeds of an image (R262). -/
def seeds (v : Drive) (thS : Nat) (ws : List Wt) : List Wt :=
  (sortWt (ws.filter fun j => isMax v ws j && decide (8 * thS ≤ j.w))).foldl
    (fun s j => if s.all fun k => splits v ws k j then s ++ [j] else s) []

/-- Seed that an imaged coil goes to (R262). -/
def seedOf (tabs : List (Wt × List (Nat × Nat))) (j : Wt) : Option Nat :=
  (tabs.foldl (fun (best : Option (Wt × Nat)) t =>
    match distIn t.2 j.coil, best with
    | some n, none => some (t.1, n)
    | some n, some b =>
      if n < b.2 ∨ (n = b.2 ∧ (b.1.w < t.1.w ∨ (b.1.w = t.1.w ∧ t.1.coil < b.1.coil))) then some (t.1, n) else some b
    | none, b => b) none).map fun b => b.1.coil

/-- The parts of an image, one per object (R262). -/
def parts (v : Drive) (thS : Nat) (ws : List Wt) : List (List Wt) :=
  match seeds v thS ws with
  | [] => [ws]
  | [_] => [ws]
  | ss =>
    let tabs := ss.map fun s => (s, v.dists s.coil)
    ss.map fun s => ws.filter fun j => decide (seedOf tabs j = some s.coil)

/-- Objects of an image with their coils and flags (R260 to R263, R762). -/
def objects (v : Drive) (thS : Nat) (moving : Bool) (ws : List Wt) : List Loc :=
  (parts v thS ws).map fun p =>
    let l := locate p
    let nbs := match coilNo l.peak with
      | some k => v.coil[k].lay.nb
      | none => []
    { l with
      part := !(nbs.all fun b => ws.any fun x => decide (x.coil = b)), moving := moving
      coils := (p.filter fun j => decide (8 * thS ≤ j.delta)).map fun j => j.coil }

end Sys2Proof.Machine
end

