-- ==== Sys2Proof/Machine/ProbeOps.lean ====
section
/-! DEFINITION. The probe sequencer: eligibility, bursts, baselines and images (chapter 07). -/

namespace Sys2Proof.Machine
open Sys2Proof

/-- Change of one coil's probe state. -/
def onPrbC (c : Fin 192) (f : PrbC → PrbC) (d : Dev) : Dev := d.onPrb fun p => { p with coil := upd p.coil c f }

/-- Zones whose receive set neighbours a coil (R244, R250). -/
def Dev.borderZones (d : Dev) (c : Fin 192) : List (Fin 24) := ((d.drv.nbs c).filterMap fun b => d.setOf b).eraseDups

/-- Eligibility class of a coil (R244). -/
def Dev.elig (d : Dev) (c : Fin 192) : Nat :=
  let k := d.drv.coil[c]
  match k.role with
  | .absent => 4
  | .fault => if k.owner.isSome then 3 else 4
  | .shadow => 1
  | _ => if k.owner.isSome then 3 else if (d.borderZones c).isEmpty then 0 else 2

/-- A coil that a burst may drive in the present slot (R244, R250). `ok` is PRB_OK of each zone. -/
def Dev.mayDrive (d : Dev) (ok : Fin 24 → Bool) (c : Fin 192) : Bool :=
  (d.elig c = 0 || (d.elig c = 2 && (d.borderZones c).all ok)) && d.bridgeOk c

/-- The next slot's power of a burst on coil `c`, nW (R248). -/
def Dev.burstNw (d : Dev) (c : Fin 192) : Nat := powerNw (d.drv.vOf c) d.drv.coil[c].cal.eff.rLoad d.prb.amp

/-- Two driven coils lie outside each other's footprint (R247). -/
def Drive.apart (v : Drive) (a b : Fin 192) : Bool := decide (a ≠ b) && !(v.nbs a).contains b && !(v.nbs b).contains a

/-- A group may start beside the bursts already chosen (R247, R248). -/
def Dev.groupFits (d : Dev) (chosen group : List (Fin 192)) : Bool :=
  let all_ := chosen ++ group
  decide (all_.length ≤ d.lau.probeEngs.length) &&
  (group.all fun a => chosen.all fun b => d.drv.apart a b) &&
  ((List.finRange 4).all fun k =>
    decide ((all_.map fun c => if kOf c = k then d.burstNw c else 0).sum ≤ d.drv.probeRsv * 10 ^ 7)) &&
  decide ((all_.map fun c => d.burstNw c).sum ≤ 4 * d.drv.probeRsv * 10 ^ 7)

/-- The coils of a list in groups of two that are not neighbours, or one (R257). -/
def pairUp (v : Drive) : Nat → List Nat → List (List Nat)
  | n + 1, a :: rest =>
    let nbs := match coilNo a with
      | some k => v.coil[k].lay.nb
      | none => []
    match rest.find? fun b => !nbs.contains b with
    | some b => [a, b] :: pairUp v n (rest.erase b)
    | none => [a] :: pairUp v n rest
  | _, _ => []

/-- Coils of an image: driven, still to be driven, and its trigger (R256). -/
def Image.coils (im : Image) : List Nat := im.trig :: (im.driven ++ im.todo.flatten)

/-- The image is running (R256, PRB_STAT.IMAGING). -/
def Image.running (im : Image) : Bool := decide (im.stage ≠ .queued)

/-- Weights of the readings of an image (R260). -/
def Dev.weights (d : Dev) (got : List (Nat × Cplx)) : List Wt :=
  got.filterMap fun g => match coilNo g.1 with
    | some c =>
      let dl := deltaCu (upCu g.2) d.prb.coil[c].self
      some { coil := g.1, x := d.drv.coil[c].lay.x, y := d.drv.coil[c].lay.y, delta := dl, w := dl - 4 * d.prb.thS }
    | none => none

/-- A reading of an image: the trigger's own stands from the start (R257). -/
def Image.put (im : Image) (c : Nat) (v : Cplx) : Image :=
  { im with got := if im.got.any fun g => decide (g.1 = c) then im.got else im.got ++ [(c, v)] }

/-! Readings taken at a slot boundary -/

/-- Baselines of a coil seeded at its first valid reading (R255). -/
def seedBase (r : Reading) (v : Cplx) (d : Dev) : Dev :=
  let k := d.drv.coil[r.coil]
  if k.cal.valid && d.rx.csub then
    let a := probeCu d.prb.amp (d.drv.vOf r.coil)
    onPrbC r.coil (fun p => { p with
      bvalid := true, bsrc := false, self := (0, 0), mutB := k.cal.cpl.map fun x => some (calMut x a) }) d
  else
    onPrbC r.coil (fun p => { p with
      bvalid := true, bsrc := true, self := upCu v, mutB := r.mutR.map fun m => m.map upCu }) d

/-- Baselines moved toward the readings where R254 lets them; a mutual reading moves its own whatever the self reading is. -/
def driftBase (r : Reading) (d : Dev) : Dev :=
  let p := d.prb.coil[r.coil]
  let nbs := d.drv.nbs r.coil
  let self := match r.self with
    | some v => if !p.occ && !p.chg && decide (deltaCu (upCu v) p.self < 4 * d.prb.thS) then driftTo p.self (upCu v) d.prb.drift else p.self
    | none => p.self
  let muts := (List.range (max p.mutB.length r.mutR.length)).map fun i =>
    match (p.mutB[i]?).join, (r.mutR[i]?).join with
    | some b, some m =>
      let free := match nbs[i]? with
        | some g => !d.prb.coil[g].occ
        | none => false
      if free && !p.occ && !p.chg && decide (deltaCu (upCu m) b < 4 * d.prb.thM) then some (driftTo b (upCu m) d.prb.drift) else some b
    | none, some m => some (upCu m)
    | b, none => b
  onPrbC r.coil (fun p => { p with self := self, mutB := muts }) d

/-- A coil is in some image. -/
def Probe.imaged (p : Probe) (c : Nat) : Bool := p.images.any fun im => im.coils.contains c

/-- A trigger marked: CHG set and an image put in line (R256, R279). -/
def trigger (c : Fin 192) (v : Option Cplx) (k : ImgKind) (d : Dev) : Dev :=
  let d := onPrbC c (fun p => { p with chg := true }) d
  let d := d.onPrb fun p => { p with
    cntTrig := satInc 255 p.cntTrig, images := p.images ++ [{ trig := c.val, trigVal := v, kind := k, stage := .queued }] }
  msgSc 10 d

/-- Presence entry that a coil belongs to (R762). -/
def Surface.entryOf (s : Surface) (c : Nat) : Option Nat :=
  ((List.finRange 512).find? fun i => match s.entry[i] with
    | some e => e.coils.contains c
    | none => false).map fun i => i.val

/-- One burst's readings (R252 to R256, R279, R762). -/
def takeReading (b : Burst) (r : Reading) (d : Dev) : Dev :=
  let bad := b2n r.self.isNone + (r.mutR.filter fun m => m.isNone).length
  let d := d.onPrb fun p => { p with cntInval := satAdd 255 p.cntInval bad }
  match r.self with
  | none => if d.prb.coil[r.coil].bvalid then driftBase r d else d
  | some v =>
    let d := if d.prb.coil[r.coil].bvalid then d else seedBase r v d
    let p := d.prb.coil[r.coil]
    let dl := deltaCu (upCu v) p.self
    let d := onPrbC r.coil (fun p => { p with delta := min 65535 dl }) d
    let d := d.onPrb fun q => { q with passLeft := q.passLeft.filter (· ≠ r.coil.val), passWait := q.passWait.filter (· ≠ r.coil.val) }
    match b.image with
    | some t =>
      let d := if p.occ && (p.retake || p.ref.isNone) then onPrbC r.coil (fun p => { p with ref := some v, retake := false }) d else d
      driftBase r (d.onPrb fun q => { q with images := q.images.map fun im =>
        if im.trig = t ∧ im.running then (if r.coil.val = t ∧ im.stage = .reprobe then { im with got := im.got ++ [(200, v)] } else im.put r.coil.val v) else im })
    | none =>
      if p.occ then
        match p.ref with
        | none => onPrbC r.coil (fun p => { p with ref := some v, retake := false }) d
        | some w =>
          if p.retake then onPrbC r.coil (fun p => { p with ref := some v, retake := false }) d
          else if d.prb.selfChange (deltaRd v w) && !d.prb.imaged r.coil.val then
            match d.sf.entryOf r.coil.val with
            | some e => trigger r.coil (some v) (.occupied e) d
            | none => trigger r.coil (some v) .trigger (onPrbC r.coil (fun p => { p with occ := false, ref := none }) d)
          else d
      else if d.prb.selfChange dl then
        if p.chg then d else trigger r.coil (some v) .trigger d
      else driftBase r d

/-- The lanes of a burst that pass the 7/8 test over the 256 words of its measurement window, at most six of them on neighbours (R229, R252). -/
def Dev.validLanes (d : Dev) (r : Reading) : Reading :=
  let ok (c : Fin 192) : Bool := decide (224 ≤ d.validIn [c] (d.now - 16 * 256) d.now)
  { r with
    self := if ok r.coil then r.self else none
    mutR := (((d.drv.nbs r.coil).zip r.mutR).take 6).map fun x => if ok x.1 then x.2 else none }

/-- A lane on a neighbour shared by two bursts reports invalid for both (R247). -/
def maskShared (v : Drive) (bs : List Burst) (r : Reading) : Reading :=
  { r with mutR := ((v.nbs r.coil).zip r.mutR).map fun x =>
      if bs.any fun b => decide (b.coil ≠ r.coil.val) && (match coilNo b.coil with
        | some k => (v.nbs k).contains x.1
        | none => false) then none else x.2 }

/-! Images -/

/-- An image ends with the change of its trigger, and of the triggers it started from, no longer pending (R256, R258). -/
def endImage (t : Nat) (d : Dev) : Dev :=
  let from_ := (d.prb.images.filter fun im => decide (im.trig = t) && im.running).flatMap Image.from_
  let d := ((t :: from_).filterMap coilNo).foldl (fun d c => onPrbC c (fun p => { p with chg := false }) d) d
  msgSc 10 (d.onPrb fun p => { p with images := p.images.filter fun im => !(decide (im.trig = t) && im.running) })

/-- Coils of an object become occupied, with the readings of the image as their reference (R245, R762). -/
def occupy (coils : List Nat) (got : List (Nat × Cplx)) (d : Dev) : Dev :=
  coils.foldl (fun d c => match coilNo c with
    | some k => onPrbC k (fun p => { p with occ := true, retake := false, ref := (got.find? fun g => decide (g.1 = c)).map (·.2) }) d
    | none => d) d

/-- Coils no longer occupied. -/
def unoccupy (coils : List Nat) (d : Dev) : Dev :=
  coils.foldl (fun d c => match coilNo c with
    | some k => onPrbC k (fun p => { p with occ := false, retake := false, ref := none }) d
    | none => d) d

/-- Coils of a list that an entry other than `i` holds (R762). -/
def Surface.heldBy (s : Surface) (i : Nat) (coils : List Nat) : List Nat :=
  coils.filter fun c => (List.finRange 512).any fun j => decide (j.val ≠ i) && (match s.entry[j] with
    | some e => e.coils.contains c
    | none => false)

/-- Coils of entry `i` no longer occupied, but for those that another entry holds as well (R762). -/
def unholdBy (i : Nat) (coils : List Nat) (d : Dev) : Dev :=
  let held := d.sf.heldBy i coils
  unoccupy (coils.filter fun c => !held.contains c) d

/-- Coils of an entry, by its index (R762). -/
def Surface.coilsOf (s : Surface) (e : Nat) : List Nat := if h : e < 512 then ((s.entry[e]).map (·.coils)).getD [] else []

/-- The references of a list of coils are to be taken again (R762). -/
def retake (coils : List Nat) (d : Dev) : Dev :=
  coils.foldl (fun d c => match coilNo c with
    | some k => onPrbC k (fun p => { p with retake := true }) d
    | none => d) d

/-- A result put before SC (R285). -/
def submit (r : PResult) (d : Dev) : Dev := d.onSf fun s => { s with pend := s.pend ++ [r] }

/-- PHC as a word. -/
def Dev.phcW (d : Dev) : Word := word d.phc

/-- A coil that an image may drive: in no other running image, and drivable in the present slot (R256, R257). -/
def Dev.imageMay (d : Dev) (ok : Fin 24 → Bool) (im : Image) (c : Nat) : Bool :=
  let others := (d.prb.images.filter fun x => x.running && decide (x.trig ≠ im.trig)).flatMap Image.coils
  !others.contains c && (coilNo c).any fun k => d.mayDrive ok k

/-- The image restarts from the coil with the highest weight, with the neighbours of that coil (R257, R258). -/
def restartImage (ok : Fin 24 → Bool) (im : Image) (v : Cplx) (d : Dev) : Dev :=
  let got := im.got.map fun g => if g.1 = im.trig then (g.1, v) else g
  let pk := match heaviest (fun j => j.w) (d.weights got) with
    | some j => j.coil
    | none => im.trig
  let pv := (got.find? fun g => decide (g.1 = pk)).map (·.2)
  let base := match coilNo pk with
    | some k => d.drv.coil[k].lay.nb.filter (d.imageMay ok im)
    | none => []
  d.onPrb fun p => { p with images := p.images.map fun x =>
    if x.trig = im.trig ∧ x.running then
      { trig := pk, trigVal := pv, kind := im.kind, stage := .base, todo := pairUp d.drv base.length base, got := match pv with
          | some w => [(pk, w)]
          | none => [], restarts := im.restarts + 1, from_ := im.trig :: im.from_ }
    else x }

/-- A false trigger (R258). -/
def falseTrigger (im : Image) (d : Dev) : Dev :=
  endImage im.trig (d.onPrb fun p => { p with cntFalse := satInc 255 p.cntFalse })

/-- An image that confirms its objects (R258, R262, R279). Coils of the entry that the image could not drive stay with it (R762). -/
def confirm (im : Image) (moving : Bool) (d : Dev) : Dev :=
  let objs := objects d.drv d.prb.thS moving (d.weights im.got)
  match im.kind with
  | .occupied e =>
    let old := d.sf.coilsOf e
    let seen := old.filter fun c => im.got.any fun g => decide (g.1 = c)
    let d := unholdBy e seen d
    let d := objs.foldl (fun d o => occupy o.coils im.got d) d
    endImage im.trig (submit (.moved e objs (old.filter fun c => !seen.contains c) d.phcW) d)
  | _ =>
    let d := objs.foldl (fun d o => submit (.object o d.phcW) (occupy o.coils im.got d)) d
    endImage im.trig d

/-- The re-probe of an image decides (R258, R279). Code 200 stands for the re-probe's own reading. -/
def decideImage (ok : Fin 24 → Bool) (im0 : Image) (d : Dev) : Dev :=
  let rv := (im0.got.find? fun g => decide (g.1 = 200)).map (·.2)
  let im := { im0 with got := im0.got.filter fun g => decide (g.1 ≠ 200) }
  let thS := d.prb.thS
  match rv with
  | none => falseTrigger im d
  | some v =>
    let im := im.put im.trig v
    let moved := match im.trigVal with
      | some t => decide (4 * thS ≤ deltaRd v t)
      | none => false
    let change := match coilNo im.trig with
      | some c => d.prb.selfChange (deltaCu (upCu v) d.prb.coil[c].self)
      | none => false
    let someChange := change || (d.weights im.got).any fun j => decide (8 * thS ≤ j.delta)
    match im.kind with
    | .occupied e =>
      if !someChange then endImage im.trig (submit (.moved e [] [] d.phcW) (unholdBy e (d.sf.coilsOf e) d))
      else if moved && decide (im.restarts < 2) then restartImage ok im v d
      else confirm im moved d
    | _ =>
      if !change then falseTrigger im d
      else if moved && decide (im.restarts < 2) then restartImage ok im v d
      else confirm im moved d

/-- The image of a closed zone's former active coils decides: the coils with a change become occupied, with these readings (R278, R762). -/
def decideClose (im : Image) (e : List Nat) (cause : Nat) (d : Dev) : Dev :=
  let here := ((d.weights im.got).filter fun j => decide (8 * d.prb.thS ≤ j.delta)).map fun j => j.coil
  endImage im.trig (submit (.closed e cause here d.phcW) (occupy here im.got d))

/-- Groups of the next stage of an image whose present groups have all run (R257). -/
def nextStage (ok : Fin 24 → Bool) (im : Image) (d : Dev) : Image × Bool :=
  match im.stage with
  | .base =>
    match im.kind with
    | .close _ _ => (im, true)
    | _ =>
      let ws := d.weights im.got
      let pw := match heaviest (fun j => j.w) ws with
        | some j => j.w
        | none => 0
      let peak2 := ws.filter fun j => decide (j.coil ≠ im.trig) && decide (0 < j.w) && decide (pw ≤ 2 * j.w)
      let ext := ((peak2.flatMap fun j => match coilNo j.coil with
        | some k => d.drv.coil[k].lay.nb
        | none => []).eraseDups).filter fun c => !im.driven.contains c && decide (c ≠ im.trig) && d.imageMay ok im c
      ({ im with stage := .ext, todo := pairUp d.drv ext.length ext }, false)
  | .ext => ({ im with stage := .reprobe, todo := [[im.trig]] }, false)
  | .reprobe => (im, true)
  | .queued => (im, false)

/-- Images advanced after the readings of a slot: stages with nothing left to drive give way to the next (R257, R258, R278). -/
def advanceImages (ok : Fin 24 → Bool) : Nat → List Nat → Dev → Dev
  | 0, _, d => d
  | _, [], d => d
  | n + 1, t :: ts, d =>
    match d.prb.images.find? fun im => decide (im.trig = t) && im.running with
    | none => advanceImages ok n ts d
    | some im =>
      let im := if im.stage = .ext ∧ im.slots ≥ 7 then { im with todo := [] } else im
      if im.todo ≠ [] then advanceImages ok n ts d
      else
        match nextStage ok im d with
        | (im2, false) =>
          advanceImages ok n (t :: ts) (d.onPrb fun p => { p with images := p.images.map fun x => if x.trig = t ∧ x.running then im2 else x })
        | (im2, true) =>
          advanceImages ok n ts (match im2.kind with
            | .close e c => decideClose im2 e c d
            | _ => decideImage ok im2 d)

/-- A coil of the list still belongs to a zone that closes: the image after the close waits for it (R272, R278). -/
def Dev.closingOn (d : Dev) (cs : List Nat) : Bool :=
  (cs.filterMap coilNo).any fun c => match d.drv.coil[c].owner with
    | some n => decide (d.sf.zone[n].state = .closing)
    | none => false

/-- Waiting triggers start where an image may (R256). -/
def startImages (ok : Fin 24 → Bool) (d : Dev) : Dev :=
  (d.prb.images.filter fun im => !im.running).foldl (fun d im =>
    let run := d.prb.images.filter Image.running
    match coilNo im.trig with
    | none => d
    | some c =>
      let isClose := match im.kind with
        | .close _ _ => true
        | _ => false
      let dropIt := !isClose && d.prb.coil[c].occ && im.kind = .trigger
      if dropIt then
        onPrbC c (fun p => { p with chg := false }) (d.onPrb fun p => { p with images := p.images.filter fun x => !(decide (x.trig = im.trig) && !x.running) })
      else
        let base := if isClose then im.todo.flatten else d.drv.coil[c].lay.nb
        let may := base.filter fun b => match coilNo b with
          | some k => d.mayDrive ok k
          | none => false
        let mine := im.trig :: may
        if isClose && d.closingOn im.todo.flatten then d
        else if run.length < d.lau.probeEng / 2 && !(run.any fun r => r.coils.any fun x => mine.contains x) then
          d.onPrb fun p => { p with images := p.images.map fun x =>
            if x.trig = im.trig ∧ !x.running then
              { x with stage := .base, todo := pairUp d.drv may.length may, got := match x.trigVal with
                  | some v => [(x.trig, v)]
                  | none => [] }
            else x }
        else d) d

/-! Bursts of the next slot (R247 to R250) -/

/-- Image groups that start in this slot, before the rotation (R249, R257). -/
def pickImages (ok : Fin 24 → Bool) (d : Dev) : Dev :=
  (d.prb.images.filter Image.running).foldl (fun d im =>
    match im.todo with
    | [] => d
    | g :: rest =>
      let cs := (g.filterMap coilNo).filter fun c => d.mayDrive ok c
      let chosen := d.prb.bursts.filterMap fun b => coilNo b.coil
      if cs = [] then
        d.onPrb fun p => { p with images := p.images.map fun x => if x.trig = im.trig ∧ x.running then { x with todo := rest } else x }
      else if d.groupFits chosen cs then
        d.onPrb fun p => { p with
          bursts := p.bursts ++ cs.map fun c => { coil := c.val, image := some im.trig }
          images := p.images.map fun x => if x.trig = im.trig ∧ x.running then
            { x with todo := rest, driven := x.driven ++ cs.map (·.val), slots := x.slots + 1 } else x }
      else d) d

/-- Rotation bursts that start in this slot, in ascending index order (R249, R250). -/
def pickRotation (ok : Fin 24 → Bool) (d : Dev) : Dev :=
  d.prb.passLeft.foldl (fun d n =>
    match coilNo n with
    | none => d
    | some c =>
      let chosen := d.prb.bursts.filterMap fun b => coilNo b.coil
      if d.lau.probeEngs.length ≤ chosen.length then d
      else if d.elig c = 2 && !((d.borderZones c).all ok) then
        d.onPrb fun p => { p with passLeft := p.passLeft.filter (· ≠ n), cntBskip := satInc 255 p.cntBskip }
      else if d.mayDrive ok c && d.groupFits chosen [c] then
        d.onPrb fun p => { p with
          bursts := p.bursts ++ [{ coil := n, image := none }]
          passLeft := if d.elig c = 2 then p.passLeft.filter (· ≠ n) else p.passLeft }
      else d) d

/-- Coils of a new pass, of these eligibility classes (R249, R250). -/
def Dev.passCoils (d : Dev) (classes : List Nat) : List Nat := (allCoils.filter fun c => classes.contains (d.elig c)).map (·.val)

/-- A pass starts at CH0: its coils, and those it waits for (R249, R250, R294). -/
def startPass (d : Dev) : Dev :=
  let now := d.now
  let all_ := d.passCoils [0, 2]
  let wait := d.passCoils [0]
  d.onPrb fun p => { p with passStart := now, passLeft := all_, passWait := wait }

/-- A pass ends when every coil ELIGIBLE at its start and still so has given a valid reading; the next starts at CH0 (R249, R294). -/
def passEnd (d : Dev) : Dev :=
  let left := d.prb.passWait.filter fun n => match coilNo n with
    | some c => decide (d.elig c = 0)
    | none => false
  if left = [] then
    let now := d.now
    startPass (d.onPrb fun p => { p with passes := p.passes + 1, passUs := min 65535 (toUs (now - p.passStart)) })
  else d

/-- Bursts that end: their coils and neighbours leave PROBE_G, and their field off marks a run (R197, R199, R246). -/
def burstsOff (d : Dev) : Dev :=
  let cs := d.prb.bursts.filterMap fun b => coilNo b.coil
  markAll (d.drv.around cs) 96 4 (cs.foldl (fun d c => probeGainOff c d) (engOff (fun _ => true) d))

/-- Bursts that a kill or a Kettle fault stops: their field goes off at once, no reading comes of them, and an image drives their coils
again (R72, R167, R169, R171, R199). -/
def dropBursts (stop : Fin 192 → Bool) (d : Dev) : Dev :=
  let hit (n : Nat) : Bool := (coilNo n).any stop
  let bs := d.prb.bursts.filter fun b => hit b.coil
  let cal := d.drv.calBursts.filter fun x => hit x.1
  let cs := (bs.map (·.coil) ++ cal.map (·.1)).filterMap coilNo
  let d := markAll (d.drv.around cs) 96 4 (cs.foldl (fun d c => probeGainOff c d) (engOff hit d))
  (d.onDrv fun v => { v with calBursts := v.calBursts.filter fun x => !hit x.1 }).onPrb fun p => { p with
    bursts := p.bursts.filter fun b => !hit b.coil
    images := p.images.map fun im =>
      let g := (bs.filter fun b => decide (b.image = some im.trig)).map (·.coil)
      if im.running && !g.isEmpty then { im with todo := g :: im.todo, driven := im.driven.filter fun c => !g.contains c } else im }

/-- Bursts that start (R197, R199, R246). -/
def burstsOn (d : Dev) : Dev :=
  let cs := d.prb.bursts.filterMap fun b => coilNo b.coil
  markAll (d.drv.around cs) 96 4 (cs.foldl (fun d c => probeGainOn c d) (engOn cs d))

/-- Eligibility taken at the boundary (R244). -/
def eligAll (d : Dev) : Dev :=
  d.onPrb fun p => { p with coil := Vector.ofFn fun c => { p.coil[c] with elig := d.elig c } }

/-- A Steep detection handed over as a trigger (R396). -/
def takeHandover (d : Dev) : Dev :=
  match d.prb.handover with
  | some c =>
    let d := d.onPrb fun p => { p with handover := none }
    match coilNo c with
    | some k => trigger k none .trigger d
    | none => d
  | none => d

/-- A slot boundary: readings, images, and the bursts of the next slot (R246 to R250). -/
def slotBoundary (ok : Fin 24 → Bool) (rs : List Reading) (d : Dev) : Dev :=
  let bs := d.prb.bursts
  let rs := rs.map d.validLanes
  let d := burstsOff d
  let d := bs.foldl (fun d b => match rs.find? fun r => decide (r.coil.val = b.coil) with
    | some r => takeReading b (maskShared d.drv bs r) d
    | none => match coilNo b.coil with
      | some c => takeReading b { coil := c, self := none, mutR := List.replicate (d.drv.nbs c).length none } d
      | none => d) d
  let d := eligAll d
  let d := takeHandover d
  let d := advanceImages ok 64 ((d.prb.images.filter Image.running).map Image.trig) (d.onPrb fun p => { p with bursts := [] })
  let d := startImages ok d
  let d := advanceImages ok 64 ((d.prb.images.filter Image.running).map Image.trig) d
  let d := trimProbe d
  let d := pickImages ok d
  let d := if d.rotating then pickRotation ok (passEnd d) else d
  rewords (burstsOn d)

/-- Every baseline reseeded at the next valid readings (R255). -/
def clearBaselines (d : Dev) : Dev :=
  d.onPrb fun p => { p with coil := p.coil.map fun c => { c with bvalid := false, bsrc := false, self := (0, 0), mutB := [] } }

end Sys2Proof.Machine
end

