-- ==== Sys2Proof/Machine/TbOps.lean ====
section
/-! DEFINITION. The mains time base: sources, edges, steps, phase compares and quiet maps (chapter 03). -/

namespace Sys2Proof.Machine
open Sys2Proof

/-- Period of virtual mains in BCLK cycles (R94, R98). -/
def vPeriod (vfreq : Bool) : Nat := if vfreq then 3616000 else 4339200

/-- TB_INC of virtual mains (R98). -/
def vInc (vfreq : Bool) : Nat := if vfreq then 304069 else 253391

/-- TB_INC for a measured period, to the nearest (DESIGN CHOICE, log entry 63), with a correction of `c2` half pu over that period
(R85, R99, R101). -/
def incOf (period : Nat) (c2 : Int) : Nat :=
  let p := max 1 period
  ((131072 + c2).toNat * 2 ^ 24 + p) / (2 * p) % 2 ^ 24

/-- Frequency in mHz of a period in BCLK cycles (R130). -/
def freqOf (period : Nat) : Nat := (216960000000 + max 1 period / 2) / max 1 period

/-- Last measured period of a source; that of VFREQ until it has delivered one (R94). -/
def EdgeSrc.per (e : EdgeSrc) (vfreq : Bool) : Nat := e.period.getD (vPeriod vfreq)

/-- The edge source that is not virtual (R89). -/
def Tb.edgeSrc (t : Tb) (zc : Bool) : EdgeSrc := if zc then t.zc else t.cask

/-- Change of an edge source. -/
def Tb.onSrc (t : Tb) (zc : Bool) (f : EdgeSrc → EdgeSrc) : Tb :=
  if zc then { t with zc := f t.zc } else { t with cask := f t.cask }

/-- Name of an edge source (R89). -/
def srcName (zc : Bool) : TbSrc := if zc then .zc else .cask

/-- The source is permitted by SRCSEL (R90). -/
def Tb.permitted (t : Tb) : TbSrc → Bool
  | .virtual => true
  | .cask => t.cfg.srcsel = 0 || t.cfg.srcsel = 1
  | .zc => t.cfg.srcsel = 0 || t.cfg.srcsel = 2

/-- Microseconds as pu at the last measured frequency, to the nearest (R96; the rounding is a DESIGN CHOICE, log entry 63). -/
def usToPu (us period : Nat) : Nat :=
  let den := 100 * max 1 period
  (2 * (us * 65536 * 21696) + den) / (2 * den) % 65536

/-- Phase that an edge of the source stands for (R89, R96). -/
def Tb.edgePhase (t : Tb) (zc : Bool) : Nat :=
  usToPu (if zc then t.zcCfg.zdelay else t.caskDelay) ((t.edgeSrc zc).per t.cfg.vfreq)

/-- A phase difference wrapped into -32,768 to +32,767 pu. -/
def wrapPu (x : Int) : Int := signed 16 (twos 16 x)

/-- PHC with its fraction `age` cycles ago (R85, R93). -/
def Tb.phcAt (t : Tb) (age : Nat) : Nat := (t.phc - BitVec.ofNat 56 (t.inc * age)).toNat

/-- Phase error at an edge `age` cycles ago. -/
def Tb.edgeErr (t : Tb) (zc : Bool) (age : Nat) : Int :=
  wrapPu ((t.edgePhase zc : Int) - ((t.phcAt age >>> 24) % 65536 : Nat))

/-- A step to the phase of the edge: PHC only moves forward (R85, R99). -/
def Tb.stepTo (t : Tb) (zc : Bool) (age : Nat) : Tb :=
  let delta := twos 16 (t.edgeErr zc age)
  { t with phc := t.phc + BitVec.ofNat 56 (delta * 2 ^ 24), step := true, steps := satInc 255 t.steps }

/-- TB_INC and TB_FREQ from the measured period of the source (R99, R100). -/
def Tb.incFrom (t : Tb) (zc : Bool) : Tb :=
  let p := (t.edgeSrc zc).per t.cfg.vfreq
  { t with inc := incOf p 0, freq := freqOf p }

/-- Entry into ACQUIRE on a source, with its step (R99). -/
def Tb.acquire (t : Tb) (zc : Bool) (age : Nat) : Tb :=
  { (t.stepTo zc age).incFrom zc with state := .acquire, src := srcName zc, good := 0, bad := 0, takeover := 0 }

/-- Slew: the measured period plus a correction of half the error, at most 64 pu, over the next cycle (R101). -/
def Tb.slew (t : Tb) (zc : Bool) (err : Int) : Tb :=
  let p := (t.edgeSrc zc).per t.cfg.vfreq
  { t with inc := incOf p (max (-128) (min 128 err)), freq := freqOf p }

/-- Entry into HOLDOVER (R103). -/
def Tb.holdover (t : Tb) : Tb :=
  { t with state := .holdover, lost := true, holds := satInc 255 t.holds, holdCyc := t.cfg.holdCyc, holdPhc := t.phc,
           good := 0, bad := 0, takeover := 0 }

/-- Entry into VIRTUAL: TB_INC takes the VFREQ value and PHC goes on without a step (R103). -/
def Tb.virtual (t : Tb) : Tb :=
  { t with state := .virtual, src := .virtual, inc := vInc t.cfg.vfreq, freq := if t.cfg.vfreq then 60000 else 50000,
           good := 0, bad := 0, takeover := 0 }

/-- What an accepted edge does to the state of the time base (R99 to R105). `wp` says that the edge came with a period. In HOLDOVER an
edge of another source that comes with no period is no start of ACQUIRE, and an edge of the source itself returns to LOCKED with its last
period (DESIGN CHOICE, log entry 63). -/
def Tb.track (t0 : Tb) (zc wp : Bool) (age : Nat) : Tb :=
  let s := srcName zc
  let err := t0.edgeErr zc age
  let t := { t0 with err := err }
  let big := decide (err.natAbs > 2048)
  let fresh := wp && (t.edgeSrc zc).ok && t.permitted s
  if t.state = .virtual then
    if fresh && !(zc && t.cfg.srcsel = 0 && t.cask.ok) then t.acquire zc age else t
  else if s = t.src && t.permitted s then
    match t.state with
    | .holdover =>
      if big then t.acquire zc age else { t.slew zc err with state := .locked, bad := 0, good := 0, takeover := 0 }
    | .acquire =>
      if !wp then { t with good := 0 }
      else if big then { (t.stepTo zc age).incFrom zc with good := 0 }
      else if err.natAbs ≤ 128 then
        let t := t.incFrom zc
        if t.good ≥ 3 then { t with state := .locked, good := 0, bad := 0, takeover := 0 } else { t with good := t.good + 1 }
      else { t.incFrom zc with good := 0 }
    | .locked =>
      if !wp then t
      else if big then
        if t.bad ≥ 1 then t.acquire zc age else { t.slew zc err with bad := 1 }
      else { t.slew zc err with bad := 0 }
    | .virtual => t
  else
    match t.state with
    | .holdover =>
      if fresh && (t.cfg.srcsel = 0 || !t.permitted t.src || !zc) then t.acquire zc age else t
    | .locked =>
      if !zc && t.src = .zc && t.cfg.srcsel = 0 && t.cask.ok && t.takeover ≥ 16 then
        if big then t.acquire zc age else { t.slew zc err with src := .cask, bad := 0, takeover := 0 }
      else t
    | .acquire =>
      if !zc && t.src = .zc && t.cfg.srcsel = 0 && fresh then t.acquire zc age else t
    | .virtual => t

/-- Count of a rejected edge (R91). -/
def Tb.reject (t : Tb) : Tb := { t with rejects := satInc 255 t.rejects, freqOor := true }

/-- An edge accepted at TSC `te` (R91, R92, R94, R104). The 16 edges of R104 are counted whatever SRCSEL says, and one with no period starts
the count anew (DESIGN CHOICE, log entry 63). -/
def Tb.accept (t : Tb) (zc : Bool) (te age : Nat) : Tb :=
  let e := t.edgeSrc zc
  let wp := match e.last with
    | some l => decide (te - l ≤ 4820851)
    | none => false
  let t := if e.last.isSome && !wp then t.reject else t
  let period := match e.last with
    | some l => if wp then some (te - l) else e.period
    | none => e.period
  let t := t.onSrc zc fun e => { e with last := some te, period := period, ok := e.ok || wp }
  let t := if zc then t else { t with takeover := if wp && e.ok && t.state = .locked && t.src = .zc then t.takeover + 1 else 0 }
  t.track zc wp age

/-- One edge, with all tests (R90, R91, R93): level stable for `stable` µs, pulse of `width` cycles that ends now in
PULSE_CENTRE, `rise` the direction of the edge, `volt` the voltage flag of the Cask broadcast. The voltage is tested first (DESIGN CHOICE,
log entry 63). -/
def Tb.edge (t : Tb) (zc rise volt : Bool) (stable width now : Nat) : Tb :=
  let e := t.edgeSrc zc
  let p := e.per t.cfg.vfreq
  let centre := zc && t.zcCfg.zmode = 2
  let age := if centre then width / 2 else 0
  let te := now - age
  let gone := match e.last with
    | some l => some (te - l)
    | none => none
  if t.cfg.srcsel = 3 then t
  else if !zc && !volt then t
  else if zc && ((t.zcCfg.zmode = 0 && !rise) || (t.zcCfg.zmode ≠ 0 && rise)) then t
  else if zc && stable < t.zcCfg.deglitch then t
  else if gone.any fun g => decide (4 * g < p) then t
  else if centre && 4 * width > p then t.reject
  else if gone.any fun g => decide (g < 3286944) then { t.reject with takeover := if zc then t.takeover else 0 }
  else t.accept zc te age

/-- Loss of qualification of a source that has had no edge for 1.5 periods (R92, R103). -/
def Tb.lose (t : Tb) (zc : Bool) (now : Nat) : Tb :=
  let e := t.edgeSrc zc
  match e.last with
  | some l =>
    if e.ok && decide (2 * (now - l) ≥ 3 * e.per t.cfg.vfreq) then
      let t := t.onSrc zc fun e => { e with ok := false }
      let t := if zc then t else { t with takeover := 0 }
      if t.src = srcName zc && (t.state = .locked || t.state = .acquire) then t.holdover else t
    else t
  | none => t

/-- HOLDOVER ends in VIRTUAL after the cycles in effect at its entry (R103). -/
def Tb.holdEnd (t : Tb) : Tb :=
  if t.state = .holdover && decide ((t.phc - t.holdPhc).toNat / 2 ^ 40 ≥ t.holdCyc) then t.virtual else t

/-- Effect of a write on the source in use (R106) and on virtual mains (R98). -/
def Tb.cfgTaken (t : Tb) : Tb :=
  let t := if !t.permitted t.src && (t.state = .locked || t.state = .acquire) then t.holdover else t
  if t.state = .virtual then { t with inc := vInc t.cfg.vfreq, freq := if t.cfg.vfreq then 60000 else 50000 } else t

/-- Write of TB_CFG: a field out of range stays as it was (R20, R128). -/
def TbCfg.write (c : TbCfg) (v : Nat) : TbCfg :=
  let hold := bits v 6 3
  let qd := bits v 11 7
  let ql := bits v 20 17
  { srcsel := bits v 1 0, vfreq := v.testBit 2, holdCyc := if 1 ≤ hold then hold else c.holdCyc,
    qdMax := if qd ≤ 16 then qd else c.qdMax, qdTotal := bits v 16 12, qlMin := if 4 ≤ ql then ql else c.qlMin,
    qmargin := bits v 25 21, learn := v.testBit 26 }

/-- Write of TB_ZC (R20, R129). -/
def TbZc.write (c : TbZc) (v : Nat) : TbZc :=
  { zmode := if bits v 1 0 < 3 then bits v 1 0 else c.zmode, zdelay := bits v 13 2, deglitch := bits v 21 14 }

/-- TB_CFG in range and its reserved bits 0 (R128, R135). -/
def tbCfgOk (v : Nat) : Bool := decide (1 ≤ bits v 6 3) && decide (bits v 11 7 ≤ 16) && decide (4 ≤ bits v 20 17)

/-- Code of a state (R97). -/
def TbState.code : TbState → Nat
  | .virtual => 1 | .acquire => 2 | .locked => 3 | .holdover => 4

/-- Code of a source (R89). -/
def TbSrc.code : TbSrc → Nat
  | .virtual => 0 | .cask => 1 | .zc => 2

/-- Code of a class (R133). -/
def BinClass.code : BinClass → Nat
  | .unknown => 0 | .quiet => 1 | .noisy => 2

/-- Quiet map bank in use (R97, R127). -/
def Tb.bank (t : Tb) : Fin 2 := if t.state = .virtual then 1 else 0

/-- TB_STAT.QREADY (R127). -/
def Tb.qready (t : Tb) : Nat :=
  ((t.qmap[t.bank]).toList.filter fun g => g.toList.all fun e => e.cls ≠ .unknown).length

/-- TB_STAT (R127). -/
def Tb.stat (t : Tb) : Nat :=
  t.state.code + 8 * t.src.code + 32 * b2n t.cask.ok + 64 * b2n t.zc.ok + 128 * t.bank.val + 256 * b2n t.gap +
  512 * b2n t.step + 1024 * b2n t.lost + 2048 * b2n t.freqOor + 65536 * t.qready

/-- Word of TB_CFG (R128). -/
def TbCfg.word (c : TbCfg) : Nat :=
  c.srcsel + 4 * b2n c.vfreq + 8 * c.holdCyc + 128 * c.qdMax + 4096 * c.qdTotal + 131072 * c.qlMin +
  2097152 * c.qmargin + 67108864 * b2n c.learn

/-- Word of TB_ZC (R129). -/
def TbZc.word (c : TbZc) : Nat := c.zmode + 4 * c.zdelay + 16384 * c.deglitch

/-- A quiet map entry as its 16 bits (R133). -/
def QEntry.word (e : QEntry) : Nat := e.floor + 256 * e.nobs + 4096 * e.cls.code

/-- Steps of 0.5 dB by which a power lies below the ADC's full scale, whole steps, at most 255; words have magnitude 8,192 at full scale
(R119, R189; log entry 63). -/
def noiseCode (num den : Nat) : Nat :=
  if num = 0 then 255
  else ((List.range 255).filter fun k => decide (num ^ 20 * 10 ^ (k + 1) ≤ (den * 2 ^ 26) ^ 20)).length

/-- A quotient rounded away from zero (R120). -/
def divAway (x : Int) (k : Nat) : Int := if x ≥ 0 then ((x.natAbs + k - 1) / k : Nat) else -((x.natAbs + k - 1) / k : Nat)

/-- One observation of value `m` (R119, R120). -/
def QEntry.observe (e : QEntry) (qlMin m : Nat) : QEntry :=
  let m := min 255 m
  if e.nobs < qlMin then
    let n := e.nobs + 1
    let s := e.sum + m
    { e with nobs := min 15 n, sum := s, floor := (2 * s + n) / (2 * n) }
  else
    { e with nobs := min 15 (e.nobs + 1), sum := e.sum + m,
             floor := (max 0 (min 255 ((e.floor : Int) + divAway ((m : Int) - e.floor) 8))).toNat }

/-- The bins of a group classified again (R121). -/
def classify (qlMin qmargin : Nat) (g : Vector QEntry 64) : Vector QEntry 64 :=
  let top := (g.toList.filter fun e => decide (qlMin ≤ e.nobs)).foldl (fun a e => max a e.floor) 0
  g.map fun e => { e with cls := if e.nobs < qlMin then .unknown else if top ≤ e.floor + qmargin then .quiet else .noisy }

/-- One group's observation at the end of a bin (R118 to R121). -/
def Tb.observe (t : Tb) (g : Fin 24) (bin : Nat) (m : Nat) : Tb :=
  { t with qmap := upd t.qmap t.bank fun b => upd b g fun v =>
      classify t.cfg.qlMin t.cfg.qmargin (upd v (Fin.ofNat 64 bin) fun e => e.observe t.cfg.qlMin m) }

/-- Classes that hold for a bin that begins now (R97, R114). -/
def Tb.classesNow (t : Tb) (bin : Nat) : Vector BinClass 24 :=
  if t.state = .acquire ∨ t.state = .holdover then Vector.replicate 24 .unknown
  else (t.qmap[t.bank]).map fun g => g[Fin.ofNat 64 bin].cls

/-- Entry classes of both banks cleared to 0x0000 (R122). -/
def clearBank : Vector (Vector QEntry 64) 24 := Vector.replicate 24 (Vector.replicate 64 {})

/-! Phase compares (R107 to R111) -/

/-- PHC has passed a target (R107). -/
def passed (phc : Nat) (tgt : Word) : Bool := decide ((BitVec.ofNat 32 phc - tgt).toNat < 2 ^ 31)

/-- Periods added to a target until it lies ahead: the new target and the additions made (R109). -/
def advance (phc : Nat) (tgt : Word) (per : Nat) : Word × Nat :=
  let gone := (BitVec.ofNat 32 phc - tgt).toNat
  let k := gone / max 1 per + 1
  (tgt + BitVec.ofNat 32 (k * per), k)

/-- The state of a compare after it fires (R107, R109). -/
def Pcmp.fire (c : Pcmp) (phc : Nat) : Pcmp :=
  if c.per = 0 then { c with fired := true, en := false }
  else
    let r := advance phc c.tgt c.per
    { c with fired := true, tgt := r.1, miss := satAdd 255 c.miss (r.2 - 1) }

/-- Source that a compare raises (R107, R579, R580). -/
def pcmpSrc (n : Fin 32) : SrcId :=
  if n.val < 24 then .priv (Fin.ofNat 5 (n.val / 6)) (Fin.ofNat 32 (12 + n.val % 6))
  else .priv 4 (Fin.ofNat 32 (14 + (n.val - 24)))

/-- No other enabled compare has an earlier target that has passed: compares fire in ascending order of their targets (R110). -/
def Tb.firstDue (t : Tb) (n : Fin 32) : Bool :=
  let phc := t.phc.toNat >>> 24
  let ago (c : Pcmp) := (BitVec.ofNat 32 phc - c.tgt).toNat
  (List.finRange 32).all fun k =>
    !(t.pcmp[k].en && passed phc t.pcmp[k].tgt && decide (ago t.pcmp[n] < ago t.pcmp[k]))

/-! Restart of CORE (R88, R613) -/

/-- A source still has its qualification at TSC `now` (R92). -/
def EdgeSrc.held (e : EdgeSrc) (vfreq : Bool) (now : Nat) : Bool :=
  e.ok && (match e.last with
    | some l => decide (2 * (now - l) < 3 * e.per vfreq)
    | none => false)

/-- PHC and the time base after CORE has been down for `ticks` LPCLK ticks of 32,768 Hz, TSC now being `now` (R88, R94). -/
def Tb.restart (t : Tb) (ticks now : Nat) : Tb :=
  let adv := ticks * t.aonFreq * 65536 / (32768 * 1000)
  let ck := t.cask.held t.cfg.vfreq now
  let zk := t.zc.held t.cfg.vfreq now
  let t := { t with
    phc := BitVec.ofNat 56 ((t.aonPhc.toNat + adv) * 2 ^ 24), gap := true, gaps := satInc 255 t.gaps,
    cask := { t.cask with period := none, ok := ck }, zc := { t.zc with period := none, ok := zk }, good := 0, bad := 0, takeover := 0 }
  if ck && t.permitted .cask then { t with state := .acquire, src := .cask }
  else if zk && t.permitted .zc then { t with state := .acquire, src := .zc }
  else t.virtual

/-- What AON records of the time base when CORE goes down (R88). -/
def Tb.record (t : Tb) : Tb := { t with aonPhc := BitVec.ofNat 32 (t.phc.toNat >>> 24), aonFreq := t.freq }

end Sys2Proof.Machine
end

