-- ==== Sys2Proof/Machine/ZoneOps.lean ====
section
/-! DEFINITION. Framers, exchange replies, power events, zone opening and closing, capture queues and zone timers
(chapters 07, 08, 09, 16 and 17). -/

namespace Sys2Proof.Machine
open Sys2Proof

/-- Change of a zone's framer. -/
def onFr (n : Fin 24) (f : Framer → Framer) (d : Dev) : Dev := d.onHf fun h => { h with fr := upd h.fr n f }

/-- Change of a zone engine. -/
def onZone (n : Fin 24) (f : ZoneEng → ZoneEng) (d : Dev) : Dev := d.onSf fun s => { s with zone := upd s.zone n f }

/-- Change of a presence entry, where there is one. -/
def onEntry (i : Nat) (f : Entry → Entry) (d : Dev) : Dev :=
  if h : i < 512 then d.onSf fun s => { s with entry := upd s.entry ⟨i, h⟩ fun e => e.map f } else d

/-- The entry at an index. -/
def Surface.at (s : Surface) (i : Nat) : Option Entry := if h : i < 512 then s.entry[i] else none

/-- Indices of the entries on a zone, lowest first (R282). -/
def Surface.onZ (s : Surface) (n : Fin 24) : List Nat :=
  ((List.finRange 512).filter fun i => match s.entry[i] with
    | some e => decide (e.zone = some n)
    | none => false).map fun i => i.val

/-- ENTRY_ID of an index (R283). -/
def Surface.entryId (s : Surface) (i : Nat) : Nat :=
  match s.at i with
  | some e => i + 512 * e.reuse
  | none => 0xFFFF

/-- Phase compare of a zone engine (R264). -/
def pcmpOf (n : Fin 24) : Fin 32 := Fin.ofNat 32 n.val

/-! PRB_OK (R250, R307) -/

/-- Words from now to a PHC target at the present increment, none when it has passed. -/
def Dev.wordsTo (d : Dev) (tgt : Word) : Option Nat :=
  if passed d.phc tgt then none
  else some ((tgt - word d.phc).toNat * 2 ^ 24 / (max 1 d.tb.inc * 16))

/-- Words until the listening window opens (R304). -/
def Dev.wordsToOpen (d : Dev) (n : Fin 24) : Option Nat :=
  match d.hf.fr[n].winFrom with
  | some t => some (d.hf.fr[n].wopen - (d.now - t) / 16)
  | none => none

/-- ZEn_STAT.PRB_OK: not modulating, and no window opens within 448 words (R250, R307). -/
def Dev.prbOk (d : Dev) (n : Fin 24) : Bool :=
  let f := d.hf.fr[n]
  if d.sf.zone[n].state = .free then true
  else
    decide (f.tx ≠ .sending) && !d.lau.zone[n].listen && !d.lau.zone[n].hold &&
    (match d.wordsToOpen n with
      | some w => decide (w ≥ 448)
      | none => true) &&
    (if f.tx = .armed then (match d.wordsTo d.tb.pcmp[pcmpOf n].tgt with
      | some w => decide (w ≥ 448)
      | none => false) else true)

/-! Capture queues and zone timers -/

/-- PHC and TSC of an item pushed now. -/
def captureFrame (n : Fin 24) (d : Dev) : Dev :=
  if d.qs.cfg[n].mode ≠ 1 then d
  else
    let f := d.hf.fr[n]
    let stat := b2n (f.tx ≠ .idle) + 2 * b2n d.lau.zone[n].listen + 4 * b2n f.txDone + 8 * b2n f.rxDone + 16 * b2n f.noResp +
      32 * b2n f.crcErr + 64 * b2n f.parErr + 128 * b2n f.codErr + 256 * b2n f.coll + 512 * b2n f.abandoned + 1024 * b2n f.rxLost +
      2048 * b2n f.rxBuf + 4096 * b2n (d.prbOk n) + 8192 * f.rxLastBits
    pushItem (.cq n) false [header 13 4 d.sf.gen.toNat, d.phcW, word d.now, word (stat % 65536 + 65536 * f.rxLen)] d

/-- Removal of committed items and poisoning of a partial one (R597). -/
def Queue.flush (q : Queue) (evq : Bool) : Queue :=
  let keep := if evq && q.openAt.isSome then q.items.take 1 else []
  let partial_ := decide (q.need > 0)
  { q with
    items := keep, openAt := if keep.isEmpty then none else q.openAt, flushOpen := !keep.isEmpty
    part := [], drop := if partial_ then q.need else q.drop, need := 0
    poisoned := q.poisoned || partial_, poison := if partial_ then satInc 255 q.poison else q.poison }

/-- A capture queue at its zone's opening: empty, with its reset configuration (R604). -/
def cqOpen (n : Fin 24) (d : Dev) : Dev :=
  d.onQs fun q => { q with
    cq := upd q.cq n fun x => { lost := x.lost, poison := x.poison, badhdr := x.badhdr }
    cfg := upd q.cfg n fun _ => {} }

/-- A capture queue at its zone's closing: flushed, MODE 0 (R604). -/
def cqClose (n : Fin 24) (d : Dev) : Dev :=
  d.onQs fun q => { q with
    cq := upd q.cq n fun x => (x.flush false).setWm 2048
    cfg := upd q.cfg n fun c => { c with mode := 0, runLeft := 0 } }

/-- The zone timers that an event of code `e` starts (R622). -/
def startTimers (n : Fin 24) (e : Nat) (d : Dev) : Dev :=
  d.onTim fun t => { t with zt := upd t.zt n fun b => b.map fun z => if z.start = e then { z with cnt := 0, run := true, ev := true } else z }

/-! Replies of exchanges (R325, R366) -/

/-- A signed 16-bit FLD field, 0x8000 where it is not valid. -/
def fldField (f : Option Int) : Nat :=
  match f with
  | some x => twos 16 x
  | none => 0x8000

/-- Reply payload of ZONE_EXCHANGE and ACC_EXCHANGE (R325, R366). -/
def xReply (c : Cmd) (detail lastBits ecode : Nat) (phc : Nat) (data : List Byte) : List Byte :=
  le 2 (leAt c.payload 0 2) ++ [byteOf detail, byteOf (min 255 c.sent)] ++
  (if c.opc = 0x32 then [byteOf c.rhdr, byteOf ecode] else [byteOf lastBits, 0]) ++
  le 2 (fldField c.fldAt) ++ le 4 phc ++ data.take 4096

/-- Estimated RF output of a zone, mW. -/
def Dev.zoneMw (d : Dev) (n : Fin 24) : Nat := if d.tx[n].driving then d.drv.estTot d.tx[n].cur d.tx[n].scale / 10 ^ 6 else 0

/-- Reply payload of ACC_POWER (R376). -/
def powReply (i st : Nat) (d : Dev) : List Byte :=
  let e := (d.sf.at i).getD {}
  let rf := match e.zone with
    | some n => d.zoneMw n
    | none => 0
  le 2 (d.sf.entryId i) ++ [byteOf st, byteOf e.acc.pwr] ++ le 2 rf ++ [0, 0]

/-- A power event item (R377). -/
def pushPower (i st cause : Nat) (d : Dev) : Dev :=
  let e := (d.sf.at i).getD {}
  let rf := match e.zone with
    | some n => d.zoneMw n
    | none => 0
  pushPt 5 (le 2 (d.sf.entryId i) ++ [byteOf st, byteOf cause, byteOf e.acc.pwr, 0] ++ le 2 rf ++ le 4 d.phc ++ le 4 d.sf.gen.toNat) d

/-- Power delivery of an entry stops with a cause of R375. -/
def powerStop (cause : Nat) (d : Dev) (i : Nat) : Dev :=
  match d.sf.at i with
  | some e => if e.acc.power = 1 ∨ e.acc.power = 2 then
      pushPower i 0 cause (onEntry i (fun e => { e with acc := { e.acc with power := 0, boost := 0, lowSince := none, exceeded := 0 } }) d)
    else d
  | none => d

/-- WRITE_UNKNOWN counts where a zone is known (R339). -/
def countWrunk (i : Nat) (d : Dev) : Dev :=
  match d.sf.at i with
  | some e => match e.zone with
    | some n => onFr n (fun f => { f with cntWrunk := satInc 255 f.cntWrunk }) d
    | none => d
  | none => d

/-- A command that names a presence entry completes with an outcome of R336. -/
def finishX (tag : Fin 32) (st : Status) (detail : Nat) (d : Dev) : Dev :=
  match d.cmd tag with
  | none => d
  | some c =>
    let d := if st = .writeUnknown then countWrunk c.entry d else d
    if c.opc = 0x18 ∨ c.opc = 0x32 then complete tag st (xReply c detail 0 0 c.rxPhc []) d
    else if c.opc = 0x33 then complete tag st (powReply c.entry 3 d) d
    else complete tag st [] d

/-- The commands at work on an entry of a zone, in the order of acceptance (R272, R281). -/
def Dev.zoneTags (d : Dev) (n : Fin 24) : List (Fin 32) :=
  d.activeTags fun c => (decide (c.phase = .frames) || decide (c.phase = .ramp) || decide (c.phase = .slots)) &&
    (match d.sf.at c.entry with
      | some e => decide (e.zone = some n)
      | none => false)

/-- Status of a stopped command: an unacknowledged write frame comes first (R329, R334). -/
def stopX (st : Status) (detail : Nat) (d : Dev) (tag : Fin 32) : Dev :=
  match d.cmd tag with
  | none => d
  | some c => if c.writeSent then finishX tag .writeUnknown 0x09 d else finishX tag st detail d

/-! Opening and closing (R264, R269, R271, R272) -/

/-- Framer registers at a zone's opening; ZEn_FR_CNT keeps counting (R339). -/
def Framer.opened (f : Framer) (now : Nat) : Framer :=
  { cntLost := f.cntLost, cntIgnored := f.cntIgnored, cntExcess := f.cntExcess, cntDown := f.cntDown, cntWrunk := f.cntWrunk,
    txBuf := f.txBuf, rx0 := f.rx0, rx1 := f.rx1, lastCheck := now, lastPing := now }

/-- The framer stops with its zone: nothing is sent or listened for. -/
def Framer.stopped (f : Framer) : Framer :=
  { f with tx := .idle, heldSend := false, winFrom := none, powEnd := none, slots := [], masked := [], seek := none }

/-- PEND of the zone's private sources cleared at its opening (R579). -/
def clearZoneSrc (n : Fin 24) (d : Dev) : Dev :=
  let j := n.val % 6
  d.onEvr fun e => { e with priv := upd e.priv (zcOf n) fun b => Vector.ofFn fun s =>
    if s.val < 30 ∧ s.val % 6 = j then { b[s] with pend := false } else b[s] }

/-- Entries of the opening list in use (R296). -/
def ZoneEng.list (z : ZoneEng) : List (Nat × Nat) := z.coilk.toList.filter fun x => decide (x.1 ≠ 0xFF)

/-- Every listed coil is FREE, or SHADOW with role GUARD_DAMP (R269). -/
def Dev.openable (d : Dev) (n : Fin 24) : Bool :=
  d.sf.zone[n].list.all fun x => match coilNo x.1, Role.ofTxw x.2 with
    | some c, some r =>
      decide (d.drv.coil[c].role = .free) || (decide (d.drv.coil[c].role = .shadow) && decide (r = .guardDamp))
    | _, _ => false

/-- Coils granted to a zone (R269). -/
def grantCoils (n : Fin 24) (d : Dev) : Dev :=
  let l := d.sf.zone[n].list
  d.onDrv fun v => v.mapCoils fun c k =>
    match l.find? fun x => decide (x.1 = c.val) with
    | some x => match Role.ofTxw x.2 with
      | some r => { k with role := r, owner := some n }
      | none => k
    | none => k

/-- The zone's phase compare at its opening (R132, R264). -/
def pcmpOpen (n : Fin 24) (d : Dev) : Dev :=
  d.onTb fun t => { t with pcmp := upd t.pcmp (pcmpOf n) fun _ => {} }

/-- OPEN on a FREE engine: grant, or refusal with nothing changed (R264, R269). -/
def openZone (n : Fin 24) (d : Dev) : Dev :=
  if d.sf.zone[n].state ≠ .free then d
  else if !d.openable n then onZone n (fun z => { z with oref := true }) d
  else
    let now := d.now
    let d := withRxRoles (fun d => redrive (grantCoils n d)) d
    let d := onZone n (fun z => { z with state := .opened, cause := 0, found := 0, identified := false, lastUse := now, readPlan := [], oref := false }) d
    let d := onTxZ n (fun _ => {}) d
    let d := openRx n d
    let d := onLz n LZone.opened d
    let d := onFr n (fun f => f.opened now) d
    let d := pcmpOpen n d
    let d := d.onTim fun t => { t with zt := upd t.zt n fun _ => Vector.replicate 2 {} }
    clearZoneSrc n (cqOpen n d)

/-- The zone's coils after its off ramp: FREE or SHADOW, a FAULT coil with no owner (R171, R272). -/
def freeCoils (n : Fin 24) (d : Dev) : Dev :=
  d.onDrv fun v => v.mapCoils fun _ k =>
    if k.owner = some n then { k with owner := none, role := if k.role = .fault then .fault else .free } else k

/-- The coils of a closing zone whose off ramp has ended return to FREE or SHADOW, before STAT does (R272). -/
def returnCoils (n : Fin 24) (d : Dev) : Dev :=
  if d.sf.zone[n].state ≠ .closing ∨ d.tx[n].on then d
  else withRxRoles (fun d => redrive (onTxZ n (fun t => { t with cur := [], driving := false, due := none, held := none }) (freeCoils n d))) d

/-- Active coils of a zone. -/
def Dev.actives (d : Dev) (n : Fin 24) : List (Fin 192) :=
  allCoils.filter fun c => decide (d.drv.coil[c].owner = some n) && decide (d.drv.coil[c].role = .active)

/-- CLOSE: off ramp, Lauter NONE, commands completed, framer and queue stopped (R272, R273, R604, R623). `st` and `detail`
are what a command of the zone completes with; none leaves waiting commands as they are. -/
def closeZone (n : Fin 24) (cause : Nat) (st : Option (Status × Nat)) (d : Dev) : Dev :=
  if d.sf.zone[n].state ≠ .opened then d
  else
    let act := (d.actives n).map (·.val)
    let d := (d.sf.onZ n).foldl (powerStop (if cause = 4 then 3 else if cause = 5 then 5 else if cause = 6 then 4 else 6)) d
    let d := match st with
      | some (s, x) => (d.zoneTags n).foldl (stopX s x) d
      | none => d
    let d := onZone n (fun z => { z with state := .closing, cause := cause }) d
    let d := withRx (fieldOff n) d
    let d := lauClose n d
    let d := onFr n Framer.stopped d
    let d := onZRx n (fun z => { z with frozen := false, held := none }) d
    let d := d.onTim fun t => { t with zt := upd t.zt n fun b => b.map fun z => { z with run := false, cen := false, shot := false } }
    submit (.zoneClosed n cause act d.phcW) (cqClose n (returnCoils n d))

/-- The closing ends 1 µs after the off ramp: the engine is free, and SC plans again (R268, R272). -/
def closeDone (n : Fin 24) (d : Dev) : Dev :=
  if d.sf.zone[n].state ≠ .closing ∨ d.tx[n].on then d
  else
    let d := onZone n (fun z => { z with state := .free, entry := none, reserved := false, module := none, readPlan := [] }) (returnCoils n d)
    submit .replan d

/-- Every open zone closes with one cause (R72, R169, R739). -/
def closeAll (cause : Nat) (st : Option (Status × Nat)) (d : Dev) : Dev :=
  (List.finRange 24).foldl (fun d n => returnCoils n (closeZone n cause st d)) d

/-- Coils that an HF test drives or drove. -/
def Dev.testCoils (d : Dev) : List (Fin 192) := d.testNow.1.filterMap fun w => coilNo w.coil

/-- The field of an HF test goes off: with its ramp, from the end of DURATION where that has passed, or, `cut`, at once (R83, R149). -/
def fadeOf (cut : Bool) (now : Nat) (q : Qual) : Option (Qual × Nat × Nat) :=
  let last := q.start + msT q.duration
  if cut then none else some (q, if !q.hold && decide (last ≤ now) then last else now, q.len)

/-- An HF test ends; its command, if it has not replied, completes with a status (R83, R149, R199). -/
def endHfTest (cut : Bool) (st : Status) (d : Dev) : Dev :=
  match d.mode.qual with
  | some q =>
    if !q.hf then d
    else
      let cs := d.testCoils
      let now := d.now
      let d := markAll (d.drv.around cs) 96 4 (rewords (d.onMode fun m => { m with qual := none, fading := fadeOf cut now q }))
      match q.tag with
      | some t => fail t st d
      | none => d
  | none => d

/-- Every driven coil of an HF test is held off, or every one is in FAULT (R83). -/
def Dev.testDead (d : Dev) : Bool :=
  match d.mode.qual with
  | some q => q.hf && d.testCoils.all fun c => d.drv.ket[kOf c].off
  | none => false

/-- A write frame is under way or unacknowledged on the entry of a zone (R62). -/
def Dev.writing (d : Dev) (n : Fin 24) : Bool :=
  !(d.activeTags fun c => c.writeSent && (match d.sf.at c.entry with
    | some e => decide (e.zone = some n)
    | none => false)).isEmpty

end Sys2Proof.Machine
end

