-- ==== Sys2Proof/Machine/TuneOps.lean ====
section
/-! DEFINITION. What the zone firmware makes of a card's technology and rates: activation, framer, filter, TRACK mask and windows
(chapters 08 and 09). -/

namespace Sys2Proof.Machine
open Sys2Proof

/-- ZEn_RX_CTL.FILT written, held while a frame is received (R20, R187). -/
def filtWrite (n : Fin 24) (p : Nat) (d : Dev) : Dev :=
  if p > 2 then d
  else if d.lau.zone[n].hold then onZRx n (fun z => { z with filt := p, held := some p }) d
  else applyFilt n p d

/-- LZn_REQ written (R20, R232, R233, R236, R243). A zone that is not open takes no engines (R237). -/
def lzReq (n : Fin 24) (cls m : Nat) (d : Dev) : Dev :=
  if cls > 2 then onLz n (fun z => { z with reqMask := m % 16384 }) d
  else
    let m := m % 16384
    let d := onLz n (fun z => { z with reqClass := cls, reqMask := m }) d
    let c := LClass.ofReq cls
    let now := d.now
    if d.sf.zone[n].state ≠ .opened then d
    else if cls = 2 ∧ trackRefuse m ≠ 0 then onLz n (fun z => { z with refuse := trackRefuse m }) d
    else if d.lau.zone[n].hold then
      (onLz n (fun z => { z with wait := some { cls := c, tmask := m, held := true, since := now } }) d).onLau fun l =>
        { l with order := l.order.filter (· ≠ n) }
    else request n c m d

/-- Weights 1 dB higher, each amplitude times 1.122 rounded (R373; the rounding is a DESIGN CHOICE, log entry 24). -/
def raised (ws : List TxW) : List TxW := ws.map fun w => { w with amp := min 255 ((w.amp * 1122 + 500) / 1000) }

/-- Weights 1 dB lower (R374). -/
def lowered (ws : List TxW) : List TxW := ws.map fun w => { w with amp := (w.amp * 1000 + 561) / 1122 }

/-! Activation layer and rates (R317, R320, R321, R338) -/

/-- TECH of CARD_INFO for a PROTO, 0 for an accessory (R317, R338). -/
def techOf : Nat → Nat
  | 1 => 1 | 2 => 2 | 6 => 3 | 7 => 3 | 11 => 4 | 13 => 4 | _ => 0

/-- Rate code at identification: 106 kbit/s, 212 or, identified so, 424 kbit/s for JIS X 6319-4 (R317, R338). -/
def firstRate : Nat → Nat
  | 7 => 0x11 | 6 => 0x22 | _ => 0

/-- What is kept of a card at its identification: not activated, at its first rate (R317, R320). -/
def Card.identified (k : Card) (proto : Nat) : Card :=
  { tech := techOf proto, rate := firstRate proto, info := k.info
    fwi := if proto = 2 then k.fwi else 0xFF, fsc := if proto = 2 then k.fsc else 0xFF }

/-- Activation layer that SAK, ATQB or the IDm shows: 1 ISO-DEP, 2 NFC-DEP, 0 none (R320; the bits of SAK and ATQB are PRESUMED, log entry 66). -/
def Entry.layer (e : Entry) : Nat :=
  match e.proto with
  | 1 => b2n ((byteAt e.card.info 2).testBit 5)
  | 2 => b2n ((byteAt e.card.info 10).testBit 0)
  | 6 => if e.uid.take 2 = [0x01, 0xFE] then 2 else 0
  | 7 => if e.uid.take 2 = [0x01, 0xFE] then 2 else 0
  | _ => 0

/-- Highest rate code up to `lim` in a mask of declared rates, `low` without one (R321). -/
def topRate (mask low : Nat) : Nat → Nat
  | 0 => low
  | lim + 1 => if mask.testBit (lim + 1) then max low (lim + 1) else topRate mask low lim

/-- The rates that a card's declaration, MAXRATE and its own steps down allow: one rate for both directions unless the card declares
otherwise (R321). -/
def Dev.chooseRate (d : Dev) (e : Entry) (a : ActAns) : Nat :=
  let jis := decide (e.card.tech = 3)
  let low := b2n jis
  let down := min (if jis then d.hf.maxRateF + 1 else d.hf.maxRate % 16) (e.card.cap % 16)
  let up := min (if jis then d.hf.maxRateF + 1 else d.hf.maxRate / 16) (e.card.cap / 16)
  if a.asym then topRate a.down low down + 16 * topRate a.up low up
  else let r := topRate (a.down &&& a.up) low (min down up); r + 16 * r

/-- Does AUTO_ACT enable the activation of an entry right after its train (R320, R360). -/
def Dev.autoFor (d : Dev) (e : Entry) : Bool :=
  decide (e.proto = 14) || (decide (e.layer = 1) && d.hf.autoAct.testBit 0) || (decide (e.layer = 2) && d.hf.autoAct.testBit 1)

/-! Framer, filter and TRACK mask (R300, R301, R359) -/

/-- TECH, TXRATE and RXRATE of the framer for an entry (R300, R317, R338, R339, R346). -/
def Entry.framer (e : Entry) : Nat × Nat × Nat :=
  let tx := e.card.rate % 16
  let rx := e.card.rate / 16
  match e.proto with
  | 1 => (1, tx, rx) | 2 => (2, tx, rx) | 6 => (3, max 1 tx, max 1 rx) | 7 => (3, max 1 tx, max 1 rx)
  | 11 => (4, 0, 0) | 13 => (4, 0, 1) | 14 => (5, 0, 0) | _ => (0, 0, 0)

/-- FILT and TMASK for the replies of an entry; TID t is bit t − 1 (R301, R359). -/
def Entry.track (e : Entry) : Nat × Nat :=
  let rx := e.card.rate / 16
  let byRate (own : Nat) : Nat × Nat := if rx = 0 then (1, own) else if rx ≤ 3 then (1, own + 2 ^ (rx + 1)) else (0, own + 2 ^ (rx + 3))
  match e.proto with
  | 1 => byRate 1
  | 2 => byRate 2
  | 6 => if 2 ≤ rx then (1, 0x60) else (2, 0x40)
  | 7 => if 2 ≤ rx then (1, 0x60) else (2, 0x40)
  | 11 => (2, 0xC00) | 13 => (2, 0x1000) | 14 => (2, 0x2000) | _ => (0, 0)

/-- The zone set to an entry's technology and rates: framer, modulation, filter and TRACK mask; on a zone shared by cards and accessories the
profile is that of the card and the mask holds both (R300, R301, R359). -/
def tune (n : Fin 24) (e : Entry) (d : Dev) : Dev :=
  let es := (d.sf.onZ n).filterMap d.sf.at
  let card := if e.proto ≠ 14 then e else (es.find? fun x => decide (x.proto ≠ 14) && decide (x.uid ≠ [])).getD e
  let acc := decide (e.proto = 14) || es.any fun x => decide (x.proto = 14)
  let m := card.track.2 ||| (if acc then 0x2000 else 0)
  let f := e.framer
  let k := modOf f.1 f.2.1 (d.hf.fr[n].tV.testBit 1)
  let d := onFr n (fun r => { r with tech := f.1, txRate := f.2.1, rxRate := f.2.2, depth := k.1, pause := k.2.1, edge := k.2.2 }) d
  let d := if d.lau.zone[n].cls = .track ∧ d.lau.zone[n].tmask = m then d else lzReq n 2 m d
  if d.rx.zone[n].filt = card.track.1 then d else filtWrite n card.track.1 d

/-- After the train of a zone that has identified something, the zone follows its first entry (R301, R359). -/
def tuneIdle (n : Fin 24) (d : Dev) : Dev :=
  match d.sf.zone[n].entry.bind d.sf.at with
  | some e =>
    if d.sf.zone[n].state = .opened ∧ d.sf.zone[n].identified ∧ d.sf.zone[n].module.isNone ∧ d.hf.fr[n].slots = [] then tune n e d else d
  | none => d

/-- A card or accessory answered its activation: layer, rates and data kept, and the zone set to them (R320, R321, R360). -/
def takeAct (i : Nat) (a : ActAns) (d : Dev) : Dev :=
  match d.sf.at i with
  | none => d
  | some e =>
    let r := d.chooseRate e a
    let layer := e.layer
    let d := onEntry i (fun e =>
      if e.proto = 14 then { e with acc := { e.acc with act := true, info := a.info.take 8 } }
      else { e with card := { e.card with
        act := layer, desync := false, react := false
        rate := if layer = 0 ∧ e.card.tech ≠ 3 then e.card.rate else r
        fwi := if layer = 0 then e.card.fwi else a.fwi, fsc := if layer = 0 then e.card.fsc else a.fsc
        info := if e.proto = 1 then e.card.info.take 3 ++ a.info else e.card.info } }) d
    match e.zone, d.sf.at i with
    | some n, some e => tune n e d
    | _, _ => d

/-! The exchange's own frame and windows (R302, R304, R324, R347, R349, R351) -/

/-- The command's own frame is a write frame (R327, R368). -/
def isWrite (c : Cmd) (e : Entry) : Bool :=
  let p := c.payload
  let fl := (byteAt p 3).testBit 0
  if c.opc = 0x32 then byteAt p 2 = 2 || (byteAt p 2 = 3 && fl)
  else
    fl || (byteAt p 2 = 0 && (match e.proto with
      | 1 => byteAt p 8 = 0xA2 || byteAt p 8 = 0xA0
      | 6 => byteAt p 9 = 0x08 | 7 => byteAt p 9 = 0x08
      | 11 => [0x21, 0x22, 0x24, 0x27, 0x28, 0x29, 0x2A].contains (byteAt p 9)
      | 13 => [0x21, 0x22, 0x24, 0x27, 0x28, 0x29, 0x2A].contains (byteAt p 9)
      | _ => false))

/-- Latest reply start of a JIS X 6319-4 command from the card's PMm, in words, capped at 1,000 ms (R304; the standard's formula and its byte for
each command are PRESUMED, log entry 66). -/
def pmmWords (pmm data : List Byte) : Nat :=
  let blocks := byteAt data (11 + 2 * byteAt data 10)
  let k : Nat × Nat := match byteAt data 1 with
    | 0x02 => (2, byteAt data 10) | 0x04 => (3, 0) | 0x06 => (5, blocks) | 0x08 => (6, blocks) | _ => (7, 0)
  let b := byteAt pmm k.1
  min 13560000 (4096 * ((bits b 5 3 + 1) * k.2 + (bits b 2 0 + 1)) * 4 ^ bits b 7 6)

/-- Longest time to a reply of an ISO-DEP block, FWT + ΔFWT, in words (R304). -/
def fwtWords (fwi : Nat) : Nat := 4096 * 2 ^ min fwi 14 + 49152

/-- Window opening and latest reply start of a command's exchange, in words (R304, R324, R349). `bound` is its own bound in BCLK cycles. -/
def exWindow (c : Cmd) (e : Entry) (bound : Nat) : Nat × Nat :=
  let p := c.payload
  let layer := byteAt p 2
  let raw (o l : Nat) : Nat × Nat := (o, if leAt p 6 2 = 0 then l else leAt p 6 2 * 1356 / 10)
  if c.opc = 0x32 then (1820, 2212)
  else match e.proto with
    | 1 => if layer = 0 then raw 1108 1300 else (1108, fwtWords e.card.fwi)
    | 2 => if layer = 0 then raw 960 4160 else (960, fwtWords e.card.fwi)
    | 6 => if layer = 0 then raw 512 (pmmWords e.card.info (p.drop 8)) else (512, bound / 16)
    | 7 => if layer = 0 then raw 512 (pmmWords e.card.info (p.drop 8)) else (512, bound / 16)
    | _ => raw 4256 (if isWrite c e then 271200 else 4448)

/-- WCLOSE for a latest reply start and a span, in 16-word units (R304). -/
def wcloseOf (latest span : Nat) : Nat := (latest + span + 64 + 15) / 16

/-- Longest span among the templates of the zone's mask (R304). -/
def Dev.spanOf (d : Dev) (n : Fin 24) : Nat :=
  match d.lau.zone[n].cls with
  | .track => (maskTmpls d.lau.zone[n].tmask).foldl (fun m t => max m t.span) 0
  | _ => 16384

/-- The downlink frame of an ACC_EXCHANGE: READ, WRITE or the vendor's command (R347, R351, R365). -/
def accFrame (p : List Byte) (handle : Nat) : List Byte :=
  match byteAt p 2 with
  | 1 => [0x06] ++ le 2 handle ++ le 2 (leAt p 4 2) ++ [byteOf (byteAt p 6)]
  | 2 => [0x07] ++ le 2 handle ++ le 2 (leAt p 4 2) ++ [byteOf (p.length - 8)] ++ p.drop 8
  | _ => [byteOf (byteAt p 6)] ++ le 2 handle ++ p.drop 8

/-- The framer set up for a command's exchange: windows, and the frame where the spec gives its bytes, RAW frames and those of an accessory
(R302, R304, R324, R346, R347). -/
def setupX (n : Fin 24) (c : Cmd) (e : Entry) (bound : Nat) (d : Dev) : Dev :=
  let d := tune n e d
  let w := exWindow c e bound
  let span := d.spanOf n
  let p := c.payload
  onFr n (fun f =>
    let f := { f with wopen := w.1, wclose := wcloseOf w.2 span, arm := false }
    if c.opc = 0x32 then
      let b := accFrame p e.acc.handle
      { f with txBuf := b, len := b.length, lastBits := 0, crcTx := true, crcRx := true }
    else if byteAt p 2 = 0 then
      let crc := !(byteAt p 3).testBit 2
      { f with txBuf := p.drop 8, len := p.length - 8, lastBits := byteAt p 4, crcTx := crc, crcRx := crc, par := decide (e.proto = 1) }
    else { f with crcTx := true, crcRx := true, par := decide (e.proto = 1) }) d

/-- The window of a wait extension of `t` BCLK cycles: the latest reply start is the extended wait and ΔFWT, or, from an accessory's WAIT, 2,212
words (R304, R332, R369). -/
def extendX (n : Fin 24) (e : Entry) (t : Nat) (d : Dev) : Dev :=
  let span := d.spanOf n
  onFr n (fun f => { f with wclose := wcloseOf (t / 16 + if e.proto = 14 then 2212 else 49152) span }) d

end Sys2Proof.Machine
end

