-- ==== Sys2Proof/Machine/PresOps.lean ====
section
/-! DEFINITION. The presence table: update steps, coil plans, events and snapshots (chapter 07). -/

namespace Sys2Proof.Machine
open Sys2Proof

/-- Code of an entry state (R277). -/
def EState.code : EState → Nat
  | .waiting => 1 | .opening => 2 | .opened => 3 | .resting => 4 | .unresponsive => 5

/-- Bytes 0 to 27 of an entry at index `i` (R283). -/
def Entry.body (e : Entry) (i : Nat) : List Byte :=
  le 2 (i + 512 * e.reuse) ++
  [byteOf e.state.code, byteOf e.kind, byteOf (ownerByte e.zone), byteOf e.proto, byteOf e.uid.length,
    byteOf (b2n e.shared + 2 * b2n e.moved + 4 * b2n e.part + 8 * b2n e.moving + 16 * e.reason)] ++
  le 2 e.x ++ le 2 e.y ++ [byteOf e.angle, byteOf e.nact, byteOf e.peak, 0] ++
  (e.uid ++ List.replicate (10 - e.uid.length) 0) ++ [0, 0]

/-- The 32 bytes of an entry (R283). -/
def Entry.bytes (e : Entry) (i : Nat) : List Byte := e.body i ++ le 4 e.genChg.toNat

/-- An event of a step, before it is pushed (R286). -/
structure PEv where
  /-- EVT -/
  evt : Nat
  /-- index, none for TABLE_FULL and CLEARED -/
  idx : Option Nat
  /-- ENTRY_ID -/
  id : Nat
  /-- PHC at the cause -/
  phc : Word
deriving DecidableEq, Repr

/-- A step in progress: the device and the events so far. -/
abbrev PStep := Dev × List PEv

/-- Index has an event NEW, IDENT or MOVED in this step already. -/
def told (evs : List PEv) (i : Nat) : Bool :=
  evs.any fun v => decide (v.idx = some i) && decide (v.evt ≠ 5)

/-- An event added. -/
def addEv (evt i : Nat) (phc : Word) (s : PStep) : PStep := (s.1, s.2 ++ [⟨evt, some i, s.1.sf.entryId i, phc⟩])

/-- State of an entry changed, with its STATE event (R286). -/
def chState (i : Nat) (st : EState) (reason : Nat) (phc : Word) (s : PStep) : PStep :=
  match s.1.sf.at i with
  | none => s
  | some e =>
    let d := onEntry i (fun e => { e with state := st, reason := reason, evicts := none }) s.1
    let d := if (st = .waiting ∨ st = .resting ∨ st = .unresponsive) ∧ (e.state = .opening ∨ e.state = .opened) then retake e.coils d else d
    if e.state = st ∨ told s.2 i then (d, s.2) else addEv 3 i phc (d, s.2)

/-- Lowest free index (R284). -/
def Surface.freeIdx (s : Surface) : Option Nat := ((List.finRange 512).find? fun i => s.entry[i].isNone).map fun i => i.val

/-- An entry put at an index. -/
def putEntry (i : Nat) (e : Entry) (d : Dev) : Dev :=
  if h : i < 512 then d.onSf fun s => { s with entry := upd s.entry ⟨i, h⟩ fun _ => some { e with reuse := s.reuse[i] } } else d

/-- Commands that wait or work on an entry: of one that has gone they complete with NO_TAG (R281, R336). -/
def entryTags (d : Dev) (i : Nat) : List (Fin 32) :=
  d.activeTags fun c => decide (c.entry = i) && decide (c.phase ≠ .fresh) && decide (c.opc < 0x40)

/-- ZEn_STAT.ENTRY follows the entries left on a zone: the first of them (R282, R296). -/
def firstEntry (i : Nat) (d : Dev) : Dev :=
  (List.finRange 24).foldl (fun d n =>
    if d.sf.zone[n].entry = some i then let h := (d.sf.onZ n).head?; onZone n (fun z => { z with entry := h }) d else d) d

/-- An entry taken out of the table: its index is free again and its reuse count rises (R284). Its coils stay as they are. -/
def dropEntry (i detail : Nat) (phc : Word) (s : PStep) : PStep :=
  let id := s.1.sf.entryId i
  let d := (entryTags s.1 i).foldl (stopX .noTag detail) s.1
  let d := if h : i < 512 then d.onSf fun t => { t with
    entry := upd t.entry ⟨i, h⟩ fun _ => none, reuse := upd t.reuse ⟨i, h⟩ fun r => (r + 1) % 128, full := false } else d
  (firstEntry i d, s.2 ++ [⟨5, some i, id, phc⟩])

/-- An entry removed: its coils are no longer occupied, but for those that another entry holds (R284, R762). -/
def removeEntry (i detail : Nat) (phc : Word) (s : PStep) : PStep :=
  match s.1.sf.at i with
  | none => s
  | some e => dropEntry i detail phc (unholdBy i e.coils s.1, s.2)

/-- A confirmed object entered, or TABLE_FULL (R284). -/
def addObject (l : Loc) (phc : Word) (s : PStep) : PStep :=
  match s.1.sf.freeIdx with
  | none =>
    if s.1.sf.full then s
    else (s.1.onSf fun t => { t with full := true }, s.2 ++ [⟨6, none, 0xFFFF, phc⟩])
  | some i =>
    let d := putEntry i { x := l.x, y := l.y, angle := l.angle, kind := l.kind, peak := l.peak, part := l.part, moving := l.moving,
                          coils := l.coils, weights := l.weights, order := s.1.sf.nextOrder } s.1
    addEv 1 i phc (d.onSf fun t => { t with nextOrder := t.nextOrder + 1 }, s.2)

/-- The new image of an occupied object; `kept` are the coils that the image could not drive (R279, R762). -/
def moveEntry (i : Nat) (ls : List Loc) (kept : List Nat) (phc : Word) (s : PStep) : PStep :=
  match s.1.sf.at i with
  | none => ls.foldl (fun s l => addObject l phc s) s
  | some e =>
    let far (l : Loc) : Nat := (((l.x : Int) - e.x) ^ 2 + ((l.y : Int) - e.y) ^ 2).toNat
    let heavy (l : Loc) : Nat := (l.weights.map (·.2)).sum
    match ls with
    | [] => removeEntry i 1 phc s
    | a :: as =>
      let l := as.foldl (fun b x => if far x < far b ∨ (far x = far b ∧ heavy b < heavy x) then x else b) a
      let rest := ls.filter (· ≠ l)
      let s :=
        if far l ≤ 10000 then (onEntry i (fun e => { e with coils := l.coils ++ kept, weights := l.weights }) s.1, s.2)
        else
          addEv 4 i phc (onEntry i (fun e => { e with
            x := l.x, y := l.y, angle := l.angle, kind := l.kind, peak := l.peak, part := l.part, moving := l.moving, moved := true,
            coils := l.coils ++ kept, weights := l.weights, reason := if e.state = .resting then 0 else e.reason
            state := if e.state = .resting then .waiting else e.state }) s.1, s.2)
      rest.foldl (fun s l => addObject l phc s) s

/-- A zone has closed, with its former active coils (R271, R278, R280). -/
def closedEntries (n : Fin 24) (cause : Nat) (act : List Nat) (phc : Word) (s : PStep) : PStep :=
  let is := s.1.sf.onZ n
  let s := is.foldl (fun s i =>
    let s := (onEntry i (fun e => { e with zone := none, card := { e.card with act := 0 } }) s.1, s.2)
    match cause with
    | 1 => chState i .resting 0 phc s
    | 2 => chState i .resting 0 phc s
    | 5 => chState i .waiting 1 phc s
    | 7 => chState i .waiting 1 phc s
    | _ => s) s
  if (cause = 3 ∨ cause = 4) ∧ is ≠ [] then
    (s.1.onPrb fun p => { p with images := p.images ++ [{ trig := act.head?.getD 0, kind := .close is cause, todo := [act] }] }, s.2)
  else s

/-- An identification (R280, R316, R317, R359). -/
def identEntry (n : Fin 24) (proto : Nat) (uid : List Byte) (card : Card) (acc : Acc) (phc : Word) (s : PStep) : PStep :=
  let z := s.1.sf.zone[n]
  match z.entry with
  | none => s
  | some i =>
    match s.1.sf.at i with
    | none => s
    | some e =>
      let now := s.1.now
      let used (d : Dev) := onZone n (fun z => { z with identified := true, lastUse := now }) d
      let named (e : Entry) : Entry := { e with
        state := .opened, reason := 0, proto := proto, uid := uid, card := card.identified proto
        acc := { handle := acc.handle, pwr := acc.pwr, lastReply := now, act := e.acc.act && decide (e.uid = uid)
                 info := if e.uid = uid then e.acc.info else [] } }
      if e.state = .opening then
        if e.uid ≠ [] ∧ e.uid ≠ uid then
          let s := dropEntry i 0x0C phc s
          match s.1.sf.freeIdx with
          | some j =>
            let s := addEv 1 j phc (putEntry j (named { e with moved := false }) s.1, s.2)
            addEv 2 j phc (used (onZone n (fun z => { z with entry := some j }) s.1), s.2)
          | none => s
        else addEv 2 i phc (used (onEntry i named s.1), s.2)
      else
        match s.1.sf.freeIdx with
        | none => if s.1.sf.full then s else (s.1.onSf fun t => { t with full := true }, s.2 ++ [⟨6, none, 0xFFFF, phc⟩])
        | some j =>
          let d := (s.1.sf.onZ n).foldl (fun d k => onEntry k (fun e => { e with shared := true }) d) s.1
          let e2 : Entry := { x := e.x, y := e.y, angle := e.angle, kind := e.kind, zone := some n, nact := e.nact, peak := e.peak,
                              part := e.part, moving := e.moving, shared := true, coils := e.coils, weights := e.weights,
                              order := d.sf.nextOrder }
          let d := putEntry j (named e2) (d.onSf fun t => { t with nextOrder := t.nextOrder + 1 })
          addEv 2 j phc (addEv 1 j phc (used d, s.2))

/-- One pending result (R285). -/
def applyResult (s : PStep) : PResult → PStep
  | .object l phc => addObject l phc s
  | .moved i ls kept phc => moveEntry i ls kept phc s
  | .closed is cause here phc => is.foldl (fun s i =>
      if here = [] then removeEntry i 1 phc s
      else chState i (if cause = 3 then .unresponsive else .waiting) 0 phc
        (onEntry i (fun e => { e with coils := (e.coils ++ here).eraseDups }) s.1, s.2)) s
  | .want i => match s.1.sf.at i with
      | some e => if e.state = .resting ∨ e.state = .unresponsive then chState i .waiting 0 s.1.phcW s else s
      | none => s
  | .zoneClosed n cause act phc => closedEntries n cause act phc s
  | .ident n proto uid card acc phc => let s := identEntry n proto uid card acc phc s; (tuneIdle n s.1, s.2)
  | .gone i phc => removeEntry i 1 phc s
  | .replan => s

/-! Coil plans (R265 to R268, R274, R275) -/

/-- Coils listed by zones that are reserved and not yet open, with their role codes (R266). -/
def Dev.reservedCoils (d : Dev) : List (Nat × Nat) :=
  (List.finRange 24).flatMap fun n =>
    if d.sf.zone[n].reserved && decide (d.sf.zone[n].state = .free) then d.sf.zone[n].list else []

/-- A coil is ACTIVE for a zone, or reserved as such (R266). -/
def Dev.activeOrReserved (d : Dev) (res : List (Nat × Nat)) (c : Fin 192) : Bool :=
  (decide (d.drv.coil[c].role = .active) && d.drv.coil[c].owner.isSome) ||
  res.any fun x => decide (x.1 = c.val) && decide (x.2 = 1)

/-- A coil that may be made ACTIVE (R266). -/
def Dev.mayActive (d : Dev) (res : List (Nat × Nat)) (n : Nat) : Bool :=
  match coilNo n with
  | some c => decide (d.drv.coil[c].role = .free) && !(res.any fun x => decide (x.1 = n)) &&
      !((d.drv.nbs c).any fun b => d.activeOrReserved res b)
  | none => false

/-- The choice of active coils among some weights (R266). -/
def chooseActive (ok : Nat → Bool) (ws : List (Nat × Nat)) : List (Nat × Nat) :=
  let top := ws.foldl (fun m x => max m x.2) 0
  let cand := ws.filter fun x => ok x.1 && decide (0 < x.2) && decide (top ≤ 4 * x.2)
  ((sortWt (cand.map fun x => { coil := x.1, x := 0, y := 0, delta := 0, w := x.2 })).take 9).map fun j => (j.coil, j.w)

/-- Weight of a coil in a list, 0 where it was not imaged. -/
def wtIn (ws : List (Nat × Nat)) (c : Nat) : Nat := ((ws.find? fun x => decide (x.1 = c)).map (·.2)).getD 0

/-- The guards of a plan (R267). -/
def Dev.guards (d : Dev) (res : List (Nat × Nat)) (ws act : List (Nat × Nat)) : List (Nat × Nat) :=
  let top := ws.foldl (fun m x => max m x.2) 0
  let cand := allCoils.filter fun c =>
    !(act.any fun x => decide (x.1 = c.val)) && !(res.any fun x => decide (x.1 = c.val)) &&
    (decide (d.drv.coil[c].role = .free) || decide (d.drv.coil[c].role = .shadow)) &&
    ((d.drv.nbs c).any fun b => act.any fun x => decide (x.1 = b.val))
  let ranked := (sortWt (cand.map fun c => { coil := c.val, x := 0, y := 0, delta := 0, w := wtIn ws c.val })).take (16 - act.length)
  ranked.map fun j =>
    let c : Fin 192 := Fin.ofNat 192 j.coil
    (j.coil,
      if d.drv.coil[c].role = .shadow || ((d.drv.nbs c).any fun b => d.activeOrReserved res b) then 2
      else if top ≤ 8 * j.w then 4
      else if d.drv.coil[c].cal.valid then 3
      else 2)

/-- A plan: the coil list and the number of active coils; none where it is not sufficient (R266 to R268). -/
def Dev.plan (d : Dev) (ws : List (Nat × Nat)) : Option (List (Nat × Nat) × Nat) :=
  let res := d.reservedCoils
  let act := chooseActive (d.mayActive res) ws
  let ideal := chooseActive (fun _ => true) ws
  let sum (l : List (Nat × Nat)) := (l.map (·.2)).sum
  if d.sf.minAct ≤ act.length && decide (sum ideal ≤ 2 * sum act) then
    some (act.map (fun x => (x.1, 1)) ++ d.guards res ws act, act.length)
  else none

/-- Free engines in ascending order after the one opened last, those in powered clusters first (R265). -/
def Dev.nextEngine (d : Dev) : Option (Fin 24) :=
  let order := (List.range 24).map fun k => Fin.ofNat 24 (d.sf.lastOpened + 1 + k)
  let free := order.filter fun n => decide (d.sf.zone[n].state = .free) && !d.sf.zone[n].reserved
  let up := free.filter fun n => decide (d.pmu.dom[Fin.ofNat 49 (16 + n.val / 6)].p = .up)
  match up.head? with
  | some n => some n
  | none => free.head?

/-- A command of these opcodes names a presence entry by its first two payload bytes (R281). -/
def Cmd.namesEntry (c : Cmd) : Bool := [0x12, 0x18, 0x30, 0x32, 0x33, 0x34].contains c.opc

/-- The entry that a command not yet begun names, where the reuse count matches (R281). -/
def Dev.named (d : Dev) (c : Cmd) : Option Nat :=
  let id := leAt c.payload 0 2
  match d.sf.at (id % 512) with
  | some e => if c.namesEntry ∧ e.reuse = id / 512 then some (id % 512) else none
  | none => none

/-- Accepted commands on an entry that have not completed, those not yet begun among them (R281). -/
def Dev.onEntryTags (d : Dev) (i : Nat) : List (Fin 32) :=
  d.activeTags fun c => c.namesEntry && (if c.phase = .fresh then decide (d.named c = some i) else decide (c.entry = i))

/-- A command waits for a zone on this entry: the place of the first in the order of acceptance (R274). -/
def Dev.waitOrder (d : Dev) (i : Nat) : Option Nat :=
  ((d.activeTags fun c => decide (c.entry = i) && decide (c.phase = .zone)).filterMap fun t => (d.cmd t).map (·.order)).foldl
    (fun m o => match m with
      | some x => some (min x o)
      | none => some o) none

/-- A zone that eviction may close (R275). -/
def Dev.evictable (d : Dev) (n : Fin 24) : Bool :=
  decide (d.sf.zone[n].state = .opened) && d.sf.zone[n].identified &&
  (d.sf.onZ n).all fun i => (d.onEntryTags i).isEmpty &&
    (match d.sf.at i with
      | some e => decide (e.acc.power = 0)
      | none => true)

/-- Eviction for entry `i`, which has a command waiting; one that still closes for it is enough (R275). -/
def evict (i : Nat) (d : Dev) : Dev :=
  if ((d.sf.at i).bind (·.evicts)).any fun n => decide (d.sf.zone[n].state = .closing) then d
  else
    match (List.finRange 24).filter fun n => d.evictable n with
    | [] => d
    | z :: zs =>
      let n := zs.foldl (fun b n => if d.sf.zone[n].lastUse < d.sf.zone[b].lastUse then n else b) z
      closeZone n 2 none (onEntry i (fun e => { e with evicts := some n }) d)

/-- The weights that an entry is planned from: those of its image, with the occupied references as taken since (R280). -/
def Dev.planWeights (d : Dev) (e : Entry) : List (Nat × Nat) :=
  let at_ (c : Nat) : Option Nat := (coilNo c).bind fun k =>
    if d.prb.coil[k].occ ∧ e.coils.contains c then
      (d.prb.coil[k].ref).map fun v => deltaCu (upCu v) d.prb.coil[k].self - 4 * d.prb.thS
    else none
  let more := (e.coils.filter fun c => !(e.weights.any fun x => decide (x.1 = c))).map fun c => (c, 0)
  (e.weights ++ more).map fun x => (x.1, (at_ x.1).getD x.2)

/-- The planning of one waiting entry (R265 to R268, R274, R275, R293, R738). -/
def planEntry (s : PStep) (i : Nat) : PStep :=
  let d := s.1
  match d.sf.at i with
  | none => s
  | some e =>
    let cmd := (d.waitOrder i).isSome
    if e.state ≠ .waiting then s
    else if !d.sf.autoIdent && !cmd then (onEntry i (fun e => { e with reason := 0 }) d, s.2)
    else if d.th.hot then (onEntry i (fun e => { e with reason := 2 }) d, s.2)
    else
      match d.plan (d.planWeights e) with
      | none => (onEntry i (fun e => { e with reason := 1 }) d, s.2)
      | some (list, nact) =>
        match d.nextEngine with
        | none =>
          let d := onEntry i (fun e => { e with reason := 2 }) d
          (if cmd then evict i d else d, s.2)
        | some n =>
          let d := onZone n (fun z => { z with
            reserved := true, entry := some i
            coilk := Vector.ofFn fun k => (list[k.val]?).getD (0xFF, 0) }) d
          let d := d.onSf fun t => { t with lastOpened := n.val }
          let d := onEntry i (fun e => { e with zone := some n, nact := nact }) d
          chState i .opening 0 d.phcW (d, s.2)

/-- Waiting entries in the order of R274. -/
def Dev.waitList (d : Dev) : List Nat :=
  let is := (List.range 512).filter fun i => match d.sf.at i with
    | some e => decide (e.state = .waiting)
    | none => false
  let key (i : Nat) : Nat × Nat := match d.waitOrder i with
    | some o => (0, o)
    | none => (1, ((d.sf.at i).map (·.order)).getD 0)
  let lt (a b : Nat) : Bool := decide ((key a).1 < (key b).1) || (decide ((key a).1 = (key b).1) && decide ((key a).2 < (key b).2))
  let rec ins (x : Nat) : List Nat → List Nat
    | [] => [x]
    | y :: ys => if lt x y then x :: y :: ys else y :: ins x ys
  is.foldl (fun a i => ins i a) []

/-! The update step (R285, R286) -/

/-- Payload of a presence event (R286). -/
def PEv.payload (v : PEv) (d : Dev) : List Byte :=
  let e := match v.idx with
    | some i => if v.evt = 5 then none else d.sf.at i
    | none => none
  let st := match e with
    | some x => x.state.code
    | none => 0
  let x := match e with
    | some x => x.x
    | none => 0
  let y := match e with
    | some x => x.y
    | none => 0
  [byteOf v.evt, byteOf st] ++ le 2 v.id ++ le 4 d.sf.gen.toNat ++ le 2 x ++ le 2 y ++ le 4 v.phc.toNat

/-- Engines that are not FREE (R297). -/
def Dev.busyZones (d : Dev) : List (Fin 24) := (List.finRange 24).filter fun n => decide (d.sf.zone[n].state ≠ .free)

/-- PT_CNT.ZONES and ZONE_MAP change with the end of an update step (R297). -/
def takeMap (d : Dev) : Dev :=
  let m := (d.busyZones.map fun n => 2 ^ n.val).sum
  d.onSf fun t => { t with zoneMap := m }

/-- The entries whose bytes a step has changed, PT_GEN raised for them, and the step's events pushed (R285). -/
def finishStep (d0 : Dev) (s : PStep) : Dev :=
  let d := s.1
  let body (x : Dev) (i : Nat) : Option (List Byte) := (x.sf.at i).map fun e => e.body i
  let changed := (List.range 512).filter fun i => decide (body d0 i ≠ body d i)
  let d := if changed = [] then d
    else d.onSf fun t =>
      let g := t.gen + 1
      { t with gen := g, entry := Vector.ofFn fun i => if changed.contains i.val then t.entry[i].map fun e => { e with genChg := g } else t.entry[i] }
  s.2.foldl (fun d v => pushEvent 3 d.sf.gen.toNat (v.payload d) d) (takeMap d)

/-- One update step: the pending results in order of arrival, the policy, and plans for waiting entries (R268, R285, R293). -/
def updateStep (d : Dev) : Dev :=
  let rs := d.sf.pend
  let d1 := d.onSf fun t => { t with
    pend := []
    holdMs := match t.newPolicy with
      | some p => p.1
      | none => t.holdMs
    zwaitMs := match t.newPolicy with
      | some p => p.2.1
      | none => t.zwaitMs
    autoIdent := match t.newPolicy with
      | some p => p.2.2.1
      | none => t.autoIdent
    minAct := match t.newPolicy with
      | some p => p.2.2.2
      | none => t.minAct
    newPolicy := none }
  let s := rs.foldl applyResult (d1, [])
  let s := (s.1.waitList).foldl planEntry s
  finishStep d s

/-- The table cleared in one step, with one CLEARED event (R287). -/
def clearTable (d : Dev) : Dev :=
  let any := (List.range 512).any fun i => (d.sf.at i).isSome
  let d := d.onSf fun t => { t with
    entry := Vector.replicate 512 none
    reuse := Vector.ofFn fun i => if t.entry[i].isSome then (t.reuse[i] + 1) % 128 else t.reuse[i]
    full := false, pend := [], gen := if any then t.gen + 1 else t.gen
    zone := t.zone.map fun z => { z with entry := none } }
  let d := d.onPrb fun p => { p with
    coil := p.coil.map fun c => { c with occ := false, ref := none, retake := false, chg := false }, images := [], bursts := [] }
  pushEvent 3 d.sf.gen.toNat (PEv.payload ⟨7, none, 0xFFFF, d.phcW⟩ d) (takeMap d)

/-! Snapshots (R289 to R292) -/

/-- The presence table frozen: index and bytes of every entry. -/
def Dev.freezePres (d : Dev) : List (Nat × List Byte) :=
  (List.range 512).filterMap fun i => (d.sf.at i).map fun e => (i, e.bytes i)

/-- The page of a snapshot from a cursor: table, entries and the next cursor; presence pages come first (R290). -/
def Snap.page (s : Snap) (cursor : Nat) : Nat × List (Nat × List Byte) × List (Nat × List Byte) :=
  let ps := s.pres.filter fun x => decide (cursor ≤ x.1)
  let rs := s.room.filter fun x => decide (cursor ≤ x.1 + 512)
  let rec take (room : Nat) : List (Nat × List Byte) → List (Nat × List Byte)
    | [] => []
    | x :: xs => if x.2.length ≤ room then x :: take (room - x.2.length) xs else []
  if ps ≠ [] ∨ rs = [] then
    let pg := take 976 ps
    (1, pg, ps.drop pg.length ++ rs.map fun x => (x.1 + 512, x.2))
  else
    let pg := take 976 rs
    (2, pg, (rs.drop pg.length).map fun x => (x.1 + 512, x.2))

/-- Reply payload of SNAPSHOT (R290): the page and whether it is the last. -/
def Snap.reply (s : Snap) (buf cursor : Nat) : List Byte × Bool :=
  let p := s.page cursor
  let last := decide (p.2.2 = [])
  let next := match p.2.2 with
    | x :: _ => x.1
    | [] => 0
  ([byteOf buf, byteOf p.1, byteOf p.2.1.length, byteOf (b2n last)] ++ le 4 s.pgen.toNat ++ le 4 s.rgen.toNat ++ le 2 next ++
    le 2 (s.pres.length + s.room.length) ++ p.2.1.flatMap fun x => x.2, last)

end Sys2Proof.Machine
end

