-- ==== Sys2Proof/Machine/Operands.lean ====
section
/-! DEFINITION. Operands of the host's commands: the modes that accept them, the common start, entries and their checks
(R51, R61, R281, R513 to R515). -/

namespace Sys2Proof.Machine
open Sys2Proof

/-- The mode accepts an opcode by its group (R51). M2 and M3 serve no packets. -/
def Mode.accepts (m : Mode) (opc : Nat) : Bool :=
  let g := opc / 16
  match m with
  | .m0 | .m1 | .m2 | .m3 => false
  | _ =>
    if g = 0 then true
    else if g = 1 ∨ g = 2 ∨ g = 3 then m.surface
    else if g = 4 then m.room
    else if g = 5 then true
    else if g = 6 then decide (m ≠ .m10)
    else if g = 7 then decide (m ≠ .m10) && decide (m ≠ .m11)
    else if g = 8 then decide (m = .m9)
    else if g = 9 then true
    else if g = 15 then decide (m = .m10)
    else false

/-- The opcode belongs to work of some of these kinds (R51, R55, R60). -/
def Ends.has (e : Ends) (opc : Nat) : Bool :=
  (e.surface && decide (0x10 ≤ opc) && decide (opc ≤ 0x3F)) || (e.feed && decide (opc = 0x33)) ||
  (e.room && decide (0x40 ≤ opc) && decide (opc ≤ 0x4F)) || (e.cal && decide (0x80 ≤ opc) && decide (opc ≤ 0x8F)) ||
  (e.test && decide (opc = 0x94))

/-- The mode check of an opcode with a running drain or transition (R51, R61); none where the command may go on. -/
def Dev.modeCheck (d : Dev) (opc : Nat) : Option Status :=
  if !d.mode.cur.accepts opc then some .wrongMode
  else match d.mode.run with
    | some t => if t.ends.has opc then some .powerTransition else none
    | none => none

/-- The command under a tag where it may be carried out now: accepted, of this opcode, not yet begun and not held (R509, R524). -/
def Dev.startable (d : Dev) (opc : Nat) (tag : Fin 32) : Option Cmd :=
  match d.cmd tag with
  | some c => if c.opc = opc ∧ c.phase = .fresh ∧ d.isHeld tag = false then some c else none
  | none => none

/-- The commands that the boot ROM monitor carries out, and those that R51 turns away in M11 (R720). -/
def monitorServes (c : Cmd) : Bool :=
  [0x01, 0x02, 0x03, 0x04, 0x0A, 0x0B, 0x0E, 0x50, 0x61, 0x62, 0x64].contains c.opc || !Mode.m11.accepts c.opc

/-- A command begun: the monitor turns it away (R720), or a LEN that its chapter does not allow gives BAD_PARAM before its own
checks (R514). -/
def begin_ (opc : Nat) (tag : Fin 32) (len : Nat → Bool) (k : Cmd → Dev → Dev) (d : Dev) : Dev :=
  match d.startable opc tag with
  | none => d
  | some c =>
    if d.nvm.monitor && !monitorServes c then fail tag .internal d
    else if len c.payload.length then k c d else fail tag .badParam d

/-- The mode check and then the rest of a command (R51, R61). -/
def inMode (tag : Fin 32) (c : Cmd) (k : Dev → Dev) (d : Dev) : Dev :=
  match d.modeCheck c.opc with
  | some st => fail tag st d
  | none => k d

/-- Bytes of a payload that must be 0. -/
def zeros (p : List Byte) (idx : List Nat) : Bool := idx.all fun i => decide (byteAt p i = 0)

/-- The entry that an ENTRY_ID names, with a matching reuse count (R281, R283). -/
def Dev.entryOf (d : Dev) (id : Nat) : Option (Nat × Entry) :=
  match d.sf.at (id % 512) with
  | some e => if e.reuse = id / 512 then some (id % 512, e) else none
  | none => none

/-- Commands accepted before this one that name the same entry and have not completed (R281). -/
def Dev.aheadOn (d : Dev) (tag : Fin 32) (i : Nat) : List (Fin 32) :=
  match d.cmd tag with
  | none => []
  | some c => (d.onEntryTags i).filter fun t => (d.cmd t).any fun e => decide (e.order < c.order)

/-- Commands accepted and not completed on an entry (R281). -/
def Dev.countOn (d : Dev) (i : Nat) : Nat := (d.onEntryTags i).length

/-- Time left to a command's deadline in BCLK cycles; none with DEADLINE 0 (R518). -/
def Dev.slack (d : Dev) (c : Cmd) : Option Nat :=
  if c.deadline = 0 then none else some (c.accT + dlT c.deadline - d.now)

/-- The command's deadline has come (R518). -/
def Dev.pastDeadline (d : Dev) (c : Cmd) : Bool := decide (c.deadline ≠ 0) && decide (c.accT + dlT c.deadline ≤ d.now)

end Sys2Proof.Machine
end

