-- ==== Sys2Proof/Machine/CaskOps.lean ====
section
/-! DEFINITION. The Cask die: commits, cells, the log, recovery, frames, queries and the adjustment port (chapter 13). -/

namespace Sys2Proof.Machine
open Sys2Proof

/-! Cells and commits (R476 to R478) -/

/-- The cell that follows `c` by `k` in rotation (R478). -/
def cellAfter (c : Fin 8) (k : Nat) : Fin 8 := Fin.ofNat 8 (c.val + k)

/-- The first blank cell that follows the newest record in rotation (R478). -/
def CReg.nextCell (g : CReg) : Option (Fin 8) :=
  ((List.range 8).map fun k => cellAfter g.at_ (k + 1)).find? fun c => g.cells[c] = .blank

/-- One record written (R475 to R478). -/
def CReg.write (cseq csec : Nat) (g : CReg) : CReg :=
  match g.nextCell with
  | some c =>
    let r : CRec := { seq := (g.seq + 1) % 2 ^ 32, value := g.value, cseq := cseq, csec := csec }
    { g with seq := r.seq, at_ := c, cells := upd g.cells c fun _ => .full r }
  | none => g

/-- A record whose programming stops part way (R478, R482). -/
def CReg.writePart (g : CReg) : CReg :=
  match g.nextCell with
  | some c => { g with cells := upd g.cells c fun _ => .bad }
  | none => g

/-- The cells of a register that a commit is followed by erasing: of the two that follow its newest record, those that are
not blank (R478). -/
def CReg.toErase (g : CReg) : List (Fin 8) :=
  [cellAfter g.at_ 1, cellAfter g.at_ 2].filter fun c => decide (g.cells[c] ≠ .blank)

/-- The erase at the head of the list runs: its cell is neither blank nor valid (R478). -/
def Cask.startErase (k : Cask) : Cask :=
  match k.erase with
  | (r, c) :: _ => { k with regs := upd k.regs r fun g => { g with cells := upd g.cells c fun _ => .bad } }
  | [] => k

/-- The erase at the head of the list completes and the next starts (R478). -/
def Cask.endErase (k : Cask) : Cask :=
  match k.erase with
  | (r, c) :: rest =>
    { k with erase := rest, regs := upd k.regs r fun g => { g with cells := upd g.cells c fun _ => .blank } }.startErase
  | [] => k

/-- All waiting erases complete (R478: two blank cells stand ready before the next commit; log entry 38). -/
def Cask.endErases (k : Cask) : Cask :=
  let regs := k.erase.foldl (fun v x => upd v x.1 fun g => { g with cells := upd g.cells x.2 fun _ => .blank }) k.regs
  { k with erase := [], regs := regs }

/-- The erases that follow a commit are listed and the first starts (R478). -/
def Cask.listErases (k : Cask) : Cask :=
  { k with erase := (List.finRange 12).flatMap fun r : Fin 12 => (CReg.toErase k.regs[r]).map fun c => (r, c) }.startErase

/-- The records of registers 0 to `n` − 1 written with the next CSEQ, and that of register `n` stopped part way where `part`
says so (R477, R482). -/
def Cask.writeRecs (n : Nat) (part : Bool) (k : Cask) : Cask :=
  let cs := (k.cseq + 1) % 2 ^ 32
  let regs := Vector.ofFn fun r : Fin 12 =>
    if r.val < n then (k.regs[r]).write cs k.csec
    else if r.val = n ∧ part then (k.regs[r]).writePart
    else k.regs[r]
  { k with regs := regs, cseq := cs, comSec := k.csec }

/-! Frames and the log (R484, R491 to R494) -/

/-- STATUS (R492). -/
def Cask.status (k : Cask) : Nat :=
  let c4 (f : CChan → Bool) (base : Nat) : Nat := ((List.finRange 4).map fun c => b2n (f k.chan[c]) * 2 ^ (base + c.val)).sum
  b2n k.vpres + 2 * b2n k.sealOpen + 4 * b2n k.cbkp + 8 * b2n k.regFault + 16 * b2n (k.staged.toList.any Option.isSome) +
  32 * b2n k.selfFail + c4 (·.rev) 8 + c4 (·.ovr) 12

/-- The bytes of a frame (R491). -/
def CFrame.bytes (f : CFrame) : List Byte :=
  let body := [byteOf f.type, byteOf f.payload.length, f.bseq] ++ f.payload
  0xD5 :: (body ++ le 2 (crc345 body))

/-- Bytes as the line changes them: each exclusive-or one of `noise`. -/
def noised : List Byte → List Byte → List Byte
  | n :: ns, b :: bs => (b ^^^ n) :: noised ns bs
  | _, bs => bs

/-- The frame that received bytes form; none where the CRC is wrong (R491, R496). LEN counts modulo 256, since the QREPLY of CELLS has 262
bytes (DEDUCED, log entry 69). -/
def frameOf : List Byte → Option CFrame
  | sync :: type :: len :: bseq :: rest =>
    let n := rest.length - 2
    let body := [type, len, bseq] ++ rest.take n
    if sync = 0xD5 ∧ len = byteOf n ∧ leAt (rest.drop n) 0 2 = crc345 body then
      some { type := type.toNat, bseq := bseq, payload := rest.take n }
    else none
  | _ => none

/-- A frame sent (R491). -/
def Cask.send (type : Nat) (payload : List Byte) (k : Cask) : Cask :=
  { k with bseq := k.bseq + 1, wire := k.wire ++ [{ type := type, bseq := k.bseq, payload := payload }] }

/-- The CYCLE payload (R493). -/
def Cask.cyclePayload (k : Cask) : List Byte :=
  le 4 k.freq ++ le 4 k.vrms ++ le 2 k.status ++ le 2 0 ++
  k.chan.toList.flatMap fun c => le 4 c.irms ++ le 4 (twos 32 c.p) ++ le 4 (twos 32 c.q)

/-- The REGS payload (R494). -/
def Cask.regsPayload (k : Cask) : List Byte :=
  le 4 k.csec ++ le 4 k.cseq ++ le 2 k.status ++ le 2 0 ++ k.regs.toList.flatMap fun g => le 8 g.value

/-- The bytes of a log entry (R484). -/
def CLog.bytes (e : CLog) : List Byte :=
  le 4 e.num ++ le 4 e.csec ++ [byteOf e.type, byteOf e.chan] ++ le 2 e.data ++ le 4 e.value

/-- A log entry written and its EVENT frame sent (R484, R485, R491). -/
def Cask.logEntry (type chan data value : Nat) (k : Cask) : Cask :=
  let e : CLog := { num := k.nextNum, csec := k.csec, type := type, chan := chan, data := data % 65536, value := value % 2 ^ 32 }
  let l := k.log ++ [e]
  { k with log := l.drop (l.length - 1024), nextNum := k.nextNum + 1 }.send 3 e.bytes

/-- A commit outside a power failure, with its erases and its REGS frame (R477, R478, R491). -/
def Cask.commit (k : Cask) : Cask :=
  let k := (k.endErases.writeRecs 12 false).listErases
  k.send 2 k.regsPayload

/-! Recovery (R479) -/

/-- The newest valid record of a register with its cell (R479). -/
def CReg.newest (g : CReg) : Option (Fin 8 × CRec) :=
  (List.finRange 8).foldl (fun best c => match g.cells[c] with
    | .full r => match best with
      | some b => if b.2.seq < r.seq then some (c, r) else best
      | none => some (c, r)
    | _ => best) none

/-- The register as recovered (R479). -/
def CReg.recover (g : CReg) : CReg :=
  let cells := g.cells.map fun x => if x = .bad then .blank else x
  match g.newest with
  | some (c, r) => { value := r.value, acc := 0, seq := r.seq, at_ := c, cells := cells }
  | none => { value := 0, acc := 0, seq := 0, at_ := 7, cells := cells }

/-- A register that is lost: no valid record, and not as shipped (R479). -/
def CReg.lost (g : CReg) : Bool := g.newest.isNone && g.cells.toList.any fun x => decide (x ≠ .blank)

/-- CSEQ of the newest record, 0 without one (R479). -/
def CReg.cseqOf (g : CReg) : Nat := (g.newest.map fun x => x.2.cseq).getD 0

/-- A mask of registers. -/
def regMask (f : Fin 12 → Bool) : Nat := ((List.finRange 12).map fun r => b2n (f r) * 2 ^ r.val).sum

/-- The valid parameter block with the highest PBSEQ (R490). -/
def Cask.newestBlock (k : Cask) : CPar :=
  match k.pages[0], k.pages[1] with
  | some a, some b => if a.pbseq < b.pbseq then b else a
  | some a, none => a
  | none, some b => b
  | none, none => {}

/-- Power-on: recovery, self-tests, log entries and HELLO (R479, R482, R487, R490, R491). `rom`, `ram` and `conv` tell which
self-tests pass; the order of the entries is that of R479 and of the worked example (log entry 38). -/
def Cask.powerOn (rom ram conv cbkp : Bool) (k : Cask) : Cask :=
  let lost := regMask fun r => (k.regs[r]).lost
  let top := ((List.finRange 12).map fun r => (k.regs[r]).cseqOf).foldl max 0
  let late := regMask fun r => !(k.regs[r]).lost && decide ((k.regs[r]).cseqOf < top)
  let secs := (List.finRange 12).filterMap fun r => (k.regs[r]).newest.bind fun x => if x.2.cseq = top then some x.2.csec else none
  let csec := secs.headD 0
  let par := k.newestBlock
  let k : Cask := { k with
    phase := .run, cbkp := cbkp, sealOpen := false, vpres := false, vcount := 0
    regs := k.regs.map CReg.recover
    regFault := k.regFault || decide (lost ≠ 0)
    pulse := false
    cseq := top, csec := csec, comSec := csec, erase := []
    par := par, parNext := none, staged := Vector.replicate 32 none
    selfFail := !(rom && ram && conv)
    freq := 0, vrms := 0, chan := Vector.replicate 4 {}, bseq := 0, query := none, wire := [] }
  let k := k.send 5 (le 2 Config.caskFwver.toNat ++ le 2 k.fuses ++ le 4 csec)
  let k := if late ≠ 0 then k.logEntry 3 0xFF late top else k
  let k := if lost ≠ 0 then k.logEntry 4 0xFF lost 0 else k
  let k := if rom then k else k.logEntry 0x0E 0xFF 1 0
  let k := if ram then k else k.logEntry 0x0E 0xFF 2 0
  let k := if conv then k else k.logEntry 0x0E 0xFF 3 0
  let k := if par.adj < k.fuses then k.logEntry 9 0xFF k.fuses par.pbseq else k
  k.logEntry 2 0xFF 0 top

/-! Measurement (R471 to R473)

How a code becomes a value is stated up to the integrator's sensors, whose ratios are free values of Config; roundings, the phase
correction by the quarter period and the sample block of 1 ms are DESIGN CHOICES (log entry 69). -/

/-- What one channel gave in a cycle (R471, R473). -/
structure CMeas where
  /-- IRMS, mA -/
  irms : Nat
  /-- P, mW -/
  p : Int
  /-- Q, mvar -/
  q : Int
  /-- active energy, µWh -/
  wh : Int
  /-- reactive energy, µvarh -/
  varh : Int
  /-- a sample reached 98 % of full scale -/
  ovr : Bool
  /-- every sample block had such a sample -/
  ovrAll : Bool
deriving DecidableEq, Repr

/-- The whole number nearest to `a / b`. -/
def nearest (a : Int) (b : Nat) : Int := (2 * a + b) / (2 * b : Nat)

/-- A corrected value: the code of a converter whose full scale is `fs`, with offset, gain in 2^-30 and ratio in 2^-16 (R471, R489). -/
def corrected (fs : Nat) (off : Int) (gain : Word) (ratio : Nat) (code : Int) : Int :=
  nearest ((code * fs + off * 2 ^ 23) * gain.toNat * ratio) (2 ^ 69)

/-- A signal of one cycle a quarter of it earlier. -/
def quarter (l : List Int) : List Int := let n := l.length; l.drop (n - n / 4) ++ l.take (n - n / 4)

/-- Sine and cosine of an angle in 0.001°, between those of tenths of a degree. -/
def sinCosMilli (a : Int) : Int × Int :=
  let b := a / 100
  let f := a % 100
  let x := sinCos b
  let y := sinCos (b + 1)
  ((x.1 * (100 - f) + y.1 * f) / 100, (x.2 * (100 - f) + y.2 * f) / 100)

/-- The voltage of a cycle in mV (R471, R489). -/
def CPar.volts (p : CPar) (xs : List CSample) : List Int :=
  xs.map fun x => corrected 600000 (signed 32 (p.vals[3]).toNat) p.vals[2] Config.caskVRatio x[0]

/-- Full scale of a current channel in 0.1 µV: SHUNT or CT (R471). -/
def CPar.fullScale (p : CPar) (c : Fin 4) : Nat := if (p.vals[0x10 + c.val]).toNat = 0 then 375000 else 6000000

/-- The current of a channel over a cycle in µA, its phase corrected (R471, R489). -/
def CPar.amps (p : CPar) (c : Fin 4) (xs : List CSample) : List Int :=
  let i := xs.map fun x => corrected (p.fullScale c) (signed 32 (p.vals[0x0C + c.val]).toNat) p.vals[4 + c.val] (Config.caskIRatio c) x[1 + c.val]
  let s := sinCosMilli (signed 32 (p.vals[8 + c.val]).toNat)
  List.zipWith (fun a b => (a * s.2 + b * s.1) / unit) i (quarter i)

/-- Sum of the products of two signals. -/
def dot (a b : List Int) : Int := (List.zipWith (· * ·) a b).sum

/-- Root of the mean square. -/
def rms (l : List Int) : Nat := sqrtFloor ((dot l l).toNat / max 1 l.length)

/-- A sample at 98 % of full scale or more (R471). -/
def overCode (c : Int) : Bool := decide (8220836 ≤ c.natAbs)

/-- The sample blocks of a cycle, 16 samples each (R471). -/
def sampleBlocks {α : Type} : Nat → List α → List (List α)
  | 0, _ => []
  | n + 1, l => if l = [] then [] else l.take 16 :: sampleBlocks n (l.drop 16)

/-- What a cycle's samples give on a current channel (R471, R473): mV times µA is nW, and the sum over samples at 16 kS/s is energy. -/
def CPar.measure (p : CPar) (c : Fin 4) (xs : List CSample) : CMeas :=
  let v := p.volts xs
  let i := p.amps c xs
  let pw := dot v i
  let qw := dot (quarter v) i
  let n := max 1 xs.length
  let hits := xs.map fun x => overCode x[1 + c.val]
  { irms := rms i / 1000, p := nearest pw (1000000 * n), q := nearest qw (1000000 * n)
    wh := nearest pw 57600000000, varh := nearest qw 57600000000
    ovr := hits.contains true, ovrAll := (sampleBlocks hits.length hits).all fun b => b.contains true }

/-- Energy added to a register (R473). -/
def CReg.add (n : Nat) (g : CReg) : CReg :=
  { g with value := (g.value + (g.acc + n) / 1000) % 2 ^ 64, acc := (g.acc + n) % 1000 }

/-- IMODE of channel `c` (R471, R489). -/
def CPar.imode (p : CPar) (c : Fin 4) : Nat := (p.vals[0x10 + c.val]).toNat

/-- The energy of one channel added (R473). -/
def Cask.addEnergy (c : Fin 4) (m : CMeas) (k : Cask) : Cask :=
  let r (j : Nat) : Fin 12 := Fin.ofNat 12 (3 * c.val + j)
  if m.irms < 10 || k.selfFail then { k with chan := upd k.chan c fun x => { x with rev := false } }
  else
    let regs := upd k.regs (r 2) (·.add m.varh.natAbs)
    let regs := if 0 < m.wh then upd regs (r 0) (·.add m.wh.natAbs)
      else if m.wh < 0 then upd regs (r 1) (·.add m.wh.natAbs) else regs
    { k with regs := regs, chan := upd k.chan c fun x => { x with rev := decide (m.wh < 0) } }

/-- The overrange history of a channel after a cycle of `us` µs (R471). -/
def CChan.overrange (m : CMeas) (us : Nat) (x : CChan) : CChan :=
  if m.ovr then { x with ovr := true, inRange := 0, ovrCnt := x.ovrCnt + 1 }
  else
    let t := x.inRange + us
    { x with ovr := false, inRange := t, ovrCnt := 0, ovrLogged := x.ovrLogged && decide (t < 1000000) }

/-- One channel at the end of a cycle: values, overrange entry and energy (R471, R473). -/
def Cask.channel (us : Nat) (c : Fin 4) (m : CMeas) (k : Cask) : Cask :=
  if k.par.imode c = 2 then k
  else
    let k : Cask := { k with chan := upd k.chan c fun x => { x with irms := m.irms, p := m.p, q := m.q }.overrange m us }
    let k :=
      if m.ovr && m.ovrAll && !(k.chan[c]).ovrLogged then
        { k with chan := upd k.chan c fun x => { x with ovrLogged := true } }.logEntry 0x0D c.val 0 (k.chan[c]).ovrCnt
      else k
    k.addEnergy c m

/-- VPRES at the end of a cycle (R472). -/
def Cask.voltage (vrms : Nat) (k : Cask) : Cask :=
  let vnom := (k.par.vals[0]).toNat
  let toward := if k.vpres then decide (vrms * 100 < vnom * 30) else decide (vrms * 100 ≥ vnom * 40)
  if !toward then { k with vcount := 0 }
  else if k.vcount = 0 then { k with vcount := 1 }
  else if k.vpres then { k with vcount := 0, vpres := false }.logEntry 0x0B 0xFF 0 vrms
  else { k with vcount := 0, vpres := true }.logEntry 0x0C 0xFF 0 vrms

/-- The end of a cycle of `ns` nanoseconds with its samples: frequency, Vrms, energy, VPRES and the pulse, new parameters and the CYCLE
frame (R471 to R473, R490, R491). -/
def Cask.cycleEnd (ns : Nat) (xs : List CSample) (k : Cask) : Cask :=
  let par := k.par
  let vrms := rms (par.volts xs)
  let was := k.vpres
  let k : Cask := { k with freq := (10 ^ 12 + ns / 2) / max 1 ns % 2 ^ 32, vrms := vrms % 2 ^ 32 }
  let k := (List.finRange 4).foldl (fun k c => k.channel (ns / 1000) c (par.measure c xs)) k
  let k := k.voltage vrms
  let k : Cask := { k with pulse := was && k.vpres }
  let k : Cask := match k.parNext with
    | some p => { k with par := p, parNext := none }
    | none => k
  k.send 1 k.cyclePayload

/-! Seal and parameters (R470, R488 to R490) -/

/-- A change of the seal state (R470, R490). -/
def Cask.setSeal (opn : Bool) (k : Cask) : Cask :=
  if k.sealOpen = opn then k
  else
    let k := k.commit
    if opn then { k.logEntry 5 0xFF 0 k.cseq with sealOpen := true }
    else
      let n := (k.staged.toList.filter Option.isSome).length
      { k.logEntry 6 0xFF n k.cseq with sealOpen := false, staged := Vector.replicate 32 none }

/-- A value in the range of its parameter (R489). -/
def parOk (id : Nat) (v : Word) : Bool :=
  let n := v.toNat
  let s := signed 32 n
  if id = 0 then decide (50000 ≤ n ∧ n ≤ 300000)
  else if id = 1 then n = 50 || n = 60
  else if id = 2 ∨ (4 ≤ id ∧ id < 8) then decide (2 ^ 29 ≤ n ∧ n ≤ 2 ^ 31)
  else if id = 3 ∨ (0x0C ≤ id ∧ id < 0x10) then decide (-10000 ≤ s ∧ s ≤ 10000)
  else if 8 ≤ id ∧ id < 0x0C then decide (-5000 ≤ s ∧ s ≤ 5000)
  else if 0x10 ≤ id ∧ id < 0x14 then decide (n ≤ 2)
  else if id < 0x20 then decide (n = 0)
  else false

/-- The values of a block with the staged ones in their places (R490). -/
def stagedVals (old : Vector Word 32) (st : Vector (Option Word) 32) : Vector Word 32 :=
  Vector.ofFn fun i => (st[i]).getD old[i]

/-- A block written to the page that does not hold the newest one (R490). -/
def Cask.writeBlock (b : CPar) (k : Cask) : Cask :=
  match k.pages[0], k.pages[1] with
  | some a, some c => if a.pbseq < c.pbseq then { k with pages := #v[some b, some c] } else { k with pages := #v[some a, some b] }
  | some a, none => { k with pages := #v[some a, some b] }
  | none, x => { k with pages := #v[some b, x] }

/-- PARAM_CHANGE entries of the parameters whose values change (R490). -/
def Cask.logChanges (old new : Vector Word 32) (k : Cask) : Cask :=
  (List.finRange 32).foldl (fun k i => if old[i] = new[i] then k else k.logEntry 7 0xFF i.val (new[i]).toNat) k

/-- ADJ_COMMIT with at least one value staged and a fuse left (R490). -/
def Cask.adjCommit (k : Cask) : Cask :=
  let old := k.parNext.getD k.par
  let k := k.commit
  let fuses := k.fuses + 1
  let new : CPar := { pbseq := old.pbseq + 1, adj := fuses, vals := stagedVals old.vals k.staged }
  let k : Cask := ({ k with fuses := fuses, parNext := some new, staged := Vector.replicate 32 none, regFault := false }).writeBlock new
  (k.logChanges old.vals new.vals).logEntry 8 0xFF fuses k.cseq

/-- The reply frame of the adjustment port (R488). -/
def adjFrame (cmd status : Nat) (data : List Byte) : List Byte :=
  let body := [byteOf (cmd + 0x80), byteOf (1 + data.length), byteOf status] ++ data
  0x7E :: (body ++ le 2 (crc345 body))

/-- A reply on the adjustment port (R488). -/
def Cask.adjReply (cmd status : Nat) (data : List Byte) (k : Cask) : Cask := { k with atx := adjFrame cmd status data }

/-! Queries (R495) -/

/-- The 32 bytes of a record (R476). -/
def CRec.bytes (r : Nat) (x : CRec) : List Byte :=
  let b := [0x4C, 0x52, byteOf r, 0x01] ++ le 4 x.seq ++ le 8 x.value ++ le 4 x.cseq ++ le 4 x.csec ++ List.replicate 4 0xFF
  b ++ le 4 (crc32 (nums b))

/-- The first 32 bytes of a cell (R476, R478). -/
def CCell.bytes (r c : Nat) : CCell → List Byte
  | .blank => List.replicate 32 0xFF
  | .full x => x.bytes r
  | .bad => (List.range 32).map (Config.caskBad r c)

/-- The entry in a slot of the log (R484, R495). -/
def Cask.slotBytes (k : Cask) (slot : Nat) : List Byte :=
  match k.log.find? fun e => e.num % 1024 = slot % 1024 with
  | some e => e.bytes
  | none => List.replicate 16 0xFF

/-- Data of PARAMS: the block in effect (R495). -/
def CPar.bytes (p : CPar) : List Byte := le 4 p.pbseq ++ p.vals.toList.flatMap fun v => le 4 v.toNat

/-- Data of the digest and the version (R495). -/
def digestBytes : List Byte := bytesN (be 32 Config.caskDigest.toNat)

/-- The data that answers a query; none where the query is discarded (R25, R495). -/
def Cask.answer (k : Cask) (q arg : Nat) : Option (List Byte) :=
  match q with
  | 1 => if arg < 1024 then some ((List.range 8).flatMap fun i => k.slotBytes (arg + i)) else none
  | 2 => if arg = 0 then some (digestBytes ++ le 2 Config.caskFwver.toNat) else none
  | 3 =>
    if arg = 0 then some (le 2 Config.caskFwver.toNat ++ le 2 k.fuses ++ le 2 (512 - k.fuses) ++ le 2 0 ++ le 4 k.nextNum ++
      bytesN (sha256 (nums k.par.bytes)))
    else none
  | 4 => if arg = 0 then some k.par.bytes else none
  | 5 => if h : arg < 12 then some ((List.finRange 8).flatMap fun c => CCell.bytes arg c.val (k.regs[arg]).cells[c]) else none
  | _ => none

end Sys2Proof.Machine
end

