-- ==== Sys2Proof/Machine/LinkOps.lean ====
section
/-! DEFINITION. The Cask link block of Tun and what SC does with the frames (chapter 13). -/

namespace Sys2Proof.Machine
open Sys2Proof

/-- STATUS of the last CYCLE (R492, R497). -/
def CaskLink.status (l : CaskLink) : Nat := leAt l.cycle 8 2

/-- CL_STAT.VPRES (R497). -/
def CaskLink.vpres (l : CaskLink) : Bool := l.status.testBit 0

/-- CL_STAT (R497). -/
def CaskLink.stat (l : CaskLink) : Nat :=
  b2n l.link + 2 * (l.status / 2) + 65536 * b2n l.vpres + 2 ^ 24 * l.bseq.toNat

/-- CL_QSTAT (R497). -/
def CaskLink.qstat (l : CaskLink) : Nat :=
  b2n l.busy + 2 * b2n l.done + 4 * b2n l.timeout + 8 * l.qcode + 64 * l.qarg + 65536 * l.qbuf.length

/-- CASK_SUM (R500). -/
def CaskLink.sum (l : CaskLink) : Nat :=
  b2n l.link + 2 * b2n l.vpres + 4 * b2n (l.status.testBit 1) + 8 * b2n (l.status.testBit 3) +
  16 * b2n (l.status.testBit 5) + 65536 * min 65535 (leAt l.cycle 0 4 / 10)

/-- A query sent (R498); a Cask that serves another query or has no power discards it (R495). -/
def sendQuery (o : QOwner) (q arg : Nat) (d : Dev) : Dev :=
  let now := d.now
  let d := d.onCl fun l => { l with
    busy := true, done := false, timeout := false, qcode := q, qarg := arg, qT := now, owner := some o }
  if d.cask.phase = .run ∧ d.cask.query = none then d.onCask fun k => { k with query := some (q, arg) } else d

/-- Query of a CASK_READ payload (R501): QCODE and QARG. -/
def readQuery (p : List Byte) : Nat × Nat :=
  let w := byteAt p 0
  (if w = 3 then 1 else if w = 4 then 3 else if w = 5 then 2 else if w = 6 then 4 else 5, leAt p 2 2)

/-- An entry of the log forwarded (R499). -/
def forward (e : List Byte) (d : Dev) : Dev :=
  (pushPt 8 e d).onCl fun l => { l with fwd := some (leAt e 0 4) }

/-- The CASK_READ command that waits longest for its query (R501). -/
def Dev.nextRead (d : Dev) : Option (Fin 32) :=
  (d.activeTags fun c => decide (c.opc = 0x50) && decide (c.phase = .query)).foldl (fun best t =>
    match best, d.cmd t with
    | some b, some c => match d.cmd b with
      | some x => if c.order < x.order then some t else best
      | none => some t
    | none, some _ => some t
    | b, none => b) none

/-- The next query of SC, when none is outstanding: first the log after LINK has become 1, then CASK_READ (R499, R501; log
entry 39). -/
def linkNext (d : Dev) : Dev :=
  if d.cl.busy then d
  else
    let reads (d : Dev) : Dev := match d.nextRead with
      | some t => match d.cmd t with
        | some c => sendQuery (.cmd t) (readQuery c.payload).1 (readQuery c.payload).2 (d.onCl fun l => { l with again := false })
        | none => d
      | none => d
    match d.cl.catch_ with
    | none => reads d
    | some u =>
      if !d.cl.link then reads (d.onCl fun l => { l with catch_ := none })
      else match u.upTo with
        | none => sendQuery .ident 3 0 d
        | some n =>
          if u.pos < n then sendQuery .log 1 (u.pos % 1024) d
          else
            let d := d.onCl fun l => { l with catch_ := none }
            reads (u.held.foldl (fun d e => match d.cl.fwd with
              | some f => if leAt e 0 4 ≤ f then d else forward e d
              | none => forward e d) d)

/-- IDENT read while catching up: entries from the last one forwarded, or from the oldest that the log can still hold, up to
the next NUM (R499). -/
def gotIdent (data : List Byte) (d : Dev) : Dev :=
  let n := leAt data 8 4
  let from_ := match d.cl.fwd with
    | some f => f + 1
    | none => 0
  d.onCl fun l => { l with catch_ := l.catch_.map fun u => { u with upTo := some n, pos := max from_ (n - 1024) } }

/-- LOG data read while catching up (R499). -/
def gotLog (data : List Byte) (d : Dev) : Dev :=
  match d.cl.catch_ with
  | some u =>
    let n := u.upTo.getD 0
    let es := ((List.range 8).map fun i => (data.drop (16 * i)).take 16).filter fun e =>
      decide (u.pos ≤ leAt e 0 4) && decide (leAt e 0 4 < n)
    (es.foldl (fun d e => forward e d) d).onCl fun l => { l with catch_ := l.catch_.map fun u => { u with pos := u.pos + 8 } }
  | none => d

/-- Header of a CASK_READ reply: WHAT, CL_STAT[7:0], BSEQ and AGE of the source frame (R501). -/
def readHeader (what : Nat) (b : BitVec 8) (t : Option Nat) (d : Dev) : List Byte :=
  let age := match t with
    | some x => min 65535 ((d.now - x) / msT 1)
    | none => 65535
  [byteOf what, byteOf d.cl.stat, b, 0] ++ le 2 age ++ le 2 0

/-- The answer to a query of SC (R499, R501). -/
def queryDone (data : List Byte) (b : BitVec 8) (d : Dev) : Dev :=
  let o := d.cl.owner
  let d := d.onCl fun l => { l with owner := none }
  match o with
  | some .ident => gotIdent data d
  | some .log => gotLog data d
  | some (.cmd t) => match d.cmd t with
    | some c => complete t .ok (readHeader (byteAt c.payload 0) b (some d.now) d ++ data) d
    | none => d
  | _ => d

/-- A query without an answer: CASK_READ sends its query once more, and a second timeout gives RESOURCE_BUSY (R501). -/
def queryLost (d : Dev) : Dev :=
  match d.cl.owner with
  | some (.cmd t) =>
    if d.cl.again then fail t .resourceBusy (d.onCl fun l => { l with owner := none })
    else sendQuery (.cmd t) d.cl.qcode d.cl.qarg (d.onCl fun l => { l with again := true })
  | _ => d.onCl fun l => { l with owner := none }

/-- A CASK_READ that ends early: its QREPLY is discarded when it comes (R530). -/
def dropRead (tag : Fin 32) (d : Dev) : Dev :=
  if d.cl.owner = some (.cmd tag) then d.onCl fun l => { l with owner := some .raw } else d

/-- A valid frame takes effect (R496, R498, R499). -/
def linkFrame (f : CFrame) (d : Dev) : Dev :=
  let now := d.now
  let d := d.onCl fun l => { l with
    gaps := if f.type = 5 ∨ f.bseq = l.bseq + 1 then l.gaps else satInc 65535 l.gaps, bseq := f.bseq }
  let d := msgSc 5 d
  match f.type with
  | 1 =>
    let up := !d.cl.link
    let d := d.onCl fun l => { l with link := true, cycle := f.payload, cycB := f.bseq, cycT := some now }
    if up then linkNext (d.onCl fun l => { l with catch_ := some {} }) else d
  | 2 => d.onCl fun l => { l with regs := f.payload, regB := f.bseq, regT := some now }
  | 3 =>
    match d.cl.catch_ with
    | some _ => d.onCl fun l => { l with catch_ := l.catch_.map fun u => { u with held := u.held ++ [f.payload] } }
    | none => forward f.payload d
  | 4 =>
    if d.cl.busy ∧ byteAt f.payload 0 = d.cl.qcode ∧ leAt f.payload 1 2 = d.cl.qarg then
      let data := f.payload.drop 6
      let d := d.onCl fun l => { l with busy := false, done := true, qbuf := data }
      linkNext (queryDone data f.bseq (msgSc 6 d))
    else d
  | _ => d

/-- CORE loses its power: LINK reads 0 and frames are lost (R496). -/
def linkDown (d : Dev) : Dev := d.onCl fun l => { l with link := false, catch_ := none }

end Sys2Proof.Machine
end

