-- ==== Sys2Proof/Machine/CaskCmds.lean ====
section
/-! DEFINITION. Commands of the Cask die and of the Cask link (chapter 13). -/

namespace Sys2Proof.Machine
open Sys2Proof

/-- Change of Cask while it runs. -/
def whileRun (f : Cask → Cask) (d : Dev) : Dev := if d.cask.phase = .run then d.onCask f else d

/-- CASK_SEAL_N held at a new level for 50 ms: low gives OPEN (R470). -/
def execSealChange (low : Bool) (s : State) : Out := onDev s (whileRun (Cask.setSeal low))

/-- The end of a Cask cycle of `ns` nanoseconds with the samples taken in it, oldest first (R471 to R473). -/
def execCaskCycleEnd (ns : Nat) (xs : List CSample) (s : State) : Out := onDev s (whileRun (Cask.cycleEnd ns xs))

/-- The timed commit, 900 s of CSEC after the last commit (R477). -/
def execCaskTimedCommit (s : State) : Out :=
  onDev s (whileRun fun k => if k.csec - k.comSec < 900 then k else k.commit)

/-- A second of CSEC ends, and a REGS frame is sent (R491). -/
def execCaskRegsTimer (s : State) : Out :=
  onDev s (whileRun fun k =>
    let k : Cask := { k with csec := (k.csec + 1) % 2 ^ 32 }
    k.send 2 k.regsPayload)

/-- The supply in use falls below 2.45 V with no other supply: measurement stops, an erase is abandoned, and the power-fail
commit starts (R478, R482). -/
def execCaskPowerFail (s : State) : Out := onDev s (whileRun fun k => { k with phase := .failing, erase := [], query := none })

/-- Cask powers on (R479, R482, R487, R490); `rom`, `ram` and `conv` tell which self-tests pass, `cbkp` which supply is in use. -/
def execCaskPowerOn (rom ram conv cbkp : Bool) (s : State) : Out :=
  onDev s fun d => if d.cask.phase = .off then d.onCask (Cask.powerOn rom ram conv cbkp) else d

/-- Cask changes its supply (R481). -/
def execCaskSupplySwitch (cbkp : Bool) (s : State) : Out := onDev s (whileRun fun k => { k with cbkp := cbkp })

/-- Cask answers its query or discards it (R495). -/
def execCaskQuery (s : State) : Out :=
  onDev s (whileRun fun k =>
    match k.query with
    | some (q, arg) =>
      let k : Cask := { k with query := none }
      match k.answer q arg with
      | some data => k.send 4 ([byteOf q] ++ le 2 arg ++ le 2 data.length ++ [0] ++ data)
      | none => k
    | none => k)

/-- The request IDENT (R488). -/
def execAdjIdent (s : State) : Out :=
  onDev s (whileRun fun k =>
    k.adjReply 1 0 (le 2 Config.caskFwver.toNat ++ le 2 k.fuses ++ le 4 k.par.pbseq ++ digestBytes))

/-- The request PARAM_READ (R488). -/
def execAdjParamRead (id : Nat) (s : State) : Out :=
  onDev s (whileRun fun k =>
    if h : id < 32 then
      k.adjReply 2 0 (le 4 (k.par.vals[id]).toNat ++ le 4 ((k.staged[id]).getD 0).toNat ++ [byteOf (b2n (k.staged[id]).isSome)])
    else k.adjReply 2 0x0E [])

/-- The request LIVE (R488). -/
def execAdjLive (s : State) : Out := onDev s (whileRun fun k => k.adjReply 3 0 k.cyclePayload)

/-- The request PARAM_STAGE (R488, R489). -/
def execAdjParamStage (id : Nat) (v : Word) (s : State) : Out :=
  onDev s (whileRun fun k =>
    if !k.sealOpen then k.adjReply 4 0x11 []
    else if !parOk id v then k.adjReply 4 0x0E []
    else { k with staged := upd k.staged (Fin.ofNat 32 id) fun _ => some v }.adjReply 4 0 [])

/-- The request STAGE_DISCARD (R488). -/
def execAdjStageDiscard (s : State) : Out :=
  onDev s (whileRun fun k =>
    if !k.sealOpen then k.adjReply 5 0x11 []
    else { k with staged := Vector.replicate 32 none }.adjReply 5 0 [])

/-- The request ADJ_COMMIT (R486, R488, R490). -/
def execAdjCommit (s : State) : Out :=
  onDev s (whileRun fun k =>
    if !k.sealOpen then k.adjReply 6 0x11 []
    else if !k.staged.toList.any Option.isSome then k.adjReply 6 0 (le 2 k.fuses)
    else if 512 ≤ k.fuses then (k.logEntry 0x0A 0xFF 512 0).adjReply 6 0x20 []
    else
      let k := k.adjCommit
      k.adjReply 6 0 (le 2 k.fuses))

/-- An incomplete frame is discarded without a reply (R488). -/
def execAdjFrameTimeout (s : State) : Out := onDev s (whileRun fun k => { k with atx := [] })

/-- A CMD that the table does not hold (R488). -/
def execAdjBadCommand (cmd : BitVec 8) (s : State) : Out :=
  onDev s (whileRun fun k => if 1 ≤ cmd.toNat ∧ cmd.toNat ≤ 6 then k else k.adjReply cmd.toNat 0x0D [])

/-- The erase that runs completes and the next starts (R478). -/
def execCaskEraseDone (s : State) : Out := onDev s (whileRun Cask.endErase)

/-- The supply rises above 2.6 V before Cask is held in reset: the power-fail commit is whole, and Cask measures again (R482). -/
def execCaskSupplyRecover (s : State) : Out :=
  onDev s fun d =>
    if d.cask.phase = .failing then
      d.onCask fun k =>
        let k := (k.writeRecs 12 false).logEntry 1 0xFF 0 ((k.cseq + 1) % 2 ^ 32)
        let k := ({ k with phase := .run }.logEntry 2 0xFF 0 k.cseq).listErases
        k.send 2 k.regsPayload
    else d

/-- Cask is held in reset after `n` records of the power-fail commit, 13 with its POWER_DOWN entry; `part` tells whether the
next record was being programmed (R482). Without a power-fail commit there is nothing to hold (R481). -/
def execCaskHoldReset (n : Fin 14) (part : Bool) (s : State) : Out :=
  onDev s fun d =>
    if d.cask.phase = .failing then
      d.onCask fun k =>
        let cs := (k.cseq + 1) % 2 ^ 32
        let k := k.writeRecs n.val part
        let k := if n.val = 13 then k.logEntry 1 0xFF 0 cs else k
        { k with phase := .off, wire := [], sealOpen := false, staged := Vector.replicate 32 none }
    else d

/-- A broadcast frame arrives at the link block, its bytes changed on the line by `noise`; its CRC is checked (R491, R496). -/
def execCaskFrameReceive (noise : List Byte) (s : State) : Out :=
  onDev s fun d =>
    match d.cask.wire with
    | f :: rest =>
      let d := d.onCask fun k => { k with wire := rest }
      if !d.bclk then d
      else match frameOf (noised noise f.bytes) with
        | some g => linkFrame g d
        | none => d.onCl fun l => { l with crcErr := satInc 65535 l.crcErr }
    | [] => d

/-- No valid CYCLE for 50 ms (R496). -/
def execCaskLinkTimeout (s : State) : Out :=
  onDev s fun d =>
    match d.cl.cycT with
    | some t => if d.cl.link && decide (t + msT 50 ≤ d.now) then d.onCl fun l => { l with link := false } else d
    | none => d

/-- No QREPLY within 5 ms (R498, R501). -/
def execCaskQueryTimeout (s : State) : Out :=
  onDev s fun d =>
    if d.cl.busy && decide (d.cl.qT + msT 5 ≤ d.now) then
      linkNext (queryLost (msgSc 6 (d.onCl fun l => { l with busy := false, timeout := true })))
    else d

/-- CASK_READ (R501). -/
def execCaskRead (tag : Fin 32) (s : State) : Out :=
  onDev s <| begin_ 0x50 tag (fun n => decide (n = 4)) fun c d =>
    let p := c.payload
    let w := byteAt p 0
    let top := if w = 3 then 1023 else if w = 7 then 11 else 0
    if w = 0 ∨ 7 < w ∨ byteAt p 1 ≠ 0 ∨ top < leAt p 2 2 then fail tag .badParam d
    else inMode tag c (fun d =>
      if !d.cl.link then fail tag .resourceBusy d
      else if w = 1 then complete tag .ok (readHeader 1 d.cl.cycB d.cl.cycT d ++ d.cl.cycle) d
      else if w = 2 then complete tag .ok (readHeader 2 d.cl.regB d.cl.regT d ++ d.cl.regs) d
      else linkNext (onCmd tag (fun c => { c with phase := .query }) d)) d

end Sys2Proof.Machine
end

