-- ==== Sys2Proof/Machine/CorrOps.lean ====
section
/-! DEFINITION. Fold slots, lanes and the score of a template (chapter 06, R211, R212, R220). Words come newest first. Folded words are kept
times S, which cancels in the score; rotations are rounded to 0.05° (DESIGN CHOICE, log entry 65). -/

namespace Sys2Proof.Machine
open Sys2Proof

/-- Cosine and sine of `h` steps of 0.05°, in units of 10^-12. -/
def turn (h : Nat) : Cplx :=
  let r := h % 1800
  match h % 7200 / 1800 with
  | 0 => (cosQ r, sinQ r)
  | 1 => (-sinQ r, cosQ r)
  | 2 => (-cosQ r, -sinQ r)
  | _ => (sinQ r, -cosQ r)

/-- Product of a complex number and the conjugate of another. -/
def cmulConj (a b : Cplx) : Cplx := (a.1 * b.1 + a.2 * b.2, a.2 * b.1 - a.1 * b.2)

/-- Squared magnitude. -/
def cabs2 (a : Cplx) : Nat := (a.1 * a.1 + a.2 * a.2).toNat

/-- A word mixed by fs/`mix`, none for 0, at word number `k` (R211). -/
def mixWord (mix k : Nat) (x : Cplx) : Cplx :=
  if mix = 0 then (x.1 * unit, x.2 * unit) else cmulConj x (turn ((7200 * (k % mix) + mix / 2) / mix))

/-- S times the folded word `lag` words back from word number `m` (R211). -/
def foldedWord (mix s m lag : Nat) (xs : List Cplx) : Cplx :=
  csum (((xs.drop lag).take s).zipIdx.map fun p => mixWord mix (m - lag - p.2) p.1)

/-- The lanes of a template: the fold slot that each reads and how many words back its last tap lies. A pair on one slot spans 64 × S words,
the earlier half on the first lane (R212, R215). -/
def Tmpl.pair (t : Tmpl) : List (Nat × Nat) :=
  match t.slots with
  | [s] => if t.tid = 14 ∨ t.lanes < 2 then [(s, 0)] else [(s, 32 * (slotFold s).2), (s, 0)]
  | ss => ss.map fun s => (s, 0)

/-- The taps of a template with the folded words that they meet at word number `m`; `clean` gives a slot's input words, those that it does not
hold or that are invalid being 0 (R211, R212). -/
def Tmpl.meets (t : Tmpl) (var m : Nat) (clean : Nat → List Cplx) : List (Cplx × Cplx) :=
  t.pair.zipIdx.flatMap fun l =>
    let f := slotFold l.1.1
    (List.range 32).map fun k =>
      (Config.templateTap t.tid var (32 * l.2 + k), foldedWord f.1 f.2 m (l.1.2 + (31 - k) * f.2) (clean l.1.1))

/-- SCORE of what the taps meet (R220). -/
def scoreOf (l : List (Cplx × Cplx)) : Nat :=
  let num := cabs2 (csum (l.map fun p => cmulConj p.2 p.1))
  let den := (l.map fun p => cabs2 p.1).sum * (l.map fun p => cabs2 p.2).sum
  if den = 0 then 0 else min 1023 (1024 * num / den)

/-- When a fold slot of the zone's engines was emptied last; none where no engine runs it (R214). -/
def Dev.emptied (d : Dev) (n : Fin 24) (s : Nat) : Option Nat :=
  (((d.lau.zoneEngs n).flatMap fun e => (d.lau.eng[e]).folds).find? fun x => decide (x.1 = s)).map (·.2)

/-- The words of the zone's combined stream as a slot holds them: invalid words and those from before it was emptied are 0
(R32, R211, R214). -/
def Dev.slotWords (d : Dev) (n : Fin 24) (xs : List Cplx) (s : Nat) : List Cplx :=
  let m := d.now / 16
  let bad := (d.members n).flatMap d.badWords
  match d.emptied n s with
  | some t => xs.zipIdx.map fun p =>
      let k := m - p.2
      if k ≤ t / 16 ∨ (bad.any fun r => decide (r.1 < k) && decide (k ≤ r.2)) then (0, 0) else p.1
  | none => []

/-- SCORE of a template of the zone at the present word (R220). -/
def Dev.score (d : Dev) (n : Fin 24) (t : Tmpl) (var : Nat) (xs : List Cplx) : Nat :=
  scoreOf (t.meets var (d.now / 16) (d.slotWords n (xs.take t.span)))

/-- Valid input words among the last span of a template: words from before a slot was emptied count as invalid (R214, R224). -/
def Dev.validWords (d : Dev) (n : Fin 24) (t : Tmpl) : Nat :=
  match (d.members n), t.slots.map fun s => d.emptied n s with
  | [], _ => 0
  | cs, es => if es.contains none then 0
    else d.validIn cs ((es.filterMap id).foldl max (d.now - 16 * t.span)) d.now

end Sys2Proof.Machine
end

