-- ==== Sys2Proof/Machine/HfOps.lean ====
section
/-! DEFINITION. The framer, the wake train, identification and exchanges with a card or accessory (chapters 08 and 09). -/

namespace Sys2Proof.Machine
open Sys2Proof

/-! The framer (R302 to R307) -/

/-- TXRATE in the range that a technology gives (R339, R346). -/
def txRateOk (tech tx : Nat) : Bool :=
  match tech with
  | 3 => tx = 1 || tx = 2
  | 4 => decide (tx = 0)
  | 5 => decide (tx = 0)
  | _ => decide (tx ≤ 6)

/-- RXRATE in the range that a technology gives (R339, R346). -/
def rxRateOk (tech rx : Nat) : Bool :=
  match tech with
  | 3 => rx = 1 || rx = 2
  | 4 => decide (rx ≤ 1)
  | 5 => decide (rx = 0)
  | _ => decide (rx ≤ 6)

/-- Both rates in the range that a technology gives (R339, R346). -/
def rateOk (tech tx rx : Nat) : Bool := txRateOk tech tx && rxRateOk tech rx

/-- A write of ZEn_FR_CTL but for SEND and ABANDON (R20, R339). -/
def Framer.ctl (f : Framer) (listen : Bool) (v : Nat) : Framer :=
  let f := { f with crcTx := v.testBit 11, crcRx := v.testBit 12, par := v.testBit 13, arm := v.testBit 14 }
  let tech := if bits v 2 0 ≤ 5 then bits v 2 0 else f.tech
  if f.tx ≠ .idle ∨ listen then f
  else { f with
    tech := tech
    txRate := if txRateOk tech (bits v 6 3) then bits v 6 3 else f.txRate
    rxRate := if rxRateOk tech (bits v 10 7) then bits v 10 7 else f.rxRate }

/-- The framer's source raised, with its capture item (R305, R579, R602). -/
def framerEvent (n : Fin 24) (d : Dev) : Dev := captureFrame n (msgZone n 6 d)

/-- The frame in the transmit buffer, LEN bytes of it with unwritten ones 0, is coded and starts at its carrier-cycle boundary (R302). -/
def frameStarts (now : Nat) (f : Framer) : Framer :=
  let body := (List.range f.len).map fun i => (f.txBuf[i]?).getD 0
  { f with
    tx := .sending, waveT := carrierAfter (now + 16 * f.gap), gap := 0
    wave := frameWave f.tech f.txRate f.pause f.par f.crcTx f.lastBits body }

/-- A SEND (R302, R303). -/
def frSend (n : Fin 24) (d : Dev) : Dev :=
  let f := d.hf.fr[n]
  if d.sf.zone[n].state ≠ .opened ∨ f.tx = .sending then d
  else if d.lau.zone[n].hold then onFr n (fun f => { f with heldSend := true }) d
  else
    let d := onLz n (fun z => { z with listen := false }) d
    let now := d.now
    onFr n (fun f =>
      let f := { f with heldSend := false, winFrom := none }
      if f.arm then { f with tx := .armed } else frameStarts now f) d

/-- An armed frame starts when the zone's phase compare fires with ZTRIG (R107, R302). -/
def armedStart (n : Fin 24) (d : Dev) : Dev :=
  let now := d.now
  onFr n (fun f => if f.tx = .armed then { frameStarts now f with waveT := (now / 16 + 1) * 16 } else f) d

/-- A held commit at the frame's last modulation (R147). -/
def heldCommit (n : Fin 24) (d : Dev) : Dev :=
  match d.tx[n].held with
  | some ws => withRxRoles (applyCommit n ws) (onTxZ n (fun t => { t with held := none }) d)
  | none => d

/-- HOLD clears at a frame's end or abandonment: gain loop, held filter, held request and held SEND (R187, R193, R226, R236, R303). -/
def releaseHold (n : Fin 24) (d : Dev) : Dev :=
  let d := clearHold n (heldFilt n (unfreeze n (onFr n (fun f => { f with demod := none }) d)))
  if d.hf.fr[n].heldSend then frSend n d else d

/-- A transmitted frame ends (R147, R302, R304, R622). -/
def txEnd (n : Fin 24) (d : Dev) : Dev :=
  if d.hf.fr[n].tx ≠ .sending then d
  else
    let now := d.now
    let phc := d.phcW
    let d := onFr n (fun f => { f with tx := .idle, txDone := true, tend := phc, winFrom := some now, det := false, gone := false }) d
    heldCommit n (framerEvent n (startTimers n 1 d))

/-- A slot whose window opens in HOLD is masked: its technology gets one further slot at the end of the train (R314). -/
def maskSlot (n : Fin 24) (d : Dev) : Dev :=
  if d.lau.zone[n].hold then
    onFr n (fun f => match f.slots with
      | s :: _ => if f.extra then f else { f with masked := f.masked ++ (if s = .sensfListen then [.sensf, s] else [s]) }
      | [] => f) d
  else d

/-- The listening window opens WOPEN words after the frame's end (R304, R314). -/
def windowOpen (n : Fin 24) (d : Dev) : Dev :=
  match d.hf.fr[n].winFrom with
  | some t =>
    if d.hf.fr[n].tx = .idle ∧ d.lau.zone[n].listen = false ∧ d.now - t ≥ 16 * d.hf.fr[n].wopen then
      maskSlot n (onLz n (fun z => { z with listen := true }) d)
    else d
  | none => d

/-! The wake train (R312 to R318, R358) -/

/-- Framer settings and the frame of a wake slot. The frame bytes are those of the technology's standard (PRESUMED, log entry 23);
settings of R300, R304, R313, R341, R346, R349. -/
def slotFrame (s : WSlot) (span : Nat) (f : Framer) : Framer :=
  match s with
  | .wupa => { f with tech := 1, txRate := 0, rxRate := 0, crcTx := false, crcRx := false, par := true, arm := false, len := 1, lastBits := 7,
                      txBuf := [0x52], depth := 0, pause := 32, edge := 3, wopen := 1108, wclose := wcloseOf 1300 span }
  | .sensf => let r := if f.tTech.testBit 2 then 1 else 2
      { f with tech := 3, txRate := r, rxRate := r, crcTx := true, crcRx := true, arm := false, len := 6, lastBits := 0,
               txBuf := [0x06, 0x00, 0xFF, 0xFF, 0x00, 0x00], depth := 209, edge := 2, wopen := 31419, wclose := wcloseOf 34131 span }
  | .wupb => { f with tech := 2, txRate := 0, rxRate := 0, crcTx := true, crcRx := true, arm := false, len := 3, lastBits := 0,
                      txBuf := [0x05, byteOf f.tAfi, 0x08], depth := 209, edge := 2, wopen := 960, wclose := wcloseOf 4160 span }
  | .sensfListen => { f with wopen := 31419, wclose := wcloseOf 34131 span }
  | .inventory => { f with tech := 4, txRate := 0, rxRate := if f.tV.testBit 0 then 0 else 1, crcTx := true, crcRx := true, arm := false,
                           len := 3, lastBits := 0, txBuf := [if f.tV.testBit 0 then 0x26 else 0x24, 0x01, 0x00],
                           depth := if f.tV.testBit 1 then 0 else 209, pause := 128, edge := 3, wopen := 4256, wclose := wcloseOf 4448 span }
  | .seek => { f with tech := 5, txRate := 0, rxRate := 0, crcTx := true, crcRx := true, arm := false, len := 2, lastBits := 0,
                      txBuf := match f.seek with
                        | some k => [0x01, byteOf (k.q + k.sel)]
                        | none => [0x01, 0x18]
                      depth := 209, edge := 2,
                      wopen := 1820, wclose := wcloseOf 2212 span }

/-- The slots of a wake train in their order (R313, R358). -/
def Dev.trainSlots (d : Dev) : List WSlot :=
  let t := d.hf.tech
  let f := t.testBit 2 || t.testBit 3
  let base := (if t.testBit 0 then [.wupa] else []) ++ (if f then [.sensf] else []) ++ (if t.testBit 1 then [.wupb] else []) ++
    (if f then [.sensfListen] else []) ++ (if t.testBit 4 then [.inventory] else [])
  if d.acc.en then (if d.acc.order then .seek :: base else base ++ [.seek]) else base

/-- The slots that reactivate a known card or accessory (R322, R363). -/
def reactSlots (proto : Nat) : List WSlot :=
  match proto with
  | 1 => [.wupa] | 2 => [.wupb] | 6 => [.sensf, .sensfListen] | 7 => [.sensf, .sensfListen] | 14 => [.seek] | _ => [.inventory]

/-- The slots of the zone's next train: the wake train, or the reactivation of its entry (R313, R322). -/
def Dev.nextTrain (d : Dev) (n : Fin 24) : List WSlot × Bool :=
  match d.sf.zone[n].entry with
  | some i => match d.sf.at i with
    | some e => if e.uid = [] then (d.trainSlots, false) else (reactSlots e.proto, true)
    | none => (d.trainSlots, false)
  | none => (d.trainSlots, false)

/-- The first seek round of a train, or the one that reactivates a known accessory: IDLE and READY, or IDLE and HALTED (R357, R363). -/
def Dev.firstSeek (d : Dev) (n : Fin 24) : Seek :=
  if (d.nextTrain n).2 then { q := 0, sel := 0x28, once := true } else { q := d.hf.fr[n].tQ, sel := 0x18 }

/-- Frames that reactivate a known card: WUPB with its stored AFI, GET SYSTEM INFORMATION addressed with its UID (R322; bytes PRESUMED, log entry 23). -/
def reactFrame (s : WSlot) (e : Entry) (f : Framer) : Framer :=
  match s with
  | .wupb => { f with txBuf := [0x05, (e.card.info[5]?).getD 0, 0x08] }
  | .inventory => { f with len := 10, txBuf := [if f.tV.testBit 0 then 0x22 else 0x20, 0x2B] ++ e.uid }
  | _ => f

/-- The present slot starts: its frame is sent, or its window is taken up (R313, R322, R357). -/
def startSlot (n : Fin 24) (d : Dev) : Dev :=
  match d.hf.fr[n].slots with
  | [] => d
  | s :: _ =>
    let k := d.firstSeek n
    let d := onFr n (fun f => { f with seek := if s = .seek then some k else none }) d
    let d := onFr n (slotFrame s (d.spanOf n)) d
    let d := match d.sf.zone[n].entry.bind d.sf.at with
      | some e => if (d.nextTrain n).2 then onFr n (reactFrame s e) d else d
      | none => d
    match s with
    | .sensfListen => onFr n (fun f => { f with winFrom := some f.sensfEnd, det := false, gone := false }) d
    | _ => frSend n d

/-- A train takes the configuration in effect at its start (R337). -/
def takeCfg (n : Fin 24) (d : Dev) : Dev :=
  let h := d.hf
  let q := d.acc.qInit
  onFr n (fun f => { f with tTech := h.tech, tV := h.vMode, tAfi := h.afi, tQ := q, extra := false, masked := [], seekRounds := 0 }) d

/-- The present slot ends: the next one, the masked ones, another train, or the close of R318 and R322. -/
def endSlot (n : Fin 24) (d : Dev) : Dev :=
  match d.hf.fr[n].slots with
  | [] => d
  | s :: rest =>
    let d := onFr n (fun f => { f with gap := if s = .sensf then 1172 else 0, seek := none }) d
    if rest ≠ [] then startSlot n (onFr n (fun f => { f with slots := rest }) d)
    else if d.hf.fr[n].masked ≠ [] then startSlot n (onFr n (fun f => { f with slots := f.masked, masked := [], extra := true }) d)
    else
      let d := onFr n (fun f => { f with slots := [], trains := f.trains + 1, gap := 0 }) d
      let tr := d.nextTrain n
      if d.sf.zone[n].found ≠ 0 then tuneIdle n d
      else if tr.2 && decide (d.hf.fr[n].trains ≥ 2) then closeZone n 4 none d
      else if d.hf.fr[n].trains ≥ 3 then closeZone n 3 none d
      else startSlot n (takeCfg n (onFr n (fun f => { f with slots := tr.1 }) d))

/-- The frame of the SENSF_REQ slot has ended: the next slot's frame follows 1,172 words later, and its window opens in the slot that listens for
SENSF_RES (R313). -/
def sensfSent (n : Fin 24) (d : Dev) : Dev :=
  let now := d.now
  match d.hf.fr[n].slots.head? with
  | some .sensf => endSlot n (onFr n (fun f => { f with sensfEnd := now, winFrom := none }) d)
  | _ => d

/-- A transmitted frame ends, and with that of SENSF_REQ its slot (R302, R313). -/
def frameEnd (n : Fin 24) (d : Dev) : Dev := if d.hf.fr[n].tx = .sending then sensfSent n (txEnd n d) else d

/-- The power-on wait ends and the wake train starts (R312, R313). -/
def powerOnEnd (n : Fin 24) (d : Dev) : Dev :=
  match d.hf.fr[n].powEnd with
  | some t =>
    if t ≤ d.now ∧ d.sf.zone[n].state = .opened then
      let tr := d.nextTrain n
      startSlot n (takeCfg n (onFr n (fun f => { f with powEnd := none, slots := tr.1, trains := 0 }) d))
    else d
  | none => d

/-- The power-on wait begins with the field of a zone that has not been identified (R312). -/
def armPower (n : Fin 24) (d : Dev) : Dev :=
  let z := d.sf.zone[n]
  if z.state = .opened ∧ z.entry.isSome ∧ z.identified = false ∧ z.module.isNone ∧ d.tx[n].field then
    onFr n (fun f => { f with powEnd := some (d.now + 16 * 96 + dlT d.hf.powWait) }) d
  else d

/-- 20 log10 (a/b) is at least k/10 dB, less half a step: a/b ≥ 10^((2k − 1)/400). -/
def dbAtLeast (a b : Nat) (k : Int) : Bool :=
  if 0 < k then decide (b ^ 400 * 10 ^ (2 * k - 1).toNat ≤ a ^ 400) else decide (b ^ 400 ≤ a ^ 400 * 10 ^ (1 - 2 * k).toNat)

/-- The largest k from `lo` up that holds, in steps of halving powers of two. -/
def dbSearch (a b : Nat) : Nat → Int → Int
  | 0, lo => lo
  | s + 1, lo => dbSearch a b s (if dbAtLeast a b (lo + 2 ^ s) then lo + 2 ^ s else lo)

/-- 20 log10 (a/b) in 0.1 dB, rounded to the nearest (R308; the rounding is a DESIGN CHOICE, log entry 66). -/
def dbTenths (a b : Nat) : Int := dbSearch a b 13 (-4096)

/-- FLD of a zone from the measured currents of coils in mA (R308): none where it is not valid. The logarithm of no field at all is a free value. -/
def Dev.fldOf (d : Dev) (n : Fin 24) (cur : List (Fin 192 × Nat)) : Option Int :=
  let acts := d.actives n
  match d.sf.zone[n].entry.bind d.sf.at with
  | some e =>
    let w (c : Fin 192) : Nat := ((e.weights.find? fun x => decide (x.1 = c.val)).map (·.2)).getD 0
    let top := e.weights.foldl (fun m x => max m x.2) 0
    let i (c : Fin 192) : Nat := ((cur.find? fun x => decide (x.1 = c)).map (·.2)).getD 0
    if d.hf.fref = 0 ∨ acts = [] ∨ top = 0 ∨ acts.any (fun c => !d.drv.coil[c].cal.valid) then none
    else
      let h := d.hf.fref * (acts.map fun c => w c * i c).sum
      let h0 := if e.proto = 11 ∨ e.proto = 13 then 15 else 150
      some (if h = 0 then (Config.fldOfNone d.now).toInt else dbTenths (100 * h) (65536 * top * h0))
  | none => none

/-- FLD of a zone after a commit or a re-evaluation (R308). -/
def setFld (n : Fin 24) (cur : List (Fin 192 × Nat)) (d : Dev) : Dev :=
  let v := d.fldOf n cur
  onFr n (fun f => { f with fld := v }) d

/-- FLD that the firmware plans a zone's field for (R309). -/
def Dev.fldPlan (d : Dev) : Int := (max d.hf.rfldTh (d.hf.wfldTh + d.hf.kwadj) : Nat) + 30

/-- FLD more than 6.0 dB above the plan for 10 ms: the firmware commits lower amplitudes, by 1 dB (R309, R374; the step is a DESIGN CHOICE,
log entry 66). A feeding zone and one that a module holds are left alone. -/
def easeField (n : Fin 24) (d : Dev) : Dev :=
  let strong := match d.hf.fr[n].fld with
    | some x => decide (d.fldPlan + 60 < x)
    | none => false
  let feeds := (d.sf.onZ n).any fun i => (d.sf.at i).any fun e => decide (e.acc.power ≠ 0)
  let now := d.now
  if !strong || feeds || d.sf.zone[n].module.isSome || decide (d.sf.zone[n].state ≠ .opened) then onFr n (fun f => { f with overT := none }) d
  else match d.hf.fr[n].overT with
    | some t => if msT 10 ≤ now - t then
        withRxRoles (applyCommit n (lowered d.tx[n].cur)) (onFr n (fun f => { f with overT := some now }) d) else d
    | none => onFr n (fun f => { f with overT := some now }) d

/-! Seek rounds (R357, R363) -/

/-- A Mirbit frame sent after the turnaround (R347, R349). -/
def mbSend (n : Fin 24) (b : List Byte) (d : Dev) : Dev :=
  frSend n (onFr n (fun f => { f with txBuf := b, len := b.length, lastBits := 0, gap := 1172 }) d)

/-- Change of the seek round under way. -/
def onSeek (n : Fin 24) (k : Seek) (d : Dev) : Dev := onFr n (fun f => { f with seek := some k }) d

/-- The rounds are over: the slot of the train ends, or the round of an ACC_ROUND (R357, R379). -/
def seekEnd (n : Fin 24) (k : Seek) (d : Dev) : Dev :=
  if k.tag.isSome then onFr n (fun f => { f with seek := none }) d else endSlot n d

/-- Each recorded accessory is selected before the next round starts, and one beyond the limit also halted; a reactivation ends there (R357, R359,
R363). -/
def seekSelect (n : Fin 24) (k : Seek) (d : Dev) : List Nat → Dev
  | h :: rest => mbSend n ([0x04] ++ le 2 h) (onSeek n { k with wait := .select h rest } d)
  | [] =>
    if k.once || k.last then seekEnd n k d
    else
      let q := min 4 (k.q + 1)
      mbSend n [0x01, byteOf (q + 8)] (onSeek n { q := q, sel := 8 } d)

/-- An ABORT stops the round of an ACC_ROUND at the end of the slot in progress (R530). -/
def Dev.seekStopped (d : Dev) (k : Seek) : Bool := match k.tag.bind d.cmd with
  | some c => c.stopReq
  | none => k.tag.isSome

/-- The present slot of a seek round is over: the next slot, or the end of the round (R357). -/
def seekNext (n : Fin 24) (k : Seek) (d : Dev) : Dev :=
  if d.seekStopped k then seekEnd n k d
  else if k.slot + 1 < 2 ^ k.q then mbSend n [0x02] (onSeek n { k with slot := k.slot + 1, wait := .handle } d)
  else
    let d := onFr n (fun f => { f with seekRounds := f.seekRounds + 1 }) d
    if k.once then seekSelect n k d k.got
    else if k.tag.isSome || !k.coll || decide (4 ≤ d.hf.fr[n].seekRounds) || decide (4 ≤ d.sf.zone[n].found) then
      seekSelect n { k with last := true } d k.excess
    else seekSelect n k d k.got

/-- No reply in the window of a seek round: an empty slot; no AID after an ACK is a collision (R357). -/
def seekQuiet (n : Fin 24) (k : Seek) (d : Dev) : Dev :=
  match k.wait with
  | .handle => seekNext n k d
  | .aid _ => seekNext n { k with coll := true } d
  | .select _ rest => seekSelect n k d rest
  | .halt rest => seekSelect n k d rest

/-- The window of a slot closed without a reply that firmware saw (R313, R357). -/
def slotQuiet (n : Fin 24) (d : Dev) : Dev :=
  match d.hf.fr[n].seek with
  | some k => seekQuiet n k d
  | none => endSlot n d

/-- The listening window closes (R304, R306). -/
def windowClose (n : Fin 24) (d : Dev) : Dev :=
  match d.hf.fr[n].winFrom with
  | some t =>
    if d.lau.zone[n].listen && !d.lau.zone[n].hold && decide (d.now - t ≥ 256 * d.hf.fr[n].wclose) then
      let silent := !d.hf.fr[n].det && d.lau.zone[n].search.isEmpty
      let d := onLz n (fun z => { z with listen := false }) d
      let gone := d.hf.fr[n].gone
      let d := onFr n (fun f => { f with winFrom := none, noResp := f.noResp || silent, gone := false }) d
      let d := unfreeze n d
      if silent then slotQuiet n (framerEvent n d) else if gone then slotQuiet n d else d
    else d
  | none => d

/-! Received frames (R299, R305, R316, R317, R333, R381) -/

/-- TECH bit of a PROTO, none for an accessory (R299, R337). -/
def techBit : Nat → Option Nat
  | 1 => some 0 | 2 => some 1 | 7 => some 2 | 6 => some 3 | 11 => some 4 | 13 => some 4 | _ => none

/-- PROTO and identifier lengths of R317 and R359. -/
def uidOk (proto : Nat) (uid : List Byte) : Bool :=
  match proto with
  | 1 => uid.length = 4 || uid.length = 7 || uid.length = 10
  | 2 => uid.length = 4
  | 6 => uid.length = 8 | 7 => uid.length = 8 | 11 => uid.length = 8 | 13 => uid.length = 8 | 14 => uid.length = 8
  | _ => false

/-- TECH bit of a detected template; the templates of the raised rates of Types A and B follow the framer's TECH (R215, R299). -/
def tidBit (tid tech : Nat) : Option Nat :=
  match tid with
  | 1 => some 0 | 2 => some 1 | 7 => some 2 | 6 => some 3 | 11 => some 4 | 12 => some 4 | 13 => some 4 | 14 => none
  | _ => if tech = 1 then some 0 else if tech = 2 then some 1 else none

/-- A reply of a technology that the configuration of the zone's train turns off (R299, R337). -/
def Framer.ignores (f : Framer) (tid : Nat) : Bool := match tidBit tid f.tech with
  | some b => !f.tTech.testBit b
  | none => false

/-- The open entry of a zone with an identifier (R317, R359). -/
def Dev.entryWith (d : Dev) (n : Fin 24) (uid : List Byte) : Option Nat := (d.sf.onZ n).find? fun i => match d.sf.at i with
  | some e => decide (e.uid = uid) && decide (e.state = .opened)
  | none => false

/-- An identification of this identifier on the zone waits for its update step. -/
def Dev.identDue (d : Dev) (n : Fin 24) (uid : List Byte) : Bool := d.sf.pend.any fun r => match r with
  | .ident m _ u _ _ _ => decide (m = n) && decide (u = uid)
  | _ => false

/-- A known JIS X 6319-4 card that answers at 424 kbit/s after its train is used at that rate (R321). -/
def raiseF (n : Fin 24) (i proto : Nat) (d : Dev) : Dev :=
  match d.sf.at i with
  | some e =>
    if e.proto = 7 ∧ proto = 6 ∧ e.layer = 0 ∧ d.hf.maxRateF = 1 ∧ e.card.cap = 0x66 ∧ d.hf.fr[n].slots = [] then
      let d := onEntry i (fun e => { e with card := { e.card with rate := 0x22 } }) d
      match d.sf.at i with
      | some e => tune n e d
      | none => d
    else d
  | none => d

/-- An identifier received twice in one zone: the later handle is kept (R357). -/
def laterHandle (n : Fin 24) (uid : List Byte) (acc : Acc) (d : Dev) : Dev :=
  d.onSf fun s => { s with pend := s.pend.map fun r => match r with
    | .ident m p u c a w => if m = n ∧ u = uid then .ident m p u c { a with handle := acc.handle } w else r
    | _ => r }

/-- Slots of the train that ask for a technology (R313). -/
def wakeSlots (proto : Nat) : List WSlot :=
  match proto with
  | 1 => [.wupa] | 2 => [.wupb] | 6 => [.sensf, .sensfListen] | 7 => [.sensf, .sensfListen] | 11 => [.inventory] | 13 => [.inventory]
  | 14 => [.seek] | _ => []

/-- A card identified in another technology's window: its own masked slot is not repeated (R314). -/
def Framer.unmask (f : Framer) (proto : Nat) : Framer :=
  { f with masked := f.masked.filter fun s => !(wakeSlots proto).contains s,
           slots := if f.extra then f.slots.take 1 ++ (f.slots.drop 1).filter (fun s => !(wakeSlots proto).contains s) else f.slots }

/-- An identification taken before SC, or counted (R299, R314, R316, R317, R321, R357, R359). -/
def takeIdent (n : Fin 24) (proto : Nat) (uid : List Byte) (card : Card) (acc : Acc) (d : Dev) : Dev :=
  let on := match techBit proto with
    | some b => d.hf.fr[n].tTech.testBit b
    | Option.none => d.acc.en
  let d := if uidOk proto uid && on then onFr n (fun f => f.unmask proto) d else d
  match d.entryWith n uid with
  | some i =>
    if proto = 14 then onEntry i (fun e => { e with acc := { e.acc with handle := acc.handle } }) d else raiseF n i proto d
  | none =>
    if !uidOk proto uid || !on then d
    else if d.identDue n uid then laterHandle n uid acc d
    else if d.sf.zone[n].found ≥ 4 then onFr n (fun f => { f with cntExcess := satInc 15 f.cntExcess }) d
    else submit (.ident n proto uid card acc d.phcW) (onZone n (fun z => { z with found := z.found + 1 }) d)

/-- What the zone firmware makes of a valid frame: an identification, or the activation of a known card after its train (R316, R317, R320, R360). -/
def takeFw (n : Fin 24) (r : FwResult) (d : Dev) : Dev :=
  match r with
  | .none => d
  | .ident proto uid card acc => takeIdent n proto uid card { acc with info := [] } d
  | .activated uid a => match d.entryWith n uid with
    | some i => match d.sf.at i with
      | some e => if d.hf.fr[n].slots = [] ∧ d.autoFor e ∧ !(if e.proto = 14 then e.acc.act else decide (e.card.act ≠ 0)) then takeAct i a d else d
      | none => d
    | none => d

/-- Entry of a zone that waits for a late reply (R333). -/
def Dev.lateOn (d : Dev) (n : Fin 24) : Option Nat := (d.sf.onZ n).find? fun i => match d.sf.at i with
  | some e => e.card.late.isSome
  | none => false

/-- The late-reply item (R333). -/
def pushLate (i result : Nat) (data : List Byte) (d : Dev) : Dev :=
  match d.sf.at i with
  | some e => match e.card.late with
    | some (_, tag) =>
      let tail := data.drop (data.length - 8)
      pushPt 4 (le 2 (d.sf.entryId i) ++ [byteOf tag, byteOf result, byteOf (min 255 data.length), 0, 0, 0] ++
        List.replicate (8 - tail.length) 0 ++ tail) (onEntry i (fun e => { e with card := { e.card with late := none } }) d)
    | none => d
  | none => d

/-- ZEn_MB_STAT from the HDR of a valid uplink frame (R381). -/
def Framer.mirbit (f : Framer) (var : Nat) (data : List Byte) : Framer :=
  let h := byteAt data 0
  { f with mb := { rtype := bits h 3 0, pwr := bits h 5 4, ext := h.testBit 6, err := h.testBit 7, var := var, valid := true,
                   hdrErr := f.mb.hdrErr || !(decide (1 ≤ bits h 3 0) && decide (bits h 3 0 ≤ 7)) } }

/-- A frame received in a seek round: a HANDLE is acknowledged, an AID recorded; what is neither is a collision (R352, R357, R359). -/
def seekFrame (n : Fin 24) (k : Seek) (data : List Byte) (bad : Bool) (d : Dev) : Dev :=
  let h := byteAt data 0
  let is (rtype len : Nat) : Bool := !bad && decide (bits h 3 0 = rtype) && !h.testBit 7 && decide (data.length = len + 1)
  match k.wait with
  | .handle =>
    if is 1 2 then mbSend n ([0x03] ++ le 2 (leAt data 1 2)) (onSeek n { k with wait := .aid (leAt data 1 2) } d)
    else seekNext n { k with coll := true } d
  | .aid x =>
    if is 2 8 then
      let uid := data.drop 1
      let known := (d.entryWith n uid).isSome || d.identDue n uid
      let full := !known && decide (4 ≤ d.sf.zone[n].found)
      let d := match k.tag with
        | some t => if known || full then d else onCmd t (fun c => { c with got := c.got ++ uid }) d
        | none => d
      seekNext n { k with got := k.got ++ [x], excess := if full then k.excess ++ [x] else k.excess }
        (takeIdent n 14 uid {} { handle := x, pwr := bits h 5 4 } d)
    else seekNext n { k with coll := true } d
  | .select s rest =>
    if !bad && k.excess.contains s then mbSend n ([0x0B] ++ le 2 s) (onSeek n { k with wait := .halt rest } d) else seekSelect n k d rest
  | .halt rest => seekSelect n k d rest

/-- A parity bit of a Type A frame is not the odd parity of its byte (R305). -/
def RxFrame.parityBad (x : RxFrame) : Bool := ((x.data ++ x.crc).zip x.par).any fun y => decide (y.2 = parity y.1)

/-- The frame as the demodulator lane could read it: without one valid word since the peak it has nothing to read, a coding violation (R32; the
outcome is a DESIGN CHOICE, log entry 64). -/
def Dev.heard (d : Dev) (n : Fin 24) (x : RxFrame) : RxFrame :=
  match d.hf.fr[n].demod with
  | some t => if d.validIn (d.members n) t.tsc d.now = 0 then { x with data := [], crc := [], par := [], cod := true } else x
  | none => x

/-- A frame delivered to its buffer, with its flags and the framer's source (R305). -/
def deliver (n : Fin 24) (x : RxFrame) (crcE parE : Bool) (d : Dev) : Dev :=
  let f := d.hf.fr[n]
  let b := if f.nextBuf then !f.held1 else f.held0
  framerEvent n (onFr n (fun f => { f with
    rx0 := if b then f.rx0 else x.data.take 4096, rx1 := if b then x.data.take 4096 else f.rx1
    held0 := f.held0 || !b, held1 := f.held1 || b, nextBuf := !b, rxBuf := b, rxDone := true
    rxLen := min 4096 x.data.length, rxLastBits := x.lastBits % 8
    crcErr := f.crcErr || crcE, parErr := f.parErr || parE, codErr := f.codErr || x.cod
    coll := f.coll || (decide (f.tech = 1) && x.coll.isSome)
    collBit := match x.coll with
      | some p => if f.tech = 1 then p % 65536 else f.collBit
      | none => f.collBit }) d)

/-- What the zone firmware does with a delivered frame: one of a disabled technology is discarded and counted (R299), a late reply and an
identification go to SC (R316, R317, R333). A module that holds the zone does its own. -/
def firmwareFrame (n : Fin 24) (tid : Nat) (x : RxFrame) (r : FwResult) (bad : Bool) (d : Dev) : Dev :=
  if d.sf.zone[n].module.isSome then d
  else if d.hf.fr[n].ignores tid then onFr n (fun f => { f with cntIgnored := satInc 15 f.cntIgnored }) d
  else
    let d := match d.lateOn n with
      | some i => pushLate i (b2n bad) x.data d
      | none => d
    if bad then d else takeFw n r d

/-- A received frame ends (R305). One that finds both buffers held is discarded, and nothing comes of it. -/
def rxEnd (n : Fin 24) (x : RxFrame) (r : FwResult) (slotEnds : Bool) (d : Dev) : Dev :=
  if !d.lau.zone[n].hold then d
  else
    let f := d.hf.fr[n]
    let x := d.heard n x
    let crcE := f.crcRx && decide (x.crc ≠ crcOf f.tech x.data)
    let parE := decide (f.tech = 1) && f.par && x.parityBad
    let bad := crcE || parE || x.cod || x.coll.isSome
    let d := kilnFrame n (!bad) d
    let var := (f.demod.map Demod.var).getD 0
    let tid := (f.demod.map Demod.tid).getD 0
    if f.held0 && f.held1 then
      releaseHold n (onFr n (fun f => { f with rxLost := true, cntLost := satInc 255 f.cntLost, gone := true }) d)
    else
      let d := deliver n x crcE parE d
      let d := if f.tech = 5 && !crcE && !x.cod then onFr n (fun f => f.mirbit var x.data) d else d
      match d.hf.fr[n].seek with
      | some k => seekFrame n k x.data bad (releaseHold n d)
      | none =>
        let d := releaseHold n (firmwareFrame n tid x r bad d)
        if slotEnds then endSlot n d else d

/-- ABANDON (R306). -/
def abandon (n : Fin 24) (d : Dev) : Dev :=
  let sending := decide (d.hf.fr[n].tx = .sending)
  let now := d.now
  let d := onFr n (fun f => { f with tx := .idle, abandoned := true, abandT := some now, winFrom := if f.tx = .idle then f.winFrom else none }) d
  let d := if sending then heldCommit n d else d
  releaseHold n (framerEvent n d)

/-! Placement (R115, R116) -/

/-- Microsecond-free conversion of BCLK cycles to pu at the present increment. -/
def Dev.toPu (d : Dev) (t : Nat) : Nat := t * d.tb.inc / 2 ^ 24

/-- Every bin that a span of phases meets is QUIET for the zone (R113, R115). -/
def Dev.allQuiet (d : Dev) (n : Fin 24) (start len : Nat) : Bool :=
  let acts := allCoils.filter fun c => decide (d.drv.coil[c].owner = some n) && decide (d.drv.coil[c].role = .active)
  let first := start / 1024
  let last := (start + len - 1) / 1024
  !acts.isEmpty && (List.range (last - first + 1)).all fun k =>
    let cls := d.tb.classesNow ((first + k) % 64)
    acts.all fun c => decide (cls[Fin.ofNat 24 (c.val / 8)] = .quiet)

/-- Start of an exchange, as PHC, and its deferral in pu: the rule of R115, and an urgent one starts at once (R112, R116). `treq` is the earliest
start, pu from now; `l0`, `l1` and `bound` are in pu. -/
def Dev.place (d : Dev) (n : Fin 24) (c : Cmd) (treq l0 l1 bound : Nat) : Nat × Nat :=
  let s := (d.phc + treq + 63) / 64 * 64
  let slack := (d.slack c).map fun t => d.toPu t
  let qd := d.tb.cfg.qdMax * 1024
  let tot := d.tb.cfg.qdTotal * 1024
  if (match slack with
      | some x => decide (x < bound + qd)
      | none => false) || decide (tot ≤ c.deferred) then (d.phc + treq, 0)
  else if d.tb.state = .acquire ∨ d.tb.state = .holdover then (s, 0)
  else
    let lim := min (match slack with
      | some x => min qd (x - bound)
      | none => qd) (tot - c.deferred)
    match (List.range (lim / 64 + 1)).find? fun k => d.allQuiet n (s + 64 * k + l0) l1 with
    | some k => (s + 64 * k, 64 * k)
    | none => (s, 0)

/-- An exchange of a command placed: it starts when PHC reaches its start (R115). -/
def placeX (tag : Fin 32) (n : Fin 24) (x : XStep) (d : Dev) : Dev :=
  match d.cmd tag with
  | some c =>
    let p := d.place n c x.treq x.l0 x.l1 (d.toPu x.bound)
    onCmd tag (fun k => { k with deferred := k.deferred + p.2, startAt := some (word p.1) }) d
  | none => d

/-- The placed start of a command's exchange has come (R115). -/
def Dev.started (d : Dev) (c : Cmd) : Bool := c.startAt.all fun w => decide ((d.phcW - w).toNat < 2 ^ 31)

/-! Exchanges (R324 to R336, R365 to R370) -/

/-- Field threshold of a frame, 0.1 dB (R309). -/
def Dev.fldNeed (d : Dev) (wr : Bool) : Int := if wr then (d.hf.wfldTh + d.hf.kwadj : Nat) else (d.hf.rfldTh : Nat)

/-- The field check of R310 for one value of FLD. -/
def Dev.fldPass (d : Dev) (wr : Bool) (f : Option Int) : Bool :=
  match f with
  | some x => decide (d.fldNeed wr ≤ x)
  | none => !wr || d.hf.wnocal

/-- The DETAIL code of a failure (R336). -/
def XResult.code : XResult → Nat
  | .noResp => 1 | .crc => 2 | .coding => 3 | .collision => 4 | .violation => 5 | .wait _ => 6 | .reactFail => 0x0B | _ => 0

/-- A rate one step lower after three failures in a row at a raised rate (R321). -/
def countFail (i : Nat) (d : Dev) : Dev :=
  match d.sf.at i with
  | none => d
  | some e =>
    let low (r : Nat) : Nat := r - 1
    let base := if e.card.tech = 3 then 0x11 else 0
    if e.card.rate ≤ base then d
    else if e.card.fails ≥ 2 then
      let d := match e.zone with
        | some n => onFr n (fun f => { f with cntDown := satInc 15 f.cntDown }) d
        | none => d
      onEntry i (fun e => { e with card := { e.card with
        fails := 0, act := 0, react := true, cap := low (e.card.rate % 16) + 16 * low (e.card.rate / 16)
        rate := low (e.card.rate % 16) + 16 * low (e.card.rate / 16) } }) d
    else onEntry i (fun e => { e with card := { e.card with fails := e.card.fails + 1 } }) d

/-- The last command on the zone of an entry has just completed (R271, R275). -/
def touchZone (i : Nat) (d : Dev) : Dev :=
  match d.sf.at i with
  | some e => match e.zone with
    | some n => let now := d.now
      onZone n (fun z => { z with lastUse := now }) d
    | none => d
  | none => d

/-- A card found absent: its zone closes with cause 4, or its entry alone is removed from a shared zone (R282, R336). -/
def cardGone (i : Nat) (d : Dev) : Dev :=
  match d.sf.at i with
  | some e => match e.zone with
    | some n => if (d.sf.onZ n).length > 1 then submit (.gone i d.phcW) d else closeZone n 4 (some (.noTag, 1)) d
    | none => d
  | none => d

/-- An exchange completes and its entry's zone is marked as used. -/
def endX (tag : Fin 32) (st : Status) (detail : Nat) (d : Dev) : Dev :=
  match d.cmd tag with
  | some c => touchZone c.entry (finishX tag st detail d)
  | none => d

/-- A valid reply completes the command (R336); one longer than 4,096 bytes gives PARTIAL. -/
def validX (tag : Fin 32) (data : List Byte) (lastBits hdr ecode : Nat) (d : Dev) : Dev :=
  let phc := d.phc
  let d := onCmd tag (fun c => { c with rhdr := hdr, rxPhc := phc }) d
  match d.cmd tag with
  | none => d
  | some c =>
    let now := d.now
    let acc' (a : Acc) : Acc := if c.opc = 0x32 then { a with pwr := bits hdr 5 4, lastReply := now, missed := 0 } else a
    let d := onEntry c.entry (fun e => { e with card := { e.card with fails := 0, missed := 0, desync := false }, acc := acc' e.acc }) d
    let long := decide (data.length > 4096)
    touchZone c.entry (complete tag (if long then .partly else .ok)
      (xReply c (if long then 0x0A else 0) lastBits ecode phc data) d)

/-- A missing or invalid reply: a retry where the rules allow one, else the outcome of R329, R330 and R336. -/
def failX (tag : Fin 32) (c : Cmd) (e : Entry) (x : XStep) (d : Dev) : Dev :=
  let code := x.res.code
  let wr := isWrite c e
  let raw := decide (c.opc = 0x18) && decide (byteAt c.payload 2 = 0)
  let d := onCmd tag (fun k => { k with fail := code }) d
  let oneShot := wr && (raw || decide (c.opc = 0x32)) && c.writeSent
  let fits := match d.slack c with
    | some s => decide (x.bound + dlT 1 ≤ s)
    | none => true
  let noRetry := (byteAt c.payload 3).testBit 1
  if oneShot then endX tag .writeUnknown code (countFail c.entry d)
  else if x.res = .violation then endX tag (if c.writeSent then .writeUnknown else .protocolErr) code d
  else if x.res = .reactFail then
    endX tag .protocolErr (if e.card.desync then 8 else 0x0B) d
  else if decide (0 < c.retries) && !noRetry then
    if fits then
      let d := onCmd tag (fun k => { k with retries := k.retries - 1 }) d
      match e.zone with
      | some n => placeX tag n x d
      | none => d
    else endX tag (if c.writeSent then .writeUnknown else .deadline) code d
  else
    let d := countFail c.entry d
    if c.writeSent then endX tag .writeUnknown code d
    else if x.present then endX tag .protocolErr code d
    else cardGone c.entry (endX tag .noTag 1 d)

/-- Check 5 of R326 and of R367 fails. -/
def check5 (c : Cmd) (e : Entry) : Bool :=
  let p := c.payload
  if c.opc = 0x32 then decide (e.proto ≠ 14)
  else
    (byteAt p 2 = 1 && decide (e.layer ≠ 1)) || (byteAt p 2 = 2 && decide (e.layer ≠ 2)) ||
    (byteAt p 2 = 0 && (e.proto = 11 || e.proto = 13) && isWrite c e && (byteAt p 8).testBit 6) ||
    (byteAt p 2 = 0 && (e.proto = 6 || e.proto = 7) && decide (byteAt p 8 ≠ p.length - 8))

/-- The one commit with higher weights of a failed field check, 1 dB up (R310; the step is a DESIGN CHOICE, log entry 66). -/
def raiseOnce (n : Fin 24) (d : Dev) : Dev := withRxRoles (applyCommit n (raised d.tx[n].cur)) d

/-- The exchange needs an activation first: of the layer it names, or of a card or accessory that has been deactivated (R320, R321, R333, R360). -/
def needsAct (c : Cmd) (e : Entry) : Bool :=
  if e.proto = 14 then !e.acc.act
  else e.card.react || e.card.desync || (decide (byteAt c.payload 2 ≠ 0) && decide (e.card.act ≠ e.layer))

/-- The accessory's last valid reply came within the last 50 ms and reported PWR 1 or higher (R368). -/
def Acc.strong (a : Acc) (now : Nat) : Bool := decide (1 ≤ a.pwr) && decide (now - a.lastReply ≤ msT 50)

/-- A PONG before a write frame is the accessory's last valid reply (R368). -/
def notePong (i pwr : Nat) (d : Dev) : Dev :=
  let now := d.now
  onEntry i (fun e => { e with acc := { e.acc with pwr := pwr % 4, lastReply := now, missed := 0 } }) d

/-- No PONG before a write frame: the outcome of a missing reply (R336, R370; DEDUCED, log entry 66). -/
def noPong (tag : Fin 32) (c : Cmd) (x : XStep) (d : Dev) : Dev :=
  if x.present then endX tag .protocolErr 1 d else cardGone c.entry (endX tag .noTag 1 d)

/-- The second check before a write frame of an accessory: a PING where no recent reply has PWR 1 or higher, one commit with higher weights where
it reports 0, and a second PING; then `k` (R368). -/
def pwrCheck (tag : Fin 32) (c : Cmd) (n : Fin 24) (x : XStep) (k : Dev → Dev) (d : Dev) : Dev :=
  match d.sf.at c.entry with
  | none => k d
  | some e =>
    if c.opc ≠ 0x32 ∨ isWrite c e = false ∨ e.acc.strong d.now then k d
    else match x.ping with
      | none => noPong tag c x d
      | some p =>
        if p % 4 ≠ 0 then k (notePong c.entry p d)
        else match x.ping2 with
          | none => noPong tag c x (raiseOnce n (notePong c.entry p d))
          | some q =>
            let d := notePong c.entry q (raiseOnce n (notePong c.entry p d))
            if q % 4 = 0 then endX tag .fieldLow 7 d else k d

/-- The first frames of a command whose turn has come on an identified entry: check 5, the start test, the field, an activation
that it needs, and the framer (R302, R304, R310, R320, R326, R328, R368). -/
def startX (tag : Fin 32) (c : Cmd) (e : Entry) (n : Fin 24) (x : XStep) (d : Dev) : Dev :=
  let wr := isWrite c e
  let fld := d.hf.fr[n].fld
  let ok1 := d.fldPass wr fld
  let late := match d.slack c with
    | some s => wr && decide (s < x.bound + dlT 1)
    | none => false
  if check5 c e then endX tag .badParam 5 d
  else if late then endX tag .deadline 0 d
  else if !ok1 && !d.fldPass wr x.fld2 then endX tag .fieldLow 7 (raiseOnce n d)
  else if needsAct c e && x.act.isNone then endX tag .protocolErr (if e.card.desync then 8 else 0x0B) d
  else
    let d := if ok1 then d else raiseOnce n d
    let d := match x.act with
      | some a => if needsAct c e then takeAct c.entry a d else d
      | none => d
    pwrCheck tag c n x (fun d =>
      let d := setupX n c ((d.sf.at c.entry).getD e) x.bound d
      placeX tag n x (onCmd tag (fun k => { k with phase := .frames, retries := d.hf.retry, fldAt := if ok1 then fld else x.fld2 }) d)) d

/-- One step of an exchange that is under way (R329 to R336); before its placed start nothing of it happens (R115). -/
def stepX (tag : Fin 32) (x : XStep) (d : Dev) : Dev :=
  match d.cmd tag with
  | none => d
  | some c0 =>
    if c0.phase ≠ .frames ∨ d.started c0 = false then d
    else
      let d := if x.sent = 0 then d else match (d.sf.at c0.entry).bind (·.zone) with
        | some n => if c0.opc = 0x32 ∨ byteAt c0.payload 2 = 0 then frSend n d else d
        | none => d
      let d := onCmd tag (fun k => { k with sent := k.sent + x.sent, writeSent := (k.writeSent || x.wrote) && !x.acked }) d
      match d.cmd tag, d.sf.at c0.entry with
      | some c, some e =>
        match x.res with
        | .running => d
        | .wait t =>
          let d := onCmd tag (fun k => { k with ext := k.ext + t, fail := 6 }) d
          match e.zone with
          | some n => extendX n e t d
          | none => d
        | .valid data lb hdr ec => validX tag data lb hdr ec d
        | _ => failX tag c e x d
      | _, _ => d

/-- A command begins to wait for a zone (R276). -/
def waitZone (tag : Fin 32) (d : Dev) : Dev :=
  let now := d.now
  onCmd tag (fun k => if k.phase = .zone then k else { k with phase := .zone, waitT := now }) d

/-- A command that names an entry waits for its turn; then `k` carries it out (R281, R282, R333). -/
def onTurn (tag : Fin 32) (k : Cmd → Entry → Dev → Dev) (d : Dev) : Dev :=
  match d.cmd tag with
  | none => d
  | some c =>
    match d.sf.at c.entry with
    | none => endX tag .noTag 1 d
    | some e =>
      let shared := match e.zone with
        | some n => (d.sf.onZ n).any fun i => !(d.aheadOn tag i).isEmpty
        | none => false
      if !(d.aheadOn tag c.entry).isEmpty || shared || e.card.late.isSome then onCmd tag (fun k => { k with phase := .turn }) d
      else k c e d

/-- A command that names an entry waits for its turn and its zone; then `k` carries it out (R274, R280, R281, R326). -/
def turnX (tag : Fin 32) (k : Cmd → Entry → Fin 24 → Dev → Dev) (d : Dev) : Dev :=
  onTurn tag (fun c e d =>
    match e.state, e.zone with
    | .opened, some n => k c e n d
    | .resting, _ => submit (.want c.entry) (waitZone tag d)
    | .unresponsive, _ => submit (.want c.entry) (waitZone tag d)
    | _, _ => submit .replan (waitZone tag d)) d

/-- The exchange of a command that names an entry: its turn, its zone, and its frames (R326). -/
def goX (tag : Fin 32) (x : XStep) (d : Dev) : Dev :=
  match d.cmd tag with
  | none => d
  | some c =>
    if c.phase = .frames then stepX tag x d
    else turnX tag (fun c e n d => stepX tag x (startX tag c e n x d)) d

/-- Checks 2 to 4 of R326, the acceptance of a command on its entry, and its turn with `k`. -/
def enterT (tag : Fin 32) (c : Cmd) (k : Dev → Dev) (d : Dev) : Dev :=
  inMode tag c (fun d =>
    match d.entryOf (leAt c.payload 0 2) with
    | none => fail tag .noTag d
    | some (i, _) =>
      if (d.aheadOn tag i).length ≥ 8 then fail tag .tagBusy d
      else k (onCmd tag (fun k => { k with phase := .turn, entry := i }) d)) d

/-- An exchange enters with its checks 2 to 4 (R326, R367). -/
def enterX (tag : Fin 32) (c : Cmd) (x : XStep) (d : Dev) : Dev := enterT tag c (goX tag x) d

/-- A command of this opcode that has begun and waits or exchanges frames. -/
def Dev.begun (d : Dev) (opc : Nat) (tag : Fin 32) : Bool :=
  match d.cmd tag with
  | some c => decide (c.opc = opc) && decide (c.phase ≠ .fresh)
  | none => false

end Sys2Proof.Machine
end

