-- ==== Sys2Proof/Machine/TimeBase.lean ====
section
/-! DEFINITION. Commands of the mains time base (chapter 03). -/

namespace Sys2Proof.Machine
open Sys2Proof

/-- An edge from Cask (`zc` false) or MAINS_ZC (R91). `stable` µs the level was stable before it, `width` BCLK cycles of the pulse
that it ends in PULSE_CENTRE. A Cask edge counts only while the broadcast reports voltage present. Without CORE there is no time
base (R47, R88). -/
def execSourceEdge (zc rise : Bool) (stable width : Nat) (s : State) : Out :=
  onDev s fun d =>
    let volt := d.cl.link && d.cl.vpres
    if d.bclk then d.onTb fun t => t.edge zc rise volt stable width d.now else d

/-- No accepted edge of a source for 1.5 periods (R92, R103). -/
def execSourceQualLoss (zc : Bool) (s : State) : Out := onDev s fun d => d.onTb fun t => t.lose zc d.now

/-- HOLDOVER ends in VIRTUAL (R103). -/
def execHoldoverExpiry (s : State) : Out := onDev s fun d => d.onTb Tb.holdEnd

/-- TB_CFG (`zc` false) or TB_ZC written with `v` (R106, R128, R129). -/
def tbCfgWrite (zc : Bool) (v : Nat) (d : Dev) : Dev :=
  d.onTb fun t => (if zc then { t with zcCfg := t.zcCfg.write v } else { t with cfg := t.cfg.write v }).cfgTaken

/-- TB_CAP.GO (R87). -/
def tbCapGo (d : Dev) : Dev :=
  let phc := d.phcW
  let tsc := d.tim.tsc
  d.onTb fun t => { t with capPhc := phc, capTsc := tsc }

/-- Phase compare `n` fires: FIRED, its source, the armed frame and the zone timers of its zone, and its next target
(R107, R109, R302, R622). -/
def pcmpFire (n : Fin 32) (d : Dev) : Dev :=
  let c := d.tb.pcmp[n]
  let phc := d.phc
  let d := d.onTb fun t => { t with pcmp := upd t.pcmp n fun c => c.fire phc }
  let d := if c.evt then message (pcmpSrc n) d else d
  if h : n.val < 24 then
    let z : Fin 24 := ⟨n.val, h⟩
    let d := startTimers z 3 d
    if c.ztrig then armedStart z d else d
  else d

/-- The compare is enabled and PHC has passed its target (R107). -/
def Dev.pcmpDue (d : Dev) (n : Fin 32) : Bool := d.tb.pcmp[n].en && passed d.phc d.tb.pcmp[n].tgt

/-- PCMPn_TGT written: a passed target of an enabled compare fires at once (R108). -/
def pcmpTgtWrite (n : Fin 32) (v : Nat) (d : Dev) : Dev :=
  let d := d.onTb fun t => { t with pcmp := upd t.pcmp n fun c => { c with tgt := word v } }
  if d.pcmpDue n then pcmpFire n d else d

/-- A phase compare fires, those with earlier targets first (R107, R110). -/
def execPcmpFire (n : Fin 32) (s : State) : Out :=
  onDev s fun d => if d.pcmpDue n && d.tb.firstDue n then pcmpFire n d else d

/-- Words of a channel in the bin that ends, and the valid ones among them (R118, R204). -/
def Dev.binWords (d : Dev) (c : Fin 192) : Nat × Nat :=
  match d.tb.strobe with
  | some t => (d.now / 16 - t / 16, d.validIn [c] t d.now)
  | none => (0, 0)

/-- A coil of a group qualifies: no zone has owned it in the bin, and at least 75 % of its words are valid (R118, R204). -/
def Dev.binGood (d : Dev) (c : Fin 192) : Bool :=
  let w := d.binWords c
  let k := d.drv.coil[c]
  !k.binOwn && k.owner.isNone && decide (0 < w.1) && decide (3 * w.1 ≤ 4 * w.2)

/-- Power of a channel's valid words about their mean, referred to G = 0, times their number, in 2^-32 (R119, R204). -/
def Dev.binPower (d : Dev) (ms : List BinMeas) (c : Fin 192) : Nat :=
  let n := (d.binWords c).2
  match ms.find? fun x => decide (x.coil = c) with
  | some x => (((n * x.sP : Nat) : Int) - x.sI ^ 2 - x.sQ ^ 2).toNat * 2 ^ 32 / (max 1 n * 4 ^ d.rx.ch[c].gain)
  | none => 0

/-- The value observed for a group in the bin that ends, where it is observed (R118, R119). -/
def Dev.binValue (d : Dev) (ms : List BinMeas) (g : Fin 24) : Option Nat :=
  let cs := allCoils.filter fun c => decide (c.val / 8 = g.val)
  let good := cs.filter d.binGood
  if (d.tb.state = .locked || d.tb.state = .virtual) && d.tb.cfg.learn &&
      (cs.all fun c => !d.drv.coil[c].binDrv && !d.drv.coil[c].word.en) && decide (2 ≤ good.length) then
    some (noiseCode ((good.map fun c => d.binPower ms c).sum) ((good.map fun c => (d.binWords c).2).sum * 2 ^ 32))
  else none

/-- A bin begins: what is driven or owned at its boundary has been so in it (R118, R204). -/
def binBegins (d : Dev) : Dev :=
  d.onDrv fun v => v.mapCoils fun _ k => { k with binDrv := k.word.en, binOwn := k.owner.isSome }

/-- A bin boundary: the observations of the bin that ends, and the strobe and the classes of the bin that begins (R114, R118 to R121,
R123). -/
def binBoundary (ms : List BinMeas) (d : Dev) : Dev :=
  let bin := d.phase / 1024
  if bin = d.tb.bin then d
  else
    let old := d.tb.bin
    let d0 := d
    let d := (List.finRange 24).foldl (fun d g => match d0.binValue ms g with
      | some m => d.onTb fun t => t.observe g old m
      | none => d) d
    let m9 := d.mode.cur = .m9 && (d.tb.state = .locked || d.tb.state = .virtual)
    let now := d.now
    binBegins (d.onTb fun t => { t with
      latched := t.classesNow bin, bin := bin, strobe := some now, m9Bins := if m9 then t.m9Bins + 1 else t.m9Bins })

/-- TIMEBASE_CFG (R134, R135). -/
def execTimebaseCfg (tag : Fin 32) (s : State) : Out :=
  onDev s <| begin_ 0x07 tag (fun n => decide (n = 12)) fun c d =>
    let p := c.payload
    let cfg := leAt p 0 4
    let zc := leAt p 4 4
    let fl := byteAt p 8
    let wr := fl.testBit 0
    let wz := fl.testBit 1
    if !zeros p [9, 10, 11] || decide (bits fl 7 4 ≠ 0) || decide (bits cfg 31 27 ≠ 0) || decide (bits zc 31 22 ≠ 0) ||
        (wr && !tbCfgOk cfg) || (wz && decide (bits zc 1 0 = 3)) then fail tag .badParam d
    else
      inMode tag c (fun d =>
        if decide (fl ≠ 0) && decide (d.mode.cur ≠ .m4) && decide (d.mode.cur ≠ .m9) then fail tag .wrongMode d
        else
          let d := d.onTb fun t =>
            let t := if wr then { t with cfg := t.cfg.write cfg } else t
            let t := if wz then { t with zcCfg := t.zcCfg.write zc } else t
            let t := if wr || wz then t.cfgTaken else t
            { t with qmap := Vector.ofFn fun b => if (if b.val = 0 then fl.testBit 2 else fl.testBit 3) then clearBank else t.qmap[b] }
          complete tag .ok (le 4 d.tb.stat ++ le 4 d.tb.freq) d) d

/-- QMAP_READ (R136). -/
def execQmapRead (tag : Fin 32) (s : State) : Out :=
  onDev s <| begin_ 0x92 tag (fun n => decide (n = 2)) fun c d =>
    inMode tag c (fun d =>
      let b := byteAt c.payload 0
      let g := byteAt c.payload 1
      if b > 1 ∨ g > 23 then fail tag .badParam d
      else complete tag .ok ([byteOf b, byteOf g] ++
        (d.tb.qmap[Fin.ofNat 2 b][Fin.ofNat 24 g]).toList.flatMap fun e => le 2 e.word) d) d

end Sys2Proof.Machine
end

