-- ==== Sys2Proof/Machine/Drive.lean ====
section
/-! DEFINITION. Commands of the coil drive: commits, fields, kills, limits and driver faults (chapter 04). -/

namespace Sys2Proof.Machine
open Sys2Proof

/-- The weights in ZEn_TXW0 to ZEn_TXW15 submitted; held while the framer sends, a later set replacing them (R146, R147). -/
def txCommit (n : Fin 24) (d : Dev) : Dev :=
  let ws := usedTx d.tx[n].txw.toList
  let sending := decide (d.hf.fr[n].tx = .sending)
  let now := d.now
  onTxZ n (fun t => if sending then { t with held := some ws } else { t with due := some ws, dueT := now, early := false }) d

/-- A refusal by a rule while the zone opens for an entry: the zone closes and the entry waits again with REASON COILS (R270). -/
def openRefused (n : Fin 24) (d : Dev) : Dev :=
  match d.sf.zone[n].entry with
  | some i => match d.sf.at i with
    | some e => if e.state = .opening then closeZone n 5 none d else d
    | none => d
  | none => d

/-- The submitted weights of zone `n` applied or refused (R146, R152, R161). -/
def applyDue (n : Fin 24) (d : Dev) : Dev :=
  match d.tx[n].due with
  | some ws =>
    let refused := decide (d.ruleCode n ws ≠ 0)
    let d := withRxRoles (applyCommit n ws) (onTxZ n (fun t => { t with due := none }) d)
    if refused then openRefused n d else d
  | none => d

/-- Lower-numbered zones whose commits are due at the same carrier boundary as that of zone `n` (R162). -/
def Dev.dueBelow (d : Dev) (n : Fin 24) : List (Fin 24) :=
  (List.finRange 24).filter fun m => decide (m < n) && (d.tx[m].due).isSome && decide (carrierAfter d.tx[m].dueT = carrierAfter d.tx[n].dueT)

/-- Commits that fall in one cycle are evaluated in ascending zone number: the lower zones' first (R162). -/
def commitApply (n : Fin 24) (d : Dev) : Dev :=
  applyDue n ((d.dueBelow n).foldl (fun d m => onTxZ m (fun t => { t with early := true }) (applyDue m d)) d)

/-- The submitted weights of zone `n` at their carrier boundary (R146, R152, R161, R162); FLD is computed anew from the measured
coil currents in mA (R308). -/
def execCommitApply (n : Fin 24) (cur : List (Fin 192 × Nat)) (s : State) : Out :=
  onDev s fun d =>
    if d.tx[n].due.isSome then (if d.now < carrierAfter d.tx[n].dueT then d else setFld n cur (commitApply n d))
    else if d.tx[n].early then setFld n cur (onTxZ n (fun t => { t with early := false }) d)
    else d

/-- ZEn_TX_CTL.FIELD written (R149, R153); the power-on wait follows the field-on run (R312). -/
def fieldWrite (n : Fin 24) (on : Bool) (d : Dev) : Dev :=
  if on then
    let was := d.tx[n].on
    let d := withRx (fieldOn n) d
    if was || d.killed || !d.mode.cur.surface then d
    else if d.tx[n].on then armPower n d
    else openRefused n d
  else withRx (fieldOff n) d

/-- The present ramp of zone `n` ends, once its carrier cycles have passed; a closing zone gives its coils back (R149, R151, R272). -/
def execFieldRampEnd (n : Fin 24) (s : State) : Out :=
  onDev s fun d => if d.tx[n].rampT + d.tx[n].rampLen ≤ d.now then returnCoils n (withRx (rampEnd n) d) else d

/-- The drive link of Kettle `k` runs: FCLK, FAB and KETk are up (R24, R661). -/
def Dev.linkRuns (d : Dev) (k : Fin 4) : Bool :=
  d.bclk && d.pmu.dom[15].p = .up && d.pmu.dom[Fin.ofNat 49 (44 + k.val)].p = .up

/-- A Kettle fault condition ends, with its DRIVER item (R170, R171). -/
def kettleClear (k : Fin 4) (f : KetFault) (d : Dev) : Dev :=
  pushKetFault k f false (withRx (fun d => rewords (d.onDrv fun v => v.onKet k fun x => x.clear f)) d)

/-- All 48 drive words of Kettle `k` refreshed; the first refresh ends park and a link fault (R24, R145, R170). -/
def execDriveLinkRefresh (k : Fin 4) (s : State) : Out :=
  onDev s fun d =>
    if d.linkRuns k then
      let d := d.onDrv fun v => (v.mapCoils fun c x => if kOf c = k then { x with kword := d.linkWord c } else x).onKet k
        fun x => { x with parked := false, linkOk := true }
      if d.drv.ket[k].linkNow then kettleClear k .link d else d
    else d

/-- The 10 µs re-evaluation with the Kettles' VDRV and temperature, and the measured coil currents in mA (R163, R165,
R308, R309). -/
def execLimiterReeval (ks : Vector (Nat × Int) 4) (cur : List (Fin 192 × Nat)) (s : State) : Out :=
  onDev s fun d =>
    let d := d.onDrv fun v => { v with ket := Vector.ofFn fun k => { v.ket[k] with vdrv := ks[k].1, temp := ks[k].2 } }
    let d := withRx (fun d => rewords (reevalTest (reevalTot ((List.finRange 4).foldl (fun d k => reevalKet k d) d)))) d
    (List.finRange 24).foldl (fun d n => if d.sf.zone[n].state = .opened then easeField n (setFld n cur d) else d) d

/-- Zones that a measurement above a limit concerns (R164). -/
def Dev.overZones (d : Dev) (m : PowerMeas) : List (Fin 24) :=
  d.driving.filter fun n =>
    (m.coils.any fun c => decide (d.drv.coil[c].owner = some n)) ||
    ((List.finRange 4).any fun k => decide (3000 < m.kets[k]) && d.onKettle n k) || decide (10000 < m.tot)

/-- The field of a zone ends at once and the zone closes with cause 5 (R149, R164, R171). -/
def fieldLost (n : Fin 24) (d : Dev) : Dev := closeZone n 5 (some (.fieldLow, 7)) (withRx (fieldStop n) d)

/-- The backstop on an HF test, whose MIN_SCALE is 1 (R80, R83, R164). -/
def Dev.testBackstop (d : Dev) (m : PowerMeas) : Dev :=
  match d.mode.qual with
  | some q =>
    let exceeded := !m.coils.isEmpty || m.kets.toList.any (fun x => decide (3000 < x)) || decide (10000 < m.tot)
    if !q.hf || !exceeded then d
    else if q.scale < 17 then endHfTest true .fieldLow (d.onDrv fun v => { v with measLim := true })
    else rewords ((d.onDrv fun v => { v with measLim := true }).onMode fun x => { x with qual := some { q with scale := q.scale - 16 } })
  | none => d

/-- A measurement of the RF output, with the backstop (R164, R176). -/
def backstop (m : PowerMeas) (d : Dev) : Dev :=
  let d := d.onDrv fun v => { v with meas := min 16383 m.tot, ket := Vector.ofFn fun k => { v.ket[k] with meas := min 4095 m.kets[k] } }
  let zs := d.overZones m
  let d := d.testBackstop m
  if zs = [] then d
  else
    let d := d.onDrv fun v => { v with measLim := true }
    let low := zs.filter fun n => decide (d.tx[n].scale < d.tx[n].minScale + 16)
    let d := withRx (fun d => rewords (zs.foldl (fun d n =>
      txMsg n (onTxZ n (fun t => { t with meas := true, scale := if low.contains n then t.scale else t.scale - 16 }) d)) d)) d
    low.foldl (fun d n => fieldLost n d) d

/-- Measured outputs; above a limit, SCALE falls by 16 (R164). -/
def execBackstopMeasure (m : PowerMeas) (s : State) : Out := onDev s (backstop m)

/-- SC takes the field-off actions of a kill: every zone closes with FIELD_LOW, and an HF test ends (R72, R83, R167, R169). -/
def killZones (d : Dev) : Dev := endHfTest true .fieldLow (closeAll 5 (some (.fieldLow, 7)) d)

/-- FKILL_N held low for 100 ns: bridges off, status, source, and SC closes the zones (R23, R72, R166, R167, R582). -/
def execFkillAssert (s : State) : Out :=
  onDev s fun d =>
    if d.pin.fkill then d
    else
      let d := dropBursts (fun _ => true) (withRx bridgesOff (d.onPin fun p => { p with fkill := true, resumeAt := none }))
      let d := if d.bclk then wakeDom 15 d else d
      killZones (msgSc 0 (msgHost 6 d))

/-- FKILL_N rises: the status bits clear and the bridges stay off (R72, R167). -/
def execFkillDeassert (s : State) : Out :=
  onDev s fun d =>
    let now := d.now
    if d.pin.fkill then d.onPin fun p => { p with fkill := false, resumeAt := some now } else d

/-- 1 ms after FKILL_N rose, probing resumes where the mode permits it (R72, R167). -/
def execProbeResume (s : State) : Out :=
  onDev s fun d => match d.pin.resumeAt with
    | some t => if !d.pin.fkill && decide (msT 1 ≤ d.now - t) then withRx rewords (d.onPin fun p => { p with resumeAt := none }) else d
    | none => d

/-- DRV_CTL.SWKILL written by SC (R169). -/
def swkillWrite (on : Bool) (d : Dev) : Dev :=
  if on then
    if d.drv.swkill then d
    else killZones (msgSc 0 (dropBursts (fun _ => true) (withRx bridgesOff (d.onDrv fun v => { v with swkill := true }))))
  else withRx rewords (d.onDrv fun v => { v with swkill := false })

/-- A Kettle fault: flag, counts, source, item, and the zones whose every driven coil it holds off (R170, R171, R600). -/
def kettleFault (k : Fin 4) (f : KetFault) (d : Dev) : Dev :=
  let held := (List.finRange 24).filter fun n => d.heldOff n
  let d := d.onDrv fun v => { v.onKet k (fun x => x.set f) with ketf := satInc 65535 v.ketf }
  let d := pushKetFault k f true (msgSc 1 d)
  let d := withRx rewords d
  let d := if d.drv.ket[k].off then dropBursts (fun c => decide (kOf c = k)) d else d
  ((List.finRange 24).filter fun n => d.heldOff n && !held.contains n && d.tx[n].on).foldl (fun d n => fieldLost n d) d

/-- An HF test whose coils are all held off ends (R83). -/
def testCheck (d : Dev) : Dev := if d.testDead then endHfTest true .fieldLow d else d

/-- A coil fault or a Kettle fault (R170 to R173). A fault that is not met, or is in effect already, changes nothing; one in a rearm test,
from the cycle of the REARM write on, sets its flag and the coil stays FAULT. -/
def execDriverFault (x : DrvFault) (s : State) : Out :=
  onDev s fun d => match x with
    | .coil c f =>
      if d.drv.coil[c].role = .absent ∨ (d.drv.coil[c].role = .fault ∧ d.drv.coil[c].rearm = false) then d
      else if f = .opn ∧ ¬(d.drv.coil[c].word.en ∧ 32 ≤ d.drv.coil[c].word.amp) then d
      else testCheck (withRx (coilFault c f) d)
    | .kettle k f v t =>
      let d := d.onDrv fun w => w.onKet k fun x => { x with vdrv := v, temp := t }
      if d.drv.ket[k].has f ∨ !f.met v t ∨ (f = .link ∧ d.drv.ket[k].parked) then d else testCheck (kettleFault k f d)

/-- A Kettle fault clears by itself (R170). A link fault clears with DRIVE_LINK_REFRESH's refresh. -/
def execKettleFaultClear (k : Fin 4) (f : KetFault) (vdrv : Nat) (temp : Int) (s : State) : Out :=
  onDev s fun d =>
    let d := d.onDrv fun w => w.onKet k fun x => { x with vdrv := vdrv, temp := temp }
    if d.drv.ket[k].has f && f.ended vdrv temp && (f ≠ .link || d.linkRuns k) then kettleClear k f d else d

/-- The 10 ms monitor scan: coils above twice their calibrated on-resistance fault (R170). -/
def execRonMonitorScan (cs : List (Fin 192)) (s : State) : Out :=
  onDev s fun d => testCheck (cs.foldl (fun d c =>
    if d.drv.coil[c].role = .absent ∨ d.drv.coil[c].role = .fault then d else withRx (coilFault c .ron) d) d)

/-- The burst of a rearm test turns its field on or off: a run on the coil and its neighbours (R172, R199). -/
def rearmRun (c : Fin 192) (d : Dev) : Dev := markAll (d.drv.around [c]) 96 4 d

/-- COIL_STATn.REARM: the flags clear and the test burst starts, unless the coil is latched; in a mode that permits no such field the
write has no effect (R48, R172). -/
def rearm (c : Fin 192) (d : Dev) : Dev :=
  let k := d.drv.coil[c]
  if k.role = .fault ∧ !k.latched ∧ !k.rearm ∧ d.mode.cur.hfAllowed ∧ d.mode.cur ≠ .m3 then
    let now := d.now
    rearmRun c (rewords (d.onDrv fun v => v.onCoil c fun k => { k with oc := false, opn := false, ron := false, rearm := true, rearmT := now }))
  else d

/-- The rearm test burst ends (R172); `oc`, `opn` and `ron` are the faults it found. -/
def execRearmTestEnd (c : Fin 192) (oc opn ron : Bool) (s : State) : Out :=
  onDev s fun d =>
    if !d.drv.coil[c].rearm then d
    else
      let d := rearmRun c d
      if oc || opn || ron then
      let d := if oc then withRx (coilFault c .oc) d else d
      let d := if opn then withRx (coilFault c .opn) d else d
      if ron then withRx (coilFault c .ron) d else d
    else
      withRxRoles (fun d => redrive (d.onDrv fun v => v.onCoil c fun k =>
        { k with rearm := false, role := if k.owner.isSome then .guardDamp else .free })) d

end Sys2Proof.Machine
end

