-- ==== Sys2Proof/Machine/Receive.lean ====
section
/-! DEFINITION. Commands of the receive chain (chapter 05). -/

namespace Sys2Proof.Machine
open Sys2Proof

/-- Words of a channel formed one after the other, each from its ADC samples, newest first (R185 to R189). -/
def formWords (c : Fin 192) (ws : AdcWords) (d : Dev) : Dev := ws.foldl (fun d xs => formChannel c xs d) d

/-- An ADC sample of channel `c` at 0.98 of full scale or more (R192 to R194, R199). -/
def overrange (c : Fin 192) (d : Dev) : Dev :=
  let d := d.onRx fun r => { r with cntOvr := satInc 65535 r.cntOvr }
  let d := markAll [c] 24 5 (onCh c (fun x => { x with ovr := true }) d)
  match d.setOf c with
  | some n =>
    let z := d.rx.zone[n]
    if z.frozen then onZRx n (fun z => { z with clip := true }) d
    else if z.agc = 0 ∧ 0 < z.gain then stepZone n true (z.gain - 1) d
    else d
  | none =>
    let x := d.rx.ch[c]
    if x.saved.isNone ∧ 0 < x.gain then ownStep c (x.gain - 1) d else d

/-- The ADC's full scale (R184). -/
def adcFull : Nat := 8192

/-- An ADC sample `x` of channel `c`; at 0.98 of full scale or more it is an overrange (R192). `ws` gives the ADC samples of the words formed
since the channel's last event (R189). -/
def execAdcOverrange (c : Fin 192) (x : Int) (ws : AdcWords) (s : State) : Out :=
  onDev s fun d =>
    if d.pmu.dom[hfrxDom c].p = .up then
      let d := formWords c ws d
      if 98 * adcFull ≤ 100 * x.natAbs then overrange c d else d
    else d

/-- Largest magnitude of the four ADC samples of each word (R192). -/
def peakOf (ws : AdcWords) : Nat := ((ws.flatMap fun xs => xs.take 4).map Int.natAbs).foldl max 0

/-- The gain loop that channel `c` belongs to has had AGC_WIN valid words since its window began, with `peak` their largest magnitude, of
every member for a receive set (R192, R193, R196). -/
def windowEnd (c : Fin 192) (peak : Nat) (d : Dev) : Dev :=
  let below := decide (16 * peak < d.rx.lowTh * adcFull)
  let now := d.now
  match d.setOf c with
  | some n =>
    let z := d.rx.zone[n]
    if z.agc ≠ 0 ∨ d.validIn (d.members n) z.winT now < d.rx.agcWin then d
    else if z.frozen = false ∧ z.gain < 6 ∧ below = true then stepZone n false (z.gain + 1) d
    else onZRx n (fun z => { z with winT := now }) d
  | none =>
    let x := d.rx.ch[c]
    if x.saved.isSome ∨ d.validIn [c] x.winT now < d.rx.agcWin then d
    else ownStep c (if below && decide (x.gain < 6) then x.gain + 1 else x.gain) d

/-- A gain window ends (R192): the ADC samples of its words, newest first, of channel `c` or of every member of its receive set. -/
def execAgcWindowEnd (c : Fin 192) (ws : List (Fin 192 × AdcWords)) (s : State) : Out :=
  onDev s fun d =>
    if d.alwaysInv c then d
    else windowEnd c ((ws.map fun x => peakOf x.2).foldl max 0) (ws.foldl (fun d x => formWords x.1 x.2 d) d)

/-- ZEn_RX_CTL.AGC and GFIX written; a change to AUTO starts a new window (R20, R195, R209). -/
def agcWrite (n : Fin 24) (agc gfix : Nat) (d : Dev) : Dev :=
  let now := d.now
  let d := onZRx n (fun z => { z with
    agc := if agc < 3 then agc else z.agc, gfix := if gfix < 7 then gfix else z.gfix
    winT := if agc = 0 ∧ z.agc ≠ 0 then now else z.winT }) d
  let z := d.rx.zone[n]
  if z.agc = 2 ∧ z.gain ≠ z.gfix then setZoneGain n z.gfix d else d

/-- RX_CMD.HCLR (R196). -/
def hclr (d : Dev) : Dev := d.onRx fun r => { r with ch := r.ch.map fun x => { x with hvQ := false, hvF := false } }

end Sys2Proof.Machine
end

