-- ==== Sys2Proof/Machine/Lauter.lean ====
section
/-! DEFINITION. Commands of the Lauter correlation fabric (chapter 06). -/

namespace Sys2Proof.Machine
open Sys2Proof

/-- A template of the zone is scored at the present word; `xs` are the words of the combined stream, newest first. A score crosses where it
reaches the threshold; a template that has crossed goes on in the search whatever has become of the window and the threshold
(R220 to R224). -/
def crossing (n : Fin 24) (tid var : Nat) (xs : List Cplx) (d : Dev) : Dev :=
  match tmpl tid with
  | none => d
  | some t =>
    let z := d.lau.zone[n]
    let var := if tid = 14 then var % 3 else 0
    let th := d.threshold n t
    let score := d.score n t var xs
    if !d.lau.lib || !d.runs n t || z.hold || z.due.isSome then d
    else if (z.crossed tid).isNone && (!z.listen || decide (score < th)) then d
    else if 8 * d.validWords n t < 7 * t.span then
      (if (z.crossed tid).isNone then onLz n (fun z => { z with inelig := satInc 255 z.inelig }) d else d)
    else
      let now := d.now
      let x : Cross := { tid := tid, var := var, score := score, th := th, quiet := d.zoneQuiet n, phc := d.phc, tsc := now }
      onLz n (fun z => z.cross x now) d

/-- A template crosses (R222, R223). -/
def execTemplateCrossing (n : Fin 24) (tid var : Nat) (xs : List Cplx) (s : State) : Out := onDev s (crossing n tid var xs)

/-- The peak search of a zone ends: PEAK_WIN words without a new highest score, or 256 words (R223). -/
def execPeakSearchEnd (n : Fin 24) (s : State) : Out :=
  onDev s fun d =>
    let z := d.lau.zone[n]
    let now := d.now
    if z.search ≠ [] ∧ z.due = none ∧ (16 * d.lau.peakWin ≤ now - z.lastMax ∨ 16 * 256 ≤ now - z.firstAt) then
      onLz n (fun z => { z with due := some (now + 64) }) d
    else d

/-- The detection of a search declared: record, gain freeze, hand-off, HOLD, zone timers and the capture run; an ABANDON
in the same cycle abandons the frame (R193, R225 to R228, R602, R622). -/
def declare_ (n : Fin 24) (mag phase frac : Nat) (d : Dev) : Dev :=
  match bestOf d.lau.zone[n].search with
  | none => d
  | some b =>
    let alt := d.lau.zone[n].search.length - 1
    let r (z : LZone) : Det := { tid := b.tid, var := b.var, quiet := b.quiet, score := b.score, th := b.th, seq := z.seq,
                                 phc := b.phc, tscl := b.tsc % 2 ^ 32, mag := mag % 65536, phase := phase % 2048, frac := frac % 8 }
    let d := freezeLoop n d
    let d := onLz n (fun z =>
      let z := z.pushDet (r z)
      { z with hold := true, search := [], due := none, seq := (z.seq + 1) % 16, det := satInc 255 z.det, alt := satAdd 255 z.alt alt }) d
    let d := kilnDet n (onFr n (fun f => { f with
      det := true, demod := some { tid := b.tid, var := b.var, tsc := b.tsc, frac := frac % 8, phase := phase % 2048 } }) d)
    let d := d.onQs fun q => { q with cfg := upd q.cfg n fun c => if c.mode = 2 then { c with runLeft := c.scount } else c }
    let d := msgZone n 0 (startTimers n 2 d)
    if d.hf.fr[n].abandT = some d.now then releaseHold n d else d

/-- A detection is declared 4 words after its search ended (R223, R226); `mag`, `phase` and `frac` are the correlation's. -/
def execDetectionDeclare (n : Fin 24) (mag phase frac : Nat) (s : State) : Out :=
  onDev s fun d => match d.lau.zone[n].due with
    | some t => if t ≤ d.now then declare_ n mag phase frac d else d
    | none => d

/-- LZn_DPOP (R227). -/
def dpop (n : Fin 24) (d : Dev) : Dev := onLz n (fun z => { z with dets := z.dets.drop 1 }) d

/-- Engines granted to the request at the head of the waiting order (R233, R234). -/
def execEngineGrant (s : State) : Out := onDev s grantHead

/-- LAU_CFG.PROBE_ENG written (R20, R234): idle engines above a lower value go at once, the others when their bursts end. -/
def probeEngWrite (v : Nat) (d : Dev) : Dev :=
  if 2 ≤ v ∧ v ≤ 8 then judgeWaits (trimProbe (serveProbe (d.onLau fun l => { l with probeEng := v }))) else d

end Sys2Proof.Machine
end

