-- ==== Sys2Proof/Machine/Mem.lean ====
section
/-! DEFINITION. Byte memories in their canonical form: addresses strictly rising, no entry equal to what an unlisted address
reads as. -/

namespace Sys2Proof.Machine
open Sys2Proof

/-- The byte at an address of a memory whose unlisted addresses read `dflt`. -/
def memRead (dflt : Byte) (a : Nat) : List Host.Cell → Byte
  | [] => dflt
  | (b, v) :: rest => if a = b then v else memRead dflt a rest

/-- The memory with one byte written. -/
def memWrite (dflt : Byte) (a : Nat) (v : Byte) : List Host.Cell → List Host.Cell
  | [] => if v = dflt then [] else [(a, v)]
  | (b, w) :: rest =>
    if a < b then (if v = dflt then (b, w) :: rest else (a, v) :: (b, w) :: rest)
    else if a = b then (if v = dflt then rest else (a, v) :: rest)
    else (b, w) :: memWrite dflt a v rest

/-- Bytes written from address `a` on. -/
def memWrites (dflt : Byte) : Nat → List Byte → List Host.Cell → List Host.Cell
  | _, [], m => m
  | a, v :: vs, m => memWrites dflt (a + 1) vs (memWrite dflt a v m)

/-- `n` bytes read from address `a` on. -/
def memReads (dflt : Byte) (m : List Host.Cell) (a n : Nat) : List Byte := (List.range n).map fun i => memRead dflt (a + i) m

/-- The addresses from the head on are above `lo`, rising, each with a byte other than `dflt`. -/
def memWfFrom (dflt : Byte) : Option Nat → List Host.Cell → Bool
  | _, [] => true
  | lo, (a, v) :: rest =>
    (match lo with
      | some b => decide (b < a)
      | none => true) && decide (v ≠ dflt) && memWfFrom dflt (some a) rest

/-- The canonical form of a memory. -/
def Memory.wf (dflt : Byte) (m : List Host.Cell) : Bool := memWfFrom dflt none m

/-- What an unlisted byte of SRAM reads as (DESIGN CHOICE, log entry 6). -/
def sramDflt : Byte := 0

/-- What an erased byte of flash reads as (log entry 6). -/
def flashDflt : Byte := 0xFF

/-- Both memories keep their canonical form. -/
def State.memWf (s : State) : Bool := Memory.wf sramDflt s.sram && Memory.wf flashDflt s.flash

/-- SRAM, 6 MiB (R34). -/
def sramBase : Nat := 0x10000000

/-- The bytes from `a` on lie in SRAM (R34). -/
def inSram (a n : Nat) : Bool := decide (sramBase ≤ a) && decide (a + n ≤ sramBase + 0x600000)

end Sys2Proof.Machine
end

