-- ==== Sys2Proof/Machine/NvmOps.lean ====
section
/-! DEFINITION. The flash controller, the journal, sectors, records, images and their verification (chapter 21). -/

namespace Sys2Proof.Machine
open Sys2Proof

/-- Bytes of a sector (R709). -/
def sectorBytes : Nat := 8192

/-- A logical sector. -/
def sectNo (n : Nat) : Fin 248 := Fin.ofNat 248 n

/-- Place in the flash of a byte of a logical sector (R709). -/
def Nvm.place (v : Nvm) (sector off : Nat) : Nat := (v.sect[sectNo sector]).phys * sectorBytes + off

/-- DEGRADED (R713, R721). -/
def Nvm.degraded (v : Nvm) : Bool := v.sect.toList.any Sector.bad

/-- A logical sector is BAD (R713). -/
def Nvm.isBad (v : Nvm) (s : Nat) : Bool := (v.sect[sectNo s]).bad

/-- The bytes of a physical sector erased (R709). -/
def memErase (lo n : Nat) (m : List Host.Cell) : List Host.Cell := m.filter fun c => decide (c.1 < lo) || decide (lo + n ≤ c.1)

/-- `n` bytes of the area that begins at logical sector `base`, from byte `off` on (R709). -/
def Nvm.read (v : Nvm) (flash : List Host.Cell) (base off n : Nat) : List Byte :=
  (List.range n).map fun i =>
    let a := off + i
    memRead flashDflt (v.place (base + a / sectorBytes) (a % sectorBytes)) flash

/-- The 16 bytes of a journal record (R709). -/
def JRec.bytes (r : JRec) : List Byte :=
  let b := [byteOf r.typ, byteOf r.arg] ++ le 2 r.sector ++ le 4 r.seq ++ le 4 r.data
  b ++ le 4 (crc32 (nums b))

/-- Byte `off` of a journal sector, logical sector 1 where `other`; a place without a record is erased (R709). -/
def Nvm.jByte (v : Nvm) (other : Bool) (off : Nat) : Byte :=
  match (if other = v.jOther then v.jrec else v.jold)[off / 16]? with
  | some r => r.bytes[off % 16]?.getD 0xFF
  | none => 0xFF

/-! Events (R721, R723) -/

/-- A bit of FL_EVT has been set: the message of source 13 (R580, R721). -/
def flMsg (d : Dev) : Dev := msgSc 13 d

/-- A SYSTEM item of this chapter (R723). -/
def pushFlash (evt a b : Nat) (d : Dev) : Dev := pushSystem 3 evt (le 2 a ++ le 4 b) d

/-! Journal (R709) -/

/-- A record appended to the active journal sector (R709). -/
def Nvm.jPut (v : Nvm) (r : JRec) : Nvm := { v with jrec := v.jrec ++ [{ r with seq := v.jseq }], jseq := (v.jseq + 1) % 2 ^ 32 }

/-- The controller goes on in the other journal sector: its erase is recorded in the two places left, and the saved state comes first
in it (R709; log entry 41). -/
def Nvm.jTurn (v : Nvm) : Nvm :=
  let p := v.sect[sectNo (b2n !v.jOther)].phys
  let v := (v.jPut { typ := 1, sector := p }).jPut { typ := 2, sector := p, data := (Config.jErase v.jseq).toNat }
  let v := { v with jOther := !v.jOther, jold := v.jrec, jrec := [] }
  (List.range Config.snapWords).foldl (fun v i => v.jPut { typ := 6, data := (Config.snapData v.jseq i).toNat }) v

/-- A record written to the journal; with two places left the controller first goes on in the other sector (R709). -/
def jWrite (r : JRec) (d : Dev) : Dev := d.onNvm fun v => (if 510 ≤ v.jrec.length then v.jTurn else v).jPut r

/-- Code of a slot state (R707). -/
def FwSlot.code : FwSlot → Nat
  | .empty => 0 | .written => 1 | .pending => 2 | .trial => 3 | .active => 4 | .standby => 5 | .failed => 6

/-- Code of a module state (R715). -/
def ModSt.code : ModSt → Nat
  | .absent => 0 | .committed => 1 | .loaded => 2 | .running => 3 | .stopped => 4 | .faulted => 5

/-- State of a slot written to the journal (R707, R708). -/
def setSlot (b : Bool) (st : FwSlot) (d : Dev) : Dev :=
  jWrite { typ := 4, arg := b2n b, data := st.code } (d.onNvm fun v => if b then { v with slotB := st } else { v with slotA := st })

/-- State of a slot (R707). -/
def Nvm.slot (v : Nvm) (b : Bool) : FwSlot := if b then v.slotB else v.slotA

/-- Change of one module. -/
def onModule (m : Fin 63) (f : Module → Module) (d : Dev) : Dev := d.onNvm fun v => { v with mods := upd v.mods m f }

/-- A module changed, with its state written to the journal (R709). -/
def putModule (m : Fin 63) (f : Module → Module) (d : Dev) : Dev :=
  jWrite { typ := 5, arg := m.val, data := (f d.nvm.mods[m]).st.code } (onModule m f d)

/-- State of a module written to the journal (R709). -/
def setModule (m : Fin 63) (st : ModSt) (d : Dev) : Dev := putModule m (fun x => { x with st := st }) d

/-! Areas (R709, R715) -/

/-- First logical sector of a slot (R709). -/
def slotBase (b : Bool) : Nat := if b then 92 else 2

/-- Sectors of an area of `n` bytes. -/
def sectorsFor (n : Nat) : Nat := (n + sectorBytes - 1) / sectorBytes

/-- Sectors of the module area that are taken, by modules other than `m` (R715). -/
def Nvm.taken (v : Nvm) (m : Fin 63) (s : Nat) : Bool :=
  (List.finRange 63).any fun k =>
    let x := v.mods[k]
    decide (k ≠ m) && decide (x.sect ≤ s) && decide (s < x.sect + x.nsect)

/-- First-fit place of `n` contiguous sectors for module `m`; BAD sectors are skipped (R713, R715). -/
def Nvm.allocate (v : Nvm) (m : Fin 63) (n : Nat) : Option Nat :=
  ((List.range 50).map (· + 182)).find? fun s =>
    decide (s + n ≤ 232) && (List.range n).all fun i => !v.isBad (s + i) && !v.taken m (s + i)

/-! Headers and verification (R705, R706) -/

/-- FORMAT (R706, check 1) of a header for a KIND. -/
def formatOk (kind : Nat) (h : List Byte) : Bool :=
  let len := leAt h 12 4
  decide (192 ≤ h.length) && decide (h.take 5 = [0x4B, 0x57, 0x49, 0x4D, 0x01]) && decide (byteAt h 5 = kind) &&
  (if kind = 1 then decide (byteAt h 6 ≤ 1) && decide (len ≤ 737088) else decide (byteAt h 6 = 2) && decide (len ≤ 409408)) &&
  decide (1 ≤ len) && decide (len % 4 = 0) && decide (byteAt h 17 < 2) && zerosAt h [18, 19, 28, 29, 30, 31]
where
  /-- bytes that must be 0 -/
  zerosAt (h : List Byte) (l : List Nat) : Bool := l.all fun i => decide (byteAt h i = 0)

/-- RESULT of R706 for a header and a body. -/
def Dev.verify (d : Dev) (kind : Nat) (h body : List Byte) : Nat :=
  let pub := nums ((h.drop 64).take 64)
  let key : Option (List Nat) := match byteAt h 6 with
    | 0 => if d.nvm.kh0Rev then none else some (be 32 d.nvm.kh0.toNat)
    | 1 => some (be 32 d.nvm.kh1.toNat)
    | _ => d.key.ih
  let sigOk := match ecPoint pub with
    | some q => ecdsaVerify q (sha256 (nums (h.take 128))) (nums ((h.drop 128).take 64))
    | none => false
  if !formatOk kind h then 2
  else if nums ((h.drop 32).take 32) ≠ sha256 (nums body) then 3
  else if key ≠ some (sha256 pub) then 4
  else if !sigOk then 5
  else if byteAt h 7 < (if kind = 1 then d.nvm.svnFw else d.nvm.svnMod) then 6
  else 0

/-- The header of the image in an area. -/
def State.header (s : State) (base : Nat) : List Byte := s.dev.nvm.read s.flash base 0 192

/-- RESULT of R706 for the image in an area. -/
def State.verifyAt (s : State) (kind base : Nat) : Nat :=
  let h := s.header base
  if !formatOk kind h then 2 else s.dev.verify kind h (s.dev.nvm.read s.flash base 192 (leAt h 12 4))

/-! Work of the controller (R709 to R713) -/

/-- The operation at the head starts; an erase is preceded by its ERASE_BEGIN (R709). -/
def flStart (d : Dev) : Dev :=
  match d.nvm.jobs with
  | { ops := .erase s :: _, .. } :: _ =>
    let p := (d.nvm.sect[sectNo s]).phys
    jWrite { typ := 1, sector := p } (d.onNvm fun v => { v with begun := some (p, s) })
  | _ => d

/-- Places of a record type: its two sectors (R709, R711). -/
def recSector (typ : Fin 6) (second : Bool) : Nat := 232 + 2 * typ.val + b2n second

/-- The sector that the next write of a record type takes: the one that does not hold the valid record; with one BAD sector, the
other alone (R711, R713). -/
def Nvm.recTarget (v : Nvm) (typ : Fin 6) : Bool :=
  let next := match v.recs[typ] with
    | some r => !r.second
    | none => false
  if v.isBad (recSector typ next) then !next else next

/-- A command's reply with the SEQ of the record where its form has one (R719). -/
def recReply (opc seq : Nat) (p : List Byte) : List Byte := if opc = 0x0E then p ++ le 4 seq else p

/-- SEQ of the next record of a type (R711). -/
def Nvm.nextSeq (v : Nvm) (typ : Fin 6) : Nat :=
  match v.recs[typ] with
  | some r => (r.seq + 1) % 2 ^ 32
  | none => 1

/-- The command that waits for the controller completes; one that has completed already gets nothing more (R518). -/
def flComplete (tag : Fin 32) (st : Status) (payload : List Byte) (d : Dev) : Dev :=
  match d.cmd tag with
  | some c => if c.phase = .flash then complete tag st payload d else d
  | none => d

/-- The same for work whose command may have gone. -/
def flCompleteO (tag : Option (Fin 32)) (st : Status) (payload : List Byte) (d : Dev) : Dev :=
  match tag with
  | some t => flComplete t st payload d
  | none => d

/-- Work without the command that waited for it (R518). -/
def FWho.without (tag : Fin 32) : FWho → FWho
  | .image t => .image (if t = some tag then none else t)
  | .record typ data t reply => .record typ data (if t = some tag then none else t) reply
  | .spare => .spare

/-- A command that waits for the controller is let go; the work goes on (R518). -/
def detach (tag : Fin 32) (d : Dev) : Dev :=
  d.onNvm fun v => { v with jobs := v.jobs.map fun j => { j with who := j.who.without tag } }

/-- The last operation of some work has ended (R711, R716). -/
def flEnd (w : FWho) (d : Dev) : Dev :=
  match w with
  | .image tag =>
    match d.nvm.sess with
    | some x => flCompleteO tag .ok (le 4 x.next ++ [byteOf x.count, if x.module.isSome then 0xFF else byteOf (b2n x.slotB), 0, 0]) d
    | none => d
  | .record typ data tag reply =>
    let seq := d.nvm.nextSeq typ
    let d := d.onNvm fun v => { v with recs := upd v.recs typ fun _ => some { seq := seq, second := v.recTarget typ, data := data } }
    let d := if typ = 4 then d.onKiln fun k => { k with recordOk := true } else d
    match tag with
    | some t => match d.cmd t with
      | some c => flComplete t .ok (recReply c.opc seq reply) d
      | none => d
    | none => d
  | .spare => d

/-- The controller goes on: work without further operations ends, and the next operation starts. -/
def flNext : Nat → Dev → Dev
  | 0, d => d
  | k + 1, d =>
    match d.nvm.jobs with
    | { ops := [], who := w } :: rest => flNext k (flEnd w (d.onNvm fun v => { v with jobs := rest }))
    | _ => flStart d

/-- Work handed to the controller (R710: one operation at a time). -/
def flPush (j : FJob) (d : Dev) : Dev :=
  let idle := d.nvm.jobs.isEmpty
  let d := d.onNvm fun v => { v with jobs := v.jobs ++ [j] }
  if idle then flNext 64 d else d

/-- Bytes of the data of a record, for its length only; the manual gives the layout table alone a byte format (R711; log entry
42). -/
def recBytes : RecData → List Byte
  | .layout b => b
  | _ => []

/-- A record's write (R711). -/
def recOps (typ : Fin 6) (data : RecData) (v : Nvm) : List FOp :=
  let s := recSector typ (v.recTarget typ)
  let b := recBytes data
  let h := [byteOf (typ.val + 1), 0x01] ++ le 2 b.length ++ le 4 (v.nextSeq typ)
  [.erase s, .prog s 0 (h ++ le 4 (crc32 (nums (h ++ b))) ++ b)]

/-- A record written, with the command that it completes (R711). -/
def writeRec (typ : Fin 6) (data : RecData) (tag : Option (Fin 32)) (reply : List Byte) (d : Dev) : Dev :=
  let d := match tag with
    | some t => onCmd t (fun c => { c with phase := .flash }) d
    | none => d
  flPush { ops := recOps typ data d.nvm, who := .record typ data tag reply } d

/-- A sector retired: mapped to the lowest-numbered free spare, or BAD without one (R713). -/
def retire (s : Nat) (d : Dev) : Dev :=
  let i := sectNo s
  let old := (d.nvm.sect[i]).phys
  match d.nvm.spares with
  | p :: rest =>
    let d := d.onNvm fun v => { v with
      spares := rest, sect := upd v.sect i fun x => { x with phys := p }, evRetired := true, retired := satInc 255 v.retired }
    pushFlash 1 s old (flMsg (jWrite { typ := 3, sector := old, data := s } d))
  | [] =>
    let d := d.onNvm fun v => { v with sect := upd v.sect i fun x => { x with bad := true }, evSpareOut := true }
    pushFlash 2 s old (flMsg d)

/-- IMAGE_WRITE ends with PARTIAL: NEXT is the start of the sector (R716). -/
def imagePartial (tag : Option (Fin 32)) (s : Nat) (d : Dev) : Dev :=
  match d.nvm.sess with
  | some x =>
    let next := (s - x.base) * sectorBytes
    let d := d.onNvm fun v => { v with sess := some { x with next := next } }
    flCompleteO tag .partly (le 4 next ++ [byteOf x.count, if x.module.isSome then 0xFF else byteOf (b2n x.slotB), 0, 0]) d
  | none => d

/-- The work at the head loses its sector for good, or must be done again after a failed program (R713). -/
def flFail (s : Nat) (w : FWho) (d : Dev) : Dev :=
  let bad := d.nvm.isBad s
  let d := d.onNvm fun v => { v with jobs := v.jobs.drop 1 }
  let spare : List FJob := if bad then [] else [{ ops := [.erase s], who := .spare }]
  match w with
  | .image tag =>
    let d := d.onNvm fun v => { v with jobs := spare ++ v.jobs }
    flNext 64 (imagePartial tag s d)
  | .record typ data tag reply =>
    let t := d.nvm.recTarget typ
    if d.nvm.isBad (recSector typ t) then
      flNext 64 (match tag with
        | some x => flComplete x .internal [] d
        | none => d)
    else
      let job : FJob := { ops := recOps typ data d.nvm, who := .record typ data tag reply }
      flNext 64 (d.onNvm fun v => { v with jobs := spare ++ [job] ++ v.jobs })
  | _ => flNext 64 (d.onNvm fun v => { v with jobs := spare ++ v.jobs })

/-- A record whose sector is erased for its own rewrite is gone until that has ended (R713). -/
def dropRec (sec : Nat) (v : Nvm) : Nvm :=
  { v with recs := Vector.ofFn fun t => (v.recs[t]).map fun r => if recSector t r.second = sec then { r with lost := true } else r }

/-- g_s of an erase of `us` µs of a physical sector, 1,000 = 1.0 (R679, R721; rounded down: log entry 45). -/
def Nvm.growthOf (v : Nvm) (phys us : Nat) : Nat := min 65535 (us * 1000 / max 1 v.eraseBase[Fin.ofNat 256 phys])

/-- The erase at the head has ended after `us` µs: verified where `ok`, and in time within 4 × the sector's first erase (R709, R712, R713,
R721). -/
def eraseDone (ok : Bool) (us : Nat) (s : State) : State :=
  match s.dev.nvm.jobs with
  | { ops := .erase sec :: rest, who := w } :: others =>
    let i := sectNo sec
    let p := (s.dev.nvm.sect[i]).phys
    let lo := s.dev.nvm.place sec 0
    let ok := ok && decide (us ≤ 4 * s.dev.nvm.eraseBase[Fin.ofNat 256 p])
    let g := s.dev.nvm.growthOf p us
    let d := s.dev.onNvm fun v => { dropRec sec v with begun := none }
    let d := if ok then (jWrite { typ := 2, sector := p, data := us } d).onNvm fun v => { v with sect := upd v.sect i fun x => { x with growth := g } }
      else d.onNvm fun v => { v with eraseFail := satInc 255 v.eraseFail }
    let d :=
      if ok ∧ g < 3000 then
        flNext 64 (d.onNvm fun v => { v with jobs := { ops := rest, who := w } :: others })
      else
        let d := retire sec d
        if d.nvm.isBad sec then flFail sec w d else flStart d
    { s with dev := d, flash := memErase lo sectorBytes s.flash }
  | _ => s

/-- The program at the head has ended, and is verified where `ok` (R712, R713). -/
def programDone (ok : Bool) (s : State) : State :=
  match s.dev.nvm.jobs with
  | { ops := .prog sec off data :: rest, who := w } :: others =>
    if ok then
      { s with
        dev := flNext 64 (s.dev.onNvm fun v => { v with jobs := { ops := rest, who := w } :: others })
        flash := memWrites flashDflt (s.dev.nvm.place sec off) data s.flash }
    else
      { s with dev := flFail sec w (retire sec (s.dev.onNvm fun v => { v with progFail := satInc 255 v.progFail })) }
  | _ => s

/-- A field whose Reset is cal: 0 until boot has loaded it (R13). -/
def Nvm.cal (v : Nvm) (n : Nat) : Nat := if v.scanned then n else 0

/-- FL_STAT (R721). -/
def Nvm.flStat (v : Nvm) : Nat :=
  let op : Nat × Nat := match v.jobs with
    | { ops := .erase s :: _, .. } :: _ => (1, s)
    | { ops := .prog s _ _ :: _, .. } :: _ => (2, s)
    | _ => (0, 0)
  b2n (decide (op.1 ≠ 0)) + 2 * op.1 + 8 * op.2 + v.cal (2048 * v.spares.length + 2 ^ 15 * b2n v.degraded)

/-- BOOT_HSTAT (R722). -/
def Nvm.bootHstat (v : Nvm) : Nat :=
  v.cal (v.rstCause + 8 * b2n v.bootedB + 16 * v.slotA.code + 128 * v.slotB.code) + 1024 * v.failCode + 2 ^ 14 * b2n v.monitor +
  2 ^ 15 * b2n v.fallback + v.cal (65536 * v.spares.length + 2 ^ 20 * b2n v.degraded)

end Sys2Proof.Machine
end

