-- ==== Sys2Proof/Machine/KilnOps.lean ====
section
/-! DEFINITION. Kiln: measurements, margins, levers, history and forecasts (chapter 20). -/

namespace Sys2Proof.Machine
open Sys2Proof

/-- A message for SC each time a bit of KILN_EVT is set (R580, R699). -/
def kilnMsg (d : Dev) : Dev := msgSc 11 d

/-- A Kiln day, in seconds of KSEC (R680). -/
def dayS : Nat := 86400

/-- Domain of a ring-oscillator pair (R661, R679; the places of the MEM and HFRX pairs are the model's: log entry 44). -/
def pairDom (p : Fin 48) : Fin 49 :=
  let i := p.val
  if i < 8 then 1
  else if i < 12 then Fin.ofNat 49 (2 + 3 * (i - 8))
  else if i < 14 then 14
  else if i < 22 then 15
  else if i < 38 then Fin.ofNat 49 (16 + (i - 22) / 4)
  else if i < 46 then Fin.ofNat 49 (20 + 3 * (i - 38))
  else 48

/-- 20 log10 of `a` / `b` in 0.01 dB, rounded down; 0 for a ratio up to 1 (R682; log entry 45). -/
def dB (a b : Nat) : Nat := if a ≤ b then 0 else bsearch (fun n => decide (10 ^ n * b ^ 2000 ≤ a ^ 2000)) 14 0

/-! The quantities of R684 -/

/-- D, in 0.01 %: none while no pair has been measured (R679). -/
def Kiln.dMax (k : Kiln) : Option Nat :=
  let l := k.pairs.toList.filter KPair.valid
  if l.isEmpty then none else some ((l.map fun p => p.deg.toNat).foldl max 0)

/-- ΔREF, in 0.01 % (R679). -/
def Kiln.dRef (k : Kiln) : Option Nat :=
  let l := k.refs.toList.filterMap id
  if l.isEmpty then none else some ((l.map Int.natAbs).foldl max 0)

/-- GUARD_REQ, in mV (R685). -/
def guardReq (dmax : Nat) : Nat := min 60 (5 * ((dmax - 300 + 24) / 25))

/-- The array value of a quantity: the ninth-largest among coils with BASE, or the largest of fewer (R683). -/
def Kiln.array (k : Kiln) (f : KCoil → Nat) : Option Nat :=
  let l := ((k.coil.toList.filter KCoil.base).map f).mergeSort (fun a b => decide (b ≤ a))
  if l.length < 9 then l.head? else l[8]?

/-- KADJ_REQ (R687): none before the first reference measurement (R694). -/
def Kiln.kadjReq (k : Kiln) : Option Nat := k.kaRef.map fun r => min 64 (k.kaFd + r)

/-- G, 1,000 = 1.0 (R679). -/
def Nvm.growth (v : Nvm) : Nat := (v.sect.toList.map Sector.growth).foldl max 1000

/-- MARGIN of a quantity between its new value and its floor, in 0.1 % (R684). -/
def marginOf (x new floor : Nat) : Int := max (-1000) (min 1000 (1000 * ((floor : Int) - x) / ((floor : Int) - new)))

/-- The seven margins (R684). -/
def Dev.margins (d : Dev) : Vector (Option Int) 7 :=
  let k := d.kiln
  #v[k.dMax.map fun x => marginOf (guardReq x) 0 60, k.dMax.map fun x => marginOf x 0 900,
     (k.array KCoil.ld).map fun x => marginOf x 0 300, (k.array KCoil.le).map fun x => marginOf x 0 400,
     k.kadjReq.map fun x => marginOf x 0 64, k.dRef.map fun x => marginOf x 0 300, some (marginOf d.nvm.growth 1000 3000)]

/-! Forecast (R691) -/

/-- DAYS of margin `m` (R691). -/
def Kiln.forecast (k : Kiln) (m : Nat) (now : Option Int) : Nat :=
  let pts : List (Int × Int) := k.hist.filterMap fun h => ((h.margins[m]?).getD none).map fun y => ((h.day : Int), y)
  let n : Int := pts.length
  let first := (pts.head?.map (·.1)).getD 0
  let last := (pts.getLast?.map (·.1)).getD 0
  let sd := (pts.map (·.1)).sum
  let sy := (pts.map (·.2)).sum
  let sdd := (pts.map fun p => p.1 * p.1).sum
  let sdy := (pts.map fun p => p.1 * p.2).sum
  let num := n * sdy - sd * sy
  let den := n * sdd - sd * sd
  if pts.length < 8 ∨ last - first < 7 then 0xFFFE
  else match now with
    | none => 0xFFFE
    | some y => if y ≤ 0 then 0 else if 0 ≤ num then 0xFFFF else min 65533 ((y * den) / (-num)).toNat

/-! Items and states (R692, R698) -/

/-- The lever value of a margin (R684, R697). -/
def Dev.lever (d : Dev) (m : Nat) : Int := if m = 0 then d.pmu.guard else if m = 3 then d.hf.kwadj else if m = 4 then d.lau.kadj else 0

/-- MARGIN as registers and items carry it (R699). -/
def marginCode (x : Option Int) : Nat :=
  match x with
  | some y => twos 16 y
  | none => 0x8000

/-- A KILN item (R698). -/
def pushKiln (evt m : Nat) (d : Dev) : Dev :=
  let x : KMargin := if h : m < 7 then d.kiln.margin[m] else {}
  pushPt 11 ([byteOf evt, byteOf m, byteOf x.state, byteOf (if evt = 2 then twos 8 (d.lever m) else 0)] ++
    le 2 (marginCode x.margin) ++ le 2 x.days ++ le 4 d.phc) d

/-- STATE of a margin (R692). -/
def KMargin.eval (x : KMargin) (warnDays : Nat) : Nat :=
  match x.margin with
  | none => 0
  | some y => if y ≤ 0 then 3 else if y ≤ 100 ∨ x.days ≤ warnDays then 2 else 1

/-- STATE of one margin evaluated, with its event and its item (R692). -/
def evalState (d : Dev) (m : Fin 7) : Dev :=
  let x := d.kiln.margin[m]
  let st := x.eval d.kiln.cfg.warnDays
  if st = x.state then d
  else
    let d := d.onKiln fun k => { k with
      margin := upd k.margin m fun y => { y with state := st }, evState := k.evState ||| BitVec.ofNat 7 (2 ^ m.val) }
    pushKiln 1 m.val (kilnMsg d)

/-- Margins formed again, with DAYS too where `days` says so (R684, R691, R692). -/
def formMargins (days : Bool) (d : Dev) : Dev :=
  let ms := d.margins
  let d := d.onKiln fun k => { k with margin := Vector.ofFn fun i =>
    { k.margin[i] with margin := ms[i], days := if days then k.forecast i.val ms[i] else (k.margin[i]).days } }
  (List.finRange 7).foldl evalState d

/-! Levers (R685 to R687) -/

/-- A lever written (R698, R699). -/
def leverWritten (m : Nat) (d : Dev) : Dev := pushKiln 2 m (kilnMsg (d.onKiln fun k => { k with evLever := true }))

/-- GUARD raised to GUARD_REQ, at boot to the recorded GUARD `floor` where that is larger, and the time since which it could be lowered
(R685, R694). -/
def setGuard (floor : Nat) (d : Dev) : Dev :=
  match d.kiln.dMax with
  | none => d
  | some x =>
    let req := guardReq x
    let now := d.kiln.ksec
    let aim := max req floor
    let raise := decide (d.pmu.guard < aim)
    let d := if raise then leverWritten 0 (d.onPmu fun p => { p with guard := aim }) else d
    let low := decide (req + 10 ≤ d.pmu.guard)
    d.onKiln fun k => { k with lowAt := if low then some (k.lowAt.getD now) else none }

/-- KWADJ written from L_E (R686). -/
def setKwadj (d : Dev) : Dev :=
  let v := match d.kiln.array KCoil.le with
    | some l => min 40 ((l + 5) / 10)
    | none => 0
  if v = d.hf.kwadj then d else leverWritten 3 (d.onHf fun h => { h with kwadj := v })

/-- LAU_KADJ written, at most once per 60 s (R687). -/
def setKadj (d : Dev) : Dev :=
  match d.kiln.kadjReq with
  | none => d
  | some v =>
    let now := d.kiln.ksec
    let wait : Bool := match d.kiln.kadjAt with
      | some t => decide (now < t + 60)
      | none => false
    if decide ((v : Int) = d.lau.kadj) || wait then d
    else leverWritten 4 ((d.onLau fun l => { l with kadj := v }).onKiln fun k => { k with kadjAt := some now })

/-! Measurements (R678, R679) -/

/-- DEG_p of a pair from the frequencies of its stressed and its unstressed oscillator and its fused baseline, 0.01 %, rounded down
(R679; log entry 45). -/
def degOf (f : Nat × Nat) (base : Int) : Int := (10000 * ((f.2 : Int) - f.1)) / (f.2 : Int) - base

/-- ΔREF_g of a monitor's reading against the fused value, 0.01 %, rounded down (R679; log entry 45). -/
def refOf (m fused : Nat) : Int := (10000 * ((m : Int) - fused)) / (fused : Int)

/-- The ring-oscillator pairs measured: a pair whose domain is down keeps its result, marked stale (R678, R679). -/
def takePairs (fs : Vector (Nat × Nat) 48) (d : Dev) : Dev :=
  let now := d.kiln.ksec
  d.onKiln fun k => { k with roAt := now, pairs := Vector.ofFn fun p =>
    if (d.pmu.dom[pairDom p]).p = .up then { deg := degOf fs[p] d.nvm.pairBase[p], valid := true, stale := false }
    else { k.pairs[p] with stale := true } }

/-- The converter references measured, and KA_REF from them (R679, R687). -/
def takeRefs (ms : Vector Nat 24) (d : Dev) : Dev :=
  let now := d.kiln.ksec
  let d := d.onKiln fun k => { k with refAt := now, refs := Vector.ofFn fun g =>
    if (d.pmu.dom[Fin.ofNat 49 (20 + g.val)]).p = .up then some (refOf ms[g] d.nvm.refBase[g]) else k.refs[g] }
  d.onKiln fun k => { k with kaRef := match k.dRef with
    | some r => some (2 * (r / 50))
    | none => k.kaRef }

/-- L_D of a coil after its hourly on-resistance (R682). -/
def KCoil.lossD (x : KCoil) (rLoad : Nat) : Nat := dB x.ib x.ic + dB (10 * rLoad + (x.ron - x.ronS)) (10 * rLoad)

/-- A coil surveyed, from its current in mA, the sum of |V_j| over `n` valid neighbour lanes in cu, the phase of the current in 1/2,048
cycle and the VDRV of its Kettle: I_c is scaled to the VDRV of the baseline (R682; rounding: log entry 45). -/
def KCoil.survey (x : KCoil) (rLoad cur sum n : Nat) (ph : Int) (vdrv : Nat) : KCoil :=
  let vb := if x.base then x.vb else vdrv
  let ic := cur * vb / max 1 vdrv
  let ec := sum * 2 ^ 20 / max 1 (n * cur)
  let ph := ph * 720 / 2048
  let x : KCoil := { x with skipped := false, ic := ic, ronS := x.ron }
  let x : KCoil := if x.base then { x with le := dB x.eb ec, ph := ph - x.phb }
    else { x with base := true, vb := vb, ib := ic, eb := ec, phb := ph, ronB := x.ron, le := 0, ph := 0 }
  { x with ld := x.lossD rLoad }

/-- Coils whose calibration has changed lose their baseline (R691). -/
def kilnUncal (cs : List (Fin 192)) (d : Dev) : Dev :=
  let d := d.onKiln fun k => { k with coil := cs.foldl (fun v c => upd v c fun x => { x with base := false }) k.coil }
  formMargins false (setKwadj d)

/-- The Kiln record of the present state (R690). -/
def Dev.kilnRec (d : Dev) : KilnRec :=
  { hist := d.kiln.hist, coil := d.kiln.coil, kaFd := d.kiln.kaFd, guard := d.pmu.guard, ksec := d.kiln.ksec }

/-- DAYS_MIN (R696, R700). -/
def Kiln.daysMin (k : Kiln) : Nat :=
  ((k.margin.toList.filter fun m => m.margin.isSome).map KMargin.days).foldl min 0xFFFF |> fun x =>
    if k.margin.toList.all (fun m => m.margin.isNone) then 0xFFFE else x

/-- SDAYS (R699). -/
def Kiln.sdays (k : Kiln) : Nat :=
  match k.surveyAt with
  | some t => min 65535 ((k.ksec - t) / dayS)
  | none => 65535

/-- KILN_SUM (R700). -/
def Kiln.sum (k : Kiln) : Nat :=
  let m (f : Nat → Bool) : Nat := ((List.finRange 7).map fun i => b2n (f (k.margin[i]).state) * 2 ^ i.val).sum
  m (fun s => decide (2 ≤ s)) + 128 * b2n k.due + 256 * m (fun s => decide (s = 3)) + 65536 * k.daysMin

/-! Day boundary (R687, R689, R690) -/

/-- One listening hour, in BCLK cycles. -/
def hourT : Nat := 3600 * 216960000

/-- KA_FD at a day boundary (R687). -/
def Kiln.newFd (k : Kiln) : Nat :=
  let tgt := k.cfg.fdTgt
  let week := (k.days ++ [(k.listen, k.false_)]).reverse.take 7
  let wl := (week.map (·.1)).sum
  let wf := (week.map (·.2)).sum
  if 10 * hourT ≤ k.listen ∧ 2 * tgt * k.listen < k.false_ * 100 * hourT then (if k.kaFd < 48 then min 48 (k.kaFd + 8) else k.kaFd)
  else if 70 * hourT ≤ wl ∧ 2 * wf * 100 * hourT < tgt * wl then k.kaFd - 8
  else k.kaFd

/-- A day boundary (R687, R689 to R691). -/
def dayBoundary (d : Dev) : Dev :=
  let day := d.kiln.ksec / dayS
  let d := d.onKiln fun k =>
    let days := (k.days ++ [(k.listen, k.false_)])
    { k with day := day, kaFd := k.newFd, days := days.drop (days.length - 7), listen := 0, false_ := 0 }
  let ms := d.margins
  let d := d.onKiln fun k =>
    let h := k.hist ++ [{ day := day, margins := ms.toList }]
    { k with hist := h.drop (h.length - 60) }
  let d := formMargins true (setKadj d)
  writeRec 4 (.kiln d.kilnRec) none [] d

end Sys2Proof.Machine
end

