-- ==== Sys2Proof/Machine/SurveyOps.lean ====
section
/-! DEFINITION. The coil sets of CALIBRATE and of a survey in M9: which coils are driven together, where their bursts start and how they
follow each other (chapters 04, 06 and 20). Bursts start and end at probe slot boundaries (DESIGN CHOICE, log entry 62). -/

namespace Sys2Proof.Machine
open Sys2Proof

/-- The wait of R123 is over: QREADY 24, or 2 × QL_MIN cycles in LOCKED or VIRTUAL since M9 was entered. -/
def Dev.surveyReady (d : Dev) : Bool := decide (d.tb.qready = 24) || decide (2 * d.tb.cfg.qlMin * 64 ≤ d.tb.m9Bins)

/-- Amplitudes of the bursts of one coil set: six to find the trim and one that measures, or the survey's one (R158, R682). -/
def BurstSeq.amps (q : BurstSeq) : List Nat := if q.survey then [64] else [16, 16, 16, 16, 16, 16, 64]

/-- Every coil has been measured. -/
def BurstSeq.done (q : BurstSeq) : Bool := q.todo.isEmpty && q.group.isEmpty

/-- The sequence of a command has measured every coil. -/
def Dev.seqDone (d : Dev) (tag : Fin 32) : Bool := match d.drv.seq with
  | some q => decide (q.tag = tag) && q.done
  | none => false

/-- Two coils of one set are no neighbours and share none (R158, R696). -/
def Drive.farApart (v : Drive) (a b : Fin 192) : Bool := v.apart a b && (v.nbs a).all fun x => !(v.nbs b).contains x

/-- The next coil set: at most PROBE_ENG coils, in ascending index (R158, R230, R696). -/
def Dev.nextSet (d : Dev) (todo : List Nat) : List (Fin 192) :=
  (todo.filterMap coilNo).foldl (fun g c =>
    if g.length < d.lau.probeEngs.length && g.all fun a => d.drv.farApart a c then g ++ [c] else g) []

/-- A coil has no place in a survey: absent, in FAULT or never calibrated (R682). -/
def Coil.noSurvey (k : Coil) : Bool := decide (k.role = .absent) || decide (k.role = .fault) || !k.cal.valid

/-- The command at work asks for a sequence of coil sets (R123, R158, R696). -/
def Dev.seqWanted (d : Dev) : Option BurstSeq :=
  let within (a b : Nat) (skip : Coil → Bool) : List Nat :=
    (allCoils.filter fun c => decide (a ≤ c.val) && decide (c.val ≤ b) && !skip d.drv.coil[c]).map (·.val)
  match d.drv.calRun with
  | some r => some { tag := r.tag, survey := false, todo := within r.first r.last fun k => decide (k.role = .absent) }
  | none =>
    match d.activeTags fun c => decide (c.opc = 0x84) && decide (c.phase = .coilSet) && (byteAt c.payload 0).testBit 0 with
    | [] => none
    | t :: _ => (d.cmd t).map fun c => { tag := t, survey := true, todo := within (byteAt c.payload 1) (byteAt c.payload 2) Coil.noSurvey }

/-- The sequence at work: it goes on for its command, and starts after the wait of R123. -/
def Dev.seqNow (d : Dev) : Option BurstSeq :=
  match d.seqWanted with
  | none => none
  | some w => match d.drv.seq with
    | some q => if q.tag = w.tag then some q else if d.surveyReady then some w else none
    | none => if d.surveyReady then some w else none

/-! What a burst measures (R158, R682) -/

/-- Whole coupling units of a complex lane value: |V|. -/
def lanes (r : Reading) : List Nat := (r.mutR.filterMap id).map fun v => deltaRd v (0, 0)

/-- A survey burst whose values do not stand: no valid neighbour lane, an object on the coil, or a coil that has entered FAULT (R682,
R695). -/
def Dev.surveySkips (d : Dev) (r : Reading) : Bool :=
  d.drv.coil[r.coil].noSurvey || (lanes r).isEmpty || (match r.self with
    | some v => d.prb.coil[r.coil].bvalid && decide (8 * d.prb.thS ≤ deltaCu (upCu v) d.prb.coil[r.coil].self)
    | none => false)

/-- The values of a survey burst taken (R682). -/
def surveyTake (r : Reading) (d : Dev) : Dev :=
  if d.surveySkips r then d
  else
    let c := r.coil
    let rl := d.drv.coil[c].cal.eff.rLoad
    let vd := (d.drv.ket[Fin.ofNat 4 (c.val / 48)]).vdrv
    let d := d.onKiln fun k => { k with coil := upd k.coil c fun x => x.survey rl r.cur (lanes r).sum (lanes r).length r.ph vd }
    d.onDrv fun v => { v with seq := v.seq.map fun q => { q with got := q.got ++ [c.val] } }

/-- The trim code of step `k` of the search: its bit is tried on top of what the search has kept (R158). -/
def BurstSeq.tryCode (q : BurstSeq) (c : Fin 192) (k : Nat) : Nat :=
  ((q.codes.find? fun x => decide (x.1 = c.val)).map (·.2)).getD 0 + 2 ^ (5 - k)

/-- The search keeps the code tried where the current does not lag the drive there, so that its maximum lies at the code or above
(R158; DESIGN CHOICE, log entry 62). -/
def searchTake (r : Reading) (q : BurstSeq) : BurstSeq :=
  let k := q.step - 1
  if r.ph < 0 then q
  else { q with codes := (q.codes.filter fun x => decide (x.1 ≠ r.coil.val)) ++ [(r.coil.val, q.tryCode r.coil k)] }

/-- C(a, g): the voltage induced in a neighbour against the drive voltage, 1/128, with 8.0 V at full scale (R150, R158, R178, R184, R252;
rounded down). -/
def coupling (volt : Nat) (v : Option Cplx) : Int × Int :=
  match v with
  | some v =>
    let f (x : Int) : Int := max (-128) (min 127 (x * 8000 * 128 / (65536 * max 1 (volt : Int))))
    (f v.1, f v.2)
  | none => (0, 0)

/-- The record that the last burst of a set gives a coil (R155, R158, R178; DESIGN CHOICE of the rounding, log entry 62). -/
def calOf (q : BurstSeq) (r : Reading) : CoilCal :=
  { trim := ((q.codes.find? fun x => decide (x.1 = r.coil.val)).map (·.2)).getD 0
    phTrim := ((-r.ph) % 2048).toNat, rLoad := min 65535 (r.volt * 100 / max 1 r.cur), gain := (Config.calGain r.volt r.cur).toNat
    cpl := r.mutR.map (coupling r.volt) }

/-- A measured coil passes steps 1 and 2 of R158. -/
def calOk (x : CoilCal) : Bool := decide (x.trim ≠ 0) && decide (x.trim < 63) && decide (1000 ≤ x.rLoad) && decide (x.rLoad ≤ 10000)

/-- What a coil's measurement leaves in its record (R156, R158, R159). -/
def calRecord (r : Option CoilCal) : CoilCal :=
  match r with
  | some x => if calOk x then { x with valid := true } else {}
  | none => {}

/-- The coils of a CALIBRATE take their new records; one calibrated with success is no longer latched (R155, R158, R172, R199, R691). -/
def takeCal (rs : List (Fin 192 × Option CoilCal)) (d : Dev) : Dev :=
  let cs := rs.map (·.1)
  let moved := rs.filterMap fun r => if d.drv.coil[r.1].cal.eff.trim ≠ (calRecord r.2).eff.trim then some r.1 else none
  let d := d.onDrv fun v => rs.foldl (fun v r => v.onCoil r.1 fun k => { k with cal := calRecord r.2, latched := k.latched && !(calRecord r.2).valid }) v
  kilnUncal cs (markAll moved 40 3 (rewords d))

/-- What the bursts of the slot that ends have measured (R158, R682). -/
def seqTake (rs : List Reading) (d : Dev) : Dev :=
  let rs := (rs.map d.validLanes).filter fun r => (d.drv.calBursts.map (·.1)).contains r.coil.val
  match d.drv.seq with
  | none => d
  | some q =>
    if q.survey then rs.foldl (fun d r => surveyTake r d) d
    else if q.step < q.amps.length then d.onDrv fun v => { v with seq := v.seq.map fun q => rs.foldl (fun q r => searchTake r q) q }
    else takeCal (rs.map fun r => (r.coil, some (calOf q r)))
      (d.onDrv fun v => { v with seq := v.seq.map fun q => { q with got := q.got ++ rs.map fun r => r.coil.val } })

/-- The bursts of the slot that ends turn their fields off (R199). -/
def seqOff (d : Dev) : Dev :=
  let cs := (d.drv.calBursts.map (·.1)).filterMap coilNo
  if cs.isEmpty then d
  else trimProbe (engOff (fun _ => true) (markAll (d.drv.around cs) 96 4 (rewords (d.onDrv fun v => { v with calBursts := [] }))))

/-- Bins that the slot meets are all QUIET for the coils of the set, or the burst may wait no longer (R115, R116). -/
def Dev.seqPlaced (d : Dev) (q : BurstSeq) (span : Nat) : Bool :=
  let quiet := (List.range ((d.phc + span) / 1024 - d.phc / 1024 + 1)).all fun k =>
    let cls := d.tb.classesNow ((d.phc / 1024 + k) % 64)
    (q.group.filterMap coilNo).all fun c => decide (cls[Fin.ofNat 24 (c.val / 8)] = .quiet)
  let late := match (d.cmd q.tag).bind d.slack with
    | some x => decide (d.toPu x ≤ span + q.wait)
    | none => false
  decide (d.tb.state = .acquire) || decide (d.tb.state = .holdover) || quiet || late ||
    decide (d.tb.cfg.qdMax * 1024 < q.wait + span) || decide (d.tb.cfg.qdTotal * 1024 < q.spent + span)

/-- A slot boundary of the sequence: what its bursts have measured, and the set's next burst, or the next set (R115, R158, R230, R696). A
stopped command begins no further set (R530), and nothing starts while the drive is killed (R72). -/
def seqSlot (rs : List Reading) (d0 : Dev) : Dev :=
  let d := seqOff (seqTake rs d0)
  match d.seqNow with
  | none => d.onDrv fun v => { v with seq := none }
  | some q0 =>
    let span := d.toPu (16 * 352)
    let stop := match d.cmd q0.tag with
      | some c => c.stopReq
      | none => true
    let q := if q0.amps.length ≤ q0.step then { q0 with group := [], step := 0, codes := [] } else q0
    let q : BurstSeq := if q.group.isEmpty then (if stop then { q with todo := [] } else
        let g := (d.nextSet q.todo).map (·.val)
        { q with group := g, todo := q.todo.filter fun c => !g.contains c }) else q
    if q.group.isEmpty || d.killed || d.pin.resumeAt.isSome then d.onDrv fun v => { v with seq := some q }
    else if d.seqPlaced q span then
      let amp := (q.amps[q.step]?).getD 64
      let cs := q.group.filterMap coilNo
      engOn cs <| markAll (d.drv.around cs) 96 4 (rewords (d.onDrv fun v => { v with
        calBursts := q.group.map fun c => (c, amp), seq := some { q with step := q.step + 1, wait := 0 } }))
    else d.onDrv fun v => { v with seq := some { q with wait := q.wait + span, spent := q.spent + span } }

/-- A mode other than M9 drives no coil set (R60, R157, R696). -/
def dropSeq (d : Dev) : Dev := if d.mode.cur = .m9 then d else (seqOff d).onDrv fun v => { v with seq := none }

end Sys2Proof.Machine
end

