-- ==== Sys2Proof/Machine/Zones.lean ====
section
/-! DEFINITION. Commands of the probe sequencer, the zones and the presence table (chapter 07). -/

namespace Sys2Proof.Machine
open Sys2Proof

/-- A slot boundary of the probe rotation with the lane readings of its bursts (R246 to R258); in M9 the coil sets of CALIBRATE and of
the survey go on (R158, R696). -/
def execProbeSlotBoundary (rs : List Reading) (s : State) : Out :=
  onDev s fun d => if d.mode.cur.surface then slotBoundary (fun n => d.prbOk n) rs d else seqSlot rs d

/-- OPEN refused on an engine that SC reserved: its entry waits again with REASON COILS (R269, R270). -/
def openUndo (n : Fin 24) (d : Dev) : Dev :=
  if d.sf.zone[n].state = .free && d.sf.zone[n].reserved then
    submit (.zoneClosed n 5 [] d.phcW) (onZone n (fun z => { z with reserved := false, entry := none }) d)
  else d

/-- ZEn_CTL.OPEN: the cluster wakes where it has to, and the listed coils are granted; for an entry the zone
asks for RECOG with the grant (R39, R264, R265, R269, R270). -/
def zoneOpen (n : Fin 24) (d : Dev) : Dev :=
  if d.sf.zone[n].state ≠ .free then d
  else
    let d := openUndo n (openZone n (wakeDom (Fin.ofNat 49 (16 + n.val / 6)) d))
    if d.sf.zone[n].state = .opened ∧ d.sf.zone[n].reserved then lzReq n 1 0 d else d

/-- What the commands on a zone complete with when it closes for a cause (R72, R336, R36, R60). -/
def closeStatus : Nat → Option (Status × Nat)
  | 4 => some (.noTag, 1)
  | 5 => some (.fieldLow, 7)
  | 6 => some (.aborted, 0)
  | 7 => some (.internal, 0)
  | _ => none

/-- A write of 1 to ZEn_CTL.CLOSE for the cause that SC acts on (R271, R272). -/
def execZoneClose (n : Fin 24) (cause : Nat) (s : State) : Out := onDev s (closeZone n cause (closeStatus cause))

/-- 1 µs after the off ramp the engine is FREE (R272). -/
def execZoneCloseDone (n : Fin 24) (s : State) : Out := onDev s (closeDone n)

/-- No command is in flight or waiting on the zone's entries and none of them is fed (R271, R293). -/
def Dev.zoneIdle (d : Dev) (n : Fin 24) : Bool :=
  (d.sf.onZ n).all fun i => decide (d.countOn i = 0) && (match d.sf.at i with
    | some e => decide (e.acc.power = 0)
    | none => true)

/-- HOLD_MS after its last command an idle identified zone closes with cause 1 (R271, R282, R293). -/
def execHoldTimeExpiry (n : Fin 24) (s : State) : Out :=
  onDev s fun d =>
    let z := d.sf.zone[n]
    if z.state = .opened && z.identified && d.zoneIdle n && decide (msT d.sf.holdMs ≤ d.now - z.lastUse) then closeZone n 1 none d else d

/-- A command that has waited ZWAIT_MS for a zone, with DEADLINE 0 (R276). -/
def execZoneWaitTimeout (tag : Fin 32) (s : State) : Out :=
  onDev s fun d => match d.cmd tag with
    | some c =>
      if c.phase = .zone ∧ c.deadline = 0 ∧ msT d.sf.zwaitMs ≤ d.now - c.waitT then finishX tag .resourceBusy 0 d else d
    | none => d

/-- SURFACE_START (R293). -/
def execSurfaceStart (tag : Fin 32) (s : State) : Out :=
  onDev s <| begin_ 0x10 tag (fun n => decide (n = 8)) fun c d =>
    inMode tag c (fun d =>
      let p := c.payload
      let hold := leAt p 0 2
      let wait := leAt p 2 2
      let act := byteAt p 5
      if hold > 60000 ∨ wait < 1 ∨ wait > 5000 ∨ byteAt p 4 > 1 ∨ act < 1 ∨ act > 9 ∨ zeros p [6, 7] = false then fail tag .badParam d
      else
        let d := d.onSf fun s => { s with newPolicy := some (hold, wait, (byteAt p 4).testBit 0, act) }
        complete tag .ok (le 4 d.sf.gen.toNat) d) d

end Sys2Proof.Machine
end

