-- ==== Sys2Proof/Machine/HfCards.lean ====
section
/-! DEFINITION. Commands of the framer and of the HF card protocols (chapter 08). -/

namespace Sys2Proof.Machine
open Sys2Proof

/-- The frame being sent ends (R147, R302, R304). -/
def execFrameTxEnd (n : Fin 24) (s : State) : Out := onDev s (frameEnd n)

/-- The listening window opens (R304, R314). -/
def execListenWindowOpen (n : Fin 24) (s : State) : Out := onDev s (windowOpen n)

/-- The listening window closes (R304, R306, R318). -/
def execListenWindowClose (n : Fin 24) (s : State) : Out := onDev s (windowClose n)

/-- A received frame ends (R305): the frame, what the firmware makes of it, and whether the present wake slot ends with it. -/
def execFrameRxEnd (n : Fin 24) (x : RxFrame) (r : FwResult) (slotEnds : Bool) (s : State) : Out := onDev s (rxEnd n x r slotEnds)

/-- ZEn_FR_RXACK written (R305). -/
def rxAck (n : Fin 24) (ack : Nat) (d : Dev) : Dev :=
  onFr n (fun f => { f with held0 := f.held0 && !ack.testBit 0, held1 := f.held1 && !ack.testBit 1 }) d

/-- The power-on wait ends (R312, R313). -/
def execPowerOnWaitEnd (n : Fin 24) (s : State) : Out := onDev s (powerOnEnd n)

/-- The entries of a zone that a check or a ping of its kind concerns: cards, or accessories (R323, R363). -/
def Dev.checked (d : Dev) (n : Fin 24) (acc : Bool) : List Nat :=
  (d.sf.onZ n).filter fun i => match d.sf.at i with
    | some e => decide (e.state = .opened) && (decide (e.proto = 14) == acc)
    | none => false

/-- An identified zone without a command in flight, 50 ms after the last check of its cards or the last ping of its accessories
(R323, R363). -/
def Dev.checkDue (d : Dev) (n : Fin 24) (acc : Bool) : Bool :=
  let last := if acc then d.hf.fr[n].lastPing else d.hf.fr[n].lastCheck
  decide (d.sf.zone[n].state = .opened) && d.sf.zone[n].identified && d.sf.zone[n].module.isNone &&
  ((d.sf.onZ n).all fun i => decide (d.countOn i = 0)) && decide (msT 50 ≤ d.now - last)

/-- One entry's check: answered, or missed; gone after two misses in a row (R282, R323). -/
def checkCard (missing : List Nat) (d : Dev) (i : Nat) : Dev :=
  match d.sf.at i with
  | none => d
  | some e =>
    if !missing.contains i then onEntry i (fun e => { e with card := { e.card with missed := 0 } }) d
    else if e.card.missed + 1 ≥ 2 then cardGone i (onEntry i (fun e => { e with card := { e.card with missed := 0 } }) d)
    else onEntry i (fun e => { e with card := { e.card with missed := e.card.missed + 1 } }) d

/-- The presence check of a zone; `missing` are its entries that did not answer (R323). -/
def execPresenceCheck (n : Fin 24) (missing : List Nat) (s : State) : Out :=
  onDev s fun d =>
    if d.checkDue n false && !(d.checked n false).isEmpty then
      let now := d.now
      let is := d.checked n false
      is.foldl (checkCard missing) (onFr n (fun f => { f with lastCheck := now }) d)
    else d

/-- The wait for a late reply expires: RESULT 2, and the card is deactivated (R333). -/
def lateEnd (i : Nat) (d : Dev) : Dev :=
  match d.sf.at i with
  | some e =>
    if e.card.late.isSome then
      onEntry i (fun e => { e with card := { e.card with act := 0, desync := true } }) (pushLate i 2 [] d)
    else d
  | none => d

/-- No late reply within the card's wait (R333). -/
def execLateReplyWaitEnd (i : Fin 512) (s : State) : Out := onDev s (lateEnd i.val)

/-- The form of a ZONE_EXCHANGE payload (R324, check 1 of R326). -/
def exchangeOk (p : List Byte) : Bool :=
  let layer := byteAt p 2
  let n := p.length - 8
  decide (byteAt p 3 < 8) && zeros p [5] && decide (layer ≤ 2) && decide (1 ≤ n) && decide (n ≤ if layer = 0 then 1024 else 4096) &&
  decide (byteAt p 4 ≤ 7) &&
  (decide (layer = 0) || (!(byteAt p 3).testBit 2 && decide (byteAt p 4 = 0) && decide (leAt p 6 2 = 0)))

/-- An exchange whose frames stop: WRITE_UNKNOWN with the last failure, or 0x01, where a write frame has been sent without an
acknowledgement, else the status given (R329 to R336; the DETAIL without a failure is a DESIGN CHOICE, log entry 47). -/
def stopFrames (tag : Fin 32) (st : Status) (detail : Nat) (d : Dev) : Dev :=
  match d.cmd tag with
  | some c => if c.writeSent then finishX tag .writeUnknown (if c.fail = 0 then 1 else c.fail) d else finishX tag st detail d
  | none => d

/-- An exchange that ABORT has asked to stop ends at the frame boundary just reached (R335, R530). -/
def stopAtFrame (tag : Fin 32) (d : Dev) : Dev :=
  match d.cmd tag with
  | some c => if c.stopReq && decide (c.phase = .frames) then stopFrames tag .aborted 0 d else d
  | none => d

/-- ZONE_EXCHANGE: its acceptance, its turn, its zone and its frames, one step of them at a time (R310, R324 to R336). -/
def execZoneExchange (tag : Fin 32) (x : XStep) (s : State) : Out :=
  onDev s fun d =>
    if d.begun 0x18 tag then stopAtFrame tag (goX tag x d)
    else begin_ 0x18 tag (fun n => decide (9 ≤ n) && decide (n ≤ 4104))
      (fun c d => if exchangeOk c.payload then enterX tag c x d else fail tag .badParam d) d

/-- HF_CONFIG and its reply (R337). -/
def execHfConfig (tag : Fin 32) (s : State) : Out :=
  onDev s <| begin_ 0x11 tag (fun n => decide (n = 12)) fun c d =>
    inMode tag c (fun d =>
      let p := c.payload
      let b (i : Nat) : Nat := byteAt p i
      if b 0 > 63 || bits (b 1) 3 0 > 6 || b 1 / 16 > 6 || b 2 > 1 || b 3 > 3 || b 4 < 10 || b 4 > 100 || b 5 > 3 || b 6 > 3 ||
          b 8 > 200 || b 9 > 200 || b 10 > 1 || b 11 ≠ 0 || ((b 0).testBit 5 && !(b 0).testBit 2) then fail tag .badParam d
      else
        complete tag .ok (p.take 12) (d.onHf fun h => { h with
          tech := b 0, maxRate := b 1, maxRateF := b 2, vMode := b 3, powWait := b 4, retry := b 5, autoAct := b 6, afi := b 7,
          rfldTh := b 8, wfldTh := b 9, wnocal := (b 10).testBit 0 })) d

/-- The reply of CARD_INFO (R338). -/
def cardInfo (tag : Fin 32) (c : Cmd) (e : Entry) (d : Dev) : Dev :=
  if e.uid = [] ∨ e.proto = 14 then fail tag .noTag d
  else
    let info := e.card.info.take 64
    complete tag .ok (le 2 (d.sf.entryId c.entry) ++ [byteOf e.card.tech, byteOf e.card.act, byteOf e.card.rate, byteOf e.card.fwi,
      byteOf e.card.fsc, byteOf info.length] ++ info) d

/-- CARD_INFO: stored data of an identified card, in its turn (R281, R338). -/
def execCardInfo (tag : Fin 32) (s : State) : Out :=
  onDev s fun d =>
    if d.begun 0x12 tag then onTurn tag (cardInfo tag) d
    else begin_ 0x12 tag (fun n => decide (n = 2)) (fun c d => enterT tag c (onTurn tag (cardInfo tag)) d) d

end Sys2Proof.Machine
end

