-- ==== Sys2Proof/Machine/Accessory.lean ====
section
/-! DEFINITION. Commands of the Mirbit accessory link (chapter 09). -/

namespace Sys2Proof.Machine
open Sys2Proof

/-! The field of a feeding zone (R373, R374) -/

/-- Raising is blocked by PZ_MAX or by the limiter (R373). -/
def Dev.raiseBlocked (d : Dev) (n : Fin 24) : Bool :=
  let ws := raised d.tx[n].cur
  let l := d.limit n ws
  decide (d.acc.pzMax * 10 ^ 6 < d.drv.estTot ws 256) || l.refuse || decide (l.scale < 256)

/-- The field of a zone raised by 1 dB, where nothing blocks it (R373). -/
def raiseField (n : Fin 24) (d : Dev) : Dev :=
  if d.raiseBlocked n then d else withRxRoles (applyCommit n (raised d.tx[n].cur)) d

/-- The read plan committed again (R309, R373, R375). -/
def readPlan (n : Fin 24) (d : Dev) : Dev :=
  if d.sf.zone[n].readPlan = [] then d
  else onZone n (fun z => { z with readPlan := [] }) (withRxRoles (applyCommit n d.sf.zone[n].readPlan) d)

/-- Entries of a zone whose power delivery is on or starting (R373). -/
def Dev.powered (d : Dev) (n : Fin 24) : List Nat :=
  (d.sf.onZ n).filter fun i => match d.sf.at i with
    | some e => decide (e.acc.power = 1) || decide (e.acc.power = 2)
    | none => false

/-- Fed accessories of a zone (R374). -/
def Dev.fed (d : Dev) (n : Fin 24) : List Nat :=
  (d.sf.onZ n).filter fun i => match d.sf.at i with
    | some e => decide (e.acc.power = 2)
    | none => false

/-- The read plan committed when no fed accessory remains on the zone (R375). -/
def planIfNone (n : Fin 24) (d : Dev) : Dev := if d.powered n = [] then readPlan n d else d

/-- PWR of an entry's last reply. -/
def Dev.pwrOf (d : Dev) (i : Nat) : Nat := ((d.sf.at i).map fun e => e.acc.pwr).getD 0

/-- The answers of a round of PINGs: PWR, misses, and the stop after three PINGs unanswered (R374, R375). -/
def takePing (d : Dev) (x : Nat × Option Nat) : Dev :=
  match d.sf.at x.1, x.2 with
  | some _, some p =>
    let now := d.now
    onEntry x.1 (fun e => { e with acc := { e.acc with pwr := p % 4, missed := 0, lastReply := now, exceeded := if p % 4 = 3 then e.acc.exceeded + 1 else 0 } }) d
  | some e, none =>
    if e.acc.missed + 1 ≥ 3 then cardGone x.1 (powerStop 3 (onEntry x.1 (fun e => { e with acc := { e.acc with missed := 0 } }) d) x.1)
    else onEntry x.1 (fun e => { e with acc := { e.acc with missed := e.acc.missed + 1 } }) d
  | none, _ => d

/-! ACC_POWER (R373 to R376) -/

/-- Check of R376 on the entry. -/
def feedOk (e : Entry) (on : Bool) (limit : Nat) : Bool :=
  decide (e.proto = 14) && e.acc.act && (byteAt e.acc.info 5).testBit 0 && (!on || decide (limit ≤ byteAt e.acc.info 4))

/-- The zone begins to feed: its next PING round comes KEEP_MS later (R374). -/
def feedFrom (i : Nat) (d : Dev) : Dev :=
  match (d.sf.at i).bind (·.zone) with
  | some n =>
    let now := d.now
    if d.fed n = [] then onFr n (fun f => { f with lastPing := now }) d else d
  | none => d

/-- Delivery has started or its LIMIT has changed (R373, R374, R376, R377). -/
def powerDone (tag : Fin 32) (c : Cmd) (d : Dev) : Dev :=
  let i := c.entry
  let d := feedFrom i d
  let d := onEntry i (fun e => { e with acc := { e.acc with power := 2, limit := byteAt c.payload 3, lowSince := none, exceeded := 0 } }) d
  touchZone i (complete tag .ok (powReply i 2 d) (pushPower i 2 0xFF d))

/-- The ramp of an ACC_POWER ends without power: the command's status, a power event with a cause of R375, and the read plan
(R373, R376, R530). A command that only changes LIMIT ends alone. -/
def rampFail (cause : Nat) (tag : Fin 32) (st : Status) (detail : Nat) (d : Dev) : Dev :=
  match d.cmd tag with
  | none => d
  | some c =>
    let d := finishX tag st detail d
    match d.sf.at c.entry with
    | some e =>
      if e.acc.power ≠ 1 then d
      else match e.zone with
        | some n => readPlan n (powerStop cause d c.entry)
        | none => powerStop cause d c.entry
    | none => d

/-- One round of the ramp, at whose end ABORT stops it (R373, R530). -/
def rampStep (tag : Fin 32) (c : Cmd) (n : Fin 24) (a : AccStep) (d : Dev) : Dev :=
  let d := a.pings.foldl takePing d
  match d.cmd tag with
  | none => d
  | some k =>
    if k.stopReq then rampFail 0 tag .aborted 0 d
    else if (d.powered n).any fun i => decide (d.pwrOf i < 2) then raiseField n d
    else if a.done = some true then powerDone tag c d
    else d

/-- ACC_POWER on an entry whose turn has come, after an activation still to be made (R360, R373, R375 to R377). -/
def startPower (tag : Fin 32) (a : AccStep) (c : Cmd) (e0 : Entry) (n : Fin 24) (d : Dev) : Dev :=
  let d := match a.act with
    | some x => if e0.proto = 14 ∧ e0.acc.act = false then takeAct c.entry x d else d
    | none => d
  let e := (d.sf.at c.entry).getD e0
  let on := (byteAt c.payload 2).testBit 0
  let limit := byteAt c.payload 3
  let i := c.entry
  if !feedOk e on limit then fail tag .badParam d
  else if !on then
    let d := planIfNone n (powerStop 0 d i)
    touchZone i (complete tag .ok (powReply i 0 d) d)
  else if e.acc.power = 2 then
    let d := onCmd tag (fun k => { k with phase := .ramp }) d
    if a.done = some true then powerDone tag c d else d
  else
    let now := d.now
    let cur := d.tx[n].cur
    let none_ := decide (d.powered n = [])
    let d := onZone n (fun z => { z with readPlan := if none_ then cur else z.readPlan }) d
    let d := onEntry i (fun e => { e with acc := { e.acc with power := 1, rampStart := now, limit := limit, missed := 0 } }) d
    rampStep tag c n a (onCmd tag (fun k => { k with phase := .ramp }) (pushPower i 1 0xFF d))

/-- The next round of an ACC_POWER under way (R373, R376). -/
def stepPower (tag : Fin 32) (a : AccStep) (d : Dev) : Dev :=
  match d.cmd tag with
  | none => d
  | some c =>
    if c.phase ≠ .ramp then turnX tag (startPower tag a) d
    else
      match d.sf.at c.entry with
      | some e => match e.zone with
        | some n => if e.acc.power = 2 then (if a.done = some true then powerDone tag c d else d) else rampStep tag c n a d
        | none => d
      | none => d

/-- ACC_POWER: checks, turn, ramp and completion (R376); `a` is what the accessories answered. -/
def execAccPower (tag : Fin 32) (a : AccStep) (s : State) : Out :=
  onDev s fun d =>
    if d.begun 0x33 tag then stepPower tag a d
    else begin_ 0x33 tag (fun n => decide (n = 4)) (fun c d =>
      let p := c.payload
      let on := (byteAt p 2).testBit 0
      if byteAt p 2 > 1 || (on && decide (byteAt p 3 = 0)) || (!on && decide (byteAt p 3 ≠ 0)) then fail tag .badParam d
      else if d.mode.cur.accepts 0x33 && decide (d.mode.cur ≠ .m8) then fail tag .wrongMode d
      else enterT tag c (stepPower tag a) d) d

/-- RAMP_MS has passed without PWR 2 (R373). -/
def execAccRampLimit (tag : Fin 32) (s : State) : Out :=
  onDev s fun d => match d.cmd tag with
    | some c => match d.sf.at c.entry with
      | some e =>
        if c.opc = 0x33 ∧ c.phase = .ramp ∧ e.acc.power = 1 ∧ e.acc.pwr < 2 ∧ msT d.acc.rampMs ≤ d.now - e.acc.rampStart then
          rampFail 1 tag .fieldLow 0x0D d
        else d
      | none => d
    | none => d

/-- A PING round of a feeding zone: its answers, and the field raised or lowered by 1 dB (R374, R375). -/
def keepPing (n : Fin 24) (pings : List (Nat × Option Nat)) (d : Dev) : Dev :=
  let now := d.now
  let d := pings.foldl takePing (onFr n (fun f => { f with lastPing := now }) d)
  let fed := d.fed n
  let low := fed.filter fun i => decide (d.pwrOf i < 2)
  let blocked := d.raiseBlocked n
  let d := fed.foldl (fun d i => onEntry i (fun e => { e with acc := { e.acc with
    lowSince := if e.acc.pwr < 2 ∧ blocked then some (e.acc.lowSince.getD now) else none } }) d) d
  if low ≠ [] then raiseField n d
  else if fed ≠ [] && fed.all fun i => match d.sf.at i with
      | some e => decide (3 ≤ e.acc.exceeded)
      | none => false then
    let d := withRxRoles (applyCommit n (lowered d.tx[n].cur)) d
    fed.foldl (fun d i => onEntry i (fun e => { e with acc := { e.acc with exceeded := 0 } }) d) d
  else d

/-- Every KEEP_MS a feeding zone pings its fed accessories (R374). -/
def execAccKeepPing (n : Fin 24) (pings : List (Nat × Option Nat)) (s : State) : Out :=
  onDev s fun d =>
    if d.fed n ≠ [] ∧ msT d.acc.keepMs ≤ d.now - d.hf.fr[n].lastPing then
      keepPing n (pings.filter fun x => (d.fed n).contains x.1) d
    else d

/-- PWR below 2 for 500 ms with raising blocked stops the delivery (R375). -/
def execAccLostBudget (i : Fin 512) (s : State) : Out :=
  onDev s fun d => match d.sf.at i.val with
    | some e => match e.acc.lowSince, e.zone with
      | some t, some n =>
        if e.acc.power = 2 ∧ msT 500 ≤ d.now - t then planIfNone n (powerStop 2 d i.val) else d
      | _, _ => d
    | none => d

/-- One accessory's ping: answered, or missed; gone after two misses in a row (R363). -/
def checkAcc (missing : List Nat) (d : Dev) (i : Nat) : Dev :=
  match d.sf.at i with
  | none => d
  | some e =>
    let now := d.now
    if !missing.contains i then onEntry i (fun e => { e with acc := { e.acc with missed := 0, lastReply := now } }) d
    else if e.acc.missed + 1 ≥ 2 then cardGone i (onEntry i (fun e => { e with acc := { e.acc with missed := 0 } }) d)
    else onEntry i (fun e => { e with acc := { e.acc with missed := e.acc.missed + 1 } }) d

/-- Every 50 ms an idle accessory zone pings its accessories; `missing` did not answer (R363). -/
def execAccPing (n : Fin 24) (missing : List Nat) (s : State) : Out :=
  onDev s fun d =>
    if d.checkDue n true && decide (d.powered n = []) && !(d.checked n true).isEmpty then
      let now := d.now
      let is := d.checked n true
      is.foldl (checkAcc missing) (onFr n (fun f => { f with lastPing := now }) d)
    else d

/-! ACC_EXCHANGE, ACC_CONFIG, ACC_ROUND, ACC_INFO -/

/-- The form of an ACC_EXCHANGE payload (R365, check 1 of R367). -/
def accExchangeOk (p : List Byte) : Bool :=
  let op := byteAt p 2
  let fl := byteAt p 3
  let arg := byteAt p 6
  let n := p.length - 8
  decide (fl < 4) && zeros p [7] && (!fl.testBit 0 || decide (op = 3)) &&
  (match op with
    | 1 => decide (1 ≤ arg) && decide (arg ≤ 32) && decide (n = 0)
    | 2 => decide (arg = 0) && decide (1 ≤ n) && decide (n ≤ 32)
    | 3 => decide (leAt p 4 2 = 0) && decide (0x40 ≤ arg) && decide (arg ≤ 0x7F) && decide (n ≤ 32)
    | _ => false)

/-- ACC_EXCHANGE (R365 to R370). -/
def execAccExchange (tag : Fin 32) (x : XStep) (s : State) : Out :=
  onDev s fun d =>
    if d.begun 0x32 tag then stopAtFrame tag (goX tag x d)
    else begin_ 0x32 tag (fun n => decide (8 ≤ n) && decide (n ≤ 40))
      (fun c d => if accExchangeOk c.payload then enterX tag c x d else fail tag .badParam d) d

/-- ACC_CONFIG and its reply (R378). -/
def execAccConfig (tag : Fin 32) (s : State) : Out :=
  onDev s <| begin_ 0x31 tag (fun n => decide (n = 8)) fun c d =>
    inMode tag c (fun d =>
      let p := c.payload
      let pz := leAt p 2 2
      let ramp := leAt p 4 2
      let keep := byteAt p 6
      if byteAt p 0 > 3 ∨ byteAt p 1 > 4 ∨ pz < 100 ∨ pz > 3000 ∨ ramp < 20 ∨ ramp > 1000 ∨ keep < 10 ∨ keep > 50 ∨ zeros p [7] = false then
        fail tag .badParam d
      else
        complete tag .ok (p.take 8) (d.onAcc fun _ =>
          { en := (byteAt p 0).testBit 0, order := (byteAt p 0).testBit 1, qInit := byteAt p 1, pzMax := pz, rampMs := ramp, keepMs := keep })) d

/-- The seek round of an ACC_ROUND whose turn has come starts on the zone (R357, R379). -/
def startRound (tag : Fin 32) (c : Cmd) (e : Entry) (n : Fin 24) (d : Dev) : Dev :=
  if e.proto ≠ 14 then fail tag .badParam d
  else
    let k : Seek := { q := byteAt c.payload 2, sel := 8 * byteAt c.payload 3, tag := some tag }
    let d := onFr n (slotFrame .seek (d.spanOf n)) (onSeek n k d)
    frSend n (onCmd tag (fun c => { c with phase := .slots }) d)

/-- The AIDs recorded in a command, 8 bytes each. -/
def aidsOf : Nat → List Byte → List (List Byte)
  | 0, _ => []
  | k + 1, b => if b = [] then [] else b.take 8 :: aidsOf k (b.drop 8)

/-- The ACC_ROUND completes once the update step has entered what it found (R379). -/
def endRound (tag : Fin 32) (c : Cmd) (d : Dev) : Dev :=
  let aids := aidsOf 4 c.got
  let ids := aids.filterMap fun a => ((List.range 512).find? fun i => match d.sf.at i with
    | some e => decide (e.uid = a) && decide (e.proto = 14) && decide (e.state = .opened)
    | none => false).map fun i => d.sf.entryId i
  let waiting := d.sf.pend.any fun r => match r with
    | .ident _ _ uid _ _ _ => aids.contains uid
    | _ => false
  if waiting then d
  else touchZone c.entry (complete tag .ok (byteOf ids.length :: ids.flatMap (fun x => le 2 x)) d)

/-- The round of an ACC_ROUND is still under way on the zone of its entry. -/
def Dev.rounding (d : Dev) (tag : Fin 32) : Bool := d.hf.fr.toList.any fun f => match f.seek with
  | some k => decide (k.tag = some tag)
  | none => false

/-- ACC_ROUND (R379); its round goes on with the frames and windows of the zone. -/
def execAccRound (tag : Fin 32) (s : State) : Out :=
  onDev s fun d =>
    if d.begun 0x30 tag then
      match d.cmd tag with
      | some c =>
        if c.phase = .slots then
          (if d.rounding tag then d else if c.stopReq then stopX .aborted 0 d tag else endRound tag c d)
        else turnX tag (startRound tag) d
      | none => d
    else begin_ 0x30 tag (fun n => decide (n = 4)) (fun c d =>
      let sel := byteAt c.payload 3
      if byteAt c.payload 2 > 4 ∨ sel = 0 ∨ sel > 7 then fail tag .badParam d
      else inMode tag c (fun d => match d.entryOf (leAt c.payload 0 2) with
        | none => fail tag .noTag d
        | some (_, e) => if e.state = .opened then enterT tag c (turnX tag (startRound tag)) d else fail tag .noTag d) d) d

/-- The reply of ACC_INFO (R380). -/
def accInfo (tag : Fin 32) (c : Cmd) (e : Entry) (d : Dev) : Dev :=
  if e.uid = [] then fail tag .noTag d
  else if e.proto ≠ 14 then fail tag .badParam d
  else complete tag .ok (le 2 (d.sf.entryId c.entry) ++ [byteOf (b2n e.acc.act), byteOf e.acc.power] ++ le 2 e.acc.handle ++
    [byteOf e.acc.pwr, 0] ++ (if e.acc.act then (e.acc.info ++ List.replicate 8 0).take 8 else List.replicate 8 0)) d

/-- ACC_INFO: stored data of an accessory, in its turn (R281, R380). -/
def execAccInfo (tag : Fin 32) (s : State) : Out :=
  onDev s fun d =>
    if d.begun 0x34 tag then onTurn tag (accInfo tag) d
    else begin_ 0x34 tag (fun n => decide (n = 2)) (fun c d => enterT tag c (onTurn tag (accInfo tag)) d) d

end Sys2Proof.Machine
end

