-- ==== Sys2Proof/Machine/SteepOps.lean ====
section
/-! DEFINITION. The Steep controller: schedule, sweeps, learning, detection (chapter 10). -/

namespace Sys2Proof.Machine
open Sys2Proof

/-- Code of a coil's Steep state (R388). -/
def StpState.code : StpState → Nat
  | .off => 0 | .learn => 1 | .armed => 2 | .occ => 3 | .unstable => 4

/-- Code of STP_STAT.STATE (R400). -/
def StpStage.code : StpStage → Nat
  | .stopped => 0 | .waiting => 1 | .sweep => 2 | .confirm => 3 | .handover => 4

/-- Change of one coil's Steep state. -/
def Steep.onC (t : Steep) (c : Fin 192) (f : StpC → StpC) : Steep := { t with coil := upd t.coil c f }

/-- The slot is taken for coil `c`: a coil of its Kettle, or a layout neighbour (R385). -/
def Steep.slotTaken (s : Steep) (placed : List (Nat × Fin 192)) (c : Fin 192) (t : Nat) : Bool :=
  placed.any fun x => decide (x.1 = t) && (decide (kOf x.2 = kOf c) || s.coil[c].nb.contains x.2)

/-- First slot for coil `c` from slot `t` on (R385). -/
def Steep.findSlot (s : Steep) (placed : List (Nat × Fin 192)) (c : Fin 192) : Nat → Nat → Nat
  | 0, t => t
  | fuel + 1, t => if s.slotTaken placed c t then s.findSlot placed c fuel (if t < 48 then 48 else t + 1) else t

/-- Coils in the order the schedule takes them: by index on the Kettle, then by Kettle (R385). -/
def placeOrder : List (Fin 192) := (List.range 48).flatMap fun i => (List.range 4).map fun k => Fin.ofNat 192 (48 * k + i)

/-- The schedule for the coils that are not OFF: each placed coil with its slot (R385). -/
def Steep.place (s : Steep) : List (Nat × Fin 192) :=
  (placeOrder.filter fun c => decide (s.coil[c].state ≠ .off)).foldl (fun l c => l ++ [(s.findSlot l c 200 (c.val % 48), c)]) []

/-- Number S of slots of a schedule (R385). -/
def slotsOf (l : List (Nat × Fin 192)) : Nat := l.foldl (fun n x => max n (x.1 + 1)) 48

/-- The row of the retained table that SC loads for a coil (R387): absent coils and coils in FAULT are OFF, and a coil that was OFF
learns (R388). -/
def Drive.loadRow (v : Drive) (c : Fin 192) (x : StpC) : StpC :=
  let w := v.coil[c]
  let x := { x with
    present := w.lay.present, nb := v.nbs c, trim := w.cal.eff.trim, fault := decide (w.role = .fault), latched := w.latched }
  if !x.present ∨ x.fault then { x with state := .off } else if x.state = .off then { x with state := .learn } else x

/-- The Steep controller at entry to M3: table, schedule, and the entry sweep due (R385, R387, R389). -/
def steepEnter (d : Dev) : Dev :=
  let v := d.drv
  let lp := d.pmu.lp
  d.onStp fun t =>
    let t := { t with coil := Vector.ofFn fun c => v.loadRow c t.coil[c] }
    let l := t.place
    { t with
      sched := (List.range 192).flatMap fun i => l.filter fun x => decide (x.1 = i)
      slots := slotsOf l, stage := .waiting, entry := true, nextAt := lp, trig := none }

/-- Steep stops when M3 is left. -/
def steepLeave (d : Dev) : Dev := d.onStp fun t => { t with stage := .stopped, trig := none, entry := false }

/-- Difference of two phases in −32 to +31 (R389). -/
def phDiff (a b : Nat) : Int := signed 6 (twos 6 ((a : Int) - b))

/-- LEARN with its count restarted at a sample (R389, R390). -/
def StpC.first (x : StpC) (a p : Nat) : StpC :=
  { x with state := .learn, hasB := false, ba := a, bp := p, lcount := 1, sumA := a, p0 := p, sumP := 0 }

/-- A coil after RELEARN: baseline, state and occupied reference cleared, so that the next entry to M3 puts it in LEARN (R399, R400). -/
def StpC.forget (x : StpC) : StpC :=
  { x with state := .off, hasB := false, ba := 0, bp := 0, ref := (0, 0), lcount := 0, restarts := 0, sumA := 0, p0 := 0, sumP := 0 }

/-- LEARN with no sample yet (R392). -/
def StpC.relearn (x : StpC) : StpC := { x with state := .learn, hasB := false, lcount := 0, restarts := 0, sumA := 0, sumP := 0 }

/-- The mean of `n` samples with sum `s`, to the nearest whole number (the rounding is a DESIGN CHOICE, log entry 25). -/
def meanOf (s : Int) (n : Nat) : Int := (2 * s + n) / (2 * n : Nat)

/-- One learning sample (R390). -/
def StpC.learn (x : StpC) (g : StpCfg) (a p : Nat) : StpC :=
  if x.lcount = 0 then { x.first a p with restarts := x.restarts }
  else if g.thA ≤ 2 * ((a : Int) - x.ba).natAbs ∨ g.thP < 2 * (phDiff p x.bp).natAbs then
    let r := x.restarts + 1
    if r ≥ 4 * g.learn then { x with state := .unstable, restarts := r } else { x.first a p with restarts := r }
  else
    let n := x.lcount + 1
    let sa := x.sumA + a
    let sp := x.sumP + phDiff p x.p0
    let y := { x with lcount := n, sumA := sa, sumP := sp, ba := (meanOf sa n).toNat, bp := twos 6 (x.p0 + meanOf sp n) }
    if n ≥ g.learn then { y with state := .armed, hasB := true, restarts := 0 } else y

/-- A reading lies off a reference by a threshold (R389, R392). -/
def offBy (g : StpCfg) (a p ra rp : Nat) : Bool :=
  decide (g.thA ≤ ((a : Int) - ra).natAbs) || decide (g.thP ≤ (phDiff p rp).natAbs)

/-- A reading lies within half of both thresholds of the baseline (R392). -/
def StpC.near (x : StpC) (g : StpCfg) : Bool :=
  decide (2 * ((x.sa : Int) - x.ba).natAbs < g.thA) && decide (2 * (phDiff x.sp x.bp).natAbs < g.thP)

/-- The reference a coil is tested against: its baseline when ARMED, its occupied reference when OCC (R392, R393). -/
def StpC.refOf (x : StpC) : Nat × Nat := if x.state = .occ then x.ref else (x.ba, x.bp)

/-- The test of R392 on the last reading. -/
def StpC.trig (x : StpC) (g : StpCfg) : Bool :=
  match x.state with
  | .armed => offBy g x.sa x.sp x.ba x.bp
  | .occ => !x.near g && offBy g x.sa x.sp x.ref.1 x.ref.2
  | _ => false

/-- Readings written to the table. -/
def Steep.put (t : Steep) (rs : List (Fin 192 × Nat × Nat)) : Steep :=
  rs.foldl (fun t r => t.onC r.1 fun x => { x with sa := r.2.1 % 1024, sp := r.2.2 % 64 }) t

/-- The entry sweep (R389). -/
def Steep.entrySweep (t : Steep) (rs : List (Fin 192 × Nat × Nat)) : Steep :=
  let g := t.cfg
  let had := t
  let t := rs.foldl (fun t r => t.onC r.1 fun x =>
    let a := r.2.1 % 1024
    let p := r.2.2 % 64
    match x.state with
    | .off => x
    | .unstable => { x.first a p with restarts := 0 }
    | _ =>
      if !x.hasB then { x.first a p with restarts := 0 }
      else if offBy g a p x.ba x.bp then { x with state := .occ, ref := (a, p) }
      else { x with state := .armed, ba := a, bp := p }) t
  let occ := ((List.finRange 192).filter fun (c : Fin 192) => decide (t.coil[c].state = .occ)).length
  let t := if g.mass ≤ occ then
      { t with cntMass := satInc 255 t.cntMass
               coil := Vector.ofFn fun c => if had.coil[c].hasB ∧ t.coil[c].state ≠ .off then t.coil[c].relearn else t.coil[c] }
    else t
  { t with entry := false }

/-- An OCC coil whose object is lifted is ARMED again (R392). -/
def StpC.lift (x : StpC) (g : StpCfg) : StpC := if x.state = .occ ∧ x.near g then { x with state := .armed } else x

/-- The drift of an ARMED coil's baseline (R392). -/
def StpC.drift (x : StpC) (g : StpCfg) : StpC :=
  if x.state = .armed ∧ x.near g then
    { x with ba := (x.ba + divAway ((x.sa : Int) - x.ba) (2 ^ g.drift)).toNat,
             bp := twos 6 (x.bp + divAway (phDiff x.sp x.bp) (2 ^ g.drift)) }
  else x

/-- The tests after a sweep that is not the entry sweep (R390, R392); `lp` is the tick at its end. A coil that this sweep's sample
arms is first tested by the next sweep (DESIGN CHOICE, log entry 25). -/
def Steep.testSweep (t : Steep) (rs : List (Fin 192 × Nat × Nat)) (lp : Nat) : Steep :=
  let g := t.cfg
  let hit := (rs.map (·.1)).filter fun c => t.coil[c].trig g
  let n := hit.length
  let mass := decide (g.mass ≤ n)
  let t := rs.foldl (fun t r => t.onC r.1 fun x =>
    if x.state = .learn then x.learn g x.sa x.sp else if mass ∨ hit.contains r.1 then x else (x.lift g).drift g) t
  if mass then
    { t with cntMass := satInc 255 t.cntMass
             coil := t.coil.map fun x => if x.hasB ∧ x.state ≠ .off then x.relearn else x }
  else if n = 0 then t
  else { t with cntTrig := satAdd 255 t.cntTrig n, trig := some (hit, lp) }

/-- The coils of a confirmation sweep, in slot order: triggered coils and their neighbours (R393). -/
def Steep.confCoils (t : Steep) (hit : List (Fin 192)) : List (Fin 192) :=
  (t.sched.map (·.2)).filter fun c => hit.contains c || t.coil[c].nb.any fun b => hit.contains b

/-- Slots of the schedule that a confirmation sweep uses (R393). -/
def Steep.confSlots (t : Steep) (hit : List (Fin 192)) : Nat :=
  ((t.sched.filter fun x => (t.confCoils hit).contains x.2).map (·.1)).eraseDups.length

/-- Whole LPCLK ticks that a sweep of `n` slots lasts: 30 µs and 2.0 µs a slot (R385). -/
def sweepTicks (n : Nat) : Nat := (30 + 2 * n) * 32768 / 1000000

/-- The sweep of `n` slots under way has run its time. -/
def Dev.swept (d : Dev) (n : Nat) : Bool := decide (d.stp.startAt + sweepTicks n ≤ d.pmu.lp)

/-- Typical power in M3 with no detection, in nW (R398): 22 µW and the energy of each sweep at 100 / SWEEP sweeps a second. -/
def Steep.powerNw (t : Steep) : Nat :=
  let n := (t.coil.toList.filter fun c => decide (c.state ≠ .off)).length
  22000 + (80000 + n * (900 + 96 * t.cfg.burst) + 40 * (t.slots - 96)) / t.cfg.sweep

/-- The declared coil: the largest amplitude difference, the lower index winning a tie (R393). -/
def Steep.declared (t : Steep) (cs : List (Fin 192)) : Option (Fin 192) :=
  let far (c : Fin 192) : Nat := ((t.coil[c].sa : Int) - (t.coil[c].refOf).1).natAbs
  match cs with
  | [] => none
  | c :: rest => some (rest.foldl (fun b x => if far b < far x ∨ (far b = far x ∧ x < b) then x else b) c)

/-- LPCLK ticks between the starts of sweeps (R386). -/
def StpCfg.period (g : StpCfg) : Nat := (g.sweep * 32768 + 50) / 100

/-- A sweep may not run: FKILL_N, or VDRV below 7.8 V on a Kettle (R386). -/
def Dev.sweepBlocked (d : Dev) (vdrv : Vector Nat 4) : Bool := d.pin.fkill || vdrv.toList.any fun v => decide (v < 780)

end Sys2Proof.Machine
end

