-- ==== Sys2Proof/Machine/RadioOps.lean ====
section
/-! DEFINITION. The room radio: choice of channels, hops, calibration, the carrier and the aerial (chapter 11). -/

namespace Sys2Proof.Machine
open Sys2Proof

/-- Change of one calibration record. -/
def onRfCh (c : Fin 64) (f : UhfCh → UhfCh) (d : Dev) : Dev := d.onUhf fun u => { u with ch := upd u.ch c f }

/-- Bit `a` of a mask over the configurations. -/
def bit8 (a : Fin 8) : BitVec 8 := BitVec.ofNat 8 (2 ^ a.val)

/-- All channels, lowest first. -/
def allCh : List (Fin 64) := List.finRange 64

/-- Message of the state change source (R580, source 4). -/
def uhfChanged (d : Dev) : Dev := msgSc 4 d

/-- BCLK cycles of 10 s (R417). -/
def retryT : Nat := msT 10000

/-- The room radio may transmit: M6, M7, M10, and M9 for a calibration (R402). -/
def Dev.mayTransmit (d : Dev) : Bool :=
  match d.mode.cur with
  | .m6 | .m7 | .m10 => true
  | .m9 => d.uhf.calRun.isSome
  | _ => false

/-- The record is treated as NONE (R418). -/
def Dev.chStale (d : Dev) (c : Fin 64) : Bool :=
  let r := d.uhf.ch[c]
  r.stale || ((r.cal = .part || r.cal = .valid) && decide (25 < (d.th.temp - r.temp).natAbs))

/-- What a selection of the channel runs (R415, R414, R418). -/
def Dev.chNeed (d : Dev) (c : Fin 64) (a : Fin 8) : RfRun :=
  let r := d.uhf.ch[c]
  if d.chStale c then .full
  else match r.cal with
    | .none | .failed => .full
    | .part => .canc
    | .valid => if r.cancOk.getLsb a && !r.again.getLsb a then .hop else .canc

/-- An enabled channel that may be selected in a configuration: not failed within the last 10 s (R403, R417, R418). -/
def Dev.chUsable (d : Dev) (c : Fin 64) (a : Fin 8) : Bool :=
  let r := d.uhf.ch[c]
  d.uhf.chCfg[c].en &&
  (r.cal ≠ .failed || r.stale || decide (r.failT + retryT ≤ d.now)) &&
  (!r.cancFail.getLsb a || decide (r.cancFailT[a] + retryT ≤ d.now))

/-- The usable channels in the configuration in effect, lowest first (R420). -/
def Dev.usable (d : Dev) : List (Fin 64) := allCh.filter fun c => d.chUsable c d.uhf.acfg

/-- A hop to the channel would be refused (R421). -/
def Dev.chRefused (d : Dev) (c : Fin 64) : Bool :=
  match d.uhf.ch[c].offT with
  | some t => decide (d.now < t + msT d.uhf.txc.revisit)
  | none => false

/-- The usable channels that REVISIT_MS does not refuse (R420). -/
def Dev.permitted (d : Dev) : List (Fin 64) := d.usable.filter fun c => !d.chRefused c

/-- The channel that SC selects next under HOPMODE, with the channels then used in the cycle; `draw` is the entropy
source's number (R420). -/
def Dev.hopChoice (d : Dev) (draw : Nat) : Option (Fin 64 × List (Fin 64)) :=
  let p := d.permitted
  let pick (l : List (Fin 64)) : Option (Fin 64) := l[draw % max 1 l.length]?
  match d.uhf.txc.hopMode with
  | 0 => p.head?.map fun c => (c, [])
  | 1 =>
    let after := match d.uhf.lastCh with
      | some l => p.filter fun c => decide (l < c)
      | none => p
    (match after with
      | c :: _ => some (c, [])
      | [] => p.head?.map fun c => (c, []))
  | _ =>
    let rest := p.filter fun c => !d.uhf.cycle.contains c
    if rest ≠ [] then (pick rest).map fun c => (c, c :: d.uhf.cycle)
    else
      let fresh := p.filter fun c => decide (some c ≠ d.uhf.lastCh)
      (pick (if fresh = [] then p else fresh)).map fun c => (c, [c])

/-- A radio event item (R434). -/
def pushRadio (evt chan cause fstep : Nat) (d : Dev) : Dev :=
  pushEvent 6 d.room.gen.toNat
    ([byteOf evt, byteOf chan, byteOf d.uhf.acfg.val, byteOf cause] ++ le 2 fstep ++ [0, 0] ++ le 4 d.phc ++ le 4 (d.now % 2 ^ 32)) d

/-- BCLK cycles of `n` room radio words (R423). -/
def wordsT (n : Nat) : Nat := (n * 16 + 4) / 5

/-- A run of invalid words goes on (R423). -/
def Dev.invNow (d : Dev) : Bool := match d.uhf.inv with
  | some (e, _) => decide (d.now < e)
  | none => false

/-- An invalid run of all chains: the later end holds (R200, R423). -/
def uhfInv (words cause start : Nat) (d : Dev) : Dev :=
  let e := start + wordsT words
  d.onUhf fun u => match u.inv with
    | some (e0, c0) =>
      if e0 < e then { u with inv := some (e, cause), icause := cause }
      else { u with inv := some (e0, c0) }
    | none => { u with inv := some (e, cause), icause := cause }

/-- The carrier is on, or a calibration that radiates runs (R426, R427). -/
def Dev.radiating (d : Dev) : Bool := d.uhf.on || d.uhf.run = .full || d.uhf.run = .canc

/-- As arbiter the device gives up the aerial, which the peer gets once the carrier is off, and asks for it again where the carrier is
still wanted (R427). -/
def giveAerial (d : Dev) : Dev :=
  uhfChanged (d.onUhf fun u => { u with hold := false, gntDue := true, want := u.carrier })

/-- The carrier is off, its ramp down over (R407, R408). -/
def Dev.carrierOff (d : Dev) : Bool := !d.uhf.on && (d.uhf.cut || (match d.uhf.offT with
  | some t => decide (t + usT 5 ≤ d.now)
  | none => true))

/-- The carrier goes off, with its ramp or, `cut`, without one; the tracked canceller setting is stored, and a waiting peer
gets the aerial (R407, R408, R413, R421, R427); a ramp under way is cut as well (R69). -/
def rampDown (cut : Bool) (d : Dev) : Dev :=
  if !d.uhf.on then (if cut then d.onUhf fun u => { u with cut := true } else d)
  else
    let now := d.now
    let a := d.uhf.acfg
    let tr := d.uhf.track
    let d := onRfCh d.uhf.chan (fun r => { r with offT := some now, canc := r.canc.set a.val tr a.isLt }) d
    let run := d.invNow
    let d := d.onUhf fun u => { u with
      on := false, offT := some now, cut := cut || decide (now ≤ u.onT), dwellT := none, resid := Vector.replicate 4 none
      run := if u.run = .on then .idle else u.run
      icause := if run then u.icause else 7 }
    if d.uhf.coex.role = 2 ∧ d.uhf.peerReq ∧ d.uhf.hold ∧ !d.uhf.gntOut then giveAerial d else d

/-- PA_EN asserted (R405, R407, R408). -/
def Dev.paEn (d : Dev) : Bool :=
  d.uhf.txc.ext && !d.uhf.txkill && d.mode.cur.uhfAllowed &&
  (d.uhf.on || (d.uhf.carrier && d.uhf.hold && d.uhf.run ≠ .idle && decide (d.uhf.paT ≤ d.now)) ||
    (!d.uhf.cut && (match d.uhf.offT with
      | some t => decide (d.now < t + usT 6)
      | none => false)))

/-- NOCHAN follows the usable channels; its events, and the transmitter off while it holds (R417). -/
def evalNochan (d : Dev) : Dev :=
  if d.usable = [] ∧ !d.uhf.nochan then
    pushRadio 3 0xFF 0 0 (rampDown false (d.onUhf fun u => { u with nochan := true }))
  else if d.usable ≠ [] ∧ d.uhf.nochan then pushRadio 4 0xFF 0 0 (d.onUhf fun u => { u with nochan := false })
  else d

/-- A UHF test that sends the Query sequence of its link profile runs (R81). -/
def Dev.queryTest (d : Dev) : Bool := match d.mode.qual with
  | some q => !q.ended && (decide (q.test = 4) || decide (q.test = 5))
  | none => false

/-- The next Query of a test's sequence is sent (R81). -/
def nextQuery (d : Dev) : Dev := if d.queryTest then d.onMode fun m => { m with testQ := m.testQ + 1 } else d

/-- Carrier on, after a hop, an antenna change or a calibration whose ramp up began at `t` (R407, R416, R421). -/
def carrierOn (t : Nat) (d : Dev) : Dev :=
  let c := d.uhf.ch[d.uhf.chan].canc[d.uhf.acfg]
  nextQuery (d.onUhf fun u => { u with on := true, onT := t, dwellT := some (u.dwellT.getD t), track := c })

/-- Cycles from the origin of a change to its ramp up (R410, R416). -/
def RfRun.rampT : RfRun → Option Nat
  | .hop => some (usT 12)
  | .canc => some (usT 12)
  | .full => some (usT 80)
  | .acfg => some (usT 2)
  | _ => none

/-- A change starts, at `origin` or as much later as PA_LEAD asks for; with the invalid words it causes (R407, R415, R416, R423). -/
def startRun (k : RfRun) (origin : Nat) (d : Dev) : Dev :=
  let up := d.paEn
  let r := k.rampT.getD 0
  let lead := if d.uhf.txc.ext && !up then usT d.uhf.txc.paLead else 0
  let t := max origin (d.now + lead - r)
  let now := d.now
  let d := d.onUhf fun u => { u with run := k, runT := t, paT := if up then now else t + r - lead }
  match k with
  | .full => uhfInv 12204 2 t (d.onUhf fun u => { u with cals := satInc 255 u.cals })
  | .canc => uhfInv 4068 3 t (d.onUhf fun u => { u with cals := satInc 255 u.cals })
  | .hop => uhfInv 1628 1 t d
  | .acfg => uhfInv 950 4 t d
  | _ => d

/-- The next calibration of a CALIBRATE starts, the aerial being held (R433). -/
def startNext (d : Dev) : Dev :=
  let now := d.now
  match d.uhf.calRun with
  | none => d
  | some r =>
    match r.cfgs with
    | [] => startRun .full now d
    | a :: _ => startRun .canc (now + usT 14) (d.onUhf fun u => { u with acfg := a })

/-- The carrier ramps up from off on the channel tuned, by what its record asks for (R407, R415, R423). -/
def startOn (d : Dev) : Dev :=
  if d.uhf.calRun.isSome then startNext d
  else if d.uhf.txkill || !d.mayTransmit || d.uhf.nochan || d.uhf.revWait || !d.chUsable d.uhf.chan d.uhf.acfg then d
  else
    let lead := if d.uhf.txc.ext && !d.paEn then usT d.uhf.txc.paLead else 0
    let t := d.now + lead
    match d.chNeed d.uhf.chan d.uhf.acfg with
    | .full => startRun .full d.now d
    | .canc => startRun .canc d.now d
    | _ => uhfInv 814 5 t (carrierOn t (d.onUhf fun u => { u with run := .on, runT := t }))

/-- What a command that waited for the aerial does once it is obtained (R429). -/
def Cmd.afterAerial (c : Cmd) : Phase :=
  if c.opc = 0x80 then .coilSet else if c.opc = 0x40 then .slots else if c.opc = 0x94 then .test else .frames

/-- The device obtains the aerial (R426 to R428). -/
def gained (d : Dev) : Dev :=
  let d := uhfChanged (d.onUhf fun u => { u with hold := true, want := false, reqT := none, boExp := 3, yielded := false })
  let d := d.onNcp fun n => { n with tags := n.tags.map fun t => match t with
    | .active c => .active (if c.phase = .aerial then { c with phase := c.afterAerial } else c)
    | t => t }
  if d.uhf.carrier && d.uhf.run = .idle && !d.uhf.on then startOn d else d

/-- The device asks for the aerial; with ROLE 0 it has it (R424, R426). -/
def requestAerial (d : Dev) : Dev :=
  if d.uhf.hold then d
  else match d.uhf.coex.role with
    | 0 => gained d
    | 1 =>
      let now := d.now
      if d.uhf.boEnd.isSome then d.onUhf fun u => { u with want := true }
      else
        let d := d.onUhf fun u => { u with want := true, reqOut := true, reqT := some (u.reqT.getD now) }
        if d.uhf.gntIn then gained d else d
    | _ => d.onUhf fun u => { u with want := true }

/-- The aerial is released (R424, R426, R427). -/
def releaseAerial (d : Dev) : Dev :=
  let had := d.uhf.hold
  let d := d.onUhf fun u => { u with hold := false, want := false, reqOut := false, reqT := none }
  if had then uhfChanged d else d

/-- Loss of the aerial: the carrier ramps down at once and a calibration is abandoned (R422, R426, R427). -/
def loseAerial (d : Dev) : Dev :=
  let was := d.radiating
  let d := rampDown false d
  uhfChanged (d.onUhf fun u => { u with
    hold := false, want := u.carrier, reqT := none
    run := if u.run = .full ∨ u.run = .canc then .idle else u.run
    preempt := if was then satInc 255 u.preempt else u.preempt })

/-- The carrier-on time of a dwell is over (R421). -/
def Dev.dwellOver (d : Dev) : Bool :=
  match d.uhf.dwellT with
  | some t => decide (t + msT d.uhf.txc.dwell ≤ d.now)
  | none => false

/-- The ramp down at the dwell limit, with the radio's dwell source (R421, R580); before a HOP of the same cycle (R422). -/
def dwellStop (d : Dev) : Dev := if d.uhf.on && d.dwellOver then msgSc 3 (rampDown false d) else d

/-- A Select goes before the next Query: after a hop and after an antenna change (R443). -/
def askSelect (d : Dev) : Dev := d.onRoom fun r => { r with needSel := true }

/-- A hop carried out now, from carrier off (R416, R421, R422). -/
def doHop (c : Fin 64) (d : Dev) : Dev :=
  if !d.chUsable c d.uhf.acfg then d
  else
    let d := askSelect d
    let ramp := if d.uhf.on then usT 5 else 0
    let d := dwellStop d
    let d := rampDown false d
    if d.chRefused c then d.onUhf fun u => { u with href := true }
    else
      let t := d.now + ramp
      let d := d.onUhf fun u => { u with chan := c, lastCh := some c, dwellT := none }
      let k := if d.uhf.carrier && d.uhf.hold && d.mayTransmit then d.chNeed c d.uhf.acfg else .hop
      startRun k t d

/-- A change that a new HOP or ACFG waits for is being carried out (R422). -/
def Uhf.busy (u : Uhf) : Bool := u.run ≠ .idle && u.run ≠ .on

/-- A hop asked for: at once, or after the change being carried out (R408, R422). -/
def hopTo (c : Fin 64) (d : Dev) : Dev :=
  let d := d.onUhf fun u => { u with target := c }
  if d.uhf.txkill then d
  else if d.uhf.busy then d.onUhf fun u => { u with nextHop := some c }
  else doHop c d

/-- SC selects the next channel; where every usable channel would be refused the carrier stays off (R420). -/
def selectHop (draw : Nat) (d : Dev) : Dev :=
  match d.hopChoice draw with
  | some (c, cy) => hopTo c (d.onUhf fun u => { u with cycle := cy, revWait := false })
  | none => if d.usable = [] then evalNochan d else rampDown false (d.onUhf fun u => { u with revWait := true })

/-- A UHF test that stays on its channel, or one that hops (R81). -/
def Dev.uhfTest (d : Dev) (hops : Bool) : Bool :=
  match d.mode.qual with
  | some q => !q.ended && (if hops then decide (q.test = 5) else decide (q.test = 3) || decide (q.test = 4))
  | none => false

/-- The channel taken after a dwell or a wait: inventory and a hopping test select one, the other tests stay (R81, R420). -/
def nextCh (draw : Nat) (d : Dev) : Dev :=
  if d.uhfTest false then
    (if d.chRefused d.uhf.chan then (rampDown false d).onUhf fun u => { u with revWait := true }
    else hopTo d.uhf.chan (d.onUhf fun u => { u with revWait := false }))
  else selectHop draw d

/-- A change of the antenna configuration carried out now (R410, R422, R423). -/
def doAcfg (d : Dev) : Dev :=
  let a := d.uhf.acfgT
  let was := d.uhf.on
  let dw := d.uhf.dwellT
  let ramp := if was then usT 5 else 0
  let d := rampDown false (askSelect d)
  let t := d.now + ramp
  let d := d.onUhf fun u => { u with acfg := a, dwellT := if was then dw else none }
  let k := if d.uhf.carrier && d.uhf.hold && d.mayTransmit then d.chNeed d.uhf.chan a else .acfg
  startRun k t d

/-- The configuration written (R410, R422). -/
def acfgTo (a : Fin 8) (d : Dev) : Dev :=
  let d := d.onUhf fun u => { u with acfgT := a }
  if d.uhf.acfg = a ∨ d.uhf.busy then d
  else if !d.mode.cur.uhfAllowed then evalNochan (d.onUhf fun u => { u with acfg := a })
  else evalNochan (doAcfg d)

/-- What follows a change that has been carried out: a waiting hop, a waiting configuration, or the carrier (R422). -/
def afterRun (d : Dev) : Dev :=
  let d := uhfChanged d
  match d.uhf.nextHop with
  | some c => if d.uhf.txkill then d.onUhf fun u => { u with nextHop := none } else doHop c (d.onUhf fun u => { u with nextHop := none })
  | none =>
    if d.uhf.acfgT ≠ d.uhf.acfg then evalNochan (doAcfg d)
    else if d.uhf.carrier && !d.uhf.on && !d.uhf.txkill then (if d.uhf.hold then startOn d else requestAerial d)
    else d

/-- The carrier of a change under way may ramp up (R408, R422, R426). -/
def Dev.mayRamp (d : Dev) : Bool := d.uhf.carrier && d.uhf.hold && !d.uhf.txkill && d.mayTransmit

/-- The cycle at which a change under way ramps the carrier up: a calibration that may not radiate is abandoned there, and a hop or an
antenna change goes on without it (R410, R416, R422). -/
def rampStart (d : Dev) : Dev :=
  match d.uhf.run.rampT with
  | some t =>
    if d.uhf.on ∨ d.uhf.runT + t ≠ d.now then d
    else if d.uhf.run = .full ∨ d.uhf.run = .canc then
      (if d.mayRamp then carrierOn d.now d else afterRun (d.onUhf fun u => { u with run := .idle }))
    else if d.mayRamp && d.uhf.nextHop.isNone && !d.uhf.nochan && decide (d.chNeed d.uhf.chan d.uhf.acfg = .hop) &&
        decide (d.uhf.acfgT = d.uhf.acfg) then carrierOn d.now d
    else d
  | none => d

/-- Words from the origin of a change to its first valid one, and µs to its end where the carrier stays off (R410, R416, R423). -/
def RfRun.words : RfRun → Nat × Nat
  | .hop => (1628, 12)
  | .acfg => (950, 2)
  | _ => (814, 0)

/-- A hop, an antenna change or a carrier-on run has ended (R410, R416, R423). -/
def hopDone (d : Dev) : Dev :=
  let r := d.uhf.run
  let e := d.uhf.runT + (if d.uhf.on then wordsT r.words.1 else usT r.words.2)
  if (r ≠ .hop ∧ r ≠ .acfg ∧ r ≠ .on) ∨ d.now < e then d
  else
    let d := d.onUhf fun u => { u with run := .idle }
    if r = .on then uhfChanged d else afterRun d

/-- The carrier written: on with the aerial, or off (R407, R408, R422). -/
def carrierWrite (v : Bool) (d : Dev) : Dev :=
  let d := d.onUhf fun u => { u with carrier := v }
  if d.uhf.txkill then d
  else if v then
    if d.uhf.on || d.uhf.busy || !d.mayTransmit || d.uhf.nochan then d
    else if d.uhf.hold then startOn d
    else requestAerial d
  else
    let past := match d.uhf.run with
      | .full => decide (d.uhf.runT + usT 80 ≤ d.now)
      | .canc => decide (d.uhf.runT + usT 12 ≤ d.now)
      | _ => false
    let d := rampDown false d
    let d := if past then d.onUhf fun u => { u with run := .idle, offT := some d.now, cut := false } else d
    releaseAerial (d.onUhf fun u => { u with revWait := false })

/-- TXKILL written (R408, R422). -/
def txkillWrite (v : Bool) (d : Dev) : Dev :=
  if v then
    let d := rampDown true d
    d.onUhf fun u => { u with txkill := true, cut := true, run := if u.run = .full ∨ u.run = .canc then .idle else u.run }
  else d.onUhf fun u => { u with txkill := false }

/-- The transmit chain off: a transition out of the radio's modes, or backup switch-over (R69, R402, R422). -/
def radioOff (cut : Bool) (d : Dev) : Dev :=
  let d := rampDown cut d
  releaseAerial (d.onUhf fun u => { u with carrier := false, run := .idle, nextHop := none, revWait := false, frozen := false })

/-- The failing step of a calibration with the chains `en` in use, 0 where it passes: 1 LOCK, 2 IMAGE, 3 PA, 4 CANCELLER (R416, R434). A
canceller calibration takes no new image rejection and predistortion. -/
def CalRes.fail (x : CalRes) (full : Bool) (en : Nat) : Nat :=
  let on := (List.finRange 4).filter fun i => en.testBit i.val
  if 400 < x.lock.1 ∨ 400 < x.lock.2 then 1
  else if full ∧ (on.any fun i => decide (x.image[i] < 350)) then 2
  else if full ∧ 15 < x.pa.natAbs then 3
  else if on.any fun i => decide (-250 < x.resid[i]) then 4
  else 0

/-- A passed calibration entered in the record, with CHAN_OK for one that had failed (R415 to R417, R434). -/
def calPass (full : Bool) (x : CalRes) (d : Dev) : Dev :=
  let c := d.uhf.chan
  let a := d.uhf.acfg
  let r0 := d.uhf.ch[c]
  let now := d.now
  let temp := d.th.temp
  let bad := (r0.cal = .failed && full) || r0.cancFail.getLsb a
  let d := onRfCh c (fun r =>
    let r := if full then { r with part := x.part, temp := temp, madeT := now, stale := false, cal := .valid, cancOk := 0 } else { r with cal := .valid }
    { r with canc := r.canc.set a.val x.canc a.isLt, cancOk := r.cancOk ||| bit8 a, cancFail := r.cancFail &&& ~~~(bit8 a),
             again := r.again &&& ~~~(bit8 a) }) d
  let d := d.onUhf fun u => { u with track := x.canc }
  if bad then pushRadio 2 c.val 0 d.uhf.chCfg[c].fstep d else d

/-- A calibration that failed at step `f` (R417): the carrier ramps down. -/
def calFailed (full : Bool) (f : Nat) (x : CalRes) (d : Dev) : Dev :=
  let d := rampDown false d
  let c := d.uhf.chan
  let a := d.uhf.acfg
  let now := d.now
  let temp := d.th.temp
  let d := onRfCh c (fun r =>
    if f = 4 then
      let r := if full then { r with part := x.part, temp := temp, madeT := now, stale := false, cal := .valid, cancOk := 0 } else r
      { r with cancOk := r.cancOk &&& ~~~(bit8 a), cancFail := r.cancFail ||| bit8 a, cancFailT := r.cancFailT.set a.val now a.isLt }
    else { r with cal := .failed, failT := now, stale := false }) d
  let run := d.invNow
  let d := d.onUhf fun u => { u with calFail := satInc 255 u.calFail, icause := if run then u.icause else 7 }
  evalNochan (pushRadio 1 c.val f d.uhf.chCfg[c].fstep d)

/-- The device's own priority is HIGH (R425). -/
def Dev.ownPri (d : Dev) : Bool :=
  match d.uhf.coex.primode with
  | 0 => false
  | 1 => true
  | _ => (d.activeTags fun c => decide (0x40 ≤ c.opc) && decide (c.opc ≤ 0x4F) && decide (c.deadline ≠ 0) &&
      decide (c.accT + dlT c.deadline < d.now + msT d.uhf.coex.hiMs)) ≠ []

/-- Backoff slots drawn from 1 to 2^e; e rises with each consecutive yield (R428). -/
def Uhf.backoff (u : Uhf) (draw : Nat) : Nat × Uhf :=
  let e := if u.yielded then min 7 (u.boExp + 1) else 3
  (1 + draw % 2 ^ e, { u with boExp := e, yielded := true })

/-- The device yields to the peer (R428). -/
def yieldAerial (draw : Nat) (d : Dev) : Dev :=
  uhfChanged (d.onUhf fun u =>
    let b := u.backoff draw
    { b.2 with gntOut := true, hold := false, yields := satInc 255 u.yields, boSlots := some b.1 })

/-- The section COEX in effect from now on; the aerial that the device holds stays (R432). -/
def takeCoex (d : Dev) : Dev :=
  match d.uhf.coexNext with
  | none => d
  | some g =>
    let d := d.onUhf fun u => { u with
      coexNext := none, coex := g
      gntOut := if g.role = 2 then u.gntOut else false
      gntDue := false
      reqOut := if g.role = 1 then u.reqOut else false
      peerReq := if g.role = 2 then u.peerReq else false
      boSlots := none, boEnd := none, reqT := none }
    if d.uhf.want && !d.uhf.hold then requestAerial d else d

/-- COEX_GNT, where it is due, once the carrier is off (R427). -/
def payGrant (d : Dev) : Dev :=
  if d.uhf.gntDue && d.carrierOff then d.onUhf fun u => { u with gntOut := true, gntDue := false } else d

/-- One decision of the arbiter (R427). -/
def arbitrate (draw : Nat) (d : Dev) : Dev :=
  let now := d.now
  let new := d.uhf.peerPin && !d.uhf.peerReq
  let d := d.onUhf fun u => { u with peerReq := u.peerPin }
  let asks := d.uhf.want && d.uhf.boEnd.isNone && d.uhf.boSlots.isNone
  if !d.uhf.peerPin then
    let d := d.onUhf fun u => { u with
      gntOut := false, gntDue := false, boSlots := none
      boEnd := match u.boSlots with
        | some k => some (now + usT (64 * k))
        | none => u.boEnd }
    if asks && !d.uhf.hold then gained d else d
  else if d.uhf.gntOut then d
  else if d.uhf.gntDue then payGrant d
  else if !d.uhf.hold && !d.carrierOff then d
  else if !d.uhf.hold && !asks then d.onUhf fun u => { u with gntOut := true }
  else if !d.uhf.hold then
    if d.ownPri && !d.uhf.peerPri then gained d
    else if !d.ownPri && d.uhf.peerPri then d.onUhf fun u => { u with gntOut := true }
    else yieldAerial draw d
  else
    let d := if new then d.onUhf fun u => { u with peerT := now } else d
    if !d.uhf.on && d.uhf.run = .idle then payGrant (giveAerial d)
    else if d.uhf.peerPri && !d.ownPri then (loseAerial d).onUhf fun u => { u with gntDue := true }
    else d

/-- A command that waits for the aerial completes with COEX_DENIED (R429, R463). -/
def Dev.aerialLate (d : Dev) (c : Cmd) : Bool :=
  decide (c.phase = .aerial) &&
  (if c.deadline = 0 then decide (c.waitT + msT 1000 ≤ d.now) else decide (c.accT + dlT c.deadline ≤ d.now))

/-! Outputs -/

/-- Frequency of the carrier in kHz: SYN_T on the channel tuned (R403, R404). -/
def Uhf.carrierKhz (u : Uhf) : Nat := 860000 + 25 * u.chCfg[u.chan].fstep

/-- Frequency of the receive LO in kHz: SYN_R, 2.000 MHz below (R404). -/
def Uhf.loKhz (u : Uhf) : Nat := u.carrierKhz - 2000

/-- Power in effect on the channel tuned, 0.1 dBm, at UANT or at UTX (R405). -/
def Uhf.powerDb (u : Uhf) : Int :=
  (if u.txc.ext then -200 else -100) + 5 * (min u.txc.power u.chCfg[u.chan].pcap : Nat)

/-- Share of the full amplitude at which the carrier stands, scaled by `unit`: raised-cosine ramps of 5.0 µs (R407, R408). -/
def Dev.rfShare (d : Dev) : Int :=
  let t := usT 5
  let rise (k : Nat) : Int := if t ≤ k then unit else (unit - (sinCos ((1800 * k / t : Nat) : Int)).2) / 2
  if d.uhf.on then rise (d.now - d.uhf.onT)
  else if d.uhf.cut then 0
  else match d.uhf.offT with
    | some o => unit - rise (d.now - o)
    | none => 0

/-- PA_RAMP: 0 with the on-chip PA, else the ramp from 0 to PA_TOP (R405, R407). -/
def Dev.paRamp (d : Dev) : Nat := if d.uhf.txc.ext then (d.uhf.txc.paTop * d.rfShare / unit).toNat else 0

/-- What the selector makes of a port (R409). -/
inductive PortUse where
  /-- 50 Ω on-chip -/
  | terminated
  /-- transmit alone, or with a chain through the directional coupler -/
  | used (tx : Bool) (chain : Option (Fin 4))
deriving DecidableEq, Repr

/-- Receive port of chain `i` (R409). -/
def AntCfg.port (x : AntCfg) (i : Nat) : Nat := x.rx / 16 ^ i % 16

/-- Use of a port UANT0 to UANT11 by the configuration connected (R409). -/
def Uhf.portUse (u : Uhf) (p : Fin 12) : PortUse :=
  let a := u.ant[u.acfg]
  let t := decide (a.tx = p.val) && decide (a.en ≠ 0)
  let c := (List.finRange 4).find? fun i => a.en.testBit i.val && decide (a.port i.val = p.val)
  if t || c.isSome then .used t c else .terminated

/-- A pin of the aerial arbitration as the device drives it, `none` where it is an input or high impedance (R424, R425). -/
def Dev.coexPin (d : Dev) (role bit : Nat) (level : Bool) : Option Bool :=
  if d.mode.cur ≠ .m0 ∧ d.uhf.coex.role = role then some (level ^^ d.uhf.coex.pol.testBit bit) else none

/-- COEX_REQ (R424). -/
def Dev.coexReq (d : Dev) : Option Bool := d.coexPin 1 0 d.uhf.reqOut

/-- COEX_PRI (R424, R425). -/
def Dev.coexPri (d : Dev) : Option Bool := d.coexPin 1 1 (d.uhf.reqOut && d.ownPri)

/-- COEX_GNT (R424). -/
def Dev.coexGnt (d : Dev) : Option Bool := d.coexPin 2 2 d.uhf.gntOut

/-! Registers (R436 to R438) -/

/-- UHF_STAT.STATE (R436). -/
def Dev.uhfState (d : Dev) : Nat :=
  let u := d.uhf
  if u.run = .full ∨ u.run = .canc then 4
  else if u.run = .hop ∨ u.run = .acfg then 3
  else if u.on then (if d.now < u.onT + usT 5 then 1 else 2)
  else if u.want then 5
  else match u.offT with
    | some t => if !u.cut ∧ d.now < t + usT 5 then 1 else 0
    | none => 0

/-- UHF_STAT.RXVALID bit of chain `i` (R423, R436). -/
def Dev.chainValid (d : Dev) (i : Fin 4) : Bool :=
  d.uhf.on && (match d.uhf.inv with
    | some (e, _) => decide (e ≤ d.now)
    | none => true) && d.uhf.ant[d.uhf.acfg].en.testBit i.val && d.uhf.resid[i].isNone

/-- The sample word of chain `i` for I and Q after correction, shift and high-pass (R31, R411, R423). -/
def Dev.roomWord (d : Dev) (i : Fin 4) (v : Cplx) : Word :=
  let off := !d.uhf.ant[d.uhf.acfg].en.testBit i.val
  word (((if off then 0 else twos 15 (clip15 v.1) * 2 ^ 17 + twos 15 (clip15 v.2) * 4) + 2 * b2n (!d.chainValid i)) + b2n d.binNow)

/-- RXVALID (R436). -/
def Dev.rxValid (d : Dev) : Nat :=
  b2n (d.chainValid 0) + 2 * b2n (d.chainValid 1) + 4 * b2n (d.chainValid 2) + 8 * b2n (d.chainValid 3)

/-- Code of CAL (R415). -/
def ChCal.code : ChCal → Nat
  | .none => 0 | .part => 1 | .valid => 2 | .failed => 3

/-- UHF_CTL as read (R436). -/
def Uhf.ctlWord (u : Uhf) : Nat := u.target.val + 64 * u.acfgT.val + 512 * b2n u.carrier + 2048 * b2n u.txkill

/-- UHF_STAT (R436). -/
def Dev.uhfStat (d : Dev) : Nat :=
  d.uhf.chan.val + 64 * d.uhf.acfg.val + 512 * d.uhfState + 4096 * b2n d.paEn + 8192 * b2n d.uhf.hold +
  16384 * b2n d.uhf.nochan + 32768 * b2n d.uhf.href + 65536 * d.rxValid + 2 ^ 20 * d.uhf.icause

/-- UHF_CNT (R436). -/
def Uhf.cntWord (u : Uhf) : Nat := u.cals + 256 * u.calFail + 65536 * u.cntResid + 2 ^ 24 * u.preempt

/-- COEX_STAT (R437). -/
def Dev.coexStat (d : Dev) : Nat :=
  d.uhf.coex.role + 4 * b2n d.ownPri + 8 * b2n d.uhf.peerReq + 16 * b2n d.uhf.peerPri + 32 * d.uhf.boExp +
  65536 * d.uhf.yields + 2 ^ 24 * d.uhf.denied

/-- UHF_CHc (R437). -/
def Dev.uhfCh (d : Dev) (c : Fin 64) : Nat :=
  let r := d.uhf.ch[c]
  let age := if r.cal = .none then 0 else min 4095 ((d.now - r.madeT) / msT 1000)
  r.cal.code + 4 * r.cancOk.toNat + 1024 * r.cancFail.toNat + 2 ^ 18 * age

/-- UHF_SUM (R438). -/
def Dev.uhfSum (d : Dev) : Nat :=
  let n (k : ChCal) := (allCh.filter fun c => decide (d.uhf.ch[c].cal = k)).length
  d.uhf.chan.val + 64 * d.uhf.acfg.val + 512 * d.uhfState + 4096 * b2n d.paEn + 8192 * b2n d.uhf.nochan +
  16384 * b2n d.uhf.hold + 32768 * n .valid + 2 ^ 22 * n .failed

end Sys2Proof.Machine
end

