-- ==== Sys2Proof/Machine/Radio.lean ====
section
/-! DEFINITION. Commands of the room radio front end (chapter 11). -/

namespace Sys2Proof.Machine
open Sys2Proof

/-- A hop, an antenna change or a carrier-on run completes (R410, R416, R423). -/
def execUhfHopDone (s : State) : Out := onDev s hopDone

/-- The dwell limit; while inventory or a test runs the next channel follows, with the entropy source's number `draw` (R81, R420, R421). -/
def execUhfDwellExpiry (draw : Nat) (s : State) : Out :=
  onDev s fun d =>
    if !d.uhf.on || !d.dwellOver then d
    else
      let d := dwellStop d
      if (d.mode.cur.room || d.mode.qual.isSome) && d.uhf.carrier then nextCh draw d else d

/-- A code after a tracking step (R413). -/
def TrackDir.step (k : Int) : TrackDir → Int
  | .down => k - 1
  | .stay => k
  | .up => k + 1

/-- A tracking step of the cancellers of the chains in use, by one code a chain (R413). -/
def execCancellerTrack (dir : Vector TrackDir 4) (s : State) : Out :=
  onDev s fun d =>
    if !d.uhf.on || d.uhf.frozen || d.uhf.run ≠ .idle || decide (d.now < d.uhf.trackT + usT 2) then d
    else
      let now := d.now
      let en := d.uhf.ant[d.uhf.acfg].en
      let old := d.uhf.track.code
      let code := Vector.ofFn fun (i : Fin 4) => if en.testBit i.val then dir[i].step old[i] else old[i]
      d.onUhf fun u => { u with track := { u.track with code := code }, trackT := now }

/-- A chain's residual rises above -20 dBm, or tracking has brought it back to -25 dBm (R414). -/
def execResidualExcursion (i : Fin 4) (above : Bool) (s : State) : Out :=
  onDev s fun d =>
    if !d.uhf.on || !d.uhf.ant[d.uhf.acfg].en.testBit i.val then d
    else
      let now := d.now
      if above then
        if d.uhf.resid[i].isSome then d
        else d.onUhf fun u => { u with resid := u.resid.set i.val (some now) i.isLt, cntResid := satInc 255 u.cntResid, icause := 6 }
      else d.onUhf fun u => { u with resid := u.resid.set i.val none i.isLt }

/-- A residual above -20 dBm for 1 ms asks for a canceller calibration at the next hop to the channel (R414). -/
def execResidualPersist (i : Fin 4) (s : State) : Out :=
  onDev s fun d =>
    match d.uhf.resid[i] with
    | some t =>
      let a := d.uhf.acfg
      if t + msT 1 ≤ d.now then onRfCh d.uhf.chan (fun r => { r with again := r.again ||| bit8 a }) d else d
    | none => d

/-- A level at COEX_GNT with ROLE 1, asserted once it has stood 2 µs (R424, R426). -/
def execCoexGntChange (level : Bool) (s : State) : Out :=
  onDev s fun d =>
    if d.uhf.coex.role ≠ 1 ∨ d.mode.cur = .m0 then d
    else
      let g := level ^^ d.uhf.coex.pol.testBit 2
      let d := d.onUhf fun u => { u with gntIn := g }
      if g then (if d.uhf.reqOut && !d.uhf.hold then gained d else d)
      else if d.uhf.hold then loseAerial d else d

/-- A request not granted within GNT_TO is withdrawn and a backoff begins (R426, R428). -/
def execCoexGntTimeout (draw : Nat) (s : State) : Out :=
  onDev s fun d =>
    match d.uhf.reqT with
    | some t =>
      if d.uhf.coex.role = 1 ∧ d.uhf.reqOut ∧ !d.uhf.hold ∧ t + usT (10 * d.uhf.coex.gntTo) ≤ d.now then
        let now := d.now
        d.onUhf fun u =>
          let b := u.backoff draw
          { b.2 with reqOut := false, reqT := none, boEnd := some (now + usT (64 * b.1)) }
      else d
    | none => d

/-- The decision of the aerial, once every µs (R427, R432). -/
def execCoexDecision (draw : Nat) (s : State) : Out :=
  onDev s fun d =>
    if d.mode.cur = .m0 then d
    else
      let d := takeCoex d
      if d.uhf.coex.role = 2 then arbitrate draw d else d

/-- Levels at COEX_REQ and COEX_PRI with ROLE 2 (R424, R425, R427). -/
def execCoexReqChange (req pri : Bool) (s : State) : Out :=
  onDev s fun d =>
    if d.uhf.coex.role ≠ 2 ∨ d.mode.cur = .m0 then d
    else d.onUhf fun u => { u with peerPin := req ^^ u.coex.pol.testBit 0, peerPri := pri ^^ u.coex.pol.testBit 1 }

/-- HOLD_MAX after a request of the peer the device gives the aerial (R427). -/
def execCoexHoldMax (s : State) : Out :=
  onDev s fun d =>
    if d.uhf.coex.role = 2 ∧ d.uhf.peerReq ∧ !d.uhf.gntOut ∧ d.uhf.hold ∧ d.uhf.peerT + msT d.uhf.coex.holdMax ≤ d.now then
      (loseAerial d).onUhf fun u => { u with gntDue := true }
    else d

/-- The backoff ends and the device requests again (R426, R428). -/
def execCoexBackoffEnd (s : State) : Out :=
  onDev s fun d =>
    match d.uhf.boEnd with
    | some t =>
      if t ≤ d.now then
        let d := d.onUhf fun u => { u with boEnd := none }
        if d.uhf.want then requestAerial d else d
      else d
    | none => d

/-- A command that could not obtain the aerial in time (R429). -/
def aerialDenied (tag : Fin 32) (payload : List Byte) (d : Dev) : Dev :=
  complete tag .coexDenied payload (d.onUhf fun u => { u with denied := satInc 255 u.denied })

/-! RADIO_CONFIG (R430 to R432) -/

/-- A channel entry as its word (R431). -/
def ChCfg.word (x : ChCfg) : Nat := x.fstep + 4096 * b2n x.en + 65536 * x.pcap

/-- A channel word is in range (R403, R431, R432). -/
def chWordOk (w : Nat) : Bool := decide (bits w 11 0 ≤ 4000) && decide (bits w 15 13 = 0) && decide (bits w 21 16 ≤ 60) && decide (bits w 31 22 = 0)

/-- The entry of a channel word (R431). -/
def chOfWord (w : Nat) : ChCfg := { fstep := bits w 11 0, en := w.testBit 12, pcap := bits w 21 16 }

/-- An antenna configuration as its bytes (R431). -/
def AntCfg.bytes (x : AntCfg) : List Byte := [byteOf x.tx] ++ le 2 x.rx ++ [byteOf x.en]

/-- The antenna configuration keeps R409 with a TXMODE; one that is not defined has no more to keep. -/
def AntCfg.ok (x : AntCfg) (ext : Bool) : Bool :=
  x.en = 0 ||
  ((if ext then decide (x.tx = 15) else decide (x.tx ≤ 11)) &&
    (List.range 4).all fun i => !x.en.testBit i ||
      (decide (x.port i ≤ 11) && (List.range 4).all fun j => decide (i = j) || !x.en.testBit j || decide (x.port i ≠ x.port j)))

/-- Four bytes as an antenna configuration; none where a field is out of range or a reserved bit is set (R431, R432). -/
def antOf (p : List Byte) : Option AntCfg :=
  let t := byteAt p 0
  let e := byteAt p 3
  let r := leAt p 1 2
  if t < 16 ∧ e < 16 ∧ (t ≤ 11 ∨ t = 15) ∧ ((List.range 4).all fun i => decide (r / 16 ^ i % 16 ≤ 11) || !e.testBit i) then
    some { tx := t, rx := r, en := e }
  else none

/-- Section TRANSMIT as bytes (R431). -/
def Uhf.txBytes (u : Uhf) : List Byte :=
  [byteOf (b2n u.txc.ext), byteOf u.txc.power, byteOf u.txc.paLead, byteOf u.txc.hopMode] ++ le 2 u.txc.dwell ++ le 2 u.txc.revisit ++
  le 2 u.txc.paTop ++ [byteOf u.acfgT.val, 0]

/-- Section COEX as bytes, with the values written last (R431, R432). -/
def Uhf.coexBytes (u : Uhf) : List Byte :=
  let g := u.coexNext.getD u.coex
  [byteOf g.role, byteOf g.pol, byteOf g.primode, byteOf g.hiMs, byteOf g.gntTo, byteOf g.holdMax, 0, 0]

/-- A section as it stands (R430, R431). -/
def Uhf.section (u : Uhf) (sec index count : Nat) : List Byte :=
  match sec with
  | 1 => (List.range count).flatMap fun i => le 4 (u.chCfg[Fin.ofNat 64 (index + i)]).word
  | 2 => (List.range count).flatMap fun i => (u.ant[Fin.ofNat 8 (index + i)]).bytes
  | 3 => u.txBytes
  | _ => u.coexBytes

/-- Section TRANSMIT is in range; `u` gives the configurations (R405, R409, R431, R432). -/
def txOk (u : Uhf) (p : List Byte) : Bool :=
  decide (byteAt p 0 ≤ 1) && decide (byteAt p 1 ≤ (if byteAt p 0 = 1 then 50 else 60)) && decide (byteAt p 2 ≤ 100) && decide (byteAt p 3 ≤ 2) &&
  decide (10 ≤ leAt p 4 2) && decide (leAt p 4 2 ≤ 4000) && decide (leAt p 6 2 ≤ 10000) && decide (leAt p 8 2 ≤ 1023) &&
  decide (byteAt p 10 ≤ 7) && decide (byteAt p 11 = 0) && decide (u.ant[Fin.ofNat 8 (byteAt p 10)].en ≠ 0) &&
  u.ant.toList.all fun x => x.ok (decide (byteAt p 0 = 1))

/-- Section COEX is in range (R431, R432). -/
def coexOk (p : List Byte) : Bool :=
  decide (byteAt p 0 ≤ 2) && decide (byteAt p 1 ≤ 7) && decide (byteAt p 2 ≤ 2) && decide (1 ≤ byteAt p 3) && decide (1 ≤ byteAt p 4) &&
  decide (1 ≤ byteAt p 5) && decide (byteAt p 6 = 0) && decide (byteAt p 7 = 0)

/-- Bytes of a section's entry, and its number of entries (R430, R431). -/
def secSize : Nat → Option (Nat × Nat)
  | 1 => some (4, 64)
  | 2 => some (4, 8)
  | 3 => some (12, 0)
  | 4 => some (8, 0)
  | _ => none

/-- DATA of a written section is in range (R432). -/
def secOk (u : Uhf) (sec index count : Nat) (p : List Byte) : Bool :=
  match sec with
  | 1 => (List.range count).all fun i => chWordOk (leAt p (4 * i) 4)
  | 2 => (List.range count).all fun i => match antOf (p.drop (4 * i)) with
      | some x => x.ok u.txc.ext && (decide (index + i ≠ u.acfgT.val) || decide (x.en ≠ 0) || decide (u.ant[u.acfgT].en = 0))
      | none => false
  | 3 => txOk u p
  | _ => coexOk p

/-- A section written, with the actions of R418. -/
def secWrite (sec index count : Nat) (p : List Byte) (d : Dev) : Dev :=
  match sec with
  | 1 => evalNochan (d.onUhf fun u => (List.range count).foldl (fun u i =>
      let c := Fin.ofNat 64 (index + i)
      let x := chOfWord (leAt p (4 * i) 4)
      let moved := decide (u.chCfg[c].fstep ≠ x.fstep)
      { u with chCfg := u.chCfg.set c.val x c.isLt, ch := upd u.ch c fun r => { r with stale := r.stale || moved } }) u)
  | 2 => d.onUhf fun u => (List.range count).foldl (fun u i => match antOf (p.drop (4 * i)) with
      | some x => { u with ant := upd u.ant (Fin.ofNat 8 (index + i)) fun _ => x }
      | none => u) u
  | 3 =>
    let ext := decide (byteAt p 0 = 1)
    let d := d.onUhf fun u => { u with
      txc := { ext := ext, power := byteAt p 1, paLead := byteAt p 2, hopMode := byteAt p 3, dwell := leAt p 4 2, revisit := leAt p 6 2, paTop := leAt p 8 2 }
      ch := if u.txc.ext = ext then u.ch else u.ch.map fun r => { r with stale := true } }
    acfgTo (Fin.ofNat 8 (byteAt p 10)) d
  | _ =>
    let g : CoexCfg := { role := byteAt p 0, pol := byteAt p 1, primode := byteAt p 2, hiMs := byteAt p 3, gntTo := byteAt p 4, holdMax := byteAt p 5 }
    d.onUhf fun u => { u with coexNext := some g }

/-- RADIO_CONFIG (R430 to R432). -/
def execRadioConfig (tag : Fin 32) (s : State) : Out :=
  onDev s <| begin_ 0x08 tag (fun n => decide (4 ≤ n)) fun c d =>
    let p := c.payload
    let data := p.drop 4
    let sec := byteAt p 0
    let fl := byteAt p 1
    let index := byteAt p 2
    let count := byteAt p 3
    match secSize sec with
    | none => fail tag .badParam d
    | some (size, n) =>
      let len := if fl = 1 then size * (if n = 0 then 1 else count) else 0
      if fl > 1 || decide (data.length ≠ len) ||
          (if n = 0 then decide (index ≠ 0) || decide (count ≠ 0) else decide (count < 1) || decide (n < index + count)) ||
          (decide (fl = 1) && !secOk d.uhf sec index count data) then fail tag .badParam d
      else
        inMode tag c (fun d =>
          if fl = 1 ∧ d.mode.cur ≠ .m4 ∧ d.mode.cur ≠ .m9 then fail tag .wrongMode d
          else
            let d := if fl = 1 then secWrite sec index count data d else d
            complete tag .ok ([byteOf sec, 0, byteOf index, byteOf count] ++ d.uhf.section sec index count) d) d

/-! CALIBRATE with TARGET UHF (R433) -/

/-- The configurations calibrated after the one in effect (R433). -/
def Uhf.further (u : Uhf) (all : Bool) : List (Fin 8) :=
  if all then (List.finRange 8).filter fun a => decide (a ≠ u.acfgT) && decide (u.ant[a].en ≠ 0) else []

/-- The channel parts that flash holds (R419). -/
def Nvm.uhfParts (v : Nvm) : Vector (Option (List Nat × Int)) 64 :=
  match v.recs[2] with
  | some { data := .uhf p, .. } => p
  | _ => Vector.replicate 64 none

/-- Those parts with the ones of the enabled channels of a CALIBRATE (R419, R433). -/
def Dev.newParts (d : Dev) (first last : Nat) : RecData :=
  let u := d.uhf
  let old := d.nvm.uhfParts
  .uhf (Vector.ofFn fun c =>
    if first ≤ c.val ∧ c.val ≤ last ∧ u.chCfg[c].en ∧ u.ch[c].cal = .valid then some (u.ch[c].part, u.ch[c].temp) else old[c])

/-- The CALIBRATE's next calibration, or its end (R433). -/
def calNext (d : Dev) : Dev :=
  match d.uhf.calRun with
  | none => d
  | some r =>
    match r.left with
    | [] =>
      let d := radioOff false d
      let p := ((d.cmd r.tag).map (·.payload)).getD []
      let a := d.uhf.acfgT
      let reply := [2, byteOf r.done, byteOf r.failed, 0]
      let d := d.onUhf fun u => { u with calRun := none, acfg := a }
      if (byteAt p 1).testBit 0 then writeRec 2 (d.newParts (byteAt p 2) (byteAt p 3)) (some r.tag) reply d
      else complete r.tag .ok reply d
    | c :: _ =>
      let d := d.onUhf fun u => { u with carrier := true, chan := c }
      let now := d.now
      if !d.uhf.hold then
        requestAerial (onCmd r.tag (fun k => { k with phase := .aerial, waitT := now }) d)
      else startNext d

/-- A calibration of the CALIBRATE has ended; ABORT stops it at the end of a channel, and nothing is stored (R433, R530). -/
def calAdvance (failed : Bool) (d : Dev) : Dev :=
  match d.uhf.calRun with
  | none => d
  | some r =>
    let first := decide (d.uhf.acfg = d.uhf.acfgT)
    let bad := r.bad || failed
    let p := ((d.cmd r.tag).map (·.payload)).getD []
    let rest := if first then (if failed ∧ d.uhf.ch[d.uhf.chan].cal = .failed then [] else d.uhf.further ((byteAt p 1).testBit 1)) else r.cfgs.drop 1
    let back := d.uhf.acfgT
    let stop := match d.cmd r.tag with
      | some c => c.stopReq
      | none => true
    let d := rampDown false d
    if stop && rest.isEmpty then
      fail r.tag .aborted (radioOff false (d.onUhf fun u => { u with acfg := back, calRun := none }))
    else match rest with
    | a :: as => calNext (d.onUhf fun u => { u with calRun := some { r with bad := bad, cfgs := a :: as } })
    | [] =>
      let r := { r with
        left := r.left.drop 1
        cfgs := []
        bad := false
        done := if bad then r.done else r.done + 1
        failed := if bad then r.failed + 1 else r.failed }
      calNext (d.onUhf fun u => { u with acfg := back, calRun := some r })

/-- CALIBRATE with TARGET UHF (R433). -/
def execCalibrateUhf (tag : Fin 32) (s : State) : Out :=
  onDev s fun d =>
    match d.startable 0x80 tag with
    | none => d
    | some c =>
      let p := c.payload
      if byteAt p 0 ≠ 2 then d
      else if p.length ≠ 4 ∨ byteAt p 1 > 3 ∨ 63 < byteAt p 2 ∨ 63 < byteAt p 3 ∨ byteAt p 3 < byteAt p 2 then fail tag .badParam d
      else
        inMode tag c (fun d =>
          let chs := allCh.filter fun k => decide (byteAt p 2 ≤ k.val) && decide (k.val ≤ byteAt p 3) && d.uhf.chCfg[k].en
          if d.uhf.calRun.isSome then d
          else
            let d := onCmd tag (fun k => { k with phase := .coilSet }) d
            calNext (d.onUhf fun u => { u with calRun := some { tag := tag, left := chs, cfgs := [] } })) d

/-- A channel or canceller calibration ends with what it measured (R416, R417, R422, R433). One of a CALIBRATE that was abandoned counts as
failed there. -/
def uhfCalEnd (x : CalRes) (d : Dev) : Dev :=
    let full := decide (d.uhf.run = .full)
    let f := x.fail full d.uhf.ant[d.uhf.acfg].en
    let cut := d.uhf.calRun.isSome && decide (d.uhf.run = .idle) && (d.uhf.txkill || !d.uhf.carrier)
    if cut then uhfChanged (calAdvance true d)
    else if d.uhf.run ≠ .full ∧ d.uhf.run ≠ .canc then d
    else if !d.uhf.on ∧ f ≠ 1 ∧ f ≠ 2 then d
    else
      let d := d.onUhf fun u => { u with run := .idle }
      let d := if f = 0 then calPass full x d else calFailed full f x d
      if d.uhf.calRun.isSome then uhfChanged (calAdvance (decide (f ≠ 0)) d) else afterRun d

/-- The earliest channel that REVISIT_MS refused is permitted again (R420). -/
def execRevisitExpiry (draw : Nat) (s : State) : Out :=
  onDev s fun d =>
    let go := if d.uhfTest false then !d.chRefused d.uhf.chan else decide (d.permitted ≠ [])
    if d.uhf.revWait && go then nextCh draw d else d

/-- 10 s after a failure a channel or configuration may be selected again, which can end NOCHAN (R417). -/
def execFailedChannelRetry (draw : Nat) (s : State) : Out :=
  onDev s fun d =>
    if d.uhf.nochan && decide (d.usable ≠ []) then
      let d := evalNochan d
      if (d.mode.cur.room || d.mode.qual.isSome) && d.uhf.carrier then nextCh draw d else d
    else d

end Sys2Proof.Machine
end

