-- ==== Sys2Proof/Machine/KeyOps.lean ====
section
/-! DEFINITION. The security island: requests, refusals, operations and the key slots (chapter 18). -/

namespace Sys2Proof.Machine
open Sys2Proof

/-- Change of one slot. -/
def onSlot (s : Fin 64) (f : KSlot → KSlot) (d : Dev) : Dev := d.onKey fun k => { k with slot := upd k.slot s f }

/-- Change of one port. -/
def onPort (p : Fin 5) (f : KsPort → KsPort) (d : Dev) : Dev := d.onKey fun k => { k with port := upd k.port p f }

/-- The slot that a number names. -/
def slotNo (n : Nat) : Option (Fin 64) := if h : n < 64 then some ⟨n, h⟩ else none

/-- Message of the island's source of SC (R580, R643). -/
def islandMsg (d : Dev) : Dev := msgSc 12 d

/-- A SYSTEM item of the island (R651). -/
def pushIsland (evt slot count label : Nat) (d : Dev) : Dev :=
  islandMsg (pushSystem 1 evt ([byteOf slot, byteOf count] ++ le 4 label) d)

/-! Device keys (R630, R635, R636) -/

/-- The bytes of the fused root. -/
def rootBytes : List Nat := be 32 Config.root.toNat

/-- The device wrapping key (R630). -/
def dwk : List Nat := kdf (hmac rootBytes) ([0x52, 0x56, 0x2D, 0x42, 0x4C, 0x4F, 0x42]) 32

/-- The device identity key (R630). -/
def dik : Nat := beVal (kdf (hmac rootBytes) ([0x52, 0x56, 0x2D, 0x44, 0x49, 0x4B]) 40) % (p256N - 1) + 1

/-- KLEN fits KTYPE (R631). -/
def klenOk (ktype klen : Nat) : Bool :=
  match ktype with
  | 1 => klen = 16
  | 2 => klen = 32
  | 3 => decide (16 ≤ klen) && decide (klen ≤ 52)
  | 4 => klen = 32
  | _ => false

/-- A blob made of a slot's key, with the initialisation vector `iv` (R635, R636). -/
def makeBlob (k : KSlot) (limit : Nat) (iv : List Nat) : List Nat :=
  let hdr := [0x4B, 0x42, 1, k.ktype, k.key.length, k.bflags] ++ nums (le 2 k.usage) ++ nums (le 3 limit) ++ [0] ++ nums (le 4 k.label)
  let iv := (iv ++ List.replicate 12 0).take 12
  let c := gcmEnc dwk iv hdr (k.key ++ List.replicate (52 - k.key.length) 0)
  hdr ++ iv ++ c.1 ++ c.2

/-- The slot that a blob gives, none where the blob fails a condition of R636. -/
def openBlob (b : List Nat) : Option KSlot :=
  let hdr := b.take 16
  let at_ (i : Nat) := hdr.getD i 0
  match gcmDec dwk ((b.drop 16).take 12) hdr ((b.drop 28).take 52) (b.drop 80) with
  | some m =>
    let klen := at_ 4
    let usage := at_ 6 + 256 * at_ 7
    let limit := at_ 8 + 256 * at_ 9 + 65536 * at_ 10
    if at_ 0 = 0x4B ∧ at_ 1 = 0x42 ∧ at_ 2 = 1 ∧ klenOk (at_ 3) klen ∧ (m.drop klen).all (fun x => decide (x = 0)) ∧
        at_ 5 < 4 ∧ usage < 4096 ∧ at_ 11 = 0 then
      some { st := .loaded, ktype := at_ 3, usage := usage, bflags := at_ 5, uses := if limit = 0 then none else some limit,
             label := at_ 12 + 256 * at_ 13 + 65536 * at_ 14 + 2 ^ 24 * at_ 15, key := m.take klen }
    else none
  | none => none

/-! Operations and their parameters (R632, R639) -/

/-- Operations that make a new key (R639). -/
def makesKey (op : Nat) : Bool := op = 0x22 || op = 0x23 || op = 0x30 || op = 0x32

/-- Operations that name no KSLOT (R639). -/
def noSlot (op : Nat) : Bool := op = 0x10 || op = 0x21 || op = 0x23

/-- KTYPEs that fit an operation's KSLOT, and the USAGE bits it asks for; none where OP is unknown (R632, R639). -/
def opNeeds : Nat → Option (List Nat × Nat)
  | 0x01 => some ([1, 2], 0x001) | 0x02 => some ([1, 2], 0x002) | 0x03 => some ([1, 2], 0x001) | 0x04 => some ([1, 2], 0x002)
  | 0x05 => some ([1, 2], 0x004) | 0x06 => some ([1, 2], 0x008) | 0x07 => some ([1, 2], 0x001) | 0x08 => some ([1, 2], 0x002)
  | 0x09 => some ([1, 2], 0x001) | 0x0A => some ([1, 2], 0x002) | 0x10 => some ([], 0) | 0x11 => some ([3], 0x004)
  | 0x12 => some ([3], 0x008) | 0x20 => some ([4], 0x010) | 0x21 => some ([], 0) | 0x22 => some ([4], 0x020)
  | 0x23 => some ([], 0) | 0x30 => some ([1, 2, 3], 0x040) | 0x31 => some ([1, 2], 0x080) | 0x32 => some ([1, 2], 0x100)
  | 0x33 => some ([1, 2, 3, 4], 0x400) | 0x34 => some ([4], 0)
  | _ => none

/-- The lengths fit the operation (R639). -/
def lensOk (r : KReq) : Bool :=
  let n := r.nonce.length
  let a := r.aad.length
  let l := r.data.length
  let t := r.tag.length
  let data16 := decide (l % 16 = 0)
  match r.op with
  | 0x01 | 0x02 => data16 && decide (n = 0 ∧ a = 0 ∧ t = 0)
  | 0x03 | 0x04 => data16 && decide (n = 16 ∧ a = 0 ∧ t = 0)
  | 0x05 | 0x06 => decide (n = 0 ∧ a = 0 ∧ 4 ≤ t ∧ t ≤ 16)
  | 0x07 | 0x08 => decide (7 ≤ n ∧ n ≤ 13 ∧ t % 2 = 0 ∧ 4 ≤ t ∧ t ≤ 16)
  | 0x09 | 0x0A => decide (n = 12 ∧ 12 ≤ t ∧ t ≤ 16)
  | 0x10 => decide (n = 0 ∧ a = 0 ∧ t = 0)
  | 0x11 | 0x12 => decide (n = 0 ∧ a = 0 ∧ 16 ≤ t ∧ t ≤ 32)
  | 0x20 => decide (n = 0 ∧ a = 0 ∧ t = 0 ∧ l = 32)
  | 0x21 => decide (n = 0 ∧ a = 0 ∧ t = 0 ∧ l = 160)
  | 0x22 => decide (n = 0 ∧ t = 0 ∧ l = 64)
  | 0x30 => decide (n = 0 ∧ t = 0 ∧ l = 0)
  | 0x32 => decide (n = 0 ∧ a = 0 ∧ t = 0 ∧ l = r.klen + 8)
  | _ => decide (n = 0 ∧ a = 0 ∧ t = 0 ∧ l = 0)

/-- GRANT that a new key takes (R639, R643). -/
def KSrc.ownGrant : KSrc → Nat
  | .port _ (.zc k) => 0x10 + k.val
  | .port _ (.ext _ m) => 0x40 + m
  | _ => 0

/-- The attributes of a new key are in range; without one they are 0 (R631, R635, R639, R650). -/
def attrsOk (r : KReq) : Bool :=
  if makesKey r.op then
    klenOk r.ktype r.klen && (decide (r.ktype ≠ 4) || decide (r.op = 0x23)) && decide (r.usage < 4096) && decide (r.bflags < 4) &&
    decide (r.limit < 2 ^ 24) && decide (r.dslot < 64) && (!r.bflags.testBit 1 || decide (r.src.ownGrant = 0))
  else
    decide (r.usage = 0 ∧ r.ktype = 0 ∧ r.klen = 0 ∧ r.bflags = 0 ∧ r.limit = 0) &&
    (if r.op = 0x31 then decide (r.dslot < 64) else decide (r.dslot = 0xFF))

/-- KSLOT fits the operation (R639, R643, R650). -/
def kslotOk (r : KReq) : Bool :=
  if noSlot r.op then decide (r.kslot = 0xFF)
  else decide (r.kslot < 64) || (decide (r.kslot = 0xFE) && (decide (r.op = 0x22) || decide (r.op = 0x34)))

/-- Public keys in the data are points of P-256 (R639). -/
def pointsOk (r : KReq) : Bool :=
  if r.op = 0x21 ∨ r.op = 0x22 then (ecPoint (r.data.take 64)).isSome else true

/-- No parameter error that a request can have without regard to slots (R638, R639). -/
def paramOk (r : KReq) : Bool :=
  (opNeeds r.op).isSome && decide (r.flags ≤ 1) && lensOk r && attrsOk r && kslotOk r && pointsOk r

/-- The request needs random output (R641). -/
def KReq.random (r : KReq) : Bool :=
  match r.what with
  | .op => r.op = 0x23 || r.op = 0x20 || r.op = 0x33 || (makesKey r.op && r.flags.testBit 0)
  | .random => true
  | .tam => true
  | _ => false

/-! Refusals (R637, R643) -/

/-- GRANT permits the requester (R643). -/
def permits (g : Nat) : KSrc → Bool
  | .port _ (.zc k) => g = 0x10 + k.val
  | .port _ (.ext _ m) => g = 0x40 + m
  | _ => true

/-- The requester is the host (R643). -/
def KSrc.host : KSrc → Bool
  | .ncp _ => true
  | _ => false

/-- A slot may be named by the requester as a key with one of the KTYPEs and all of the USAGE bits (R632, R637). -/
def KSlot.fits (k : KSlot) (src : KSrc) (types : List Nat) (usage : Nat) : Bool :=
  decide (k.st = .loaded) && permits k.grant src && types.contains k.ktype && decide (k.usage &&& usage = usage)

/-- A slot that the request names as destination may be written by the requester (R639, R643). -/
def KSlot.mayFill (k : KSlot) (src : KSrc) : Bool := decide (k.st = .empty) || permits k.grant src

/-- The request is refused (R637). -/
def Dev.refuses (d : Dev) (r : KReq) : Bool :=
  let slot (n : Nat) : KSlot := ((slotNo n).map fun s => d.key.slot[s]).getD {}
  match r.what with
  | .op =>
    match opNeeds r.op with
    | none => true
    | some (types, usage) =>
      let key := noSlot r.op || (if r.kslot = 0xFE then r.src.host else (slot r.kslot).fits r.src types usage)
      let src := r.op ≠ 0x31 || (decide ((slot r.dslot).st = .loaded) && permits (slot r.dslot).grant r.src && (slot r.dslot).usage.testBit 11)
      let dst := !makesKey r.op || (slot r.dslot).mayFill r.src
      !(key && src && dst)
  | .load =>
    match openBlob r.data with
    | some k => k.bflags.testBit 1 && decide (r.grant ≠ 0)
    | none => true
  | .tam => !(slot r.kslot).fits r.src [1] 0x200
  | .password => !(decide ((slot r.kslot).st = .loaded) && permits (slot r.kslot).grant r.src)
  | .test => true
  | _ => false

/-! Time bounds (R640, R646) -/

/-- BCLK cycles of `n` tenths of a nanosecond, rounded up. -/
def dnsT (n : Nat) : Nat := (n * 21696 + 10 ^ 9 - 1) / 10 ^ 9

/-- Bound of a request in tenths of a nanosecond; an AES key counts as AES-256, since no slot is examined (R640, R646). -/
def KReq.bound (r : KReq) : Nat :=
  let n := r.data.length
  let aes := 30000 + 64 * n
  match r.what with
  | .op =>
    (match r.op with
    | 0x07 | 0x08 => 2 * aes
    | 0x10 => 20000 + 52 * (n + r.aad.length)
    | 0x11 | 0x12 => 40000 + 52 * n
    | 0x20 | 0x34 => 13000000
    | 0x21 => 24000000
    | 0x22 => 13000000 + 150000 + (if r.flags.testBit 0 then 150000 else 0)
    | 0x23 => if r.ktype = 4 then 13000000 + (if r.flags.testBit 0 then 150000 else 0) else 200000
    | 0x30 | 0x31 | 0x32 | 0x33 => 200000
    | _ => aes)
  | .load => 200000
  | .unload => if r.kslot = 0xFF then 640000 else 10000
  | .random => 50000 + 200 * r.n
  | _ => 0

/-- Cycles of a refusal (R638). -/
def refusalT : Nat := 8679

/-- The bound that decides whether a command may start, in BCLK cycles (R646). -/
def KReq.startT (r : KReq) : Nat := max refusalT (dnsT r.bound)

/-! Results (R639) -/

/-- What an operation gives: output, mismatch, the key for DSLOT. -/
structure KRes where
  /-- output bytes -/
  out : List Nat := []
  /-- RESULT 1 -/
  bad : Bool := false
  /-- the new key -/
  key : Option (List Nat) := none

/-- Result of a tag check: the plaintext, or a mismatch. -/
def KRes.ofDec : Option (List Nat) → KRes
  | some m => { out := m }
  | none => { bad := true }

/-- Result of a comparison. -/
def KRes.ofBool (ok : Bool) : KRes := { bad := !ok }

/-- RFC 3394 wrapping; a free value where the length is not a multiple of 8 (log entry 29). -/
def wrapOut (kek k : List Nat) : List Nat :=
  if k.length % 8 = 0 then keyWrap kek k else (List.range (k.length + 8)).map fun i => (Config.wrapOdd kek k i).toNat

/-- RFC 3394 unwrapping; a free value where the length is not a multiple of 8 (log entry 29). -/
def unwrapOut (kek l : List Nat) : Option (List Nat) :=
  if l.length % 8 = 0 then keyUnwrap kek l
  else if Config.unwrapOddOk kek l then some ((List.range (l.length - 8)).map fun i => (Config.unwrapOdd kek l i).toNat)
  else none

/-- A scalar of P-256 from random bytes (R639). -/
def scalarOf (rnd : List Nat) : Nat := beVal rnd % (p256N - 1) + 1

/-- The operation of R639 on the key of KSLOT; `src` is the slot to wrap or to seal, `rnd` the random bit generator's output. -/
def compute (r : KReq) (key : List Nat) (src : KSlot) (rnd : List Nat) : KRes :=
  let t := r.tag.length
  match r.op with
  | 0x01 => { out := ecbEnc key r.data }
  | 0x02 => { out := ecbDec key r.data }
  | 0x03 => { out := cbcEncB key r.nonce (blocks16 r.data) }
  | 0x04 => { out := cbcDecB key r.nonce (blocks16 r.data) }
  | 0x05 => { out := (cmac key r.data).take t }
  | 0x06 => .ofBool (decide ((cmac key r.data).take t = r.tag))
  | 0x07 => let c := ccmEnc key r.nonce r.aad r.data t; { out := c.1 ++ c.2 }
  | 0x08 => .ofDec (ccmDec key r.nonce r.aad r.data r.tag)
  | 0x09 => let c := gcmEnc key r.nonce r.aad r.data; { out := c.1 ++ c.2.take t }
  | 0x0A => .ofDec (gcmDec key r.nonce r.aad r.data r.tag)
  | 0x10 => { out := sha256 r.data }
  | 0x11 => { out := (hmac key r.data).take t }
  | 0x12 => .ofBool (decide ((hmac key r.data).take t = r.tag))
  | 0x20 => { out := ecdsaSign (beVal key) (scalarOf rnd) r.data }
  | 0x21 =>
    (match ecPoint (r.data.take 64) with
    | some q => .ofBool (ecdsaVerify q ((r.data.drop 64).take 32) (r.data.drop 96))
    | none => { bad := true })
  | 0x22 =>
    (match (ecPoint r.data).bind fun q => ecMul (beVal key) q with
    | some (x, _) => { key := some (kdf (hmac (be 32 x)) r.aad r.klen) }
    | none => { bad := true })
  | 0x23 =>
    let k := if r.ktype = 4 then be 32 (scalarOf (rnd.take 40)) else (rnd ++ List.replicate r.klen 0).take r.klen
    { out := if r.ktype = 4 then ecPub (beVal k) else [], key := some k }
  | 0x30 => { key := some (kdf (if src.ktype = 3 then hmac key else cmac key) r.aad r.klen) }
  | 0x31 => { out := wrapOut key src.key }
  | 0x32 =>
    (match unwrapOut key r.data with
    | some k => { key := some k }
    | none => { bad := true })
  | 0x33 => { out := makeBlob src (match src.uses with
      | some n => (Config.sealLimit n).toNat
      | none => 0) rnd }
  | _ => { out := ecPub (beVal key) }

/-! Slots (R631, R633, R634) -/

/-- One use of a slot, at the end of an operation (R633). -/
def useSlot (s : Fin 64) (d : Dev) : Dev :=
  match d.key.slot[s].uses with
  | some n =>
    let d := onSlot s (fun k => { k with uses := some (n - 1), st := if n ≤ 1 then .exhausted else k.st }) d
    if n ≤ 1 then pushIsland 3 s.val 0 d.key.slot[s].label d else d
  | none => d

/-- USES_LEFT as it reads (R649, R650, R653). -/
def KSlot.usesWord (k : KSlot) : Nat := if k.st = .empty then 0 else k.uses.getD 0xFFFFFF

/-- Slots wiped (R634). -/
def wipe (p : KSlot → Bool) (d : Dev) : Dev := d.onKey fun k => { k with slot := k.slot.map fun x => if p x then {} else x }

/-- An automatic wipe, with its item where it wiped a slot (R634, R651). -/
def autoWipe (p : KSlot → Bool) (d : Dev) : Dev :=
  let hit := (List.finRange 64).filter fun s => decide (d.key.slot[s].st ≠ .empty) && p d.key.slot[s]
  match hit with
  | [] => wipe p d
  | [s] => pushIsland 4 s.val 1 d.key.slot[s].label (wipe p d)
  | _ => pushIsland 4 0xFF hit.length 0 (wipe p d)

/-! Order (R642, R646) -/

/-- The next port with a request, in round robin after the one served last (R642). -/
def Island.nextPort (k : Island) : Option (Fin 5) :=
  ((List.range 5).map fun i => Fin.ofNat 5 (k.last.val + 1 + i)).find? fun p => !(k.pend[p]).isEmpty

/-- A request ends without having been carried out: NCP status, or the port's ERR code (R638, R641, R646, R653). -/
def dropReq (r : KReq) (st : Status) (err : Nat) (d : Dev) : Dev :=
  match r.src with
  | .ncp tag => islandMsg (fail tag st d)
  | .port p _ =>
    let d := onPort p (fun x => { x with busy := false, done := true, err := err, result := false, olen := 0 }) d
    if p = 0 then islandMsg d else d

/-- The island takes up the next request once its domain is up, passing over those that cannot start; `fuel` bounds the passed ones
(R641, R642, R646, R661). -/
def takeUp : Nat → Dev → Dev
  | 0, d => d
  | f + 1, d =>
    if d.key.cur.isSome || decide ((d.pmu.dom[14]).p ≠ .up) then d
    else match d.key.nextPort with
      | none => d
      | some p =>
        match d.key.pend[p] with
        | [] => d
        | r :: rest =>
          let d := d.onKey fun k => { k with pend := upd k.pend p fun _ => rest, last := p }
          let late := match r.src with
            | .ncp tag => (match d.cmd tag with
              | some c => decide (c.deadline ≠ 0) && decide (c.accT + dlT c.deadline < d.now + r.startT + 21696)
              | none => true)
            | _ => false
          if late then takeUp f (dropReq r .deadline 0 d)
          else if r.random && !d.key.entOk then takeUp f (dropReq r .internal 1 d)
          else
            let run : KRun := { req := r, start := d.now, refused := d.refuses r }
            d.onKey fun k => { k with cur := some run, rbg := if r.random then (k.rbg + 1) % 65536 else k.rbg }

/-- Requests that wait. -/
def Island.waiting (k : Island) : Nat := (k.pend.toList.map List.length).sum

/-- The island goes on with what waits (R642). -/
def islandNext (d : Dev) : Dev := takeUp (d.key.waiting + 1) d

/-- A request submitted on a port (R642). -/
def keySubmit (p : Fin 5) (r : KReq) (d : Dev) : Dev :=
  islandNext (wakeDom 14 (d.onKey fun k => { k with pend := upd k.pend p fun l => l ++ [r] }))

/-- An NCP command submitted (R642). -/
def submitNcp (tag : Fin 32) (r : KReq) (d : Dev) : Dev :=
  keySubmit 0 r (onCmd tag (fun c => { c with phase := .island }) d)

/-- The island is busy (R644, R654). -/
def Dev.islandBusy (d : Dev) : Bool := d.key.cur.isSome

/-- A command's request withdrawn while it waits (R646). -/
def withdraw (tag : Fin 32) (d : Dev) : Dev :=
  d.onKey fun k => { k with pend := k.pend.map fun l => l.filter fun r => decide (r.src ≠ .ncp tag) }

/-- The island works on the command (R646). -/
def Dev.inIsland (d : Dev) (tag : Fin 32) : Bool :=
  match d.key.cur with
  | some x => decide (x.req.src = .ncp tag)
  | none => false

/-- The island abandons its request and those that wait, for backup switch-over or a reset (R645). -/
def abandonIsland (d : Dev) : Dev :=
  let all := (match d.key.cur with
    | some x => [x.req]
    | none => []) ++ d.key.pend.toList.flatten
  let d := d.onKey fun k => { k with cur := none, pend := Vector.replicate 5 [], hold := false }
  all.foldl (fun d r => match r.src with
    | .port p _ => onPort p (fun x => { x with busy := false, err := 2, olen := 0 }) d
    | _ => d) d

/-! Ends (R633, R639, R642, R647 to R651) -/

/-- The slot filled by an operation or a blob (R631). -/
def fillSlot (n : Nat) (k : KSlot) (d : Dev) : Dev :=
  match slotNo n with
  | some s => onSlot s (fun _ => k) d
  | none => d

/-- The key that an operation runs on. -/
def Dev.keyOf (d : Dev) (n : Nat) : List Nat :=
  if n = 0xFE then be 32 dik else ((slotNo n).map fun s => d.key.slot[s].key).getD []

/-- USES_LEFT of a KSLOT number (R650, R653). -/
def Dev.usesOf (d : Dev) (n : Nat) : Nat :=
  if n = 0xFE then 0xFFFFFF else ((slotNo n).map fun s => d.key.slot[s].usesWord).getD 0xFFFFFF

/-- An operation of R639 carried out: the output with its blob, and whether it met a mismatch. -/
def runOp (r : KReq) (rnd : List Nat) (d : Dev) : Dev × List Nat × Bool :=
  let src := ((slotNo (if r.op = 0x31 then r.dslot else r.kslot)).map fun s => d.key.slot[s]).getD {}
  let x := compute r (d.keyOf r.kslot) src rnd
  let d := match slotNo r.kslot with
    | some s => useSlot s d
    | none => d
  match x.key with
  | some k =>
    let slot : KSlot := { st := .loaded, ktype := r.ktype, usage := r.usage, bflags := r.bflags, uses := if r.limit = 0 then none else some r.limit,
                          grant := r.src.ownGrant, label := 0, key := k }
    let blob := if r.flags.testBit 0 then makeBlob slot r.limit (rnd.drop 40) else []
    (fillSlot r.dslot slot d, x.out ++ blob, x.bad)
  | none => (d, x.out, x.bad)

/-- A request on a port ends (R653). -/
def endPort (p : Fin 5) (r : KReq) (out : List Nat) (bad : Bool) (d : Dev) : Dev :=
  let u := d.usesOf r.kslot
  let d := onPort p (fun x => { x with busy := false, done := true, result := bad, err := 0, olen := out.length, uses := u }) d
  if p = 0 then islandMsg d else d

/-- An NCP command's request ends (R647 to R651). -/
def endNcp (tag : Fin 32) (r : KReq) (rnd : List Nat) (d : Dev) : Dev :=
  match r.what with
  | .op =>
    let x := runOp r rnd d
    let d := x.1
    complete tag .ok ([byteOf r.op, byteOf (b2n x.2.2)] ++ le 2 x.2.1.length ++ le 3 (d.usesOf r.kslot) ++ List.replicate 9 0 ++ bytesN x.2.1) d
  | .load =>
    (match openBlob r.data with
    | some k =>
      let d := fillSlot r.kslot { k with grant := r.grant } d
      complete tag .ok ([byteOf r.kslot, byteOf k.ktype] ++ le 2 k.usage ++ le 3 (k.uses.getD 0) ++ [0]) d
    | none => fail tag .keyRefused d)
  | .unload =>
    let hit := (List.finRange 64).filter fun s => decide (d.key.slot[s].st ≠ .empty) && (decide (r.kslot = 0xFF) || decide (s.val = r.kslot))
    let d := if r.kslot = 0xFF then wipe (fun _ => true) d else match slotNo r.kslot with
      | some s => onSlot s (fun _ => {}) d
      | none => d
    complete tag .ok [byteOf r.kslot, byteOf hit.length, 0, 0] d
  | .random => complete tag .ok (bytesN ((rnd ++ List.replicate r.n 0).take r.n)) d
  | _ => onCmd tag (fun c => { c with phase := .turn }) d

/-- The request in progress completes (R640, R642); `rnd` is the random bit generator's output. The output of a zone port or of
SC's own request goes to SRAM, as the second part says. -/
def opComplete (rnd : List Nat) (d : Dev) : Dev × Option (Nat × List Nat) :=
  match d.key.cur with
  | none => (d, none)
  | some x =>
    if x.refused then (d, none)
    else
      let d := d.onKey fun k => { k with cur := none }
      match x.req.src with
      | .ncp tag => (islandNext (islandMsg (endNcp tag x.req rnd d)), none)
      | .port p _ =>
        let o := runOp x.req rnd d
        (islandNext (endPort p x.req o.2.1 o.2.2 o.1), if o.2.1 = [] then none else some (x.req.dst, o.2.1))

/-- A refusal is reported (R637, R638). -/
def refusalEnd (d : Dev) : Dev :=
  match d.key.cur with
  | none => d
  | some x =>
    if !x.refused || decide (d.now < x.start + refusalT) then d
    else
      let d := d.onKey fun k => { k with cur := none, refusals := satInc 65535 k.refusals }
      match x.req.src with
      | .ncp tag => islandNext (islandMsg (fail tag .keyRefused d))
      | .port p _ =>
        let u := d.usesOf x.req.kslot
        let d := onPort p (fun y => { y with busy := false, refused := true, err := 0, result := false, olen := 0, uses := u }) d
        islandNext (if p = 0 then islandMsg d else d)

/-- SEC fails to wake: the requests that wait for the island have no effect (R668; DESIGN CHOICE, log entry 46). -/
def dropWaiting (d : Dev) : Dev :=
  let all := d.key.pend.toList.flatten
  all.foldl (fun d r => dropReq r .internal 1 d) (d.onKey fun k => { k with pend := Vector.replicate 5 [] })

/-! Registers (R649, R653 to R655) -/

/-- Code of a slot's state (R649). -/
def SlotSt.code : SlotSt → Nat
  | .empty => 0 | .loaded => 1 | .exhausted => 2

/-- Slots in a state. -/
def Island.count (k : Island) (st : SlotSt) : Nat := (k.slot.toList.filter fun x => decide (x.st = st)).length

/-- SEC_SUM (R655). -/
def Dev.secSum (d : Dev) : Nat :=
  b2n d.islandBusy + 2 * b2n d.key.entOk + 4 * d.key.count .loaded + 512 * d.key.count .exhausted + 65536 * b2n d.key.ih.isSome

/-- KS_GSTAT (R654). -/
def Dev.ksGstat (d : Dev) : Nat :=
  b2n d.islandBusy + 2 * b2n d.key.entOk + 4 * d.key.count .loaded + 512 * d.key.count .exhausted + 65536 * b2n d.key.hold +
  2 ^ 17 * b2n d.key.ih.isSome

/-- KS_SLOTs (R654). -/
def KSlot.word (k : KSlot) : Nat := k.st.code + 4 * k.ktype + 256 * k.grant + 65536 * k.usage

/-- KS_STAT (R653). -/
def KsPort.stat (x : KsPort) : Nat :=
  b2n x.busy + 2 * b2n x.done + 4 * b2n x.refused + 8 * b2n x.result + 16 * x.err + 64 * x.olen

/-- The request that a port's registers ask for, with its input read from SRAM (R639, R653). -/
def KsPort.req (x : KsPort) (p : Fin 5) (m : Master) (input : List Nat) : KReq :=
  let nonce := input.take x.nlen
  let r1 := input.drop x.nlen
  let r2 := r1.drop x.alen
  let r3 := r2.drop x.dlen
  { src := .port p m, what := .op, op := x.op, kslot := x.kslot, dslot := x.dslot, flags := x.flags
    usage := bits x.attr 15 0, klen := bits x.attr 21 16, ktype := bits x.attr 24 22, bflags := bits x.attr 26 25, limit := x.limit
    nonce := nonce, aad := r1.take x.alen, data := r2.take x.dlen, tag := r3.take x.tlen, dst := x.dst }

end Sys2Proof.Machine
end

