-- ==== Sys2Proof/Machine/Keys.lean ====
section
/-! DEFINITION. Commands of the security island and the key store (chapter 18). -/

namespace Sys2Proof.Machine
open Sys2Proof

/-- A GRANT value of R643. -/
def grantOk (g : Nat) : Bool := g = 0 || (decide (0x10 ≤ g) && decide (g ≤ 0x13)) || (decide (0x40 ≤ g) && decide (g ≤ 0x40 + 62))

/-- KEY_LOAD (R647). -/
def execKeyLoad (tag : Fin 32) (s : State) : Out :=
  onDev s <| begin_ 0x60 tag (fun n => decide (n = 100)) fun c d =>
    let p := c.payload
    if 63 < byteAt p 0 ∨ !grantOk (byteAt p 1) ∨ !zeros p [2, 3] then fail tag .badParam d
    else inMode tag c (submitNcp tag
      { src := .ncp tag, what := .load, kslot := byteAt p 0, grant := byteAt p 1, data := nums (p.drop 4) }) d

/-- KEY_UNLOAD (R648). -/
def execKeyUnload (tag : Fin 32) (s : State) : Out :=
  onDev s <| begin_ 0x61 tag (fun n => decide (n = 2)) fun c d =>
    let p := c.payload
    if (63 < byteAt p 0 ∧ byteAt p 0 ≠ 0xFF) ∨ byteAt p 1 ≠ 0 then fail tag .badParam d
    else inMode tag c (submitNcp tag { src := .ncp tag, what := .unload, kslot := byteAt p 0 }) d

/-- The KEY_INFO reply of a slot (R649). -/
def KSlot.info (k : KSlot) (n : Nat) : List Byte :=
  [byteOf n, byteOf k.st.code, byteOf k.ktype, byteOf k.key.length] ++ le 2 k.usage ++ [byteOf k.bflags, byteOf k.grant] ++
  le 4 (if k.st = .empty then 0 else k.uses.getD 0xFFFFFF) ++ le 4 k.label

/-- The KEY_INFO reply of slot 0xFE (R649). -/
def identityInfo : List Byte := [0xFE, 1, 4, 32] ++ le 2 0x20 ++ [2, 0] ++ le 4 0xFFFFFF ++ le 4 0

/-- KEY_INFO (R649). -/
def execKeyInfo (tag : Fin 32) (s : State) : Out :=
  onDev s <| begin_ 0x62 tag (fun n => decide (n = 2)) fun c d =>
    let n := byteAt c.payload 0
    if (63 < n ∧ n ≠ 0xFE) ∨ byteAt c.payload 1 ≠ 0 then fail tag .badParam d
    else inMode tag c (fun d => complete tag .ok (match slotNo n with
      | some s => d.key.slot[s].info n
      | none => identityInfo) d) d

/-- The request of a CRYPTO payload (R650). -/
def cryptoReq (tag : Fin 32) (p : List Byte) : KReq :=
  let d := leAt p 4 2
  let a := leAt p 6 2
  let n := byteAt p 8
  let body := nums (p.drop 20)
  { src := .ncp tag, what := .op, op := byteAt p 0, kslot := byteAt p 1, dslot := byteAt p 2, flags := byteAt p 3
    usage := leAt p 10 2, ktype := byteAt p 12, klen := byteAt p 13, bflags := byteAt p 14, limit := leAt p 16 3
    nonce := body.take n, aad := (body.drop n).take a, data := (body.drop (n + a)).take d, tag := body.drop (n + a + d) }

/-- CRYPTO (R650). -/
def execCrypto (tag : Fin 32) (s : State) : Out :=
  onDev s <| begin_ 0x63 tag (fun n => decide (20 ≤ n)) fun c d =>
    let p := c.payload
    if p.length ≠ 20 + byteAt p 8 + leAt p 6 2 + leAt p 4 2 + byteAt p 9 ∨ 4096 < leAt p 4 2 ∨ 256 < leAt p 6 2 ∨
        !zeros p [15, 19] ∨ !paramOk (cryptoReq tag p) then fail tag .badParam d
    else inMode tag c (submitNcp tag (cryptoReq tag p)) d

/-- RANDOM (R651). -/
def execRandom (tag : Fin 32) (s : State) : Out :=
  onDev s <| begin_ 0x64 tag (fun n => decide (n = 2)) fun c d =>
    let n := leAt c.payload 0 2
    if n = 0 ∨ 256 < n then fail tag .badParam d
    else inMode tag c (submitNcp tag { src := .ncp tag, what := .random, n := n }) d

/-- An opcode of 0xF0 to 0xFF (R516). -/
def execKwathesTest (tag : Fin 32) (s : State) : Out :=
  onDev s fun d =>
    match d.cmd tag with
    | some c =>
      if c.opc < 0xF0 ∨ c.phase ≠ .fresh ∨ d.isHeld tag then d
      else inMode tag c (submitNcp tag { src := .ncp tag, what := .test }) d
    | none => d

/-- The island's request completes; `rnd` is what its random bit generator gave (R639, R640). -/
def execKsOpComplete (rnd : List Byte) (s : State) : Out :=
  let s := s.ev
  let r := opComplete (nums rnd) s.dev
  .next { s with
    dev := r.1
    sram := match r.2 with
      | some (a, out) => memWrites sramDflt a (bytesN out) s.sram
      | none => s.sram }

/-- The refusal of a key operation is reported (R638). -/
def execKsRefusalEnd (s : State) : Out := onDev s refusalEnd

/-- A health test of the entropy source fails (R641). -/
def execEntropyFail (s : State) : Out :=
  onDev s fun d =>
    let now := d.now
    if d.key.entOk then pushIsland 1 0xFF 0 0 (d.onKey fun k => { k with entOk := false, retestT := now, entFail := satInc 255 k.entFail })
    else d.onKey fun k => { k with entFail := satInc 255 k.entFail }

/-- The retest of a failed source, every 100 ms; `pass` tells whether 1,024 samples passed (R641). -/
def execEntropyRetest (pass : Bool) (s : State) : Out :=
  onDev s fun d =>
    let now := d.now
    if d.key.entOk || decide (now < d.key.retestT + msT 100) then d
    else if pass then pushIsland 2 0xFF 0 0 (d.onKey fun k => { k with entOk := true, retestT := now, rbg := 0 })
    else d.onKey fun k => { k with retestT := now, entFail := satInc 255 k.entFail }

end Sys2Proof.Machine
end

