-- ==== Sys2Proof/Machine/LayoutOps.lean ====
section
/-! DEFINITION. The layout table and its checks; extension modules: partitions, starting, stopping (chapters 04, 21). -/

namespace Sys2Proof.Machine
open Sys2Proof

/-! Layout table (R140, R141) -/

/-- Entry `n` of a layout table (R140). -/
def layoutEntry (b : List Byte) (n : Nat) : Layout :=
  let e := (b.drop (32 + 16 * n)).take 16
  { present := (byteAt e 6).testBit 0, edge := (byteAt e 6).testBit 1, x := leAt e 0 2, y := leAt e 2 2, radius := leAt e 4 2
    nb := (List.range (min 6 (byteAt e 7))).map fun j => byteAt e (8 + j) }

/-- One entry passes the checks of R141 that concern it alone. -/
def entryOk (b : List Byte) (n : Nat) : Bool :=
  let e := (b.drop (32 + 16 * n)).take 16
  let l := layoutEntry b n
  let k := byteAt e 7
  decide (byteAt e 6 < 4) && decide (k ≤ 6) && decide (byteAt e 14 = 0) && decide (byteAt e 15 = 0) &&
  ((List.range 6).all fun j => decide (j < k) || decide (byteAt e (8 + j) = 0xFF)) &&
  (if l.present then
    decide (1 ≤ l.radius) && decide (l.radius ≤ 1000) && decide (l.x ≤ leAt b 8 2) && decide (l.y ≤ leAt b 10 2)
   else decide (k = 0))

/-- The neighbour lists fit together (R141). -/
def neighboursOk (b : List Byte) : Bool :=
  (List.range 192).all fun n =>
    let l := layoutEntry b n
    l.nb.all (fun a => decide (a < 192) && decide (a ≠ n) && (layoutEntry b a).present && (layoutEntry b a).nb.contains n) &&
    decide (l.nb.eraseDups.length = l.nb.length)

/-- The layout table passes every check of R141. -/
def layoutOk (b : List Byte) : Bool :=
  decide (b.length = 3104) && decide (b.take 8 = [0x4B, 0x4C, 0x54, 0x31, 0x01, 0x00, 192, 0x00]) &&
  ((List.range 16).all fun i => decide (byteAt b (12 + i) = 0)) &&
  decide (leAt b 28 4 = crc32 (nums (b.take 28 ++ b.drop 32))) &&
  ((List.range 192).all fun n => entryOk b n) && neighboursOk b

/-- The layout taken into the drive controller at boot; without a valid one every coil is absent (R141, R142). -/
def takeLayout (b : Option (List Byte)) (d : Dev) : Dev :=
  match b with
  | some t =>
    if layoutOk t then
      d.onDrv fun v => { v with
        layoutOk := true, extX := leAt t 8 2, extY := leAt t 10 2
        coil := Vector.ofFn fun i =>
          let l := layoutEntry t i.val
          { v.coil[i] with lay := l, role := if l.present then .free else .absent, owner := none } }
    else noLayout d
  | none => noLayout d
where
  /-- every coil absent -/
  noLayout (d : Dev) : Dev :=
    d.onDrv fun v => { v with layoutOk := false, extX := 0, extY := 0, coil := v.coil.map fun c => { c with lay := {}, role := .absent, owner := none } }

/-! Extension modules (R36, R620, R634, R715, R718) -/

/-- The pool of partitions, MEM10 and MEM11 (R715). -/
def poolBase : Nat := 0x10500000

/-- Bytes of the pool. -/
def poolBytes : Nat := 0x100000

/-- The partitions of all running instances (R715). -/
def Nvm.parts (v : Nvm) : List (Fin 4 × Nat × Nat) := v.mods.toList.flatMap fun m => if m.st = .running then m.parts else []

/-- First-fit place of `n` bytes in the pool (R715; the manual gives no rule of placement: log entry 43). -/
def poolPlace (taken : List (Nat × Nat)) (n : Nat) : Option Nat :=
  ((List.range 256).map fun i => poolBase + 4096 * i).find? fun a =>
    decide (a + n ≤ poolBase + poolBytes) && taken.all fun t => decide (a + n ≤ t.1) || decide (t.1 + t.2 ≤ a)

/-- One partition for each of the cores (R715, R718). -/
def placeParts (n : Nat) : List (Fin 4) → List (Nat × Nat) → Option (List (Fin 4 × Nat × Nat))
  | [], _ => some []
  | c :: cs, taken =>
    match poolPlace taken n with
    | some a => (placeParts n cs ((a, n) :: taken)).map fun l => (c, a, n) :: l
    | none => none

/-- Cores of a CMASK. -/
def coresOf (m : BitVec 4) : List (Fin 4) := (List.finRange 4).filter fun k => m.getLsbD k.val

/-- Zones of a ZMASK. -/
def zonesOf (m : BitVec 24) : List (Fin 24) := (List.finRange 24).filter fun n => m.getLsbD n.val

/-- Timers of a TMASK. -/
def timersOf (m : BitVec 32) : List (Fin 32) := (List.finRange 32).filter fun n => m.getLsbD n.val

/-- The running module that holds a zone engine (R718). -/
def Nvm.zoneModule (v : Nvm) (n : Fin 24) : Option (Fin 63) :=
  (List.finRange 63).find? fun m => let x := v.mods[m]; decide (x.st = .running) && x.zmask.getLsbD n.val

/-- An engine or a timer of these masks is held by another module (R718). -/
def Dev.granted (d : Dev) (m : Fin 63) (z : BitVec 24) (t : BitVec 32) : Bool :=
  ((zonesOf z).any fun n => match d.nvm.zoneModule n with
    | some k => decide (k ≠ m)
    | none => false) ||
  (timersOf t).any fun g => let x := (d.tim.gt[g]).module; decide (x ≠ 0x3F) && decide (x ≠ m.val)

/-- A module starts: partitions, timers and instances, with the code copied to each partition (R715, R718). -/
def startModule (m : Fin 63) (c : BitVec 4) (z : BitVec 24) (t : BitVec 32) (auto : Bool) (ps : List (Fin 4 × Nat × Nat)) (s : State) :
    State :=
  let x := s.dev.nvm.mods[m]
  let len := leAt (s.header x.sect) 12 4
  let d := putModule m (fun y => { y with st := .running, cmask := c, zmask := z, tmask := t, auto := auto, parts := ps }) s.dev
  let d := d.onTim fun q => { q with gt := (timersOf t).foldl (fun v g => upd v g fun y => { y with module := m.val }) q.gt }
  let sram := ps.foldl (fun mem p => memWrites sramDflt p.2.1 (s.dev.nvm.read s.flash x.sect 192 (min len p.2.2)) mem) s.sram
  { s with dev := d, sram := sram }

/-- A module ends: the commands on its zones complete, its zones close with cause 7, and its slots and timers are released
(R36, R271, R620, R634, R718). -/
def stopModule (m : Fin 63) (st : ModSt) (status : Status) (d : Dev) : Dev :=
  let x := d.nvm.mods[m]
  let d := (zonesOf x.zmask).foldl (fun d n => closeZone n 7 (some (status, 0)) d) d
  let d := autoWipe (fun k => decide (k.grant = 0x40 + m.val)) d
  let d := d.onTim fun q => { q with gt := q.gt.map fun g =>
    if g.module = m.val then { g with run := false, cen := false, shot := none, module := 0x3F } else g }
  putModule m (fun y => { y with st := st, parts := [] }) d

/-- An access of extension code outside its grants (R36, R580, R601): the module becomes FAULTED, and SC raises a DIAG item. -/
def moduleFault (m : Fin 63) (addr access : Nat) (d : Dev) : Dev :=
  if (d.nvm.mods[m]).st ≠ .running then d
  else
    let d := stopModule m .faulted .internal d
    let d := onModule m (fun y => { y with stops := satInc 255 y.stops }) d
    msgSc 22 (pushDiag 1 ([0] ++ le 2 m.val ++ le 4 addr ++ [byteOf access]) d)

/-- The bytes lie in the partition of the module's instance on a core (R34). -/
def Nvm.inPart (v : Nvm) (m : Nat) (k : Fin 4) (a n : Nat) : Bool :=
  (v.mods[Fin.ofNat 63 m]).parts.any fun p => decide (p.1 = k) && decide (p.2.1 ≤ a) && decide (a + n ≤ p.2.1 + p.2.2)

/-! KS_GO (R642, R643, R653) -/

/-- A master may use a request port: SC any, a zone core and its extension code the core's own (R34, R653). -/
def mayGo (p : Fin 5) : Master → Bool
  | .sc => true
  | .zc k => decide (p.val = k.val + 1)
  | .ext k _ => decide (p.val = k.val + 1)
  | .hsp => false

/-- The bytes lie in what R34 permits to the requester (R643). -/
def Dev.portMem (d : Dev) (m : Master) (a n : Nat) : Bool :=
  match m with
  | .ext k x => d.nvm.inPart x k a n
  | _ => inSram a n

/-- KS_CTL.GO written (R642, R643, R653). -/
def ksGo (m : Master) (p : Fin 5) (s : State) : Dev :=
  let d := s.dev
  let x := d.key.port[p]
  if x.busy then d
  else
    let n := x.nlen + x.alen + x.dlen + x.tlen
    let r := x.req p m (nums (memReads sramDflt s.sram x.src n))
    let bad (d : Dev) : Dev :=
      let d := onPort p (fun y => { y with done := true, refused := false, result := false, err := 3, olen := 0 }) d
      if p = 0 then islandMsg d else d
    let out := (runOp r (List.replicate 256 0) d).2.1.length
    let outside := decide (n ≠ 0) && !d.portMem m x.src n || decide (out ≠ 0) && !d.portMem m x.dst out
    let miss := if decide (n ≠ 0) && !d.portMem m x.src n then x.src else x.dst
    match m with
    | .ext _ k =>
      if outside then moduleFault (Fin.ofNat 63 k) miss (if miss = x.src then 0 else 1) d
      else if x.src % 4 ≠ 0 ∨ x.dst % 4 ≠ 0 ∨ !paramOk r then bad d
      else submit_ r d
    | _ => if outside || decide (x.src % 4 ≠ 0) || decide (x.dst % 4 ≠ 0) || !paramOk r then bad d else submit_ r d
where
  /-- the request taken up -/
  submit_ (r : KReq) (d : Dev) : Dev :=
    keySubmit p r (onPort p (fun y => { y with busy := true, done := false, refused := false, result := false, err := 0, olen := 0 }) d)

end Sys2Proof.Machine
end

