-- ==== Sys2Proof/Machine/Images.lean ====
section
/-! DEFINITION. Commands of the flash controller, the images, the extension modules and the records (chapter 21). -/

namespace Sys2Proof.Machine
open Sys2Proof

/-- A command begun with the whole state at hand (R514). -/
def beginS (opc : Nat) (tag : Fin 32) (len : Nat → Bool) (k : Cmd → State → State) (s : State) : Out :=
  let s := s.ev
  match s.dev.startable opc tag with
  | none => .next s
  | some c =>
    if s.dev.nvm.monitor && !monitorServes c then .next (s.on (fail tag .internal))
    else if len c.payload.length then .next (k c s) else .next (s.on (fail tag .badParam))

/-- The mode check of R51 and R61 and the modes that the command's own rule states (R716 to R719). -/
def inModes (tag : Fin 32) (c : Cmd) (ms : List Mode) (k : State → State) (s : State) : State :=
  match s.dev.modeCheck c.opc with
  | some st => { s with dev := fail tag st s.dev }
  | none => if ms.contains s.dev.mode.cur then k s else { s with dev := fail tag .wrongMode s.dev }

/-! IMAGE_WRITE and IMAGE_COMMIT (R716, R717) -/

/-- The slot that IMAGE_WRITE takes: the one not booted; under the monitor A, or B when A is ACTIVE or STANDBY (R716). -/
def Nvm.writeSlot (v : Nvm) : Bool :=
  if v.monitor then decide (v.slotA = .active) || decide (v.slotA = .standby) else !v.bootedB

/-- The slot holds a BAD sector (R713). -/
def Nvm.slotBad (v : Nvm) (b : Bool) : Bool := (List.range 90).any fun i => v.isBad (slotBase b + i)

/-- TARGET and MODULE of a payload: none where they do not fit (R716, R717). -/
def imageTarget (t m : Nat) : Option (Option (Fin 63)) :=
  if t = 1 then (if m = 0xFF then some none else none)
  else if t = 2 then (if h : m < 63 then some (some ⟨m, h⟩) else none)
  else none

/-- A write that belongs to the session goes to the controller (R716). -/
def imageData (tag : Fin 32) (c : Cmd) (x : Session) (data : List Byte) (d : Dev) : Dev :=
  let off := x.next
  let first := off / sectorBytes
  let last := (off + data.length - 1) / sectorBytes
  let new := (List.range (last + 1)).filter fun i => decide (first ≤ i) && decide (x.erased ≤ i)
  if new ≠ [] ∧ c.deadline ≠ 0 ∧ c.accT + dlT c.deadline < d.now + msT 80 then fail tag .deadline d
  else
    let split := sectorBytes - off % sectorBytes
    let one : List FOp := [.prog (x.base + first) (off % sectorBytes) (data.take split)]
    let two : List FOp := if split < data.length then [.prog (x.base + last) 0 (data.drop split)] else []
    let er (i : Nat) : List FOp := if new.contains i then [.erase (x.base + i)] else []
    let ops := er first ++ one ++ (if split < data.length then er last ++ two else [])
    let sess : Session := { x with next := off + data.length, erased := x.erased + new.length, count := new.length }
    let d := onCmd tag (fun c => { c with phase := .flash }) (d.onNvm fun v => { v with sess := some sess })
    flPush { ops := ops, who := .image (some tag) } d

/-- A START that has passed its checks (R716). -/
def imageStart (tag : Fin 32) (c : Cmd) (m : Option (Fin 63)) (data : List Byte) (d : Dev) : Dev :=
  let total := 192 + leAt data 12 4
  match m with
  | none =>
    let b := d.nvm.writeSlot
    if d.nvm.slotBad b then fail tag .resourceBusy d
    else
      let x : Session := { module := none, slotB := b, next := 0, total := total, base := slotBase b, erased := 0, count := 0 }
      if c.deadline ≠ 0 ∧ c.accT + dlT c.deadline < d.now + msT 80 then fail tag .deadline d
      else imageData tag c x data (setSlot b .written d)
  | some k =>
    if (d.nvm.mods[k]).st = .running then fail tag .resourceBusy d
    else match d.nvm.allocate k (sectorsFor total) with
      | none => fail tag .resourceBusy d
      | some a =>
        let x : Session := { module := some k, slotB := false, next := 0, total := total, base := a, erased := 0, count := 0 }
        if c.deadline ≠ 0 ∧ c.accT + dlT c.deadline < d.now + msT 80 then fail tag .deadline d
        else imageData tag c x data (putModule k (fun _ => { sect := a, nsect := sectorsFor total }) d)

/-- IMAGE_WRITE (R716). -/
def execImageWrite (tag : Fin 32) (s : State) : Out :=
  beginS 0x0A tag (fun n => decide (8 ≤ n)) (fun c => inModes tag c [.m4, .m11] fun s => s.on fun d =>
    let p := c.payload
    let data := p.drop 8
    let start := (byteAt p 1).testBit 0
    match imageTarget (byteAt p 0) (byteAt p 2) with
    | none => fail tag .badParam d
    | some m =>
      let kind := if m.isSome then 2 else 1
      if 2 ≤ byteAt p 1 ∨ byteAt p 3 ≠ 0 ∨ data.length < 4 ∨ 4096 < data.length ∨ data.length % 4 ≠ 0 then fail tag .badParam d
      else if start then
        if leAt p 4 4 ≠ 0 ∨ !formatOk kind data ∨ 192 + leAt data 12 4 < data.length then fail tag .badParam d
        else if m.isNone ∧ !d.nvm.monitor ∧ d.nvm.slot d.nvm.bootedB = .trial then fail tag .resourceBusy d
        else imageStart tag c m data d
      else match d.nvm.sess with
        | none => fail tag .badParam d
        | some x =>
          if x.module ≠ m ∨ leAt p 4 4 ≠ x.next ∨ x.total < x.next + data.length then fail tag .badParam d
          else if m.isNone ∧ ((!d.nvm.monitor ∧ d.nvm.slot d.nvm.bootedB = .trial) ∨ d.nvm.slotBad x.slotB) then fail tag .resourceBusy d
          else imageData tag c x data d) s

/-- The reply of IMAGE_COMMIT (R717). -/
def commitReply (target result where_ : Nat) (h : List Byte) (svnMin : Nat) : List Byte :=
  [byteOf target, byteOf result, byteOf where_, byteOf (byteAt h 7)] ++ le 4 (leAt h 8 4) ++ [byteOf svnMin] ++ List.replicate 7 0

/-- IMAGE_COMMIT without CONFIRM (R717). -/
def imageVerify (tag : Fin 32) (t : Nat) (m : Option (Fin 63)) (s : State) : State :=
  let d := s.dev
  let kind := if m.isSome then 2 else 1
  let svn (d : Dev) : Nat := if m.isSome then d.nvm.svnMod else d.nvm.svnFw
  let whole := match d.nvm.sess with
    | some x => if x.module = m ∧ x.next = x.total then some x else none
    | none => none
  match whole with
  | none =>
    let w := match m with
      | some k => k.val
      | none => b2n d.nvm.writeSlot
    s.on (complete tag .ok (commitReply t 1 w [] (svn d)))
  | some x =>
    let r := s.verifyAt kind x.base
    let h := s.header x.base
    let d := d.onNvm fun v => { v with sess := none }
    let d := match m with
      | some k => if r = 0 then setModule k .committed d else putModule k (fun _ => {}) d
      | none => if r = 0 then setSlot x.slotB .pending d else (setSlot x.slotB .failed d).onNvm fun v => { v with failCode := r }
    let w := match m with
      | some k => k.val
      | none => b2n x.slotB
    { s with dev := complete tag .ok (commitReply t r w h (svn d)) d }

/-- IMAGE_COMMIT with CONFIRM (R717). -/
def imageConfirm (tag : Fin 32) (s : State) : State :=
  let d := s.dev
  let b := d.nvm.bootedB
  let h := s.header (slotBase b)
  if d.nvm.monitor ∨ !d.nvm.fwRuns ∨ d.nvm.slot b ≠ .trial then
    s.on (complete tag .ok (commitReply 1 7 (b2n b) (if d.nvm.monitor then [] else h) d.nvm.svnFw))
  else
    let d := setSlot b .active d
    let d := if d.nvm.slot (!b) = .active then setSlot (!b) .standby d else d
    let d := d.onNvm fun v => { v with
      svnFw := min 64 (max v.svnFw (byteAt h 7)), kh0Rev := v.kh0Rev || (byteAt h 17).testBit 0 }
    { s with dev := complete tag .ok (commitReply 1 0 (b2n b) h d.nvm.svnFw) d }

/-- IMAGE_COMMIT (R717). -/
def execImageCommit (tag : Fin 32) (s : State) : Out :=
  beginS 0x0B tag (fun n => decide (n = 4)) (fun c => inModes tag c [.m4, .m11] fun s =>
    let p := c.payload
    let confirm := (byteAt p 1).testBit 0
    match imageTarget (byteAt p 0) (byteAt p 2) with
    | none => s.on (fail tag .badParam)
    | some m =>
      if 2 ≤ byteAt p 1 ∨ byteAt p 3 ≠ 0 ∨ (confirm ∧ m.isSome) then s.on (fail tag .badParam)
      else if confirm then imageConfirm tag s
      else imageVerify tag (byteAt p 0) m s) s

/-! EXT_LOAD and EXT_CONTROL (R718) -/

/-- The module table written with the reply of the command (R711, R718). -/
def saveModules (tag : Fin 32) (reply : List Byte) (d : Dev) : Dev := writeRec 5 (.mods d.nvm.mods) (some tag) reply d

/-- The reply of EXT_LOAD (R718). -/
def loadReply (k : Fin 63) (st : ModSt) (h : List Byte) : List Byte :=
  [byteOf k.val, byteOf st.code, byteOf (byteAt h 7), 0] ++ le 4 (leAt h 8 4) ++ le 4 (leAt h 12 4) ++ le 4 (leAt h 24 4)

/-- EXT_LOAD (R718). -/
def execExtLoad (tag : Fin 32) (s : State) : Out :=
  beginS 0x0C tag (fun n => decide (n = 4)) (fun c => inModes tag c [.m4] fun s =>
    let p := c.payload
    if hm : byteAt p 0 < 63 then
      let k : Fin 63 := ⟨byteAt p 0, hm⟩
      let x := s.dev.nvm.mods[k]
      if !zeros p [1, 2, 3] || decide (x.st ≠ .committed) then s.on (fail tag .badParam)
      else
        let h := s.header x.sect
        if s.verifyAt 2 x.sect = 0 then
          s.on fun d =>
            let d := d.onNvm fun v => { v with svnMod := min 32 (max v.svnMod (byteAt h 7)) }
            let d := onModule k (fun x => { x with stops := 0 }) (setModule k .loaded d)
            saveModules tag (loadReply k .loaded h) d
        else s.on fun d => saveModules tag (loadReply k .absent h) (putModule k (fun _ => {}) d)
    else s.on (fail tag .badParam)) s

/-- VERSION of the image of a module. -/
def State.modVersion (s : State) (k : Fin 63) : Nat :=
  let x := s.dev.nvm.mods[k]
  if x.st = .absent then 0 else leAt (s.header x.sect) 8 4

/-- The reply of EXT_CONTROL (R718). -/
def State.ctlReply (s : State) (k : Fin 63) : List Byte :=
  let x := s.dev.nvm.mods[k]
  [byteOf k.val, byteOf x.st.code, byteOf x.cmask.toNat, byteOf x.stops] ++ le 3 x.zmask.toNat ++ [0] ++ le 4 x.tmask.toNat ++
  le 4 (s.modVersion k)

/-- The partitions that a START of a module would take (R715, R718). -/
def State.wouldPlace (s : State) (k : Fin 63) (cm : BitVec 4) : Option (List (Fin 4 × Nat × Nat)) :=
  let n := (leAt (s.header (s.dev.nvm.mods[k]).sect) 24 4 + 4095) / 4096 * 4096
  placeParts n (coresOf cm) (s.dev.nvm.parts.map (·.2))

/-- START (R718): none where an engine, a timer or the pool is taken. -/
def State.startExt (s : State) (k : Fin 63) (cm : BitVec 4) (zm : BitVec 24) (tm : BitVec 32) (auto : Bool) : Option State :=
  if s.dev.granted k zm tm then none
  else (s.wouldPlace k cm).map fun ps => startModule k cm zm tm auto ps s

/-- EXT_CONTROL (R718). -/
def execExtControl (tag : Fin 32) (s : State) : Out :=
  beginS 0x0D tag (fun n => decide (n = 12)) (fun c => inModes tag c [.m4, .m5, .m6, .m7, .m8, .m9] fun s =>
    let p := c.payload
    let op := byteAt p 1
    if hm : byteAt p 0 < 63 then
      let k : Fin 63 := ⟨byteAt p 0, hm⟩
      let st := (s.dev.nvm.mods[k]).st
      let cm : BitVec 4 := BitVec.ofNat 4 (byteAt p 4)
      let zm : BitVec 24 := BitVec.ofNat 24 (leAt p 5 3)
      let tm : BitVec 32 := BitVec.ofNat 32 (leAt p 8 4)
      let done (s : State) : State := s.on (saveModules tag (s.ctlReply k))
      if op = 0 ∨ 4 < op ∨ 2 ≤ byteAt p 2 ∨ byteAt p 3 ≠ 0 ∨ 16 ≤ byteAt p 4 then s.on (fail tag .badParam)
      else if op = 1 then
        if (st ≠ .loaded ∧ st ≠ .stopped ∧ st ≠ .faulted) ∨ (zonesOf zm).any (fun n => !cm.getLsbD (n.val / 6)) then
          s.on (fail tag .badParam)
        else match s.startExt k cm zm tm ((byteAt p 2).testBit 0) with
          | some s => done s
          | none => s.on (fail tag .resourceBusy)
      else if op = 2 then
        if st = .running then done (s.on (stopModule k .stopped .aborted)) else s.on (fail tag .badParam)
      else if op = 3 then
        if st = .running then s.on (fail tag .badParam) else done (s.on (putModule k fun _ => {}))
      else s.on (complete tag .ok (s.ctlReply k))
    else s.on (fail tag .badParam)) s

/-! CONFIG_STORE (R719) -/

/-- The integrator record of the values in effect (R711). -/
def Dev.integ (d : Dev) : Integ where
  tbCfg := d.tb.cfg
  tbZc := d.tb.zcCfg
  chCfg := d.uhf.chCfg
  ant := d.uhf.ant
  txc := d.uhf.txc
  acfg := d.uhf.acfgT
  coex := d.uhf.coexNext.getD d.uhf.coex
  xcfg := (d.msp.xen, d.msp.xcs, d.msp.xa4, d.msp.xopc, d.msp.xdummy, d.msp.xddr)
  ctl := (d.msp.held.getD d.msp.ctl, d.msp.csgap, d.msp.en)
  policy := (d.pmu.keep, d.pmu.classIdle)
  fcmap := (d.qs.fc0Sel, d.qs.fc0Pol, d.qs.fc1Sel, d.qs.fc1Pol)
  kilnCfg := d.kiln.cfg
  fref := d.hf.fref

/-- CONFIG_STORE (R719). -/
def execConfigStore (tag : Fin 32) (s : State) : Out :=
  beginS 0x0E tag (fun n => decide (4 ≤ n)) (fun c => inModes tag c [.m4, .m9, .m11] fun s => s.on fun d =>
    let p := c.payload
    let r := byteAt p 0
    let data := p.drop 4
    let reply := [byteOf r, 0] ++ le 2 (leAt p 2 2)
    if byteAt p 1 ≠ 0 then fail tag .badParam d
    else if r = 1 then
      if layoutOk data then writeRec 0 (.layout data) (some tag) reply d else fail tag .badParam d
    else if r = 2 then
      if data ≠ [] then fail tag .badParam d
      else
        let d := d.onHf fun h => { h with fref := leAt p 2 2 }
        writeRec 3 (.integ d.integ) (some tag) reply d
    else if r = 3 then
      if data.length ≠ 32 ∨ d.mode.cur ≠ .m4 ∨ d.key.ih.isSome then fail tag .badParam d
      else complete tag .ok (reply ++ le 4 0) (d.onKey fun k => { k with ih := some (nums data) })
    else fail tag .badParam d) s

/-! The controller (R712, R713) -/

/-- A sector erase ends after `us` µs, verified where `ok` (R712, R713); Kiln takes the time (R679). -/
def flashErased (ok : Bool) (us : Nat) (s : State) : State :=
  if s.dev.nvm.jobs = [] then s else (eraseDone ok us s).on (formMargins false)

end Sys2Proof.Machine
end

