-- ==== Sys2Proof/Machine/KilnCmds.lean ====
section
/-! DEFINITION. Commands of Kiln (chapter 20). -/

namespace Sys2Proof.Machine
open Sys2Proof

/-- Kiln measures: CORE is powered, and the mode is neither M1 nor M3 (R678). -/
def Dev.kilnOn (d : Dev) : Bool := d.bclk && decide (d.mode.cur ≠ .m0) && decide (d.mode.cur ≠ .m1) && decide (d.mode.cur ≠ .m3)

/-- The pairs measured, every 60 s of KSEC, each by the frequencies of its stressed and its unstressed oscillator (R679, R685). -/
def execKilnRoMeasure (fs : Vector (Nat × Nat) 48) (s : State) : Out :=
  onDev s fun d =>
    if d.kilnOn && decide (d.kiln.roAt + 60 ≤ d.kiln.ksec) then formMargins false (setGuard 0 (takePairs fs d)) else d

/-- The references measured, every 60 s of KSEC, each by its monitor's reading (R679, R687). -/
def execKilnRefMeasure (ref : Vector Nat 24) (s : State) : Out :=
  onDev s fun d =>
    if d.kilnOn && decide (d.kiln.refAt + 60 ≤ d.kiln.ksec) then formMargins false (setKadj (takeRefs ref d)) else d

/-- The hourly mean of each coil's on-resistance, in mΩ; none where the Kettle was not scanned (R679, R682). -/
def execKilnRonAverage (ron : Vector (Option Nat) 192) (s : State) : Out :=
  onDev s fun d =>
    if d.kilnOn && decide (d.kiln.ronAt + 3600 ≤ d.kiln.ksec) then
      let now := d.kiln.ksec
      let drv := d.drv
      let one (k : Kiln) (i : Fin 192) : KCoil := match ron[i] with
        | some r =>
          let x : KCoil := { k.coil[i] with ron := r }
          if x.base then { x with ld := x.lossD drv.coil[i].cal.eff.rLoad } else x
        | none => k.coil[i]
      formMargins false (d.onKiln fun k => { k with ronAt := now, coil := Vector.ofFn (one k) })
    else d

/-- GUARD lowered, after GUARD_REQ has stayed 10 mV or more below it for 24 h (R685). -/
def execKilnGuardLower (s : State) : Out :=
  onDev s fun d =>
    match d.kiln.lowAt, d.kiln.dMax with
    | some t, some x =>
      if d.kilnOn && decide (t + dayS ≤ d.kiln.ksec) then
        leverWritten 0 ((d.onPmu fun p => { p with guard := guardReq x }).onKiln fun k => { k with lowAt := none })
      else d
    | _, _ => d

/-- KILN_STAT.SURVEY: a survey runs (R699). -/
def Dev.surveying (d : Dev) : Bool := !(d.activeTags fun c => decide (c.opc = 0x84) && decide (c.phase = .coilSet)).isEmpty

/-- A Kiln day boundary, or the first moment with CORE powered after one; one that comes while a survey runs waits for its end (R687, R689 to
R691, R695). -/
def execKilnDayBoundary (s : State) : Out :=
  onDev s fun d => if d.bclk && decide (d.kiln.day < d.kiln.ksec / dayS) && !d.surveying then dayBoundary d else d

/-- SURVEY_DUE is set (R694, R698). -/
def execKilnSurveyDue (s : State) : Out :=
  onDev s fun d =>
    let none_ := d.kiln.coil.toList.all fun c => !c.base
    let late := match d.kiln.surveyAt with
      | some t => decide (t + d.kiln.cfg.surveyDays * dayS ≤ d.kiln.ksec)
      | none => false
    if d.kilnOn && !d.kiln.due && (none_ || late) then
      pushKiln 3 0xFF (kilnMsg (d.onKiln fun k => { k with due := true, evDue := true }))
    else d

/-- The reply of KILN_SURVEY (R696). -/
def surveyReply (ok skip : Nat) (d : Dev) : List Byte :=
  [byteOf ok, byteOf skip, byteOf d.hf.kwadj, byteOf (twos 8 d.lau.kadj), byteOf d.pmu.guard, 0] ++
  le 2 (marginCode (d.kiln.margin[2]).margin) ++ le 2 (marginCode (d.kiln.margin[3]).margin) ++
  le 2 (marginCode (d.kiln.margin[1]).margin) ++ le 2 d.kiln.daysMin ++ le 2 0

/-- The coils that the survey of a command has measured, and the margins and levers after it: the coils of its range that it has not
measured were skipped (R682, R696). -/
def surveyEnd (first last : Nat) (got : List Nat) (d : Dev) : Dev :=
  setKwadj (d.onKiln fun k => { k with coil := Vector.ofFn fun i =>
    if first ≤ i.val ∧ i.val ≤ last ∧ !got.contains i.val then { k.coil[i] with skipped := true } else k.coil[i] })

/-- Coils measured by the sequence of a command (R696). -/
def Dev.seqGot (d : Dev) (tag : Fin 32) : List Nat :=
  match d.drv.seq with
  | some q => if q.tag = tag then q.got else []
  | none => []

/-- A day boundary that has come while a survey ran (R695). -/
def lateDay (d : Dev) : Dev := if d.bclk && decide (d.kiln.day < d.kiln.ksec / dayS) then dayBoundary d else d

/-- A survey measures the pairs and the references first, once (R696). -/
def surveyMeasure (tag : Fin 32) (fs : Vector (Nat × Nat) 48) (ref : Vector Nat 24) (d : Dev) : Dev :=
  if d.kiln.measured = some tag then d
  else (takeRefs ref (takePairs fs d)).onKiln fun k => { k with measured := some tag }

/-- A survey that has measured is carried out (R682, R695, R696). -/
def runSurvey (tag : Fin 32) (p : List Byte) (d : Dev) : Dev :=
  let first := byteAt p 1
  let last := byteAt p 2
  let coils := (byteAt p 0).testBit 0
  let got := d.seqGot tag
  let ok := if coils then got.length else 0
  let skip := if coils then last + 1 - first - ok else 0
  let now := d.kiln.ksec
  let d := if coils then surveyEnd first last got d else d
  let d := d.onKiln fun k => { k with surveyAt := if coils then some now else k.surveyAt, due := if coils then false else k.due, measured := none }
  let d := lateDay (formMargins true (setKadj (setGuard 0 d)))
  let reply := surveyReply ok skip d
  if (byteAt p 0).testBit 1 then writeRec 4 (.kiln d.kilnRec) (some tag) reply d else complete tag .ok reply d

/-- KILN_SURVEY (R696) with its measurement of the pairs and the references, which comes first; a survey of coils then waits for the end of the
wait of R123, and each survey for a CALIBRATE accepted before it (R695). It drives its coil sets at the slot boundaries, which take their measurements, and this command
ends it when it comes again. A survey that ABORT has stopped keeps what it has measured; nothing is stored. -/
def execKilnSurvey (tag : Fin 32) (fs : Vector (Nat × Nat) 48) (ref : Vector Nat 24) (s : State) : Out :=
  onDev s fun d =>
    let go (c : Cmd) (d : Dev) : Dev :=
      if d.drv.calRun.isSome || d.uhf.calRun.isSome then onCmd tag (fun c => { c with phase := .coilSet }) d
      else
        let d := surveyMeasure tag fs ref d
        if (byteAt c.payload 0).testBit 0 && !d.seqDone tag then onCmd tag (fun c => { c with phase := .coilSet }) d
        else runSurvey tag c.payload d
    match d.cmd tag with
    | some c =>
      if c.opc = 0x84 ∧ c.phase = .coilSet then
        (if c.stopReq then
          (if d.drv.calBursts = [] then fail tag .aborted (lateDay (formMargins true (setKadj (setGuard 0 (setKwadj d))))) else d)
         else go c d)
      else begin_ 0x84 tag (fun n => decide (n = 4)) (fun c d =>
        let p := c.payload
        if 4 ≤ byteAt p 0 ∨ 191 < byteAt p 1 ∨ 191 < byteAt p 2 ∨ byteAt p 2 < byteAt p 1 ∨ byteAt p 3 ≠ 0 then fail tag .badParam d
        else inMode tag c (fun d => go c (d.onKiln fun k => { k with measured := none })) d) d
    | none => d

/-- The reply of KILN_READ (R697). -/
def Dev.kilnRead (d : Dev) (what arg : Nat) : Option (List Byte) :=
  let k := d.kiln
  match what with
  | 1 =>
    if arg ≠ 0 then none
    else some (le 4 k.ksec ++ le 2 k.sdays ++ [byteOf k.hist.length, 0] ++ (List.finRange 7).flatMap fun m =>
      let x := k.margin[m]
      [byteOf m.val, byteOf x.state] ++ le 2 (marginCode x.margin) ++ le 2 x.days ++ le 2 (twos 16 (d.lever m.val)))
  | 2 =>
    if 6 < arg then none
    else some ([byteOf k.hist.length] ++ List.replicate 7 (byteOf 0) ++ k.hist.flatMap fun h =>
      le 2 h.day ++ le 2 (marginCode ((h.margins[arg]?).getD none)))
  | 3 =>
    if arg ≠ 0 then none
    else some ((List.finRange 48).flatMap fun p =>
      let x := k.pairs[p]
      le 2 (twos 16 x.deg) ++ [byteOf (pairDom p).val, byteOf (b2n x.valid + 2 * b2n x.stale)])
  | 4 =>
    if 191 < arg then none
    else
      let cs := ((List.finRange 192).drop arg).take 24
      some ([byteOf cs.length] ++ List.replicate 7 (byteOf 0) ++ cs.flatMap fun c =>
        let x := k.coil[c]
        let grow := if x.ronB = 0 ∨ !x.base then 0 else min 255 ((x.ron - x.ronB) * 100 / x.ronB)
        [byteOf c.val, byteOf (b2n x.base + 2 * b2n x.skipped)] ++ le 2 x.ld ++ le 2 x.le ++
          [byteOf (twos 8 (max (-128) (min 127 x.ph))), byteOf grow])
  | _ => none

/-- KILN_READ (R697). -/
def execKilnRead (tag : Fin 32) (s : State) : Out :=
  onDev s <| begin_ 0x93 tag (fun n => decide (n = 2)) fun c d =>
    match d.kilnRead (byteAt c.payload 0) (byteAt c.payload 1) with
    | some r => inMode tag c (complete tag .ok r) d
    | none => fail tag .badParam d

end Sys2Proof.Machine
end

