-- ==== Sys2Proof/Machine/RoomOps.lean ====
section
/-! DEFINITION. Room inventory: the room table, rounds, direction estimates, air times and accesses (chapter 12). -/

namespace Sys2Proof.Machine
open Sys2Proof

/-! The room table (R451 to R455) -/

/-- The entry at an index. -/
def Room.at (r : Room) (i : Nat) : Option REntry := (r.table.find? fun x => decide (x.1 = i)).map (·.2)

/-- Reuse count of an index (R451). -/
def Room.reuseOf (r : Room) (i : Nat) : Nat := ((r.reuse.find? fun x => decide (x.1 = i)).map (·.2)).getD 0

/-- ROOM_ID of an index (R452). -/
def Room.roomId (r : Room) (i : Nat) : Nat := i + 4096 * r.reuseOf i

/-- A list by key with one value set, its keys rising. -/
def putKey {α : Type} (i : Nat) (v : α) : List (Nat × α) → List (Nat × α)
  | [] => [(i, v)]
  | x :: xs => if i < x.1 then (i, v) :: x :: xs else if i = x.1 then (i, v) :: xs else x :: putKey i v xs

/-- The lowest index from `k` on that the rising list does not hold. -/
def freeFrom {α : Type} : Nat → List (Nat × α) → Nat
  | k, [] => k
  | k, x :: xs => if x.1 = k then freeFrom (k + 1) xs else k

/-- Change of one entry of the room table. -/
def onREntry (i : Nat) (f : REntry → REntry) (d : Dev) : Dev :=
  d.onRoom fun r => { r with table := r.table.map fun x => if x.1 = i then (i, f x.2) else x }

/-- FLAGS of an entry (R452). -/
def REntry.flags (e : REntry) : Nat := b2n e.dir + 2 * b2n e.auth + 4 * b2n e.authFail + 8 * b2n (decide (24 < e.epc.length))

/-- The 48 bytes of an entry (R452). -/
def REntry.bytes (e : REntry) (id : Nat) : List Byte :=
  le 2 id ++ [byteOf e.flags, byteOf e.epc.length] ++ le 2 e.pc ++ [byteOf e.chan, byteOf e.acfg] ++ le 2 (twos 16 e.rssi) ++
  le 2 (if e.dir then e.az else 0x7FFF) ++ [byteOf e.dq, byteOf e.reads, 0, 0] ++ le 4 e.lastPhc.toNat ++ le 4 e.genChg.toNat ++
  (e.epc ++ List.replicate 24 0).take 24

/-- A room event of the step (R455). -/
structure REv where
  /-- EVT -/
  evt : Nat
  /-- entry's index and ROOM_ID, none for TABLE_FULL and CLEARED -/
  entry : Option (Nat × Nat)
  /-- PHC of the cause -/
  phc : Word

/-- A room update step under way: the device, the indices changed, the events, something added or removed. -/
structure RSt where
  /-- the device -/
  d : Dev
  /-- indices of changed entries -/
  ch : List Nat := []
  /-- events, in order -/
  evs : List REv := []
  /-- an entry was added or removed -/
  moved : Bool := false
  /-- entries read, with PHC of the latest read of each -/
  read : List (Nat × Word) := []

/-- The circular distance of two azimuths in 0.1°. -/
def azDist (a b : Nat) : Nat :=
  let x := (a + 3600 - b % 3600) % 3600
  min x (3600 - x)

/-- Circular mean of azimuths in 0.1° (R450). -/
def azMean (l : List Nat) : Nat :=
  let v := l.foldl (fun (v : Int × Int) (a : Nat) => let s := sinCos a; (v.1 + s.1, v.2 + s.2)) (0, 0)
  atan2 v.1 v.2

/-- An entry after a read (R450 to R452). -/
def REntry.read (e : REntry) (r : RRead) : REntry :=
  let ests := (r.est :: e.ests).take 4
  let ok := ests.filterMap id
  let e := { e with
    chan := r.chan, acfg := r.acfg, rssi := r.rssi, dq := r.dq, reads := satInc 255 e.reads, lastPhc := r.phc, lastT := r.t, ests := ests
    dir := e.dir || r.est.isSome }
  if ok = [] then e else { e with az := azMean ok }

/-- A read of an entry noted, its PHC over an earlier one of the step (R451). -/
def RSt.noteRead (s : RSt) (i : Nat) (phc : Word) : RSt :=
  { s with read := if s.read.any fun x => decide (x.1 = i) then s.read.map fun x => if x.1 = i then (i, phc) else x else s.read ++ [(i, phc)] }

/-- The reads of a step merged: one test of each entry read for MOVED, after the last of them; a first valid AZ and that of a new entry
are where later moves are counted from (R451, R455). -/
def settle (s : RSt) (x : Nat × Word) : RSt :=
  match s.d.room.at x.1 with
  | none => s
  | some e =>
    let isNew := s.evs.any fun v => decide (v.evt = 1) && decide (v.entry.map (·.1) = some x.1)
    let set (s : RSt) : RSt := { s with d := onREntry x.1 (fun e => { e with movedAz := if e.dir then some e.az else none }) s.d }
    match e.movedAz with
    | none => set s
    | some a =>
      if isNew then set s
      else if e.dir ∧ s.d.room.act.move * 10 ≤ azDist a e.az then
        set { s with evs := s.evs ++ [⟨4, some (x.1, s.d.room.roomId x.1), x.2⟩] }
      else s

/-- A read taken into the table (R451, R454, R455). -/
def takeRead (s : RSt) (r : RRead) : RSt :=
  let t := s.d.room
  let once := s.d.room.once
  let count (new : Bool) (d : Dev) : Dev := if t.next.isSome then d else d.onRoom fun q => { q with once := once.map fun o => { o with new := if new then o.new + 1 else o.new } }
  match t.table.find? fun x => decide (x.2.pc = r.pc) && decide (x.2.epc = r.epc) with
  | some (i, e) =>
    RSt.noteRead { s with d := onREntry i (fun _ => e.read r) s.d, ch := if s.ch.contains i then s.ch else s.ch ++ [i] } i r.phc
  | none =>
    let i := freeFrom 0 t.table
    if 4096 ≤ i then
      if t.full then s
      else { s with d := s.d.onRoom fun q => { q with full := true }, evs := s.evs ++ [⟨5, none, r.phc⟩] }
    else
      let e : REntry := REntry.read { epc := r.epc, pc := r.pc } r
      let s : RSt := {
        d := count true (s.d.onRoom fun q => { q with table := putKey i e q.table })
        ch := s.ch ++ [i]
        evs := s.evs ++ [⟨1, some (i, t.roomId i), r.phc⟩]
        moved := true
        read := s.read }
      s.noteRead i r.phc

/-- An entry removed (R451, R454). -/
def takeOut (i : Nat) (phc : Word) (s : RSt) : RSt :=
  let id := s.d.room.roomId i
  { d := s.d.onRoom fun r => { r with
      table := r.table.filter fun x => decide (x.1 ≠ i), reuse := putKey i ((r.reuseOf i + 1) % 16) r.reuse, full := false }
    ch := s.ch.filter fun j => decide (j ≠ i)
    evs := s.evs ++ [⟨2, some (i, id), phc⟩]
    moved := true, read := s.read.filter fun x => decide (x.1 ≠ i) }

/-- The result of an authentication (R455, R462). -/
def takeAuth (s : RSt) (i reuse : Nat) (pass : Bool) (phc : Word) : RSt :=
  match s.d.room.at i with
  | some e =>
    if s.d.room.reuseOf i ≠ reuse ∨ (e.auth = pass ∧ e.authFail = !pass) then s
    else { s with
      d := onREntry i (fun e => { e with auth := pass, authFail := !pass }) s.d
      ch := if s.ch.contains i then s.ch else s.ch ++ [i]
      evs := s.evs ++ [⟨3, some (i, s.d.room.roomId i), phc⟩] }
  | none => s

/-- The whole table cleared, with one CLEARED event (R454). -/
def takeClear (s : RSt) (phc : Word) : RSt :=
  let r := s.d.room
  { d := s.d.onRoom fun q => { q with
      table := [], full := false
      reuse := r.table.foldl (fun l x => putKey x.1 ((r.reuseOf x.1 + 1) % 16) l) q.reuse }
    ch := []
    evs := s.evs ++ [⟨6, none, phc⟩]
    moved := s.moved || decide (r.table ≠ []) }

/-- One pending read or result taken (R453). -/
def takePend (s : RSt) : RPend → RSt
  | .read r => takeRead s r
  | .auth i u p phc => takeAuth s i u p phc
  | .clear _ phc => takeClear s phc

/-- Entries due to be removed for their age (R454). -/
def Dev.aged (d : Dev) : List Nat :=
  if d.room.act.age = 0 then []
  else (d.room.table.filter fun x => decide (x.2.lastT + msT (1000 * d.room.act.age) ≤ d.now)).map (·.1)

/-- The item of an event (R455). -/
def REv.payload (v : REv) (d : Dev) : List Byte :=
  let e := v.entry.bind fun x => d.room.at x.1
  [byteOf v.evt, byteOf ((e.map REntry.flags).getD 0)] ++ le 2 ((v.entry.map (·.2)).getD 0xFFFF) ++ le 4 d.room.gen.toNat ++
  le 2 ((e.map fun e => twos 16 e.rssi).getD 0) ++ le 2 ((e.map fun e => if e.dir then e.az else 0x7FFF).getD 0x7FFF) ++ le 4 v.phc.toNat

/-- 12 bytes of the ROOM_INVENTORY reply (R458); RT_CNT.STATE (R467). -/
def Dev.rtState (d : Dev) : Nat :=
  if d.room.inv.isNone then 0
  else if d.uhf.nochan then 3
  else if d.uhf.want && !d.uhf.hold then 2
  else 1

/-- RATE (R467). -/
def Dev.rtRate (d : Dev) : Nat := min 2047 (d.room.recent.filter fun t => decide (d.now < t + msT 1000)).length

/-- The reply payload of ROOM_INVENTORY (R458). -/
def Dev.invReply (d : Dev) (once : Option OnceRun) : List Byte :=
  [byteOf d.rtState, byteOf ((d.room.inv.map (·.profile)).getD 0)] ++ le 2 (min 65535 ((once.map (·.new)).getD 0)) ++
  le 2 (min 65535 ((once.map (·.reads)).getD 0)) ++ le 2 d.rtRate ++ le 4 d.room.gen.toNat

/-- A room update step (R453, R454). -/
def roomStep (d : Dev) : Dev :=
  let ps := d.room.pend
  let now := d.now
  let phc := d.phcW
  let s : RSt := { d := d.onRoom fun r => { r with pend := [], stepT := now, lastRoom := true } }
  let s := ps.foldl takePend s
  let s := s.read.foldl settle s
  let s := s.d.aged.foldl (fun s i => takeOut i phc s) s
  let d := if s.ch = [] ∧ !s.moved then s.d
    else s.d.onRoom fun r =>
      let g := r.gen + 1
      { r with gen := g, table := r.table.map fun x => if s.ch.contains x.1 then (x.1, { x.2 with genChg := g }) else x }
  let d := s.evs.foldl (fun d v => pushEvent 7 d.room.gen.toNat (v.payload d) d) d
  ps.foldl (fun d p => match p with
    | .clear (some tag) _ => complete tag .ok (d.invReply none) d
    | _ => d) d

/-- A room update step is due (R453). -/
def Dev.roomDue (d : Dev) : Bool :=
  (d.room.pend.any fun p => match p with
    | .read _ => decide (d.room.stepT + msT 10 ≤ d.now)
    | _ => true) || decide (d.aged ≠ [])

/-- A presence update step waits (R456). -/
def Dev.presDue (d : Dev) : Bool := decide (d.sf.pend ≠ []) || d.sf.newPolicy.isSome

/-- The room table cleared outside a command (R454). -/
def clearRoom (d : Dev) : Dev :=
  let phc := d.phcW
  roomStep (d.onRoom fun r => { r with pend := [.clear none phc] })

/-- The room table frozen: index and bytes of every entry (R290). -/
def Dev.freezeRoom (d : Dev) : List (Nat × List Byte) := d.room.table.map fun x => (x.1, x.2.bytes (d.room.roomId x.1))

/-! Direction estimates (R449, R450) -/

/-- The sum of unit vectors at angles in 0.1°. -/
def phasors (l : List Int) : Int × Int :=
  l.foldl (fun v a => let s := sinCos a; (v.1 + s.1, v.2 + s.2)) (0, 0)

/-- floor(255 |v| / n) (R450). -/
def quality (v : Int × Int) (n : Nat) : Nat := min 255 (sqrtFloor ((v.1 * v.1 + v.2 * v.2).toNat * 255 ^ 2 / (10 ^ 24 * n ^ 2)))

/-- Carrier frequency of a channel, Hz (R403). -/
def Uhf.freq (u : Uhf) (c : Fin 64) : Nat := 860000000 + 25000 * u.chCfg[c].fstep

/-- The estimate of a read: AZ where it is valid, and DQ (R450). -/
def Dev.estimate (d : Dev) (power phase : Vector Int 4) : Option Nat × Nat :=
  let u := d.uhf
  let a := d.room.act.arr[u.acfg]
  let f := u.freq u.chan
  let top := (power[0] :: [power[1], power[2], power[3]]).foldl max power[0]
  let weak := [power[0], power[1], power[2], power[3]].any fun p => decide (p + 100 < top)
  let p0 := phase[0]
  let p1 := phase[1] - a.ph[0]
  let p2 := phase[2] - a.ph[1]
  let p3 := phase[3] - a.ph[2]
  if weak || decide (u.ant[u.acfg].en ≠ 15) || decide (a.kind = 0) then (none, 0)
  else if a.kind = 1 then
    let v := phasors [p1 - p0, p2 - p1, p3 - p2]
    let delta := signedDeg (atan2 v.1 v.2)
    let n := delta.natAbs * 2997924580000
    let m := 3600 * f * a.d
    if m < n then (none, 0)
    else
      let th := (asinDeg n m : Int)
      let az := (((a.ref : Int) + (if delta < 0 then -th else th)) % 3600).toNat
      let q := quality v 3
      (if 128 ≤ q then some az else none, q)
  else
    let vx := phasors [p1 - p0, p2 - p3]
    let vy := phasors [p3 - p0, p2 - p1]
    let dx := signedDeg (atan2 vx.1 vx.2)
    let dy := signedDeg (atan2 vy.1 vy.2)
    let az := (a.ref + atan2 dy dx) % 3600
    let q := quality (vx.1 + vy.1, vx.2 + vy.2) 4
    (if 128 ≤ q then some az else none, q)

/-! Air times, in 1/48 µs (R441, R442, R448, R461) -/

/-- A link profile: Tari, Data-1, RTcal and TRcal in 1/48 µs, DR of 64/3, BLF in kHz, subcarrier cycles in a tag bit, TRext, PR-ASK
(R441). -/
structure Link where
  /-- Tari -/
  tari : Nat
  /-- Data-1 -/
  data1 : Nat
  /-- RTcal -/
  rtcal : Nat
  /-- TRcal -/
  trcal : Nat
  /-- DR is 64/3, not 8 -/
  dr64 : Bool
  /-- BLF, kHz -/
  blf : Nat
  /-- M: 1 for FM0 -/
  miller : Nat
  /-- TRext -/
  trext : Bool
  /-- PR-ASK, not DSB-ASK -/
  prAsk : Bool
deriving DecidableEq, Repr

/-- The profiles (R441). -/
def linkOf : Nat → Link
  | 0 => { tari := 300, data1 := 450, rtcal := 750, trcal := 1600, dr64 := true, blf := 640, miller := 1, trext := false, prAsk := false }
  | 1 => { tari := 600, data1 := 900, rtcal := 1500, trcal := 3200, dr64 := true, blf := 320, miller := 2, trext := true, prAsk := false }
  | 2 => { tari := 1200, data1 := 1800, rtcal := 3000, trcal := 4000, dr64 := true, blf := 256, miller := 4, trext := true, prAsk := true }
  | _ => { tari := 1200, data1 := 2400, rtcal := 3600, trcal := 9600, dr64 := false, blf := 40, miller := 8, trext := true, prAsk := true }

/-- Modulation depth in percent (R441). -/
def linkDepth : Nat := 90

/-- `n` periods Tpri of a profile (R441). -/
def tpriT (p n : Nat) : Nat := n * 48000 / (linkOf p).blf

/-- One command bit, the mean of data-0 and data-1 (R441, R448). -/
def bitT (p : Nat) : Nat := ((linkOf p).tari + (linkOf p).data1) / 2

/-- Frame-sync: delimiter of 12.5 µs, Tari and RTcal (R441). -/
def syncT (p : Nat) : Nat := 600 + (linkOf p).tari + (linkOf p).rtcal

/-- One tag bit (R441). -/
def tagBitT (p : Nat) : Nat := tpriT p (linkOf p).miller

/-- T1, max(RTcal, 10 Tpri) (R442). -/
def t1T (p : Nat) : Nat := max (linkOf p).rtcal (tpriT p 10)

/-- T2, 8 Tpri (R442). -/
def t2T (p : Nat) : Nat := tpriT p 8

/-- Bits of a tag's preamble: FM0 6, Miller with TRext 22 (PRESUMED, log entry 33). -/
def preBits (p : Nat) : Nat := if (linkOf p).trext then 22 else 6

/-- A command of `n` bits. -/
def cmdT (p n : Nat) : Nat := syncT p + n * bitT p

/-- A reply of `n` bits and the dummy bit at its end, with T1 before it and T2 after it. -/
def repT (p n : Nat) : Nat := t1T p + (preBits p + n + 1) * tagBitT p + t2T p

/-- BCLK cycles of an air time, rounded up. -/
def airT (x : Nat) : Nat := (x * 113 + 24) / 25

/-- Query with its reply of 16 bits. -/
def queryT (p : Nat) : Nat := cmdT p 22 + (linkOf p).trcal + repT p 16

/-- A slot that reads a tag of `e` EPC bits (R448). -/
def slotT (p e : Nat) : Nat := cmdT p 4 + repT p 16 + cmdT p 18 + repT p (32 + e)

/-- Select on a mask of `n` bits (R439). -/
def selectT (p n : Nat) : Nat := cmdT p (45 + n)

/-- Req_RN with the handle or a new random number (R461). -/
def reqRnT (p : Nat) : Nat := cmdT p 40 + repT p 32

/-- Singulation of a tag of `e` EPC bits (R461); T4 is twice RTcal. -/
def singT (p e : Nat) : Nat :=
  selectT p e + 2 * (linkOf p).rtcal + queryT p + cmdT p 18 + repT p (32 + e) + reqRnT p

/-- Bits of a word pointer (PRESUMED, log entry 33). -/
def ebvBits (n : Nat) : Nat := if n < 128 then 8 else if n < 16384 then 16 else 24

/-- 20 ms for a delayed reply (R461). -/
def delayT (p : Nat) : Nat := 960000 + t2T p

/-- The bound of an access or an authentication in BCLK cycles (R461). -/
def accessT (p e : Nat) (auth : Bool) (op ptr count : Nat) (pass : Bool) : Nat :=
  let pw := if pass then 2 * (reqRnT p + cmdT p 56 + repT p 32) else 0
  let work :=
    if auth then cmdT p 144 + delayT p
    else match op with
      | 1 => cmdT p (50 + ebvBits ptr) + repT p (33 + 16 * count)
      | 2 => count * (reqRnT p + cmdT p (58 + ebvBits ptr) + delayT p)
      | _ => cmdT p 60 + delayT p
  airT (singT p e + pw + work)

/-! Rounds (R443 to R447) -/

/-- The radio gives valid words for inventory (R423, R440). -/
def Dev.roomUp (d : Dev) : Bool :=
  d.mode.cur.room && d.uhf.on && decide (d.uhf.run = .idle) && (match d.uhf.inv with
    | some (e, _) => decide (e ≤ d.now)
    | none => true)

/-- The carrier has been off since the slot began, so that the slot is lost (R447). -/
def Dev.slotCut (d : Dev) : Bool :=
  match d.uhf.offT with
  | some t => decide (d.room.slotT ≤ t)
  | none => false

/-- Dwell time left (R421). -/
def Dev.dwellLeft (d : Dev) : Nat :=
  match d.uhf.dwellT with
  | some t => t + msT d.uhf.txc.dwell - d.now
  | none => msT d.uhf.txc.dwell

/-- A Select goes before the next Query (R443). -/
def Dev.selFirst (d : Dev) (p : InvPar) : Bool := d.room.needSel && p.select.testBit 6

/-- A slot that starts at `t` and reads the longest supported EPC ends within the dwell (R439, R447; DEDUCED, log entry 34). -/
def Dev.slotFits (d : Dev) (p : InvPar) (query : Bool) (t : Nat) : Bool :=
  decide (t - d.now + airT (slotT p.profile 496 + (if query then queryT p.profile else 0)) ≤ d.dwellLeft)

/-- The Select of an inventory (R443, R457). -/
def InvPar.selectCmd (p : InvPar) : AirCmd :=
  .select (bits p.select 2 0) (if p.select.testBit 3 then p.session else 4) (bits p.select 5 4) p.pointer p.maskLen p.mask

/-- An access or authentication has its turn and waits for a slot boundary (R461). -/
def Dev.accWaits (d : Dev) : Bool :=
  !(d.activeTags fun c => (decide (c.opc = 0x42) || decide (c.opc = 0x43)) && decide (c.phase = .turn) && c.keyOk).isEmpty

/-- Q of Qfp in tenths, to the nearest, halves up (R444; DEDUCED, log entry 35). -/
def qOf (qfp : Nat) : Nat := (qfp + 5) / 10

/-- No slot is open (R413). -/
def shutSlot (d : Dev) : Dev := (d.onRoom fun r => { r with slot := false }).onUhf fun u => { u with frozen := false }

/-- A pass begins: Q_INIT, the Select and the first target (R443, R444). -/
def newPass (d : Dev) : Dev :=
  d.onRoom fun r =>
    let p := r.next.getD (r.inv.getD {})
    { r with inv := some p, next := none, qfp := 10 * p.qInit, q := p.qInit, needSel := p.select.testBit 6, tgtB := decide (p.target = 1)
             doneA := false, doneB := false, act := r.cfg }

/-- A command of `x` in 1/48 µs begins a slot at `t` (R442). -/
def beginSlot (t x : Nat) (l : List AirCmd) (d : Dev) : Dev :=
  d.onRoom fun r => { r with slotT := t, cmdEnd := t + airT x, air := l }

/-- Inventory stops: no request remains, and the carrier goes off where no access needs it (R458, R466). -/
def stopInv (d : Dev) : Dev :=
  let d := shutSlot (d.onRoom fun r => { r with inv := none, next := none, once := none, left := 0, act := r.cfg })
  let tags := d.room.stopTags
  let d := d.onRoom fun r => { r with stopTags := [] }
  let d := tags.foldl (fun d t => complete t .ok (d.invReply none) d) d
  if d.room.access.isNone then carrierWrite false d else d

/-- A ONCE ends with a status, and inventory with it (R458); the reads it counts have been taken by their step (R525). -/
def endOnce (st : Status) (d : Dev) : Dev :=
  let d := if d.room.pend = [] ∨ d.room.once = none then d else roomStep d
  match d.room.once with
  | some o =>
    let p := d.invReply (some o)
    stopInv (complete o.tag st p d)
  | none => d

/-- The radio started for inventory or an access: a channel selected and the carrier asked for (R420, R458). -/
def startRadio (draw : Nat) (d : Dev) : Dev :=
  if d.uhf.on || d.uhf.busy then carrierWrite true d
  else if d.usable = [] then carrierWrite true (evalNochan d)
  else carrierWrite true (selectHop draw d)

/-- What a slot boundary brings: STOP, an ABORT of a ONCE, an access that waits for the radio (R458, R461, R464). -/
def slotBoundary_ (d : Dev) : Dev :=
  if d.room.stopTags ≠ [] then
    if d.room.once.isSome then endOnce .partly d else stopInv d
  else match d.room.once with
    | some o => (match d.cmd o.tag with
      | some c => if c.stopReq then endOnce .aborted d else d
      | none => d)
    | none => d

/-- The round has no slot left (R443, R444, R446). -/
def roundEnd (d : Dev) : Dev :=
  let r := d.room
  match r.inv with
  | none => d
  | some p =>
    let empty := !r.replied
    let finished := empty && (decide (p.target ≠ 2) || (r.doneA && r.doneB))
    let d := d.onRoom fun r => { r with tgtB := if empty && decide (p.target = 2) then !r.tgtB else r.tgtB }
    let d := shutSlot d
    if r.next.isSome then newPass d
    else if finished && r.once.isSome then endOnce .ok d
    else if finished then newPass d
    else d.onRoom fun r => { r with act := r.cfg }

/-- A slot has ended: empty, collided or with a read; Q, and the next slot with its QueryRep or QueryAdjust, T2 after a reply, or the next
round (R442, R444 to R447). `acks` is what the device sent within the slot. -/
def slotDone (empty collided : Bool) (acks : List AirCmd) (d : Dev) : Dev :=
  match d.room.inv with
  | none => shutSlot d
  | some p =>
    let c := d.room.act.c
    let t := d.now + (if empty then 0 else airT (t2T p.profile))
    let qfp := if empty then d.room.qfp - c else if collided then min 150 (d.room.qfp + c) else d.room.qfp
    let left := d.room.left - 1
    let q := d.room.q
    let adj := decide (qOf qfp ≠ q) && decide (2 ≤ left)
    let d := d.onRoom fun r => { r with
      qfp := qfp, q := if adj then qOf qfp else q, left := if adj then 2 ^ qOf qfp else left
      replied := r.replied || !empty, air := acks }
    let d := slotBoundary_ d
    if d.room.inv.isNone then d
    else if d.room.left = 0 then roundEnd d
    else if !d.slotFits p false t || d.room.access.isSome || d.accWaits then shutSlot d
    else if adj then
      beginSlot t (cmdT p.profile 9) (acks ++ [.queryAdjust p.session ((qOf qfp : Nat) - (q : Int))]) d
    else beginSlot t (cmdT p.profile 4) (acks ++ [.queryRep p.session]) d

/-- The first Query of a round, at a phase-bin boundary, with the Select before it already sent (R443, R446, R447, R458). -/
def roomBoundary (d : Dev) : Dev :=
  let d := if d.room.slot && d.slotCut then askSelect (shutSlot d) else d
  match d.room.inv with
  | none => d
  | some _ =>
    if d.room.slot || d.room.access.isSome || d.accWaits || !d.roomUp then d
    else
      let d := if d.room.next.isSome then newPass d else d
      match d.room.inv with
      | none => d
      | some p =>
        let now := d.now
        if !d.slotFits p true now then d
        else
          let sel := if d.selFirst p then [p.selectCmd] else []
          let tags := d.room.runTags
          let d := beginSlot now (cmdT p.profile 22 + (linkOf p.profile).trcal)
            (sel ++ [.query p.profile p.sel p.session d.room.tgtB d.room.q]) d
          let d := d.onRoom fun r => { r with
            slot := true, left := 2 ^ r.q, replied := false, needSel := false, runTags := []
            doneA := r.doneA || !r.tgtB, doneB := r.doneB || r.tgtB }
          let d := d.onUhf fun u => { u with frozen := true }
          tags.foldl (fun d t => complete t .ok (d.invReply none) d) d

/-- No preamble has come within the slot's time (R442). -/
def Dev.slotOver (d : Dev) : Bool := match d.room.inv with
  | some p => decide (d.room.cmdEnd + airT (2 * t1T p.profile + preBits p.profile * tagBitT p.profile) ≤ d.now)
  | none => false

/-- A read counted and left for the room update step (R445, R453). -/
def pushRead (pc : Nat) (epc : List Byte) (power phase : Vector Int 4) (d : Dev) : Dev :=
  let e := d.estimate power phase
  let en := d.uhf.ant[d.uhf.acfg].en
  let on := (List.finRange 4).filter fun i => en.testBit i.val
  let top := match on with
    | i :: rest => rest.foldl (fun m j => max m power[j]) power[i]
    | [] => power[0]
  let r : RRead := { pc := pc, epc := epc, chan := d.uhf.chan.val, acfg := d.uhf.acfg.val, rssi := top, est := e.1, dq := e.2, phc := d.phcW, t := d.now }
  let now := d.now
  d.onRoom fun q => { q with
    pend := q.pend ++ [.read r]
    once := if q.next.isSome then q.once else q.once.map fun o => { o with reads := o.reads + 1 }
    recent := (now :: q.recent.filter fun t => decide (now < t + msT 1000)).take 2047 }

end Sys2Proof.Machine
end

