-- ==== Sys2Proof/Machine/RoomInv.lean ====
section
/-! DEFINITION. Commands of the room inventory (chapter 12), and the update steps of both tables. -/

namespace Sys2Proof.Machine
open Sys2Proof

/-! ROOM_INVENTORY (R457, R458) -/

/-- The parameters of a payload (R457). -/
def invPar (p : List Byte) : InvPar :=
  { profile := byteAt p 1, session := bits (byteAt p 2) 1 0, target := bits (byteAt p 2) 3 2, sel := bits (byteAt p 2) 5 4
    qInit := byteAt p 3, select := byteAt p 4, maskLen := byteAt p 5, pointer := leAt p 6 2, mask := p.drop 12 }

/-- The payload keeps the ranges of R457. -/
def invOk (p : List Byte) : Bool :=
  let act := byteAt p 0
  let mask := if (byteAt p 4).testBit 6 then (byteAt p 5 + 7) / 8 else 0
  decide (act ≤ 4) && zeros p [10, 11] &&
  (if act = 1 ∨ act = 2 then
    decide (p.length = 12 + mask) && decide (byteAt p 1 ≤ 3) && decide (bits (byteAt p 2) 7 6 = 0) && decide (bits (byteAt p 2) 3 2 ≠ 3) &&
    decide (bits (byteAt p 2) 5 4 ≠ 1) && decide (byteAt p 3 ≤ 15) && !(byteAt p 4).testBit 7 &&
    (if act = 2 then decide (1 ≤ leAt p 8 2) && decide (leAt p 8 2 ≤ 60000) else decide (leAt p 8 2 = 0))
  else decide (p.length = 12) && zeros p [1, 2, 3, 4, 5, 6, 7, 8, 9])

/-- The command waits for the aerial where the radio does, and else for its slots (R429). -/
def waitRadio (tag : Fin 32) (ph : Phase) (d : Dev) : Dev :=
  let now := d.now
  if d.uhf.want && !d.uhf.hold then onCmd tag (fun c => { c with phase := .aerial, waitT := now }) d
  else onCmd tag (fun c => { c with phase := ph }) d

/-- RUN and ONCE (R458), which thermal SHUT turns away (R739); the command remembers whether it has started inventory. -/
def startInv (tag : Fin 32) (c : Cmd) (draw : Nat) (d : Dev) : Dev :=
  let p := c.payload
  let once := decide (byteAt p 0 = 2)
  let now := d.now
  if d.room.once.isSome || d.th.shut then complete tag .resourceBusy (d.invReply none) d
  else
    let was := d.room.inv.isSome
    let d := d.onRoom fun r => { r with inv := some (r.inv.getD (invPar p)), next := some (invPar p) }
    let d := if was then d else startRadio draw (newPass d)
    if d.uhf.nochan then
      let reply := d.invReply none
      complete tag .resourceBusy reply (if once then stopInv d else d)
    else
      let d := onCmd tag (fun c => { c with words := b2n (!was) }) d
      let d := if once then
          d.onRoom fun r => { r with once := some { tag := tag, start := now, maxMs := leAt p 8 2 } }
        else d.onRoom fun r => { r with runTags := r.runTags ++ [tag] }
      waitRadio tag .slots d

/-- STOP: at the next slot boundary, at once where no slot is under way (R458). -/
def stopCmd (tag : Fin 32) (d : Dev) : Dev :=
  if d.room.inv.isNone then complete tag .ok (d.invReply none) d
  else
    let tags := d.room.runTags
    let d := tags.foldl (fun d t => complete t .aborted (d.invReply none) d) (d.onRoom fun r => { r with runTags := [] })
    let d := onCmd tag (fun c => { c with phase := .slots }) (d.onRoom fun r => { r with stopTags := r.stopTags ++ [tag] })
    if d.room.slot && !d.slotCut then d else slotBoundary_ d

/-- ROOM_INVENTORY (R457, R458); `draw` is the entropy source's number for the choice of a channel. -/
def execRoomInventory (tag : Fin 32) (draw : Nat) (s : State) : Out :=
  onDev s <| begin_ 0x40 tag (fun n => decide (12 ≤ n)) fun c d =>
    if !invOk c.payload then fail tag .badParam d
    else inMode tag c (fun d =>
      match byteAt c.payload 0 with
      | 1 => startInv tag c draw d
      | 2 => startInv tag c draw d
      | 3 => stopCmd tag d
      | 4 =>
        let phc := d.phcW
        onCmd tag (fun c => { c with phase := .slots }) (d.onRoom fun r => { r with pend := r.pend ++ [.clear (some tag) phc] })
      | _ => complete tag .ok (d.invReply none) d) d

/-- MAX_MS ends a ONCE (R458). -/
def execOnceMaxMs (tag : Fin 32) (s : State) : Out :=
  onDev s fun d => match d.room.once with
    | some o => if o.tag = tag ∧ o.start + msT o.maxMs ≤ d.now then endOnce .partly d else d
    | none => d

/-! Slots (R442, R444, R445) -/

/-- A slot is under way in which a reply can be received (R440, R447). -/
def Dev.inSlot (d : Dev) : Bool := d.room.slot && d.roomUp && !d.slotCut

/-- A tag reply is decoded or fails (R440, R445, R450). -/
def execUhfTagReply (x : TagReply) (s : State) : Out :=
  onDev s fun d =>
    if !d.inSlot then d
    else match x with
      | .collided rn => slotDone false true (rn.toList.map .ack) d
      | .epc rn pc epc power phase =>
        if 62 < epc.length ∨ d.rxValid = 0 then slotDone false true [.ack rn] d
        else slotDone false false [.ack rn] (pushRead pc epc power phase d)

/-- No preamble within the slot timeout (R442); in a test the next Query follows (R81). -/
def execUhfSlotEmpty (s : State) : Out :=
  onDev s fun d =>
    if d.inSlot then (if d.slotOver then slotDone true false [] d else d) else if d.uhf.on then nextQuery d else d

/-! ROOM_CONFIG (R459) -/

/-- The payload keeps the ranges of R459. -/
def roomCfgOk (p : List Byte) : Bool :=
  let ph (i : Nat) : Int := signed 16 (leAt p (10 + 2 * i) 2)
  decide (byteAt p 0 ≤ 1) && decide (byteAt p 1 ≤ 7) && decide (leAt p 2 2 ≤ 3600) && decide (1 ≤ byteAt p 4) && decide (byteAt p 4 ≤ 5) &&
  decide (1 ≤ byteAt p 5) && decide (byteAt p 5 ≤ 90) && decide (byteAt p 6 ≤ 2) && decide (byteAt p 7 = 0) &&
  decide (100 ≤ leAt p 8 2) && decide (leAt p 8 2 ≤ 1561) && decide (ph 0 = 0) &&
  ([1, 2, 3].all fun i => decide (-1800 ≤ ph i) && decide (ph i ≤ 1799)) && decide (leAt p 18 2 ≤ 3599)

/-- The configuration as the reply gives it (R459). -/
def RoomCfg.bytes (g : RoomCfg) (a : Fin 8) : List Byte :=
  let x := g.arr[a]
  [byteOf 0, byteOf a.val] ++ le 2 g.age ++ [byteOf g.c, byteOf g.move, byteOf x.kind, 0] ++ le 2 x.d ++ le 2 0 ++
  le 2 (twos 16 x.ph[0]) ++ le 2 (twos 16 x.ph[1]) ++ le 2 (twos 16 x.ph[2]) ++ le 2 x.ref

/-- ROOM_CONFIG (R459). -/
def execRoomConfig (tag : Fin 32) (s : State) : Out :=
  onDev s <| begin_ 0x41 tag (fun n => decide (n = 20)) fun c d =>
    let p := c.payload
    let a := Fin.ofNat 8 (byteAt p 1)
    if !roomCfgOk p then fail tag .badParam d
    else inMode tag c (fun d =>
      let x : ArrCfg := { kind := byteAt p 6, d := leAt p 8 2,
                          ph := #v[signed 16 (leAt p 12 2), signed 16 (leAt p 14 2), signed 16 (leAt p 16 2)], ref := leAt p 18 2 }
      let d := if byteAt p 0 = 1 then
          d.onRoom fun r => { r with
            cfg := { age := leAt p 2 2, c := byteAt p 4, move := byteAt p 5, arr := upd r.cfg.arr a fun _ => x }
            act := if r.inv.isNone then { age := leAt p 2 2, c := byteAt p 4, move := byteAt p 5, arr := upd r.cfg.arr a fun _ => x } else r.act }
        else d
      complete tag .ok (d.room.cfg.bytes a) d) d

/-! ROOM_ACCESS and ROOM_AUTH (R460 to R464) -/

/-- The room entry that a command names: its index (R281, R464). -/
def Dev.roomEntry (d : Dev) (id : Nat) : Option Nat :=
  if (d.room.at (id % 4096)).isSome ∧ d.room.reuseOf (id % 4096) = id / 4096 then some (id % 4096) else none

/-- ROOM_ACCESS and ROOM_AUTH commands accepted on the same entry, or with `all` on any, before this one (R281, R461, R464). -/
def Dev.roomAhead (d : Dev) (c : Cmd) (all : Bool) : List (Fin 32) :=
  d.activeTags fun e => (decide (e.opc = 0x42) || decide (e.opc = 0x43)) && decide (e.phase ≠ .fresh) && decide (e.order < c.order) &&
    (all || decide (e.entry = c.entry))

/-- Reply of an access or an authentication (R460, R462). -/
def accReply (c : Cmd) (detail tagErr result : Nat) (phc : Nat) (data : List Byte) : List Byte :=
  if c.opc = 0x42 then
    c.payload.take 2 ++ [byteOf detail, byteOf (min 255 c.sent), byteOf tagErr, 0] ++ le 2 (twos 16 c.rssi) ++ le 4 phc ++ data
  else c.payload.take 2 ++ [byteOf detail, byteOf result, byteOf tagErr, 0, 0, 0] ++ le 4 phc

/-- The access has ended: its NAK, and the radio goes back to inventory, with its Select first, or off (R443, R445, R461). -/
def freeRadio (tag : Fin 32) (d : Dev) : Dev :=
  if d.room.access ≠ some tag then d
  else
    let nak := d.roomUp && decide (d.room.acc.stage ≠ .start)
    let d := onCmd tag (fun c => { c with sent := if nak then c.sent + 1 else c.sent }) d
    let d := d.onRoom fun r => { r with access := none, acc := {}, air := if nak then [.nak] else r.air }
    let d := askSelect d
    if d.room.inv.isNone then carrierWrite false d else d

/-- An access or an authentication completes (R460, R462). -/
def closeAcc (tag : Fin 32) (st : Status) (detail tagErr result : Nat) (data : List Byte) (d : Dev) : Dev :=
  let d := freeRadio tag d
  match d.cmd tag with
  | none => d
  | some c => complete tag st (accReply c detail tagErr result c.rxPhc data) d

/-- DATA of a WRITE that completes without having been confirmed whole (R460). -/
def Cmd.writeData (c : Cmd) : List Byte := if c.opc = 0x42 ∧ byteAt c.payload 2 = 2 then [byteOf c.words] else []

/-- An access ends with an outcome of R463. -/
def endAcc (tag : Fin 32) (st : Status) (detail : Nat) (d : Dev) : Dev :=
  match d.cmd tag with
  | none => d
  | some c => closeAcc tag st detail 0 0 c.writeData d

/-- A stopped access: an unacknowledged write frame comes first (R464, R466). -/
def stopAcc (tag : Fin 32) (st : Status) (detail : Nat) (d : Dev) : Dev :=
  match d.cmd tag with
  | none => d
  | some c => if c.writeSent then endAcc tag .writeUnknown 1 d else endAcc tag st detail d

/-- The bound of a command's air work in BCLK cycles (R461). -/
def Dev.accBound (d : Dev) (c : Cmd) : Nat :=
  let p := c.payload
  let prof := (d.room.inv.map (·.profile)).getD 0
  let e := 8 * (((d.room.at (c.entry - 4096)).map fun e => e.epc.length).getD 0)
  accessT prof e (decide (c.opc = 0x43)) (byteAt p 2) (leAt p 4 2) (byteAt p 6) (decide (c.opc = 0x42) && decide (byteAt p 7 ≠ 0xFF))

/-- TAM1: the tag's response verified with the key of the slot, whose use it counts (R462, R633; C_TAM1 PRESUMED, log entry 33). -/
def tamPass (key : List Nat) (challenge response : List Byte) : Bool :=
  let m := aesDec key (nums response)
  decide (m.take 2 = [0x96, 0xC5]) && decide (m.drop 6 = nums challenge)

/-- Commands of an access sent, and what it then waits for (R461). -/
def sendAir (tag : Fin 32) (l : List AirCmd) (st : AccStage) (d : Dev) : Dev :=
  onCmd tag (fun c => { c with sent := c.sent + l.length }) (d.onRoom fun r => { r with air := l, acc := { r.acc with stage := st } })

/-- Select on the full EPC and Query of a singulation (R461): MEMBANK EPC, whose EPC begins at bit 32 (PRESUMED, log entry 33). -/
def singulate (tag : Fin 32) (d : Dev) : Dev :=
  let e := d.room.acc.epc
  sendAir tag [.select 0 4 1 32 (8 * e.length) e, .query ((d.room.inv.map (·.profile)).getD 0) 3 0 false 0] .rn16 d

/-- A singulation without a valid reply: it is repeated while repeats are left (R461, R463). -/
def singAgain (tag : Fin 32) (c : Cmd) (d : Dev) : Dev :=
  if c.retries = 0 then endAcc tag .noTag 1 d
  else singulate tag (onCmd tag (fun c => { c with retries := c.retries - 1, fail := 1 }) d)

/-- The first command of the operation, or of its next word (R461, R462). -/
def sendOp (tag : Fin 32) (x : RStep) (c : Cmd) (d : Dev) : Dev :=
  let p := c.payload
  let h := d.room.acc.handle
  if c.opc = 0x43 then
    sendAir tag [.authenticate (byteAt p 3) (x.challenge.take 10) h] .op (d.onRoom fun r => { r with acc := { r.acc with chall := x.challenge.take 10 } })
  else match byteAt p 2 with
    | 1 => sendAir tag [.read (byteAt p 3) (leAt p 4 2) (byteAt p 6) h] .op d
    | 2 => sendAir tag [.reqRn h] .opRn d
    | _ => sendAir tag [.lock (leAt p 12 3) h] .op (onCmd tag (fun c => { c with writeSent := true }) d)

/-- Half of the access password, most significant first (R461). -/
def Dev.passHalf (d : Dev) (c : Cmd) (second : Bool) : Nat :=
  let k := d.keyOf (byteAt c.payload 7)
  let i := if second then 2 else 0
  256 * (k[i]?.getD 0) + k[i + 1]?.getD 0

/-- A word of a WRITE, first byte most significant. -/
def Cmd.writeWord (c : Cmd) : Nat := 256 * byteAt c.payload (12 + 2 * c.words) + byteAt c.payload (13 + 2 * c.words)

/-- The result of TAM1: the key's use, FLAGS in the next step, and the reply (R462). -/
def endAuth (tag : Fin 32) (c : Cmd) (resp : List Byte) (d : Dev) : Dev :=
  let s := byteAt c.payload 2
  let pass := tamPass (d.keyOf s) d.room.acc.chall resp
  let d := match slotNo s with
    | some k => useSlot k d
    | none => d
  let w := d.phcW
  let d := roomStep (d.onRoom fun r => { r with pend := r.pend ++ [.auth (c.entry - 4096) (leAt c.payload 0 2 / 4096) pass w] })
  closeAcc tag .ok 0 0 (b2n (!pass)) [] d

/-- The answer to the last command of the access and the next command: singulation, password, operation (R461 to R463). -/
def takeAns (tag : Fin 32) (x : RStep) (d : Dev) : Dev :=
  let phc := d.phc
  let d := if x.ans = .silent then d else onCmd tag (fun c => { c with rssi := x.rssi, rxPhc := phc }) d
  match d.cmd tag with
  | none => d
  | some c =>
    let a := d.room.acc
    let setAcc (f : AccRun → AccRun) (d : Dev) : Dev := d.onRoom fun r => { r with acc := f r.acc }
    let wrong (crc : Bool) : Dev := if c.writeSent then endAcc tag .writeUnknown (if crc then 2 else 1) d else singAgain tag c d
    match a.stage, x.ans with
    | .start, _ => singulate tag d
    | .rn16, .rn w => sendAir tag [.ack w] .epc (setAcc (fun a => { a with rn := w % 65536 }) d)
    | .epc, .epc _ e => if e = a.epc then sendAir tag [.reqRn a.rn] .handle d else singAgain tag c d
    | .handle, .rn w =>
      let d := setAcc (fun a => { a with handle := w % 65536 }) d
      if c.opc = 0x42 ∧ byteAt c.payload 7 ≠ 0xFF then sendAir tag [.reqRn w] (.pwRn false) d else sendOp tag x c d
    | .pwRn b, .rn w => sendAir tag [.access (d.passHalf c b ^^^ w % 65536) a.handle] (.pw b) d
    | .pw b, .rn _ => if b then sendOp tag x c d else sendAir tag [.reqRn a.handle] (.pwRn true) d
    | .opRn, .rn w =>
      sendAir tag [.write (byteAt c.payload 3) (leAt c.payload 4 2 + c.words) (c.writeWord ^^^ w % 65536) a.handle] .op
        (onCmd tag (fun c => { c with writeSent := true }) d)
    | .op, .done =>
      if !c.writeSent then singAgain tag c d
      else
        let d := onCmd tag (fun c => { c with writeSent := false, words := c.words + 1 }) d
        if byteAt c.payload 2 = 2 ∧ c.words + 1 < byteAt c.payload 6 then sendOp tag x { c with words := c.words + 1 } d
        else closeAcc tag .ok 0 0 0 (Cmd.writeData { c with words := c.words + 1 }) d
    | .op, .data l =>
      if c.opc = 0x43 then (if l.length = 16 then endAuth tag c l d else singAgain tag c d)
      else if byteAt c.payload 2 = 1 ∧ l.length = 2 * byteAt c.payload 6 then closeAcc tag .ok 0 0 0 l d
      else wrong true
    | .rn16, .error _ => singAgain tag c d
    | .epc, .error _ => singAgain tag c d
    | .handle, .error _ => singAgain tag c d
    | _, .error code => closeAcc tag .ok 0 code 0 c.writeData d
    | _, .silent => wrong false
    | _, _ => wrong true

/-- The access has its turn: its bound is tested, and it takes the radio at the slot boundary, unless thermal SHUT is in effect
(R461, R463, R739). -/
def startAcc (tag : Fin 32) (x : RStep) (c : Cmd) (d : Dev) : Dev :=
  let b := d.accBound c
  if d.room.slot && !d.slotCut && d.roomUp then onCmd tag (fun k => { k with phase := .turn }) d
  else if d.th.shut then endAcc tag .resourceBusy 0x12 d
  else if d.usable = [] then endAcc tag .resourceBusy 0x10 (evalNochan d)
  else if msT d.uhf.txc.dwell < b then endAcc tag .resourceBusy 0x11 d
  else if c.deadline ≠ 0 ∧ c.accT + dlT c.deadline < d.now + b + 21696 then endAcc tag .deadline 0 d
  else
    let nr := (byteAt c.payload 8).testBit 0
    let e := ((d.room.at (c.entry - 4096)).map (·.epc)).getD []
    let d := shutSlot (d.onRoom fun r => { r with access := some tag, acc := { epc := e } })
    let d := onCmd tag (fun k => { k with retries := if c.opc = 0x42 ∧ nr then 0 else 2 }) d
    let d := if d.uhf.on && decide (d.dwellLeft < b) then selectHop x.draw (rampDown false d) else d
    waitRadio tag .frames (startRadio x.draw d)

/-- The next step of an access or authentication accepted (R461, R462, R464). -/
def goAcc (tag : Fin 32) (x : RStep) (d : Dev) : Dev :=
  match d.cmd tag with
  | none => d
  | some c =>
    if c.phase = .island ∨ c.phase = .aerial then d
    else if c.phase = .frames then
      (if d.room.access ≠ some tag ∨ !d.roomUp then d
      else if d.room.acc.stage = .start ∧ c.deadline ≠ 0 ∧ c.accT + dlT c.deadline < d.now + d.accBound c + 21696 then endAcc tag .deadline 0 d
      else takeAns tag x d)
    else if d.roomEntry (leAt c.payload 0 2) = none then endAcc tag .noTag 1 d
    else if !(d.roomAhead c false).isEmpty then onCmd tag (fun k => { k with phase := .turn }) d
    else if !c.keyOk then
      let slot := if c.opc = 0x43 then byteAt c.payload 2 else byteAt c.payload 7
      let d := onCmd tag (fun k => { k with keyOk := true }) d
      if slot = 0xFF then onCmd tag (fun k => { k with phase := .turn }) d
      else submitNcp tag { src := .ncp tag, what := if c.opc = 0x43 then .tam else .password, kslot := slot } d
    else if !(d.roomAhead c true).isEmpty || d.room.access.isSome then onCmd tag (fun k => { k with phase := .turn }) d
    else startAcc tag x c d

/-- The checks on arrival of a command on a room entry, and its first steps (R281, R464). -/
def enterAcc (tag : Fin 32) (c : Cmd) (x : RStep) (d : Dev) : Dev :=
  inMode tag c (fun d =>
    match d.roomEntry (leAt c.payload 0 2) with
    | none => fail tag .noTag d
    | some i =>
      let same := d.activeTags fun e => (decide (e.opc = 0x42) || decide (e.opc = 0x43)) && decide (e.phase ≠ .fresh) && decide (e.entry = 4096 + i)
      if 8 ≤ same.length then fail tag .tagBusy d
      else
        let d := onCmd tag (fun k => { k with phase := .turn, entry := 4096 + i }) d
        goAcc tag x (goAcc tag x d)) d

/-- The payload of ROOM_ACCESS keeps the ranges of R460. -/
def accOk (p : List Byte) : Bool :=
  let n := byteAt p 6
  zeros p [9, 10, 11] && decide (byteAt p 8 ≤ 1) && (decide (byteAt p 7 ≤ 63) || decide (byteAt p 7 = 0xFF)) && decide (byteAt p 3 ≤ 3) &&
  (match byteAt p 2 with
  | 1 => decide (1 ≤ n) && decide (n ≤ 64) && decide (p.length = 12)
  | 2 => decide (1 ≤ n) && decide (n ≤ 16) && decide (p.length = 12 + 2 * n)
  | 3 => decide (byteAt p 3 = 0) && decide (leAt p 4 2 = 0) && decide (n = 0) && decide (p.length = 15) && decide (leAt p 12 3 < 2 ^ 20)
  | _ => false)

/-- An access or authentication that ABORT has asked to stop ends with the command and reply just over (R464, R530). -/
def stopAtReply (tag : Fin 32) (d : Dev) : Dev :=
  match d.cmd tag with
  | some c => if c.stopReq && decide (c.phase = .frames) then stopAcc tag .aborted 0 d else d
  | none => d

/-- ROOM_ACCESS (R460, R461). -/
def execRoomAccess (tag : Fin 32) (x : RStep) (s : State) : Out :=
  onDev s fun d =>
    if d.begun 0x42 tag then stopAtReply tag (goAcc tag x d)
    else begin_ 0x42 tag (fun n => decide (12 ≤ n)) (fun c d =>
      if accOk c.payload then enterAcc tag c x d else fail tag .badParam d) d

/-- ROOM_AUTH (R462). -/
def execRoomAuth (tag : Fin 32) (x : RStep) (s : State) : Out :=
  onDev s fun d =>
    if d.begun 0x43 tag then stopAtReply tag (goAcc tag x d)
    else begin_ 0x43 tag (fun n => decide (n = 4)) (fun c d =>
      if 63 < byteAt c.payload 2 then fail tag .badParam d else enterAcc tag c x d) d

/-! Update steps, snapshots and boundaries -/

/-- No usable channel: RUN and ONCE that wait complete with RESOURCE_BUSY, and so does the access that has the radio (R458, R463). -/
def roomNochan (d : Dev) : Dev :=
  if !d.uhf.nochan then d
  else
    let tags := d.room.runTags
    let reply := d.invReply none
    let d := tags.foldl (fun d t => complete t .resourceBusy reply d) (d.onRoom fun r => { r with runTags := [] })
    let d := match d.room.access with
      | some t => stopAcc t .resourceBusy 0x10 d
      | none => d
    if d.room.once.isSome then endOnce .resourceBusy d else d

/-- A channel or canceller calibration ends with what it measured, which can leave no usable channel (R416, R417, R422, R433). -/
def execUhfCalEnd (x : CalRes) (s : State) : Out := onDev s fun d => roomNochan (uhfCalEnd x d)

/-- A room update step; steps of the two tables alternate while both are due (R453, R456). -/
def execRoomUpdateStep (s : State) : Out :=
  onDev s fun d => if !d.roomDue || (d.room.lastRoom && d.presDue) then d else roomStep d

/-- A presence update step (R285, R456). -/
def execPresenceUpdateStep (s : State) : Out :=
  onDev s fun d =>
    if !d.room.lastRoom && d.presDue && d.roomDue then d
    else updateStep (d.onRoom fun r => { r with lastRoom := false })

/-- A phase-bin boundary: the quiet map's observations, and the first Query of a round (R114, R446). -/
def execBinBoundary (ms : List BinMeas) (s : State) : Out :=
  onDev s fun d => if d.phase / 1024 = d.tb.bin then d else roomBoundary (binBoundary ms d)

/-- The status of a command that waited for the aerial in vain (R429, R463). -/
def aerialLimit (tag : Fin 32) (d : Dev) : Dev :=
  match d.cmd tag with
  | none => d
  | some c =>
    if c.opc = 0x40 then
      let p := d.invReply d.room.once
      let d := aerialDenied tag p (d.onRoom fun r => { r with runTags := r.runTags.filter fun t => decide (t ≠ tag) })
      if d.room.once.map (·.tag) = some tag then stopInv d else d
    else if c.opc = 0x80 then aerialDenied tag [] (radioOff false (d.onUhf fun u => { u with calRun := none }))
    else if c.opc = 0x94 then aerialDenied tag [] (radioOff false (d.onMode fun m => { m with qual := none }))
    else
      let p := accReply c 0 0 0 c.rxPhc c.writeData
      aerialDenied tag p (freeRadio tag d)

/-- A command could not obtain the aerial by its deadline, or within 1 s (R429). -/
def execAerialWaitLimit (tag : Fin 32) (s : State) : Out :=
  onDev s fun d => match d.cmd tag with
    | some c => if d.aerialLate c then aerialLimit tag d else d
    | none => d

end Sys2Proof.Machine
end

