-- ==== Sys2Proof/Machine/PmuOps.lean ====
section
/-! DEFINITION. The power domains: busy conditions, power-down, wake, POWER_POLICY, and CORE with its clocks (chapter 19, R613). -/

namespace Sys2Proof.Machine
open Sys2Proof

/-- All domains but AON. -/
def doms : List (Fin 49) := (List.finRange 49).filter fun k => decide (k ≠ 0)

/-- Class of a domain, 7 for AON and CORE (R661, R670). -/
def domClass (k : Fin 49) : Nat :=
  if k.val < 2 then 7 else if k.val < 14 then 0 else if k.val = 14 then 1 else if k.val = 15 then 2 else if k.val < 20 then 3
  else if k.val < 44 then 4 else if k.val < 48 then 5 else 6

/-- Change of one domain. -/
def onDom (k : Fin 49) (f : Dom → Dom) (d : Dev) : Dev := d.onPmu fun p => { p with dom := upd p.dom k f }

/-- BUSY of a domain (R663). -/
def Dev.domBusy (d : Dev) (k : Fin 49) : Bool :=
  if k.val = 14 then d.islandBusy || !d.key.pend.toList.all List.isEmpty
  else if k.val = 15 then
    d.lau.eng.toList.any (fun e => decide (e.cls ≠ .none)) || !d.prb.bursts.isEmpty || !d.prb.images.isEmpty ||
      !(d.activeTags fun c => decide (c.phase = .coilSet)).isEmpty
  else if 16 ≤ k.val ∧ k.val < 20 then
    (List.finRange 24).any (fun n => decide (n.val / 6 = k.val - 16) && decide (d.sf.zone[n].state ≠ .free)) ||
      !(d.ready (k.val - 16)).isEmpty || (d.active (k.val - 16)).isSome
  else if 20 ≤ k.val ∧ k.val < 44 then
    allCoils.any fun c => decide (c.val / 8 = k.val - 20) && ((d.drv.coil[c].owner).isSome || d.drv.coil[c].word.en)
  else if 44 ≤ k.val ∧ k.val < 48 then
    allCoils.any (fun c => decide (c.val / 48 = k.val - 44) && d.drv.coil[c].word.en) || d.drv.ket[Fin.ofNat 4 (k.val - 44)].off
  else if k.val = 48 then decide (d.uhfState ≠ 0) || d.uhf.hold
  else false

/-- Kettles that a power-down of the domain parks (R24). -/
def parks (k : Fin 49) (j : Fin 4) : Bool := decide (k.val = 15) || decide (k.val = 1) || decide (k.val = 44 + j.val)

/-- The park words of R24. -/
def park (k : Fin 49) (d : Dev) : Dev :=
  d.onDrv fun v => { v with ket := Vector.ofFn fun j => if parks k j then { v.ket[j] with parked := true } else v.ket[j] }

/-- Channels of a receive group (R205). -/
def groupCoils (g : Nat) : List (Fin 192) := allCoils.filter fun c => decide (c.val / 8 = g)

/-- A domain is ready: its datapath starts anew, and the island takes up what waits (R199, R642, R662). -/
def domUp (k : Fin 49) (d : Dev) : Dev :=
  let d := onDom k (fun m => { m.restart with p := .up, rewake := false, redown := false }) d
  let d := if k.val = 14 then islandNext d else d
  if 20 ≤ k.val ∧ k.val < 44 then markAll (groupCoils (k.val - 20)) 128 6 d else d

/-- Channels of a receive group whose domain goes down give invalid words from now on (R201). -/
def rxGoing (k : Fin 49) (d : Dev) : Dev := if 20 ≤ k.val ∧ k.val < 44 then goBad (groupCoils (k.val - 20)) d else d

/-- A domain down with its state retained; a power-down on purpose parks its Kettles (R24, R662). -/
def domDown (k : Fin 49) (d : Dev) : Dev := rxGoing k (onDom k (fun m => { m with p := .down, rewake := false, redown := false, count := 0 }) (park k d))

/-- A power-down starts (R663, R666). -/
def domGoing (k : Fin 49) (d : Dev) : Dev := rxGoing k (onDom k (fun m => { m with p := .goingDown, rewake := false, redown := false }) (park k d))

/-- Domain `k` takes the state that a mode gives it (R47, R666, R667); KEEP holds an Idle domain on (R670). -/
def domTake (m : Mode) (k : Fin 49) (d : Dev) : Dev :=
  let x := d.pmu.dom[k]
  match mstate m k.val with
  | .on => (match x.p with
    | .down => domUp k d
    | .goingDown => onDom k (fun x => { x with rewake := true }) d
    | _ => onDom k (fun x => { x.restart with redown := false }) d)
  | .idle =>
    if x.keep then (match x.p with
      | .down => domUp k d
      | .goingDown => onDom k (fun x => { x with rewake := true }) d
      | _ => d)
    else d
  | _ => (match x.p with
    | .up => domDown k d
    | .waking => onDom k (fun x => { x with redown := true }) d
    | .goingDown => onDom k (fun x => { x with rewake := false }) d
    | .down => d)

/-- The domains other than CORE take the states of a mode (R667). -/
def takeDoms (m : Mode) (d : Dev) : Dev := (doms.filter fun k => decide (k ≠ 1)).foldl (fun d k => domTake m k d) d

/-! CORE with BCLK (R30, R88, R496, R613) -/

/-- Condition that SEL names for a flow-control pin (R607). -/
def Dev.fcOn (d : Dev) (sel : Nat) : Bool :=
  let q := d.qs
  match sel with
  | 1 => q.evq.wm
  | 2 => q.rspq.wm
  | 3 => q.evq.wm || q.rspq.wm
  | 4 => q.cq.toList.any Queue.wm
  | 5 => !q.evq.items.isEmpty
  | 6 => !q.rspq.items.isEmpty
  | 7 => !(d.ready 5).isEmpty
  | _ => false

/-- Levels of FC0 and FC1, true high: held while CORE is down, deasserted in M2 until boot has loaded Q_FCMAP, none in M0 and while
boot waits for VIO (R607, R657). -/
def Dev.fcPins (d : Dev) : Option (Bool × Bool) :=
  let q := d.qs
  if d.mode.cur = .m0 ∨ (d.mode.cur = .m2 ∧ d.pmu.boot = .waitVio) then none
  else if !d.bclk then some q.fcHold
  else if !q.fcLoaded then some (q.fc0Pol, q.fc1Pol)
  else some (d.fcOn q.fc0Sel != q.fc0Pol, d.fcOn q.fc1Sel != q.fc1Pol)

/-- CORE goes down: AON records TSC and the time base and holds the flow-control pins, and the Cask link is lost (R88, R496, R607, R613). -/
def coreDown (d : Dev) : Dev :=
  let lp := d.pmu.lp
  let fc := d.fcPins.getD (false, false)
  let d := d.onQs fun q => { q with fcHold := fc }
  let d := d.onTim fun t => { t with aonTsc := t.tsc.toNat, aonLp := lp }
  linkDown (domDown 1 (d.onTb Tb.record))

/-- CORE powers up: TSC and PHC go on from what AON recorded (R88, R613). -/
def coreUp (d : Dev) : Dev :=
  if d.bclk then d
  else
    let n := d.pmu.lp - d.tim.aonLp
    let x := n * 211875 + d.tim.aonFrac
    let d := d.onTim fun t => { t with tsc := BitVec.ofNat 64 (t.aonTsc + x / 32), aonFrac := x % 32, gap := true }
    let now := d.now
    let d := onDom 1 (fun m => { m with p := .up, rewake := false, redown := false }) d
    (d.onTb fun t => t.restart n now).onMode fun m => { m with regSvc := true }

/-- The time by LPCLK while BCLK does not run (R613). -/
def Dev.lpNow (d : Dev) : Nat :=
  if d.bclk then d.now else d.tim.aonTsc + ((d.pmu.lp - d.tim.aonLp) * 211875 + d.tim.aonFrac) / 32

/-! Idle timers (R663) -/

/-- IDLE in BCLK cycles of its code (R670). -/
def idleT (code : Nat) : Nat := if code.testBit 10 then msT (code % 1024) else usT (code % 1024)

/-- The idle timer of a domain runs (R663, R670). -/
def Dev.timerRuns (d : Dev) (k : Fin 49) : Bool :=
  decide (2 ≤ k.val) && decide (d.pmu.dom[k].p = .up) &&
    (match mstate d.mode.cur k.val with
      | .idle => !d.pmu.dom[k].keep
      | .down => true
      | .probe => true
      | _ => false)

/-- One BCLK cycle of the idle timers (R663). -/
def idleTick (d : Dev) : Dev :=
  let run := Vector.ofFn fun k => d.timerRuns k && !d.domBusy k
  d.onPmu fun p => { p with dom := Vector.ofFn fun k => if run[k] then { p.dom[k] with count := p.dom[k].count + 1 } else p.dom[k].restart }

/-- A held power-down of SEC's idle timer completes in the cycle after the island becomes idle; a transition's leg does so on its own
(R644). -/
def secRelease (d : Dev) : Dev :=
  if !d.key.hold || d.islandBusy || !d.key.pend.toList.all List.isEmpty then d
  else
    let d := d.onKey fun k => { k with hold := false }
    if d.timerRuns 14 && !d.busy then domGoing 14 d else d

/-- A held request of SEC's power-down (R644). -/
def holdSec (d : Dev) : Dev := d.onKey fun k => { k with hold := true, holds := if k.hold then k.holds else satInc 255 k.holds }

/-- The idle timer has reached IDLE: the power-down starts (R644, R663). -/
def idleExpiry (k : Fin 49) (d : Dev) : Dev :=
  if !d.timerRuns k || decide (d.pmu.dom[k].count < idleT d.pmu.dom[k].lim) then d
  else if k.val = 14 ∧ d.islandBusy then holdSec d
  else if d.domBusy k then d
  else domGoing k d

/-- A power-down completes; a wake that has arrived meanwhile starts at once (R661, R666). -/
def downDone (k : Fin 49) (d : Dev) : Dev :=
  if d.pmu.dom[k].p ≠ .goingDown then d
  else
    let now := d.now
    onDom k (fun m => if m.rewake then { m with p := .waking, rewake := false, since := now } else { m with p := .down, count := 0 }) d

/-! Wake failure (R668) -/

/-- A SYSTEM item of the PMU (R677). -/
def pushPmu (evt dom value : Nat) (d : Dev) : Dev := pushSystem 2 evt ([byteOf dom, 0] ++ le 4 value) d

/-- A bit of PMU_EVT has been set (R580, R673). -/
def pmuMsg (d : Dev) : Dev := msgSc 2 d

/-- Zones whose work needs domain `k` (R47, R661). -/
def Dev.zonesOn (d : Dev) (k : Fin 49) : List (Fin 24) :=
  (List.finRange 24).filter fun n =>
    decide (k.val = 15) || decide (16 + n.val / 6 = k.val) ||
    allCoils.any fun c => decide (d.drv.coil[c].owner = some n) && (decide (20 + c.val / 8 = k.val) || decide (44 + c.val / 48 = k.val))

/-- A domain that the mode holds On has failed: its work ends as a device fault, with INTERNAL (R668; the CAUSE is a DESIGN
CHOICE, log entry 46). -/
def domFault (k : Fin 49) (d : Dev) : Dev :=
  if mstate d.mode.cur k.val ≠ .on then d
  else if k.val = 48 then
    let ts := d.activeTags fun c => decide (c.opc / 16 = 4)
    stopInv (ts.foldl (fun d t => fail t .internal d) (radioOff false d))
  else
    let d := (d.zonesOn k).foldl (fun d n => closeZone n 5 (some (.internal, 0)) d) d
    let ts := d.activeTags fun c => decide (c.opc / 16 = 8) || (decide (c.opc = 0x94) && decide (c.phase = .test))
    ts.foldl (fun d t => fail t .internal d) (endHfTest true .internal d)

/-- A domain is not ready 1 ms after its wake started (R668). -/
def wakeFail (k : Fin 49) (d : Dev) : Dev :=
  if d.pmu.dom[k].p ≠ .waking ∨ k = 1 ∨ d.now < d.pmu.dom[k].since + msT 1 then d
  else
    let mine := d.bus.stalls.filter fun x => decide (x.dom = k.val)
    let d := d.onBus fun b => { b with stalls := b.stalls.filter fun x => decide (x.dom ≠ k.val) }
    let d := mine.foldl (fun d x => busError x.master x.addr d) (domDown k d)
    let d := d.onPmu fun p => { p with evWakeFail := true, cntWakeFail := satInc 255 p.cntWakeFail }
    domFault k (pushPmu 3 k.val 0 (pmuMsg (if k.val = 14 then dropWaiting d else d)))

/-! POWER_POLICY (R670, R671) -/

/-- KEEP holds the domain on (R670). -/
def Dev.kept (d : Dev) (k : Fin 49) : Bool := (d.pmu.dom[k]).keep && decide (mstate d.mode.cur k.val = .idle)

/-- The power-up that KEEP causes, which is no wake by an access (R666, R670, R674). -/
def keepWake (k : Fin 49) (d : Dev) : Dev :=
  if !d.kept k then d
  else
    let now := d.now
    onDom k (fun m => match m.p with
      | .down => { m with p := .waking, since := now }
      | .goingDown => { m with rewake := true }
      | _ => m) d

/-- The reply of POWER_POLICY (R670). -/
def Pmu.policyBytes (p : Pmu) : List Byte := [byteOf 0, byteOf p.keep] ++ p.classIdle.toList.flatMap (le 2)

/-- The payload keeps check 1 of R671. -/
def policyOk (p : List Byte) : Bool :=
  decide (byteAt p 0 < 2) && decide (byteAt p 1 < 128) && ((List.range 7).all fun c =>
    let w := leAt p (2 + 2 * c) 2
    decide (w < 2048) && decide (1 ≤ w % 1024) && decide (w % 1024 ≤ 1000))

/-- KEEP and the IDLE values of the classes written to the domains, with the power-ups that KEEP causes (R670). -/
def policyTake (keep : Nat) (idle : Vector Nat 7) (d : Dev) : Dev :=
  let d := d.onPmu fun p => { p with
    keep := keep, classIdle := idle
    dom := Vector.ofFn fun k =>
      if h : domClass k < 7 then
        let kp := keep.testBit (domClass k)
        let m : Dom := { p.dom[k] with idle := idle[domClass k], keep := kp }
        if p.dom[k].keep && !kp then m.restart else m
      else p.dom[k] }
  doms.foldl (fun d k => keepWake k d) d

/-- A domain that KEEP holds on is on its way up (R670, R671). -/
def Dev.keeping (d : Dev) : Bool :=
  doms.any fun k => d.kept k && (decide ((d.pmu.dom[k]).p = .waking) || decide ((d.pmu.dom[k]).p = .goingDown))

/-- A policy applied, with its reply once the power-ups that a write causes have completed (R671). -/
def policyApply (tag : Fin 32) (c : Cmd) (d : Dev) : Dev :=
  let p := c.payload
  if byteAt p 0 = 1 then
    let d := policyTake (byteAt p 1) (Vector.ofFn fun i => leAt p (2 + 2 * i.val) 2) (d.onPmu fun x => { x with policySet := true })
    if d.keeping then onCmd tag (fun c => { c with phase := .flash }) (d.onPmu fun x => { x with keepWait := x.keepWait ++ [tag] })
    else complete tag .ok d.pmu.policyBytes d
  else complete tag .ok d.pmu.policyBytes d

/-- POWER_POLICY; a write during a transition is held until it completes (R671). -/
def execPowerPolicy (tag : Fin 32) (s : State) : Out :=
  onDev s <| begin_ 0x70 tag (fun n => decide (n = 16)) fun c d =>
    if !policyOk c.payload then fail tag .badParam d
    else inMode tag c (fun d =>
      if byteAt c.payload 0 = 1 ∧ d.busy then
        onCmd tag (fun c => { c with phase := .flash }) (d.onPmu fun p => { p with held := p.held ++ [⟨tag⟩] })
      else policyApply tag c d) d

/-- The held policies applied in the mode reached (R51, R671). -/
def policyHeld (d : Dev) : Dev :=
  let hs := d.pmu.held
  hs.foldl (fun d h => match d.cmd h.tag with
    | some c => if c.opc = 0x70 then inMode h.tag c (policyApply h.tag c) d else d
    | none => d) (d.onPmu fun p => { p with held := [] })

/-- A policy whose power-ups have completed replies (R671). -/
def keepDone (d : Dev) : Dev :=
  if d.pmu.keepWait = [] ∨ d.keeping then d
  else
    let ts := d.pmu.keepWait
    ts.foldl (fun d t => complete t .ok d.pmu.policyBytes d) (d.onPmu fun p => { p with keepWait := [] })

/-! Events of the domains and of the rails -/

/-- The idle timer of a domain reaches IDLE (R663). -/
def execIdleTimerExpiry (k : Fin 49) (s : State) : Out := onDev s (idleExpiry k)

/-- A domain finishes its power-down (R661, R666). -/
def execDomainPowerDownDone (k : Fin 49) (s : State) : Out := onDev s (downDone k)

/-- A domain fails to wake (R668). -/
def execDomainWakeFail (k : Fin 49) (s : State) : Out := onDev s fun d => keepDone (wakeFail k d)

/-- The rails move by 5 mV toward GUARD, one step every 10 µs (R669). -/
def execGuardRailStep (s : State) : Out :=
  onDev s fun d => if d.pmu.railGuard = d.pmu.guard ∨ d.now < d.pmu.railT + usT 10 then d else d.onPmu fun p => { p with
    railT := d.now
    railGuard := if p.railGuard < p.guard then min p.guard (p.railGuard + 5) else max p.guard (p.railGuard - 5) }

end Sys2Proof.Machine
end

