-- ==== Sys2Proof/Machine/ModeOps.lean ====
section
/-! DEFINITION. Mode transitions: what SET_MODE checks, what a transition ends, its legs and its completion (chapter 02). -/

namespace Sys2Proof.Machine
open Sys2Proof

/-! Legs and chains (R53 to R55) -/

/-- Bound of a direct transition that SET_MODE makes, in µs; none where R53 has no such transition. -/
def legUs : Mode → Mode → Option Nat
  | .m4, .m3 => some 600 | .m3, .m4 => some 500
  | .m4, .m5 => some 1800 | .m4, .m8 => some 1800 | .m4, .m6 => some 900 | .m4, .m7 => some 2000
  | .m5, .m4 => some 400 | .m8, .m4 => some 400 | .m6, .m4 => some 300 | .m7, .m4 => some 500
  | .m5, .m7 => some 900 | .m7, .m5 => some 300 | .m6, .m7 => some 1800 | .m7, .m6 => some 400
  | .m5, .m8 => some 300 | .m8, .m5 => some 300
  | .m4, .m9 => some 2000 | .m9, .m4 => some 500 | .m4, .m10 => some 2000 | .m10, .m4 => some 500
  | .m4, .m11 => some 1000
  | _, _ => none

/-- The modes that a SET_MODE reaches in turn, the target last: none of them where the target is the present mode, and no
chain where R54 permits none. -/
def chain (cur tgt : Mode) : Option (List Mode) :=
  if cur = .m11 then (if tgt = .m2 then some [.m2, .m4] else none)
  else if cur = tgt then some []
  else if tgt = .m2 then (if cur = .m4 then some [.m2, .m4] else none)
  else match legUs cur tgt with
    | some _ => some [tgt]
    | none => (match legUs cur .m4, legUs .m4 tgt with
      | some _, some _ => some [.m4, tgt]
      | _, _ => none)

/-- The legs of a chain from a mode. -/
def legsFrom (cur : Mode) : List Mode → List (Mode × Mode)
  | [] => []
  | m :: ms => (cur, m) :: legsFrom m ms

/-- Work that one leg ends (R53, R55, R60). -/
def legEnds (l : Mode × Mode) : Ends :=
  { surface := l.1.surface && !l.2.surface, feed := decide (l.1 = .m8), room := l.1.room && !l.2.room, cal := decide (l.1 = .m9),
    test := decide (l.1 = .m10) }

/-- Work of two legs. -/
def Ends.or (a b : Ends) : Ends :=
  { surface := a.surface || b.surface, feed := a.feed || b.feed, room := a.room || b.room, cal := a.cal || b.cal, test := a.test || b.test }

/-- Work that a chain ends (R55). -/
def chainEnds (cur : Mode) (legs : List Mode) : Ends := ((legsFrom cur legs).map legEnds).foldl Ends.or {}

/-- The time bound of boot for a SET_MODE to M2, with the terms of its AUTOSTART instances (R702, R704). -/
def State.bootT (s : State) : Nat :=
  usT 19300 + ((List.finRange 63).map fun k =>
    let m := s.dev.nvm.mods[k]
    if m.auto ∧ m.nsect ≠ 0 then (coresOf m.cmask).length * dnsT (25000000 + 52 * leAt (s.header m.sect) 12 4) else 0).sum

/-- The time bound of a chain (R53, R54). -/
def State.chainT (s : State) (cur : Mode) (legs : List Mode) : Nat :=
  if legs.head? = some .m2 then s.bootT
  else ((legsFrom cur legs).map fun l => usT ((legUs l.1 l.2).getD 0)).sum

/-- Check 2 of R58: the target can be reached from a mode (R51, R54, R142). A request pending in M3 has arrived already (R65). -/
def Dev.reach (d : Dev) (cur : Mode) (pend : Bool) (tgt : Mode) : Option (List Mode) :=
  if !(cur.accepts 2 || (pend && decide (cur = .m3))) then none
  else if (tgt.surface || decide (tgt = .m3)) && !d.drv.layoutOk then none
  else chain cur tgt

/-- MODE_CAP.REACH (R76). -/
def Dev.reachMask (d : Dev) : Nat :=
  ([Mode.m2, .m3, .m4, .m5, .m6, .m7, .m8, .m9, .m10, .m11].map fun m => if (d.reach d.mode.cur false m).isSome then 2 ^ m.code else 0).sum

/-! The end of work (R55, R60, R62, R66, R83, R375, R466) -/

/-- The test of M10 ends; its command, if it has not replied, completes with a status (R83). -/
def stopTest (st : Status) (d : Dev) : Dev :=
  match d.mode.qual with
  | none => d
  | some q =>
    if q.hf then endHfTest (decide (st = .powerTransition)) st d
    else
      let d := radioOff false (d.onMode fun m => { m with qual := none })
      match q.tag with
      | some t => fail t st d
      | none => d

/-- A command on work that ends completes with a status; an unacknowledged write frame comes first (R60, R62, R466). -/
def endWork (st : Status) (d : Dev) (tag : Fin 32) : Dev :=
  match d.cmd tag with
  | none => d
  | some c =>
    if 0x10 ≤ c.opc ∧ c.opc ≤ 0x3F then stopX st 0 d tag
    else if c.opc = 0x40 then
      if d.room.once.map (·.tag) = some tag then endOnce st d
      else complete tag st (d.invReply none) (d.onRoom fun r => { r with
        runTags := r.runTags.filter fun t => decide (t ≠ tag), stopTags := r.stopTags.filter fun t => decide (t ≠ tag) })
    else if c.opc = 0x42 ∨ c.opc = 0x43 then stopAcc tag st 0 (withdraw tag d)
    else if c.opc = 0x80 ∧ d.uhf.calRun.map (·.tag) = some tag then fail tag st (radioOff false (d.onUhf fun u => { u with calRun := none }))
    else if c.opc = 0x80 ∧ d.drv.calRun.map (·.tag) = some tag then fail tag st (d.onDrv fun v => { v with calRun := none })
    else if c.opc = 0x94 ∧ (d.mode.qual.bind (·.tag)) = some tag then stopTest st d
    else fail tag st (detach tag d)

/-- Commands in flight on work of some kinds (R60). -/
def Dev.workTags (d : Dev) (e : Ends) : List (Fin 32) := d.activeTags fun c => e.has c.opc

/-- Power delivery stops with cause MODE, and the read plans are committed (R375). -/
def feedOff (d : Dev) : Dev :=
  let zs := (List.finRange 24).filter fun n => decide (d.powered n ≠ [])
  zs.foldl (fun d n => readPlan n d) ((List.range 512).foldl (powerStop 4) d)

/-- Every command in flight but one completes with POWER_TRANSITION (R53, R70). -/
def endAll (but : Option (Fin 32)) (d : Dev) : Dev :=
  (d.activeTags fun _ => true).foldl (fun d t => if some t = but then d else fail t .powerTransition (detach t (dropRead t d)))
    ((d.onNcp fun n => { n with aborts := [] }).onPmu fun p => { p with held := [], keepWait := [] })

/-- Probe bursts and images end with the rotation (R55). -/
def probeStop (d : Dev) : Dev :=
  rewords ((burstsOff d).onPrb fun p => { p with bursts := [], images := [], passLeft := [], passWait := [] })

/-- The table keeps its entries across the transition (R287). -/
def keepsTable : Option Mode → Bool
  | some m => m.surface
  | none => true

/-- The transition starts: its drain, if it had one, is over (R55, R60, R287, R402, R466, R582). -/
def startTrans (d : Dev) : Dev :=
  match d.mode.run with
  | none => d
  | some t =>
    let now := d.now
    let t := { t with draining := false, start := if t.cause = 0 then now else t.start }
    let tgt := t.legs.getLast?
    let d := msgHost 7 (d.onMode fun m => { m with run := some t, stf := if tgt = some .m3 then t.stf else m.stf })
    let d := (d.workTags t.ends).foldl (endWork .aborted) d
    let d := if t.ends.feed then feedOff d else d
    let d := if t.ends.surface || !keepsTable tgt || decide (t.legs.head? = some .m2) then clearTable d else d
    let d := if t.ends.surface then probeStop (closeAll 6 none d) else d
    let d := if t.ends.room then stopInv d else d
    let d := if t.ends.test then stopTest .aborted d else d
    let d := if t.at_.uhfAllowed && t.legs.any (fun m => !m.uhfAllowed) then radioOff false d else d
    if t.legs.head? = some .m2 then endAll t.tag d else d

/-- A transition begins, with a drain where it asks for one and there is something to wait for (R60, R73). -/
def beginTrans (t : Trans) (d : Dev) : Dev :=
  let t := { t with left := d.mode.cur, at_ := d.mode.cur, ends := chainEnds d.mode.cur t.legs }
  let t := { t with draining := t.draining && !(d.workTags t.ends).isEmpty }
  let d := d.onMode fun m => { m with run := some t }
  let d := match t.tag with
    | some x => onCmd x (fun c => { c with phase := .modeRunning }) d
    | none => d
  if t.draining then d else startTrans d

/-! SET_MODE (R57 to R66) -/

/-- A refusal under R58 (R75). -/
def refuseMode (tag : Fin 32) (st : Status) (d : Dev) : Dev :=
  fail tag st (d.onMode fun m => { m with refused := satInc 65535 m.refused })

/-- Reply of SET_MODE (R57). -/
def Dev.modeReply (d : Dev) (dur : Nat) : List Byte := [byteOf d.mode.cur.code, byteOf d.mode.cause] ++ le 2 dur

/-- Checks 2 and 3 of R58 on a request that has passed check 1, and what follows; `pend` says that it was pending (R64, R65). -/
def modeGo (tag : Fin 32) (c : Cmd) (tgt : Mode) (pend : Bool) (s : State) : State :=
  let d := s.dev
  let fl := byteAt c.payload 1
  match d.reach d.mode.cur pend tgt with
  | none => s.on (refuseMode tag .wrongMode)
  | some legs =>
    let b := s.chainT d.mode.cur legs
    if c.deadline ≠ 0 ∧ c.accT + dlT c.deadline < d.now + b then s.on (refuseMode tag .deadline)
    else if d.busy then
      s.on fun d =>
        let d := match d.mode.pending with
          | some old => fail old .powerTransition (d.onMode fun m => { m with superseded := satInc 65535 m.superseded })
          | none => d
        onCmd tag (fun c => { c with phase := .modePending }) (d.onMode fun m => { m with pending := some tag })
    else if legs = [] then
      s.on fun d =>
        let d := if tgt = .m3 then d.onMode fun m => { m with stf := fl.testBit 1 } else d
        complete tag .ok (d.modeReply 0) d
    else
      s.on (beginTrans {
        tag := some tag, cause := 0, start := d.now, draining := fl.testBit 0
        limit := if c.deadline = 0 then d.now + msT 1000 else c.accT + dlT c.deadline - b
        legs := legs, stf := fl.testBit 1 })

/-- SET_MODE on arrival (R57, R58). -/
def setMode (tag : Fin 32) (c : Cmd) (s : State) : State :=
  match Mode.ofCode (byteAt c.payload 0) with
  | none => s.on (refuseMode tag .badParam)
  | some tgt =>
    if tgt = .m0 ∨ tgt = .m1 ∨ 4 ≤ byteAt c.payload 1 then s.on (refuseMode tag .badParam)
    else modeGo tag c tgt false s

/-- The pending request starts from the mode reached, checked again (R65). -/
def modePend (s : State) : State :=
  match s.dev.mode.pending with
  | none => s
  | some tag =>
    let s := s.on fun d => d.onMode fun m => { m with pending := none }
    match s.dev.cmd tag with
    | none => s
    | some c =>
      if s.dev.pastDeadline c then s.on (fail tag .deadline)
      else match Mode.ofCode (byteAt c.payload 0) with
        | some tgt => modeGo tag c tgt true s
        | none => s

/-! Completion (R57, R73 to R78) -/

/-- The mode registers and the MODE item of a completed transition; the drive words follow the mode's permissions (R47, R48, R73, R74,
R78, R599). -/
def enterMode (m : Mode) (cause : Nat) (tag : Option (Fin 32)) (dur : Nat) (d : Dev) : Dev :=
  let tg := match tag with
    | some t => t.val
    | none => 0
  let d := d.onMode fun x => { x with
    prev := (x.run.map (·.left)).getD x.cur, cur := m, run := none, seq := x.seq + 1, cause := cause, causeTag := tg, duration := min 65535 dur }
  let d := rewords (dropSeq d)
  pushPt 2 ([byteOf m.code, byteOf d.mode.prev.code, byteOf cause, byteOf d.mode.seq.toNat] ++ le 2 d.mode.duration ++ [byteOf tg, 0] ++
    le 4 d.sf.gen.toNat ++ le 4 d.phc) d

/-- The rotation starts at CH0, after a Steep detection with its coil as a trigger (R56, R249, R396). -/
def startRotation (steep : Bool) (d : Dev) : Dev :=
  let coil := d.stp.detCoil
  (startPass d).onPrb fun p => { p with handover := if steep then some coil else p.handover }

/-- The transition is complete: registers, item, reply, held policies, and the pending request (R65, R78, R671). -/
def completeTrans (s : State) : State :=
  match s.dev.mode.run with
  | none => s
  | some t =>
    let was := s.dev.mode.cur
    let s := s.on fun d =>
      let d := enterMode t.at_ t.cause t.tag (toUs (d.now - t.start)) d
      let d := if t.at_.surface && (!was.surface || t.ends.surface) then startRotation (decide (t.cause = 5)) d else d
      let d := if t.at_ = .m9 then d.onTb fun b => { b with m9Bins := 0 } else d
      let d := match t.tag with
        | some x => complete x .ok (d.modeReply d.mode.duration) d
        | none => d
      keepDone (policyHeld d)
    modePend s

/-! Legs (R54 to R56, R667) -/

/-- The zones that a leg closes have ended their ramps (R53, R272). -/
def closeEnd (d : Dev) : Dev :=
  (List.finRange 24).foldl (fun d n =>
    if d.sf.zone[n].state = .closing then closeDone n (if d.tx[n].on then withRx (rampEnd n) d else d) else d) d

/-- The device takes the state of a mode at the end of a leg: domains, engines, Steep (R47, R56, R230, R234, R389). -/
def takeMode (a m : Mode) (d : Dev) : Dev :=
  let d := if a = .m3 then steepLeave (coreUp d) else d
  let d := takeDoms m d
  let d := if mstate m 15 ≠ .on then lauOff d
    else if mstate a 15 ≠ .on then judgeWaits (serveProbe (d.onLau fun l => { l with probing := true })) else d
  if m = .m3 then coreDown (steepEnter d) else d

/-- One leg of the transition completes (R54); the leg to M2 and the end of boot are not among them. -/
def legDone (s : State) : State :=
  match s.dev.mode.run with
  | none => s
  | some t =>
    match t.legs with
    | [] => s
    | m :: rest =>
      if t.draining ∨ t.at_ = .m2 ∨ m = .m2 then s
      else if (mstate m 14 = .down ∧ s.dev.pmu.dom[14].p = .up) ∧ s.dev.islandBusy then s.on holdSec
      else
        let s := s.on fun d =>
          let d := if t.ends.surface then closeEnd d else d
          (takeMode t.at_ m d).onMode fun x => { x with run := some { t with at_ := m, legs := rest } }
        if rest = [] then completeTrans s else s

end Sys2Proof.Machine
end

