-- ==== Sys2Proof/Machine/Boot.lean ====
section
/-! DEFINITION. Resets, supplies and boot: what each reset keeps, the backup switch-over and the return, and the end of boot
(R68 to R71, R656 to R660, R701 to R708, R720). -/

namespace Sys2Proof.Machine
open Sys2Proof

/-! What a reset keeps (R701) -/

/-- What the flash and the fuses hold, which no reset changes. -/
def Nvm.kept (v : Nvm) : Nvm :=
  { kh0 := v.kh0, kh1 := v.kh1, kh0Rev := v.kh0Rev, svnFw := v.svnFw, svnMod := v.svnMod, sect := v.sect, spares := v.spares
    slotA := v.slotA, slotB := v.slotB, mods := v.mods.map fun m => { m with parts := [] }
    recs := v.recs.map fun r => r.filter fun r => !r.lost
    pairBase := v.pairBase, refBase := v.refBase, eraseBase := v.eraseBase, jOther := v.jOther, jrec := v.jrec, jold := v.jold, jseq := v.jseq, begun := v.begun }

/-- The device with every field at its Reset value but for the flash, the fuses, Cask, the balls and the supplies (R13, R701). -/
def Dev.fresh (d : Dev) : Dev :=
  { nvm := d.nvm.kept, cask := d.cask, pin := { d.pin with resumeAt := none }, key := { ih := d.key.ih }
    pmu := { vmainOk := d.pmu.vmainOk, vbkpOk := d.pmu.vbkpOk, vmainMon := d.pmu.vmainMon, vbkpMon := d.pmu.vbkpMon
             lp := d.pmu.lp, lpFrac := d.pmu.lpFrac, lpx := d.pmu.lpx } }

/-- Every domain off (R47 for M0, R674). -/
def domsOff (d : Dev) : Dev := d.onPmu fun p => { p with dom := p.dom.map fun m => { m with p := .down } }

/-- M0: no command is completed and no state is kept (R53, R658). -/
def powerOff (s : State) : State :=
  let d := (s.dev.fresh).onPmu fun p => { p with boot := .off, vmainOk := false, lp := 0, lpFrac := 0, lpx := false }
  { s with dev := domsOff (d.onMode fun m => { m with cur := .m0, run := none }), sram := [] }

/-- The stage of boot at the start of M2 (R657, R755). -/
def Dev.bootStart (d : Dev) : BootStage := if d.pin.sysrst then .held else .waitVio

/-- SYSRST_N asserted with VMAIN present, in no other mode than M0 and M1 (R68, R391, R534, R605, R634, R680, R701). -/
def sysReset (d : Dev) : Dev :=
  let e := d.fresh
  autoWipe (fun k => k.bflags.testBit 0) { e with
    stp := { e.stp with coil := d.stp.coil }
    kiln := { e.kiln with ksec := d.kiln.ksec, frac := d.kiln.frac }
    key := { e.key with slot := d.key.slot }
    mode := { e.mode with cause := 2 }
    nvm := { e.nvm with rstCause := 2 }
    pmu := { e.pmu with boot := .held } }

/-- What a reboot by SET_MODE keeps (R701), with the transition that has led to it. -/
def reboot (t : Trans) (s : State) : State :=
  let d := s.dev
  let e := d.fresh
  let tg := match t.tag with
    | some x => x.val
    | none => 0
  let e : Dev := { e with
    tb := { d.tb with pcmp := e.tb.pcmp, cfg := {}, zcCfg := {}, steps := 0, rejects := 0, holds := 0, gaps := 0, capPhc := 0, capTsc := 0 }
    rx := { e.rx with ch := d.rx.ch.map fun c => { gain := c.gain, hvQ := c.hvQ, histQ := c.histQ, hvF := c.hvF, histF := c.histF } }
    prb := { e.prb with coil := d.prb.coil }
    drv := { e.drv with coil := Vector.ofFn fun c => { e.drv.coil[c] with latched := d.drv.coil[c].latched, setTimes := d.drv.coil[c].setTimes } }
    hf := { e.hf with tech := d.hf.tech, maxRate := d.hf.maxRate, maxRateF := d.hf.maxRateF, vMode := d.hf.vMode, powWait := d.hf.powWait
                      retry := d.hf.retry, autoAct := d.hf.autoAct, afi := d.hf.afi, rfldTh := d.hf.rfldTh, wfldTh := d.hf.wfldTh
                      wnocal := d.hf.wnocal }
    acc := d.acc
    uhf := { e.uhf with ch := d.uhf.ch }
    stp := { e.stp with coil := d.stp.coil, cfg := d.stp.cfg }
    kiln := { e.kiln with ksec := d.kiln.ksec, frac := d.kiln.frac }
    key := { e.key with slot := d.key.slot }
    qs := { e.qs with evq := d.qs.evq, rspq := d.qs.rspq, loss := d.qs.loss, lossChosen := d.qs.lossChosen, fc0Sel := d.qs.fc0Sel
                      fc0Pol := d.qs.fc0Pol, fc1Sel := d.qs.fc1Sel, fc1Pol := d.qs.fc1Pol, fcLoaded := d.qs.fcLoaded }
    ncp := { e.ncp with tags := d.ncp.tags, nextOrder := d.ncp.nextOrder, refFree := d.ncp.refFree, lastRsp := d.ncp.lastRsp }
    hsp := { e.hsp with addr := d.hsp.addr, dummy := d.hsp.dummy, ddr := d.hsp.ddr, again := d.hsp.again, copy := d.hsp.copy }
    tim := { e.tim with tsc := d.tim.tsc }
    evr := { e.evr with
      shared := Vector.ofFn fun i => if 32 ≤ i.val ∧ i.val < 48 then d.evr.shared[i] else e.evr.shared[i]
      targets := Vector.ofFn fun i => if i.val = 5 then d.evr.targets[i] else e.evr.targets[i] }
    sf := { e.sf with gen := d.sf.gen, reuse := d.sf.reuse, holdMs := d.sf.holdMs, zwaitMs := d.sf.zwaitMs, autoIdent := d.sf.autoIdent
                      minAct := d.sf.minAct, newPolicy := d.sf.newPolicy }
    room := { e.room with gen := d.room.gen, reuse := d.room.reuse, cfg := d.room.cfg, act := d.room.cfg }
    mode := { cur := .m2, prev := d.mode.prev, seq := d.mode.seq, cause := 0, causeTag := tg, regSvc := true
              run := some { t with at_ := .m2, legs := [.m4] } }
    nvm := { e.nvm with rstCause := 3 }
    pmu := { e.pmu with vio33 := d.pmu.vio33, vioMon := d.pmu.vioMon, bkpLow := d.pmu.bkpLow, boot := .running
                        keep := if d.pmu.policySet then d.pmu.keep else e.pmu.keep
                        classIdle := if d.pmu.policySet then d.pmu.classIdle else e.pmu.classIdle, policySet := d.pmu.policySet } }
  s.on fun _ => autoWipe (fun k => k.bflags.testBit 0) e

/-! Supplies (R657 to R660) -/

/-- VMAIN has been above 10.2 V for 20 ms: boot starts from M0 (R657, R701). -/
def vmainQualified (mv : Nat) (s : State) : State :=
  if mv ≤ 10200 then s else
  let s := s.on fun d => d.onPmu fun p => { p with vmainOk := true, vmainMon := min 4095 (mv / 10) }
  if s.dev.mode.cur = .m0 then
    { s with dev := (s.dev.fresh).onPmu fun p => { p with boot := s.dev.bootStart }, sram := [] }
  else s

/-- VIO measured by boot (R657). -/
def vioMeasure (mv : Nat) (d : Dev) : Dev :=
  if d.mode.cur ≠ .m2 ∨ d.pmu.boot ≠ .waitVio then d
  else
    let lo := decide (1620 ≤ mv) && decide (mv ≤ 1980)
    let hi := decide (2970 ≤ mv) && decide (mv ≤ 3630)
    let d := d.onPmu fun p => { p with vioMon := min 1023 (mv / 10) }
    if lo || hi then
      (d.onPmu fun p => { p with vio33 := hi, vmainOk := true, boot := .running }).onMode fun m => { m with regSvc := true }
    else d

/-- VBKP_OK becomes 1; with VMAIN absent the device enters M1 from M0, with the CLEARED event of such a transition; no core runs that would
push a mode item or count the transition (R53, R287, R659; DEDUCED, log entry 61). -/
def vbkpRise (mv : Nat) (d : Dev) : Dev :=
  if mv < 2400 then d else
  let d := d.onPmu fun p => { p with vbkpOk := true, vbkpMon := min 1023 (mv / 10) }
  if d.mode.cur = .m0 then
    let d := d.onMode fun m => { m with cur := .m1, prev := .m0, bkp := true }
    clearTable (onDom 0 (fun x => { x with p := .up }) (d.onPmu fun p => { p with inHold := true }))
  else d

/-- VBKP_OK becomes 0; in M1 the device enters M0 (R53, R659). -/
def vbkpFall (mv : Nat) (s : State) : State :=
  if 2300 ≤ mv then s else
  let s := s.on fun d => d.onPmu fun p => { p with vbkpOk := false, vbkpMon := min 1023 (mv / 10) }
  if s.dev.mode.cur = .m1 then powerOff s else s

/-- BKP_LOW changes while the device runs from VMAIN (R659, R673, R677). -/
def bkpLow (low : Bool) (mv : Nat) (d : Dev) : Dev :=
  if d.mode.cur = .m0 ∨ d.mode.cur = .m1 ∨ d.pmu.bkpLow = low ∨ (if low then 2700 ≤ mv else mv < 2800) then d
  else
    let d := d.onPmu fun p => { p with
      bkpLow := low, vbkpMon := min 1023 (mv / 10), evBkpLow := p.evBkpLow || low, evBkpOk := p.evBkpOk || !low }
    pushPmu (if low then 1 else 2) 0xFF mv (pmuMsg d)

/-- The return count is restarted by a fall of VMAIN in M1 (R71). -/
def restartCount (d : Dev) : Dev :=
  d.onPmu fun p => { p with vmainOk := false, cntRestart := if p.inHold then satInc 255 p.cntRestart else p.cntRestart }

/-- VMAIN falls to 10.2 V or below and not to 9.0 V (R71, R658). -/
def vmainSag (mv : Nat) (d : Dev) : Dev :=
  if mv < 9000 ∨ 10200 < mv then d else
  let d := d.onPmu fun p => { p with vmainMon := min 4095 (mv / 10) }
  if d.mode.cur = .m0 then d
  else if d.mode.cur = .m1 then restartCount d
  else d.onPmu fun p => { p with cntSag := satInc 255 p.cntSag }

/-- Backup switch-over: fields and carrier off, every command completed, every domain but AON in retention, M1 (R69, R70, R287). -/
def switchOver (d : Dev) : Dev :=
  let d := (msgHost 7 d).onMode fun m => { m with
    superseded := if m.pending.isSome then satInc 65535 m.superseded else m.superseded, bkp := true, pending := none }
  let left := d.mode.cur
  let d := radioOff true d
  let d := abandonIsland (endAll none d)
  let d := (d.onPmu fun p => { p with held := [], keepWait := [], boot := .off }).onUhf fun u => { u with calRun := none }
  let d := (d.onRoom fun r => { r with access := none, runTags := [], stopTags := [] }).onDrv fun v => { v with calRun := none }
  let d := stopTest .powerTransition (stopInv d)
  let d := closeEnd (probeStop (closeAll 6 none d))
  let d := lauOff (clearTable d)
  let d := if left = .m3 then steepLeave d else d
  let d := d.onMode fun m => { m with run := none, regSvc := false }
  let d := enterMode .m1 7 none 0 d
  let d := takeDoms .m1 d
  let d := if d.bclk then coreDown d else domDown 1 d
  d.onPmu fun p => { p with vmainOk := false, cntSwitch := satInc 255 p.cntSwitch, inHold := true }

/-- A recognised fall of VMAIN below 9.0 V (R69, R71, R658). -/
def vmainFall (mv : Nat) (s : State) : State :=
  if 9000 ≤ mv then s
  else
    let s := s.on fun d => d.onPmu fun p => { p with vmainMon := mv / 10 }
    if s.dev.mode.cur = .m0 then s
    else if s.dev.mode.cur = .m1 then s.on restartCount
    else if s.dev.pmu.vbkpOk then s.on switchOver
    else powerOff s

/-- The return from M1 to M4; the first measurement after it follows the last one before M1, and can enter SHUT again (R71, R287, R740). -/
def bkpReturn (d : Dev) : Dev :=
  if d.mode.cur ≠ .m1 then d
  else
    let d := clearTable (takeDoms .m4 (coreUp d))
    let d := if d.th.shut then
        ((d.onTh fun t => { t with shut := false }).onDrv fun v => { v with swkill := false }).onUhf fun u => { u with txkill := false }
      else d
    let d := d.onMode fun m => { m with bkp := false, regSvc := true }
    let d := d.onPmu fun p => { p with vmainOk := true, inHold := false, evReturn := true }
    enterMode .m4 8 none 0 (pmuMsg d)

/-! Boot (R703, R706 to R710, R718) -/

/-- The slots that boot tries, in order, with the states that R708 sets before it. -/
def bootTries (d : Dev) : List Bool × Dev :=
  let v := d.nvm
  let pend := [false, true].find? fun b => decide (v.slot b = .pending)
  let first := match pend with
    | some b => [b]
    | none => []
  let order := first ++ ([false, true].filter fun b => decide (v.slot b = .active)) ++ [false, true].filter fun b => decide (v.slot b = .standby)
  let d := match pend with
    | some b => setSlot b .trial d
    | none => [false, true].foldl (fun d b => if d.nvm.slot b = .trial then setSlot b .failed d else d) d
  (order, d)

/-- Slots tried in turn: the one that verifies, if one does (R706, R708). -/
def trySlots : List Bool → State → Option Bool × State
  | [], s => (none, s)
  | b :: bs, s =>
    let r := s.verifyAt 1 (slotBase b)
    if r = 0 then (some b, s)
    else trySlots bs (s.on fun d => (setSlot b .failed d).onNvm fun v => { v with failCode := r })

/-- Step 3: an interrupted erase done again; a record that its sector held is lost with it (R710, R711, R713). -/
def bootErase (s : State) : State :=
  match s.dev.nvm.begun with
  | none => s
  | some (p, n) =>
    let d := s.dev.onNvm fun v => { v with
      recs := (dropRec n v).recs.map fun r => r.filter fun r => !r.lost, begun := none, recovered := satInc 255 v.recovered, evRecovered := true }
    let d := jWrite { typ := 2, sector := p, data := (Config.jErase d.nvm.jseq).toNat } (jWrite { typ := 1, sector := p } d)
    { s with dev := pushFlash 3 n p (flMsg d), flash := memErase (p * sectorBytes) sectorBytes s.flash }

/-- Steps 3 to 5: the slot that boot takes, if one verifies (R630, R641, R708). -/
def bootSelect (s : State) : Option Bool × State :=
  let s := (bootErase s).on fun d => (d.onNvm fun v => { v with scanned := true }).onKey fun k => { k with derived := true, entOk := true }
  let x := bootTries s.dev
  let r := trySlots x.1 (s.on fun _ => x.2)
  match r.1 with
  | none => r
  | some b =>
    let back := decide (x.1.head? ≠ some b)
    (some b, r.2.on fun d =>
      let d := d.onNvm fun v => { v with bootedB := b, fallback := back }
      if back then pushFlash 4 (b2n b) d.nvm.failCode d else d)

/-- The integrator record taken into the registers (R711); Q_FCMAP is kept across a reboot by SET_MODE (R701). -/
def takeInteg (i : Integ) (d : Dev) : Dev :=
  let d := d.onTb fun t => { t with cfg := i.tbCfg, zcCfg := i.tbZc }.cfgTaken
  let d := d.onUhf fun u => { u with chCfg := i.chCfg, ant := i.ant, txc := i.txc, acfgT := i.acfg, acfg := i.acfg, coex := i.coex }
  let d := d.onMsp fun m => { m with
    xen := i.xcfg.1, xcs := i.xcfg.2.1, xa4 := i.xcfg.2.2.1, xopc := i.xcfg.2.2.2.1, xdummy := i.xcfg.2.2.2.2.1, xddr := i.xcfg.2.2.2.2.2
    ctl := i.ctl.1, csgap := i.ctl.2.1, en := i.ctl.2.2 }
  let d := if d.qs.fcLoaded then d else d.onQs fun q => { q with
    fc0Sel := i.fcmap.1, fc0Pol := i.fcmap.2.1, fc1Sel := i.fcmap.2.2.1, fc1Pol := i.fcmap.2.2.2 }
  let d := (d.onKiln fun k => { k with cfg := i.kilnCfg }).onHf fun h => { h with fref := i.fref }
  if d.pmu.policySet then policyTake d.pmu.keep d.pmu.classIdle d else policyTake i.policy.1 i.policy.2 d

/-- The Kiln record taken: KSEC after power-on only (R680, R690, R701). -/
def takeKiln (r : KilnRec) (d : Dev) : Dev :=
  let on := decide (d.nvm.rstCause = 1)
  d.onKiln fun k => { k with
    hist := r.hist, coil := r.coil, kaFd := r.kaFd, ksec := if on then r.ksec else k.ksec, recordOk := true }

/-- The module table taken: the masks and AUTOSTART of each module; its state is the journal's (R709, R711). -/
def takeMods (m : Vector Module 63) (d : Dev) : Dev :=
  d.onNvm fun v => { v with mods := Vector.ofFn fun k =>
    { v.mods[k] with cmask := m[k].cmask, zmask := m[k].zmask, tmask := m[k].tmask, auto := m[k].auto } }

/-- One record taken (R141, R155, R419, R711). -/
def takeRec (d : Dev) (r : Option Rec) : Dev :=
  match r.map Rec.data with
  | some (.coils l) => d.onDrv fun v => { v with coil := Vector.ofFn fun i => { v.coil[i] with cal := l[i] } }
  | some (.uhf u) =>
    d.onUhf fun x => { x with ch := Vector.ofFn fun i => match u[i] with
      | some (p, t) => if x.ch[i].cal = .none then { x.ch[i] with cal := .part, part := p, temp := t } else x.ch[i]
      | none => x.ch[i] }
  | some (.integ i) => takeInteg i d
  | some (.kiln k) => takeKiln k d
  | some (.mods m) => takeMods m d
  | _ => d

/-- Step 7: the records loaded, and the template library, which wakes FAB (R215, R703). -/
def bootRecords (d : Dev) : Dev :=
  let lay := match d.nvm.recs[0].map Rec.data with
    | some (.layout b) => some b
    | _ => none
  let d := (takeLayout lay d).onPmu fun p => { p with vset := Config.vset.toNat }
  let d := d.onTb fun t => { t with caskDelay := Config.caskDelay.toNat }
  let d := takeMods (Vector.replicate 63 {}) d
  let d := (d.nvm.recs.toList.foldl takeRec d).onQs fun q => { q with fcLoaded := true }
  let d := onDom 15 (fun m => { m with wakes := satInc 65535 m.wakes }) (domUp 15 d)
  d.onLau fun l => { l with lib := true }

/-- Step 9 for one module: verified again and started with its grants, or ABSENT; a module without AUTOSTART that ran is LOADED
(R718). -/
def bootModule (s : State) (k : Fin 63) : State :=
  let m := s.dev.nvm.mods[k]
  if m.st = .absent ∨ m.st = .committed then s
  else if m.auto ∧ m.st ≠ .faulted then
    if s.verifyAt 2 m.sect = 0 then
      match s.startExt k m.cmask m.zmask m.tmask true with
      | some s => s
      | none => s.on (setModule k .loaded)
    else s.on (putModule k fun _ => {})
  else if m.st = .running then s.on (setModule k .loaded)
  else s

/-- Zone cores started (R703, step 9). -/
def bootCores (d : Dev) : Dev := domUp 19 (domUp 18 (domUp 17 (domUp 16 d)))

/-- The end of boot: the mode reached, its item, the cleared table of a chain without one so far, and the reply of a SET_MODE to
M2 (R78, R287, R702). -/
def bootEnd (m : Mode) (cause : Nat) (d : Dev) : Dev :=
  match d.mode.run with
  | none => d
  | some t =>
    let dur := toUs (d.now - t.start)
    let d := d.onPmu fun p => { p with boot := if m = .m4 then .off else .failed }
    let d := if t.tag.isNone then clearTable d else d
    let d := takeDoms m (enterMode m cause none dur d)
    match t.tag with
    | some x => complete x .ok (d.modeReply d.mode.duration) d
    | none => d

/-- GUARD of the Kiln record, 0 without one (R690, R694). -/
def Dev.recGuard (d : Dev) : Nat :=
  match d.nvm.recs[4].map Rec.data with
  | some (.kiln r) => r.guard
  | _ => 0

/-- Boot ends: with an image in M4, without one in M11 (R703, R708, R720). The event names which of the two it is. -/
def bootFinish (ok : Bool) (fs : Vector (Nat × Nat) 48) (s : State) : State :=
  if s.dev.mode.cur ≠ .m2 ∨ s.dev.pmu.boot ≠ .running then s
  else
    let r := bootSelect s
    match r.1, ok with
    | some b, true =>
      let s := r.2
      let ver := leAt (s.header (slotBase b)) 8 4
      let s := s.on fun d => bootRecords (d.onNvm fun v => { v with fwRuns := true, fwver := ver, monitor := false })
      let s := s.on fun d => formMargins false (setGuard d.recGuard (takePairs fs d))
      let s := (List.finRange 63).foldl bootModule (s.on bootCores)
      (s.on (bootEnd .m4 3))
    | none, false =>
      r.2.on fun d => bootEnd .m11 4 (d.onNvm fun v => { v with fwRuns := false, fwver := 0, monitor := true, bootedB := false })
    | _, _ => s

end Sys2Proof.Machine
end

