-- ==== Sys2Proof/Machine/ModeCmds.lean ====
section
/-! DEFINITION. Commands and events of the modes, the supplies, the resets and boot (chapters 02, 19 and 21). -/

namespace Sys2Proof.Machine
open Sys2Proof

/-! SET_MODE and its transition (R57 to R67, R702) -/

/-- SET_MODE (R57, R58). -/
def execSetMode (tag : Fin 32) (s : State) : Out := beginS 0x02 tag (fun n => decide (n = 2)) (setMode tag) s

/-- The drain ends: its commands have completed, or its limit has come (R60). -/
def execDrainEnd (s : State) : Out :=
  onDev s fun d => match d.mode.run with
    | some t => if t.draining && ((d.workTags t.ends).isEmpty || decide (t.limit ≤ d.now)) then startTrans d else d
    | none => d

/-- The leg to M2 of a SET_MODE: once the flash controller is idle, what is left completes and the device boots (R64, R454, R702). -/
def legToM2 (t : Trans) (s : State) : State :=
  if t.draining ∨ s.dev.nvm.jobs ≠ [] then s
  else
    let s := s.on fun d => clearRoom (endAll t.tag (d.onMode fun m => { m with pending := none }))
    reboot t s

/-- A leg of a transition completes (R54, R702). -/
def execTransitionLegComplete (s : State) : Out :=
  let s := s.ev
  match s.dev.mode.run with
  | some t => if t.legs.head? = some .m2 then .next (legToM2 t s) else .next (legDone s)
  | none => .next s

/-- An address match in M3: the transition to M4 starts and the frame is discarded (R63, R67, R395, R551). A declaration of the
same LPCLK cycle is set aside. -/
def wakeMatch (d : Dev) : Dev :=
  let go (d : Dev) : Dev :=
    let d := beginTrans { cause := 6, start := d.lpNow, legs := [.m4] } d
    let now := d.now
    (onDom 1 (fun m => { m with p := .waking, since := now }) d).onHsp fun h => { h with wakeDisc := satInc 255 h.wakeDisc }
  if d.mode.cur ≠ .m3 then d
  else match d.mode.run with
    | none => go d
    | some t =>
      if t.cause = 5 ∧ d.stp.ticks = word d.pmu.lp then
        go ((d.onMode fun m => { m with run := none }).onStp fun x => { x with disc := true, cntDisc := satInc 255 x.cntDisc })
      else d

/-- An address match of HSP in M3 (R50, R551). -/
def execM3WakeMatch (s : State) : Out := onDev s wakeMatch

/-! Supplies, resets and boot -/

/-- A fall of VMAIN to 10.2 V or below that does not reach 9.0 V (R658). -/
def execVmainSag (mv : Nat) (s : State) : Out := onDev s (vmainSag mv)

/-- The return from backup (R71). -/
def execBkpReturn (s : State) : Out := onDev s bkpReturn

/-- VMAIN has been above 10.2 V for 20 ms (R657). -/
def execVmainQualified (mv : Nat) (s : State) : Out := .next (vmainQualified mv s.ev)

/-- VIO measured by boot (R657). -/
def execVioMeasure (mv : Nat) (s : State) : Out := onDev s (vioMeasure mv)

/-- VBKP_OK becomes 1 (R659). -/
def execVbkpOkRise (mv : Nat) (s : State) : Out := onDev s (vbkpRise mv)

/-- VBKP_OK becomes 0 (R659). -/
def execVbkpOkFall (mv : Nat) (s : State) : Out := .next (vbkpFall mv s.ev)

/-- BKP_LOW changes (R659). -/
def execBkpLowChange (low : Bool) (mv : Nat) (s : State) : Out := onDev s (bkpLow low mv)

/-- SYSRST_N asserted (R68, R755). -/
def execSysrstAssert (s : State) : Out :=
  onDev s fun d =>
    let d := d.onPin fun p => { p with sysrst := true }
    if d.mode.cur = .m0 ∨ d.mode.cur = .m1 then d else sysReset d

/-- SYSRST_N deasserted: boot starts (R68, R701). -/
def execSysrstDeassert (s : State) : Out :=
  onDev s fun d =>
    let d := d.onPin fun p => { p with sysrst := false }
    if d.pmu.boot = .held then d.onPmu fun p => { p with boot := .waitVio } else d

/-- Boot completes; `fs` is Kiln's boot measurement of the pairs (R679, R703). -/
def execBootDone (fs : Vector (Nat × Nat) 48) (s : State) : Out := .next (bootFinish true fs s.ev)

/-- No image verifies (R708, R720). -/
def execBootFail (s : State) : Out := .next (bootFinish false (Vector.replicate 48 (0, 0)) s.ev)

/-! QUALIFY (R79 to R83) -/

/-- The test that a payload asks for (R79). -/
def qualOf (p : List Byte) : Qual :=
  { test := byteAt p 0, hold := (byteAt p 1).testBit 0, mod100 := (byteAt p 1).testBit 1, duration := leAt p 2 2, first := byteAt p 4
    last := byteAt p 5, level := byteAt p 6, tech := byteAt p 7, rate := byteAt p 8 }

/-- Check 1 of R82. -/
def Dev.qualOk (d : Dev) (p : List Byte) : Bool :=
  let q := qualOf p
  zeros p [9, 10, 11] &&
  (if q.test = 0 then zeros p [1, 2, 3, 4, 5, 6, 7, 8]
   else
    decide (q.test ≤ 5) && decide (byteAt p 1 < 4) && (!q.mod100 || (decide (q.test = 2) && decide (q.tech = 4))) &&
    (if q.hold then decide (q.duration = 0) else decide (1 ≤ q.duration) && decide (q.duration ≤ 60000)) &&
    (if q.hf then
      decide (q.first ≤ q.last) && decide (q.last ≤ 191) && decide (1 ≤ q.level) && !(d.testWs q).isEmpty &&
      (if q.test = 2 then decide (1 ≤ q.tech) && decide (q.tech ≤ 5) && rateOk q.tech q.rate (if q.tech = 4 then 0 else q.rate)
       else decide (q.tech = 0) && decide (q.rate = 0))
     else
      decide (q.first ≤ 63) && decide (q.last ≤ 7) && decide (q.level ≤ 60) && decide (q.rate = 0) &&
      (if q.test = 3 then decide (q.tech = 0) else decide (q.tech ≤ 3)) &&
      d.uhf.chCfg[Fin.ofNat 64 q.first].en && decide (d.uhf.ant[Fin.ofNat 8 q.last].en ≠ 0)))

/-- Reply of a test, with STATE (R79). -/
def Dev.qualReply (d : Dev) (q : Qual) (state : Nat) : List Byte :=
  if q.hf then [byteOf q.test, byteOf state] ++ le 2 (d.estTotMw) ++ le 2 q.scale ++ le 2 0
  else [byteOf q.test, byteOf state] ++ le 2 (min q.level d.uhf.chCfg[d.uhf.chan].pcap) ++ le 2 0 ++ le 2 0

/-- An HF test starts, once the field of a test before it has ramped off; one that a kill or the faults of its coils hold off ends at
once. A limiter that leaves no power gives SCALE 1 (R80, R83; log entry 61). -/
def startHf (q : Qual) (d : Dev) : Dev :=
  let ws := d.testWs q
  let from_ := match d.fade with
    | some (_, t, n) => max d.now (t + n)
    | none => d.now
  let q := { q with scale := max 1 (d.limit 0 ws).scale, start := from_, len := rampCycles d.drv.ramp }
  let d := rewords (d.onMode fun m => { m with qual := some q })
  let d := markAll (d.drv.around d.testCoils) 96 4 d
  if d.killed || d.testDead then endHfTest true .fieldLow d else d

/-- A test with HOLD replies once its field or its carrier has ramped up (R83, R149, R407). -/
def holdReply (d : Dev) : Dev :=
  match d.mode.qual with
  | some q =>
    (match q.hold, q.tag with
    | true, some t =>
      let up := if q.hf then decide (q.start + q.len ≤ d.now) else d.uhf.on && decide (d.uhf.onT + usT 5 ≤ d.now)
      if up then complete t .ok (d.qualReply q 1) (d.onMode fun m => { m with qual := some { q with tag := none } }) else d
    | _, _ => d)
  | none => d

/-- A UHF test starts: configuration, channel and carrier, once the aerial is held (R81, R426). -/
def startUhf (tag : Fin 32) (draw : Nat) (q : Qual) (d : Dev) : Dev :=
  let now := d.now
  let d := onCmd tag (fun c => { c with phase := .aerial, waitT := now }) (d.onMode fun m => { m with qual := some q, testQ := 0 })
  let d := acfgTo (Fin.ofNat 8 q.last) d
  let c : Fin 64 := Fin.ofNat 64 q.first
  let d := if q.test = 5 then selectHop draw d
    else if d.chRefused c then d.onUhf fun u => { u with chan := c, target := c, revWait := true }
    else if d.uhf.chan = c ∧ !d.uhf.busy then d.onUhf fun u => { u with target := c }
    else hopTo c d
  carrierWrite true d

/-- BCLK cycles of the ramp-up of a test (R82, R149, R407). -/
def Dev.rampUpT (d : Dev) (q : Qual) : Nat := if q.hf then rampCycles d.drv.ramp else usT 5

/-- QUALIFY, which is issued again for a test with HOLD once it has ramped up; `draw` is the entropy source's number for a first
channel (R79 to R83). -/
def execQualify (tag : Fin 32) (draw : Nat) (s : State) : Out :=
  onDev s fun d =>
    let d := if (d.mode.qual.bind (·.tag)) = some tag then holdReply d else d
    begin_ 0x94 tag (fun n => decide (n = 12)) (fun c d =>
      let p := c.payload
      let q : Qual := { qualOf p with tag := some tag, start := d.now }
      if !d.qualOk p then fail tag .badParam d
      else
        inMode tag c (fun d =>
          if d.mode.cur ≠ .m10 then fail tag .wrongMode d
          else if q.test ≠ 0 ∧ c.deadline ≠ 0 ∧
              (if q.hold then decide (dlT c.deadline < d.rampUpT q) else decide (c.deadline < 10 * q.duration + 1)) then fail tag .deadline d
          else if q.test ≠ 0 ∧ ((!q.hf ∧ d.uhf.ch[Fin.ofNat 64 q.first].cal = .failed) ∨ (q.hf ∧ !d.drv.layoutOk)) then fail tag .resourceBusy d
          else
            let d := stopTest .aborted d
            if q.test = 0 then complete tag .ok (le 8 0) d
            else
              let d := onCmd tag (fun c => { c with phase := .test }) d
              if q.hf then startHf q d else startUhf tag draw q d) d) d

/-- A test ends with its reply (R83). -/
def testEnded (q : Qual) (d : Dev) : Dev :=
  let p := d.qualReply q 0
  let d := stopTest .ok (d.onMode fun m => { m with qual := some { q with tag := none } })
  match q.tag with
  | some t => complete t .ok p d
  | none => d

/-- The carrier of a UHF test has ramped down (R83, R407). -/
def Dev.carrierDown (d : Dev) : Bool :=
  !d.uhf.on && (match d.uhf.offT with
    | some t => decide (t + usT 5 ≤ d.now)
    | none => true)

/-- DURATION has passed: the field or the carrier ramps down, and then the test ends and its command replies; a test with HOLD replies
once it has ramped up (R83). DURATION of a UHF test runs from the command's start (log entry 61). -/
def execQualifyTestEnd (s : State) : Out :=
  onDev s fun d => match d.mode.qual with
    | some q =>
      if q.hold then holdReply d
      else if d.now < q.start + msT q.duration then d
      else if q.hf then (if d.now < q.start + msT q.duration + q.len then d else testEnded q d)
      else if q.ended && d.carrierDown then testEnded q d
      else if q.ended then d
      else
        let d := radioOff false (d.onMode fun m => { m with qual := some { q with ended := true } })
        if d.carrierDown then testEnded q d else d
    | none => d

end Sys2Proof.Machine
end

