-- ==== Sys2Proof/Machine/Steep.lean ====
section
/-! DEFINITION. Events of the Steep controller and STEEP_CONFIG (chapter 10). -/

namespace Sys2Proof.Machine
open Sys2Proof

/-- A sweep starts, or is skipped; `vdrv` is VDRV of the Kettles in 10 mV (R386). -/
def execSteepSweepStart (vdrv : Vector Nat 4) (s : State) : Out :=
  onDev s fun d =>
    if d.mode.cur ≠ .m3 ∨ d.busy ∨ d.stp.stage ≠ .waiting ∨ d.stp.trig.isSome ∨ d.pmu.lp < d.stp.nextAt then d
    else
      let skip := d.sweepBlocked vdrv
      d.onStp fun t => { t with
        nextAt := t.nextAt + t.cfg.period, startAt := d.pmu.lp, skip := if skip then satInc 255 t.skip else t.skip
        stage := if skip then .waiting else .sweep }

/-- Readings of the coils that a sweep probes, of the readings SA and SP that the stage would take of every coil (R384). -/
def readingsOf (cs : List (Fin 192)) (rs : Vector (Nat × Nat) 192) : List (Fin 192 × Nat × Nat) := cs.map fun c => (c, rs[c])

/-- A sweep ends with the readings SA, SP of its coils (R385, R389, R390, R392). -/
def execSteepSweepEnd (rs : Vector (Nat × Nat) 192) (s : State) : Out :=
  onDev s fun d =>
    if d.mode.cur ≠ .m3 ∨ d.stp.stage ≠ .sweep ∨ !d.swept d.stp.slots then d
    else
      let rs := readingsOf (d.stp.sched.map (·.2)) rs
      let lp := d.pmu.lp
      d.onStp fun t =>
        let t := { t.put rs with stage := .waiting, sweeps := (t.sweeps + 1) % 2 ^ 24 }
        if t.entry then t.entrySweep rs else t.testSweep rs lp

/-- A confirmation sweep starts; one that R386 would skip is one without confirmation (R393). -/
def execSteepConfirmStart (vdrv : Vector Nat 4) (s : State) : Out :=
  onDev s fun d => match d.stp.trig with
    | none => d
    | some (_, t0) =>
      if d.mode.cur ≠ .m3 ∨ d.busy ∨ d.stp.stage ≠ .waiting ∨ 1000 * (d.pmu.lp - t0) < d.stp.cfg.confMs * 32768 then d
      else if d.sweepBlocked vdrv then d.onStp fun t => { t with trig := none, cntFalse := satInc 255 t.cntFalse }
      else d.onStp fun t => { t with stage := .confirm, startAt := d.pmu.lp }

/-- A declared detection: its record and the transition, or its discard (R394, R395). -/
def declareSteep (c : Fin 192) (n : Nat) (d : Dev) : Dev :=
  let lp := d.pmu.lp
  let d := d.onStp fun t => { t with stage := .handover, trig := none, detCoil := c.val, nconf := n, valid := true, disc := false, ticks := word lp }
  if d.busy then d.onStp fun t => { t with disc := true, cntDisc := satInc 255 t.cntDisc }
  else beginTrans { cause := 5, start := d.lpNow, legs := [if d.mode.stf then .m8 else .m5] } d

/-- A confirmation sweep ends with the readings of its coils (R393). -/
def execSteepConfirmEnd (rs : Vector (Nat × Nat) 192) (s : State) : Out :=
  onDev s fun d => match d.stp.trig with
    | none => d
    | some (hit, _) =>
      if d.mode.cur ≠ .m3 ∨ d.stp.stage ≠ .confirm ∨ !d.swept (d.stp.confSlots hit) then d
      else
        let cs := d.stp.confCoils hit
        let d := d.onStp fun t => t.put (readingsOf cs rs)
        let conf := cs.filter fun c => d.stp.coil[c].trig d.stp.cfg
        let none_ (d : Dev) : Dev := d.onStp fun t => { t with stage := .waiting, trig := none, cntFalse := satInc 255 t.cntFalse }
        if conf.all fun c => !hit.contains c then none_ d
        else match d.stp.declared conf with
          | some c => declareSteep c conf.length d
          | none => none_ d

/-- Bytes 1 to 9 in range (R399). -/
def steepOk (p : List Byte) : Bool :=
  let r (i lo hi : Nat) : Bool := decide (lo ≤ byteAt p i) && decide (byteAt p i ≤ hi)
  r 1 5 200 && r 2 4 32 && r 3 1 63 && r 4 4 255 && r 5 1 15 && r 6 4 15 && r 7 8 192 && r 8 1 15 && r 9 4 7

/-- Those bytes as STP_CFG0 and STP_CFG1 (R399). -/
def steepOf (p : List Byte) : StpCfg :=
  { sweep := byteAt p 1, burst := byteAt p 2, amp := byteAt p 3, thA := byteAt p 4, thP := byteAt p 5, learn := byteAt p 6
    mass := byteAt p 7, confMs := byteAt p 8, drift := byteAt p 9 }

/-- Reply of STEEP_CONFIG (R399). -/
def Steep.reply (t : Steep) : List Byte :=
  let g := t.cfg
  [0, byteOf g.sweep, byteOf g.burst, byteOf g.amp, byteOf g.thA, byteOf g.thP, byteOf g.learn, byteOf g.mass, byteOf g.confMs, byteOf g.drift] ++
  le 2 (t.coil.toList.filter fun c => decide (c.state = .armed)).length

/-- STEEP_CONFIG (R399). -/
def execSteepConfig (tag : Fin 32) (s : State) : Out :=
  onDev s <| begin_ 0x72 tag (fun n => decide (n = 12)) fun c d =>
    let p := c.payload
    let f := byteAt p 0
    if 4 ≤ f ∨ !zeros p [10, 11] ∨ (f.testBit 0 ∧ !steepOk p) then fail tag .badParam d
    else
      inMode tag c (fun d =>
        if f ≠ 0 ∧ d.mode.cur ≠ .m4 then fail tag .wrongMode d
        else
          let d := d.onStp fun t => { t with
            cfg := if f.testBit 0 then steepOf p else t.cfg
            coil := if f.testBit 1 then t.coil.map StpC.forget else t.coil }
          complete tag .ok d.stp.reply d) d

end Sys2Proof.Machine
end

