-- ==== Sys2Proof/Machine/Calibrate.lean ====
section
/-! DEFINITION. CALIBRATE of coils, SNAPSHOT, and the end of an invalid run (chapters 04, 05 and 07). -/

namespace Sys2Proof.Machine
open Sys2Proof

/-! CALIBRATE with TARGET COILS (R155 to R159) -/

/-- A survey of coils accepted before order `o` waits (R695). -/
def Dev.surveyAhead (d : Dev) (o : Nat) : Bool :=
  !(d.activeTags fun c => decide (c.opc = 0x84) && decide (c.phase = .coilSet) && decide (c.order < o)).isEmpty

/-- CALIBRATE with TARGET COILS, or with a TARGET that does not exist (R157); one that finds another at work comes again when that
has ended. -/
def execCalibrateCoils (tag : Fin 32) (s : State) : Out :=
  onDev s fun d =>
    match d.startable 0x80 tag with
    | none => d
    | some c =>
      let p := c.payload
      if byteAt p 0 = 2 then d
      else begin_ 0x80 tag (fun n => decide (n = 4)) (fun c d =>
        if byteAt p 0 ≠ 1 ∨ 2 ≤ byteAt p 1 ∨ 191 < byteAt p 2 ∨ 191 < byteAt p 3 ∨ byteAt p 3 < byteAt p 2 then fail tag .badParam d
        else
          inMode tag c (fun d =>
            if d.drv.calRun.isSome || d.surveyAhead c.order then d
            else
              let d := onCmd tag (fun k => { k with phase := .coilSet }) d
              d.onDrv fun v => { v with calRun := some { tag := tag, target := 1, store := (byteAt p 1).testBit 0, first := byteAt p 2, last := byteAt p 3 } }) d) d

/-- Coil calibration completes, once its coil sets have been driven and measured; a coil without a measurement fails. One that ABORT has
stopped keeps what was done and stores nothing (R157 to R159, R530). -/
def execCalibrateDone (s : State) : Out :=
  onDev s fun d => match d.drv.calRun with
    | none => d
    | some r =>
      if !d.seqDone r.tag then d
      else
        let all := allCoils.filter fun c => decide (r.first ≤ c.val) && decide (c.val ≤ r.last) && decide (d.drv.coil[c].role ≠ .absent)
        let got := d.seqGot r.tag
        let stop := match d.cmd r.tag with
          | some c => c.stopReq
          | none => true
        let d := d.onDrv fun v => { v with calRun := none }
        if stop then fail r.tag .aborted d
        else
          let d := takeCal ((all.filter fun c => !got.contains c.val).map fun c => (c, none)) d
          let ok := (all.filter fun c => d.drv.coil[c].cal.valid).length
          let reply := [1, byteOf ok, byteOf (all.length - ok), 0]
          if r.store then writeRec 1 (.coils (Vector.ofFn fun c => d.drv.coil[c].cal)) (some r.tag) reply d else complete r.tag .ok reply d

/-- A channel's invalid run expires (R200). -/
def execInvalidRunEnd (c : Fin 192) (s : State) : Out :=
  onDev s fun d => if d.rx.ch[c].invEnd ≤ d.now then onCh c (fun x => { x with invEnd := 0, cause := 0 }) d else d

/-! SNAPSHOT (R289 to R292) -/

/-- A buffer held or released. -/
def onSnap (b : Fin 2) (x : Option Snap) (d : Dev) : Dev := d.onSf fun t => { t with snap := t.snap.set b.val x b.isLt }

/-- The page of a held buffer, which is released with its last page or with RELEASE (R290, R292). -/
def snapPage (tag : Fin 32) (b : Fin 2) (x : Snap) (cursor : Nat) (release : Bool) (d : Dev) : Dev :=
  let r := x.reply b.val cursor
  let keep := if r.2 || release then none else some { x with named := d.now }
  complete tag .ok r.1 (onSnap b keep d)

/-- CURSOR lies in the ranges of the frozen tables (R292). -/
def Snap.inRange (x : Snap) (cursor : Nat) : Bool :=
  (x.hasPres && decide (cursor < 512)) || (x.hasRoom && decide (512 ≤ cursor) && decide (cursor < 4608))

/-- The tables frozen (R291). -/
def Dev.freeze (d : Dev) (table : Nat) : Snap :=
  { pres := if table.testBit 0 then d.freezePres else [], room := if table.testBit 1 then d.freezeRoom else []
    hasPres := table.testBit 0, hasRoom := table.testBit 1, pgen := if table.testBit 0 then d.sf.gen else 0
    rgen := if table.testBit 1 then d.room.gen else 0, named := d.now }

/-- The tables as they stood when a SNAPSHOT with NEW was accepted are kept until it is carried out (R291). -/
def keepTables (tag : Nat) (pkt : List Byte) (d : Dev) : Dev :=
  let old := d.sf.taken.filter fun x => decide (x.1 ≠ tag)
  if byteAt pkt 0 = 0x05 ∧ (byteAt pkt 7).testBit 0 then
    let x := d.freeze 3
    d.onSf fun t => { t with taken := old ++ [(tag, x)] }
  else d.onSf fun t => { t with taken := old }

/-- The tables of TABLE, as they stood at the acceptance (R291). -/
def Dev.frozenAt (d : Dev) (tag table : Nat) : Snap :=
  match d.sf.taken.find? fun x => decide (x.1 = tag) with
  | some (_, x) =>
    { pres := if table.testBit 0 then x.pres else [], room := if table.testBit 1 then x.room else []
      hasPres := table.testBit 0, hasRoom := table.testBit 1, pgen := if table.testBit 0 then x.pgen else 0
      rgen := if table.testBit 1 then x.rgen else 0, named := d.now }
  | none => d.freeze table

/-- SNAPSHOT (R289 to R292). -/
def execSnapshot (tag : Fin 32) (s : State) : Out :=
  onDev s <| begin_ 0x05 tag (fun n => decide (n = 8)) fun c d =>
    let p := c.payload
    let f := byteAt p 1
    if 4 ≤ f ∨ !zeros p [3, 6, 7] then fail tag .badParam d
    else if f.testBit 0 then
      if byteAt p 0 = 0 ∨ 3 < byteAt p 0 then fail tag .badParam d
      else
        inMode tag c (fun d =>
          match (List.finRange 2).find? fun b => (d.sf.snap[b]).isNone with
          | none => fail tag .resourceBusy d
          | some b =>
            let x := d.frozenAt tag.val (byteAt p 0)
            let d := d.onSf fun t => { t with taken := t.taken.filter fun x => decide (x.1 ≠ tag.val) }
            snapPage tag b x (if x.hasPres then 0 else 512) (f.testBit 1) d) d
    else if hb : byteAt p 2 < 2 then
      inMode tag c (fun d =>
        match d.sf.snap[byteAt p 2] with
        | none => fail tag .badParam d
        | some x => if x.inRange (leAt p 4 2) then snapPage tag ⟨byteAt p 2, hb⟩ x (leAt p 4 2) (f.testBit 1) d else fail tag .badParam d) d
    else fail tag .badParam d

/-- A buffer not named for 1 s is released (R292). -/
def execSnapshotReleaseTimeout (b : Fin 2) (s : State) : Out :=
  onDev s fun d => match d.sf.snap[b] with
    | some x => if x.named + msT 1000 ≤ d.now then onSnap b none d else d
    | none => d

end Sys2Proof.Machine
end

