-- ==== Sys2Proof/Machine/Ncp.lean ====
section
/-! DEFINITION. The command protocol: acceptance, deadlines, the guard, ABORT, and the commands of chapter 14. -/

namespace Sys2Proof.Machine
open Sys2Proof

/-! Acceptance (R509 to R515) -/

/-- Reservation in RSPQ for an opcode's reply (R513); an opcode that the table does not list has a reply without payload. -/
def resvOf (opc : Nat) : Nat := ((rpl opc).getD 0 + 14 + 3) / 4 * 4

/-- Bytes that a tag keeps reserved (R513). -/
def TagState.resv : TagState → Nat
  | .free => 0
  | .active c => c.resv
  | .done r _ => r

/-- NCP_RSPQ.FREE: unreserved bytes for accepted commands (R513, R535). -/
def Ncp.free (n : Ncp) : Nat := 32256 - (n.tags.toList.map TagState.resv).sum

/-- NCP_ACTIVE (R535). -/
def Ncp.activeMask (n : Ncp) : Nat :=
  ((List.finRange 32).map fun t => match n.tags[t] with
    | .active _ => 2 ^ t.val
    | _ => 0).sum

/-- NCP_DONE (R535). -/
def Ncp.doneMask (n : Ncp) : Nat :=
  ((List.finRange 32).map fun t => match n.tags[t] with
    | .done _ _ => 2 ^ t.val
    | _ => 0).sum

/-- A packet refused, with its reply where a slot of the pool is free (R511, R512). -/
def refuse (pkt : List Byte) (st : Status) (reason : Nat) (d : Dev) : Dev :=
  let d := d.onNcp fun n =>
    if st = .badPacket then { n with badPkt := satInc 255 n.badPkt } else { n with full := satInc 255 n.full }
  if d.ncp.refFree = 0 then d.onNcp fun n => { n with dropped := satInc 255 n.dropped }
  else
    let opc := byteAt pkt 0
    let ws := wordsOf (replyPacket opc (byteAt pkt 1 % 64 + 0xC0) st.code 0 [byteOf reason])
    pushItem .rspq false (header 1 (ws.length + 1) (replyGen opc d) :: ws) (d.onNcp fun n => { n with refFree := n.refFree - 1 })

/-- The first check of R511 that a packet fails, with its status. -/
def Ncp.check (n : Ncp) (pkt : List Byte) : Option (Status × Nat) :=
  let len := leAt pkt 2 2
  if pkt.length < 8 ∨ 4352 < len ∨ pkt.length ≠ 8 + len then some (.badPacket, 1)
  else if leAt pkt (pkt.length - 2) 2 ≠ crc16 (pkt.take (pkt.length - 2)) then some (.badPacket, 2)
  else if (byteAt pkt 1).testBit 7 then some (.badPacket, 3)
  else if n.tags.toList.all fun t => decide (t ≠ .free) then some (.inflightFull, 4)
  else if n.tags[Fin.ofNat 32 (byteAt pkt 1)] ≠ .free then some (.badPacket, 5)
  else if n.free < resvOf (byteAt pkt 0) then some (.inflightFull, 6)
  else none

/-- The command that a packet carries (R502, R503, R513). -/
def cmdOf (pkt : List Byte) (now order : Nat) : Cmd :=
  { opc := byteAt pkt 0, barrier := (byteAt pkt 1).testBit 5, silent := (byteAt pkt 1).testBit 6, deadline := leAt pkt 4 2, accT := now
    order := order, resv := resvOf (byteAt pkt 0), payload := (pkt.drop 6).take (leAt pkt 2 2) }

/-- A packet that SC takes: refused, or accepted under its tag (R509 to R514). -/
def accept (pkt : List Byte) (d : Dev) : Dev :=
  match d.ncp.check pkt with
  | some (st, reason) => refuse pkt st reason d
  | none =>
    let now := d.now
    sweep 32 ((keepTables (byteAt pkt 1 % 32) pkt d).onNcp fun n => { n with
      tags := upd n.tags (Fin.ofNat 32 (byteAt pkt 1)) fun _ => .active (cmdOf pkt now n.nextOrder), nextOrder := n.nextOrder + 1 })

/-! The end of a command before its own (R518 to R521, R530, R531) -/

/-- An ABORT leaves its targets to themselves (R531). -/
def haltAbort (st : Status) (tag : Fin 32) (d : Dev) : Dev :=
  match d.ncp.aborts.find? fun a => decide (a.tag = tag) with
  | some a =>
    let d := d.onNcp fun n => { n with aborts := n.aborts.filter fun x => decide (x.tag ≠ tag) }
    complete tag st (if st = .deadline then [byteOf a.target, byteOf a.tstatus, byteOf a.count, 0] else []) d
  | none => fail tag st d

/-- A RUN, STOP or CLEAR that ends before it has had its effect, and a ONCE (R458, R520, R530). -/
def haltInv (st : Status) (tag : Fin 32) (c : Cmd) (d : Dev) : Dev :=
  if d.room.once.map (·.tag) = some tag then endOnce st d
  else
    let d := d.onRoom fun r => { r with
      runTags := r.runTags.filter fun t => decide (t ≠ tag), stopTags := r.stopTags.filter fun t => decide (t ≠ tag)
      pend := r.pend.map fun x => match x with
        | .clear t w => .clear (if t = some tag then none else t) w
        | y => y }
    let d := if byteAt c.payload 0 = 1 ∧ c.words = 1 then stopInv d else d
    complete tag st (d.invReply none) d

/-- DETAIL of a command that ends with a status: its last failure at a deadline (R336, R463). -/
def haltDetail (st : Status) (c : Cmd) : Nat := if st = .deadline then c.fail else 0

/-- An exchange of frames ends; the zone goes on listening for a reply that is still due (R329 to R333). -/
def haltX (st : Status) (tag : Fin 32) (c : Cmd) (d : Dev) : Dev :=
  let d := if c.phase = .frames ∧ 0 < c.sent ∧ st = .deadline then
      onEntry c.entry (fun e => { e with card := { e.card with late := some (c.opc, tag.val) } }) d
    else d
  touchZone c.entry (if c.phase = .frames then stopFrames tag st (haltDetail st c) d else finishX tag st (haltDetail st c) d)

/-- CALIBRATE ends with nothing stored (R530). -/
def haltCal (st : Status) (tag : Fin 32) (d : Dev) : Dev :=
  if d.uhf.calRun.map (·.tag) = some tag then fail tag st (radioOff false (d.onUhf fun u => { u with calRun := none }))
  else if d.drv.calRun.map (·.tag) = some tag then fail tag st (d.onDrv fun v => { v with calRun := none })
  else fail tag st d

/-- A command ends at once with a status, before its work is over (R518 to R521, R530). A transition that has started and an
operation that the island has taken up end in their own time (R66, R646). -/
def halt (st : Status) (tag : Fin 32) (d : Dev) : Dev :=
  match d.cmd tag with
  | none => d
  | some c =>
    if c.phase = .fresh ∨ c.phase = .holdTime then fail tag st d
    else if c.phase = .modeRunning ∨ d.inIsland tag then d
    else if c.phase = .aerial ∧ st = .deadline then aerialLimit tag d
    else if c.opc = 0x02 then fail tag st (d.onMode fun m => { m with pending := if m.pending = some tag then none else m.pending })
    else if c.opc = 0x04 then haltAbort st tag d
    else if c.opc = 0x18 ∨ c.opc = 0x32 then haltX st tag c d
    else if c.opc = 0x33 ∧ c.phase = .ramp then rampFail (if st = .aborted then 0 else 1) tag st 0 d
    else if c.opc = 0x30 ∨ c.opc = 0x33 then touchZone c.entry (finishX tag st 0 d)
    else if c.opc = 0x40 then haltInv st tag c d
    else if c.opc = 0x42 ∨ c.opc = 0x43 then stopAcc tag st (haltDetail st c) (withdraw tag d)
    else if c.opc = 0x80 ∧ c.phase ≠ .flash then haltCal st tag d
    else if c.opc = 0x94 then stopTest st d
    else fail tag st (detach tag (dropRead tag (withdraw tag (d.onPmu fun p => { p with held := p.held.filter fun h => decide (h.tag ≠ tag) }))))

/-- Activity of the command stops 0.1 ms before its deadline: the exchanges of frames, ramps, slots and calibrations (R331, R518). -/
def workStop (tag : Fin 32) (d : Dev) : Dev :=
  match d.cmd tag with
  | some c =>
    if c.deadline ≠ 0 ∧ c.accT + dlT (c.deadline - 1) ≤ d.now ∧
        (c.phase = .frames ∨ c.phase = .ramp ∨ c.phase = .slots ∨ c.phase = .coilSet) then halt .deadline tag d
    else d
  | none => d

/-- 0.1 ms before a command's deadline (R331, R518). -/
def execWorkStopBeforeDeadline (tag : Fin 32) (s : State) : Out := onDev s (workStop tag)

/-- A command's deadline has come (R518, R520). -/
def execCommandDeadline (tag : Fin 32) (s : State) : Out :=
  onDev s fun d => match d.cmd tag with
    | some c => if d.pastDeadline c then halt .deadline tag d else d
    | none => d

/-- 120 s after the acceptance of a command without a deadline (R521). -/
def execCommandGuard (tag : Fin 32) (s : State) : Out :=
  onDev s fun d => match d.cmd tag with
    | some c =>
      if c.deadline = 0 ∧ c.accT + msT 120000 ≤ d.now then
        let e := halt .internal tag d
        if (e.cmd tag).isSome then e
        else pushDiag 2 [byteOf c.opc, byteOf tag.val] (e.onNcp fun n => { n with guard := satInc 255 n.guard })
      else d
    | none => d

/-- Extended waiting of more than 10 s without a deadline; the card or accessory is then deactivated (R332, R369). -/
def execWtxWaitLimit (tag : Fin 32) (s : State) : Out :=
  onDev s fun d => match d.cmd tag with
    | some c =>
      if (c.opc = 0x18 ∨ c.opc = 0x32) ∧ c.phase = .frames ∧ c.deadline = 0 ∧ msT 10000 < c.ext then
        onEntry c.entry (fun e => { e with card := { e.card with act := 0, react := true }, acc := { e.acc with act := false } })
          (touchZone c.entry (stopFrames tag .deadline 6 (onCmd tag (fun k => { k with fail := 6 }) d)))
      else d
    | none => d

/-! GET_STATUS (R532) and ECHO (R533) -/

/-- MODE_STAT (R73). -/
def Dev.modeStat (d : Dev) : Nat :=
  d.mode.cur.code + 16 * d.tgt.code + 256 * d.mode.prev.code + 4096 * b2n d.busy + 8192 * b2n d.mode.pending.isSome +
  16384 * b2n d.mode.bkp + 32768 * b2n d.pin.fkill + 65536 * b2n d.mode.stf + 2 ^ 24 * d.mode.seq.toNat

/-- The reply of GET_STATUS (R532). -/
def Dev.statusBytes (d : Dev) : List Byte :=
  le 4 d.modeStat ++ le 4 d.sf.gen.toNat ++ le 4 d.room.gen.toNat ++ le 4 d.ncp.activeMask ++ le 4 d.ncp.doneMask ++
  le 2 d.ncp.free ++ le 2 d.qs.evq.used ++ le 4 d.phc ++ le 4 d.nvm.fwver

/-- GET_STATUS (R532). -/
def execGetStatus (tag : Fin 32) (s : State) : Out :=
  onDev s <| begin_ 0x01 tag (fun n => decide (n = 0)) fun c d =>
    inMode tag c (fun d => complete tag .ok d.statusBytes d) d

/-- The ECHO reply is due (R533). -/
def Dev.echoDue (d : Dev) (c : Cmd) : Bool := decide (c.accT + dlT (leAt c.payload 0 2) ≤ d.now)

/-- ECHO (R533). -/
def execEcho (tag : Fin 32) (s : State) : Out :=
  onDev s <| begin_ 0x03 tag (fun n => decide (2 ≤ n) && decide (n ≤ 258)) fun c d =>
    if 60000 < leAt c.payload 0 2 then fail tag .badParam d
    else
      inMode tag c (fun d =>
        if d.echoDue c then complete tag .ok (c.payload.drop 2) d else onCmd tag (fun k => { k with phase := .holdTime }) d) d

/-- HOLD has passed (R533). -/
def execEchoHoldEnd (tag : Fin 32) (s : State) : Out :=
  onDev s fun d => match d.cmd tag with
    | some c =>
      if c.opc = 3 ∧ c.phase = .holdTime ∧ d.echoDue c then
        (if d.pastDeadline c ∧ c.deadline < leAt c.payload 0 2 then fail tag .deadline d else complete tag .ok (c.payload.drop 2) d)
      else d
    | none => d

/-! ABORT (R527 to R531) -/

/-- Where ABORT finds a command (R530): it stops at once, it stops at a point still to come, or it is not stopped. -/
inductive StopAt where
  | now
  | later
  | never
deriving DecidableEq, Repr

/-- The first row of R530 that matches a command (R66, R83, R335, R370, R464, R530, R646, R695). -/
def Dev.stopAt (d : Dev) (tag : Fin 32) (c : Cmd) : StopAt :=
  match c.phase with
  | .fresh => .now
  | .turn => .now
  | .zone => .now
  | .aerial => .now
  | .modePending => .now
  | .modeRunning => .never
  | .frames => .later
  | .slots =>
    if c.opc = 0x30 then .later
    else if c.opc = 0x40 ∧ d.room.once.map (·.tag) = some tag then (if d.room.slot && !d.slotCut then .later else .now)
    else .never
  | .ramp => match d.sf.at c.entry with
    | some e => if e.acc.power = 1 then .later else .never
    | none => .never
  | .coilSet =>
    if c.opc = 0x84 then (if (d.drv.seq.map (·.tag)) = some tag ∧ d.drv.calBursts ≠ [] then .later else .now)
    else if d.drv.calRun.map (·.tag) = some tag ∧ !d.surveyReady then .now
    else .later
  | .query => .now
  | .holdTime => .now
  | .test => match d.mode.qual with
    | some q => if q.hold then .never else .now
    | none => .never
  | .island => if d.inIsland tag then .never else .now
  | .flash => .never
  | .aborting => .never

/-- ABORT reaches one command (R528, R530). -/
def stopOne (d : Dev) (t : Fin 32) : Dev :=
  match d.cmd t with
  | some c => (match d.stopAt t c with
    | .now => halt .aborted t d
    | .later => onCmd t (fun k => { k with stopReq := true }) d
    | .never => d)
  | none => d

/-- TSTATUS of an ABORT that stops nothing: the outcome of a target that is DONE (R527, R528). -/
def Dev.lostTo (d : Dev) (target : Nat) : Nat :=
  if 128 ≤ target then 0xFF
  else match d.ncp.tags[Fin.ofNat 32 target] with
    | .done _ st => st
    | _ => 0xFF

/-- ABORT in the step that accepts it (R528 to R531). A target that ABORT does not stop completes later with its own outcome, and
the ABORT waits for it (R531). -/
def abort (tag : Fin 32) (c : Cmd) (d : Dev) : Dev :=
  let t := byteAt c.payload 0
  let all := if 128 ≤ t then d.activeTags fun e => decide (e.opc ≠ 4) && decide (e.order < c.order)
    else (d.activeTags fun e => decide (e.opc ≠ 4)).filter fun x => decide (x.val = t)
  if all = [] then complete tag .notPending [byteOf t, byteOf (d.lostTo t), 0, 0] d
  else
    let d := onCmd tag (fun k => { k with phase := .aborting })
      (d.onNcp fun n => { n with aborts := n.aborts ++ [{ tag := tag, targets := all, target := t }] })
    all.foldl stopOne d

/-- ABORT (R527 to R531). -/
def execAbort (tag : Fin 32) (s : State) : Out :=
  onDev s <| begin_ 0x04 tag (fun n => decide (n = 2)) fun c d =>
    let t := byteAt c.payload 0
    if byteAt c.payload 1 ≠ 0 ∨ bits t 6 5 ≠ 0 ∨ (128 ≤ t ∧ t % 32 ≠ 0) ∨ (t < 128 ∧ t = tag.val) then fail tag .badParam d
    else inMode tag c (abort tag c) d

end Sys2Proof.Machine
end

