-- ==== Sys2Proof/Machine/Router.lean ====
section
/-! DEFINITION. The Event Router: lines, claims, completions, doorbells, moderation (chapter 16). -/

namespace Sys2Proof.Machine
open Sys2Proof

/-! Lines (R570, R579 to R582) -/

/-- A Kettle fault holds a Kettle off, or a coil is in FAULT (R175, R580). -/
def Dev.driverFault (d : Dev) : Bool :=
  d.drv.ket.toList.any Kettle.off || d.drv.coil.toList.any fun c => decide (c.role = .fault)

/-- A bit of PMU_EVT, HOTEV or SHUTEV is 1 (R673, R741). -/
def Dev.pmuLine (d : Dev) : Bool :=
  d.pmu.evBkpLow || d.pmu.evBkpOk || d.pmu.evWakeFail || d.pmu.evReturn || d.th.hotEv || d.th.shutEv

/-- A bit of FL_EVT is 1 (R721). -/
def Nvm.line (v : Nvm) : Bool := v.evRetired || v.evRecovered || v.evSpareOut

/-- Line of a private source of a zone core target (R579). -/
def Dev.zoneLine (d : Dev) (t : Nat) (s : Nat) : Bool :=
  let n : Fin 24 := Fin.ofNat 24 (6 * t + s % 6)
  let f := d.hf.fr[n]
  if s < 6 then !d.lau.zone[n].dets.isEmpty
  else if s < 12 then f.txDone || f.rxDone || f.noResp || f.abandoned
  else if s < 18 then d.tb.pcmp[Fin.ofNat 32 n.val].fired
  else if s < 24 then (if d.qs.cfg[n].wmsrc then d.qs.cq[n].wm else !d.qs.cq[n].items.isEmpty)
  else if s < 30 then d.tim.zt[n][0].fired || d.tim.zt[n][1].fired
  else if s = 30 then (List.range 6).any fun j =>
    let x := d.tx[Fin.ofNat 24 (6 * t + j)]
    x.rule || x.refused || x.meas || x.coilf
  else false

/-- Line of a private source of SC (R580). Packets are taken at once, so that the receive buffer of source 8 stays empty. -/
def Dev.scLine (d : Dev) (s : Nat) : Bool :=
  match s with
  | 0 => d.pin.fkill || d.drv.swkill
  | 1 => d.driverFault
  | 2 => d.pmuLine
  | 6 => d.cl.done || d.cl.timeout
  | 10 => d.prb.images.any Image.running
  | 11 => d.kiln.evLever || d.kiln.evDue
  | 13 => d.nvm.line
  | _ => if 14 ≤ s ∧ s < 22 then d.tb.pcmp[Fin.ofNat 32 (s + 10)].fired else false

/-- Line of a HOST source 64 + `k` (R582). -/
def Dev.hostLine (d : Dev) (k : Nat) : Bool :=
  match k with
  | 0 => !d.qs.rspq.items.isEmpty
  | 1 => !d.qs.evq.items.isEmpty
  | 2 => decide (0 < d.qs.loss)
  | 3 => d.hsp.err
  | 4 => d.qs.evq.wm
  | 5 => d.qs.rspq.wm
  | 6 => d.pin.fkill
  | 7 => d.busy
  | _ => false

/-- Present level of a source's line, 0 where it has none (R570, R586). -/
def Dev.line (d : Dev) : SrcId → Bool
  | .priv t s => if t.val = 4 then d.scLine s.val else d.zoneLine t.val s.val
  | .shared i => if i.val < 32 then d.tim.gt[Fin.ofNat 32 i.val].fired else if i.val < 40 then d.hostLine (i.val - 32) else false

/-- A line sampled (R570). -/
def Src.sampled (s : Src) (lvl : Bool) (now : Nat) : Src :=
  let p := match s.sense with
    | 1 => if s.act then s.pend else lvl
    | 2 => s.pend || (!s.line && lvl)
    | 3 => s.pend || (s.line && !lvl)
    | 4 => s.pend || (s.line != lvl)
    | _ => s.pend
  { s with line := lvl, pend := p, since := if p && !s.pend then now else s.since, told := s.told && s.pend }

/-- A source's line sampled, with the moderation and the wake that a new PEND brings (R570, R576, R664). -/
def sampleLine (id : SrcId) (d : Dev) : Dev :=
  let t := d.srcTarget id
  let old := d.src id
  let now := d.now
  let lvl := d.line id
  let d := modUpdateN t (onSrc id (fun s => s.sampled lvl now) d)
  if (d.src id).pend && !old.pend && old.en then wakeCore t d else d

/-- The lines sampled that are sensed: once in a BCLK cycle (R570). -/
def sampleLines (d : Dev) : Dev :=
  let now := d.now
  let privs := (List.finRange 5).flatMap fun t => (d.evr.priv[t].toList.zip (List.finRange 32)).map fun x => (SrcId.priv t x.2, x.1)
  let ids := (privs ++ (d.evr.shared.toList.zip (List.finRange 288)).map fun x => (SrcId.shared x.2, x.1)).filter fun x =>
    decide (x.2.sense ≠ 0) && decide (x.2.sampled (d.line x.1) now ≠ x.2)
  ids.foldl (fun d x => sampleLine x.1 d) d

/-- HIRQ_N asserted: not in M0, M1 and M3, nor in M2 before register service (R573, R578). -/
def Dev.hirq (d : Dev) : Bool :=
  match d.mode.cur with
  | .m0 => false
  | .m1 => false
  | .m3 => false
  | .m2 => d.mode.regSvc && d.irq 5
  | _ => d.irq 5

/-- A block's message for a source (R571). -/
def execSourceMessage (id : SrcId) (s : State) : Out := onDev s (message id)

/-- A source's line has changed (R570). -/
def execSourceLineChange (id : SrcId) (s : State) : Out := onDev s (sampleLine id)

/-! Claim, completion, doorbell (R572, R574, R575, R583) -/

/-- Value of a register read, as the bus gives it. -/
def readOut (v : Nat) (d : Dev) : Dev := d.onBus fun b => { b with rdata := v }

/-- A read of EVR_CLAIM: its value, and the claim (R574, R585). -/
def claim (t : Fin 6) (d : Dev) : Nat × Dev :=
  match d.active t with
  | some n => (n + 512, d)
  | none => match (d.ready t).head? with
    | some n => match srcOf t n with
      | some id => (n, modUpdate t (onSrc id (fun s => { s with pend := false, act := true }) d))
      | none => (0x1FF, d)
    | none => (0x1FF, d)

/-- A stray completion (R575). -/
def stray (t : Fin 6) (d : Dev) : Dev :=
  d.onEvr fun e => { e with targets := upd e.targets t fun g => { g with stray := satInc 65535 g.stray } }

/-- A source of the target that is active and completes (R570, R575). -/
def eoi (t : Fin 6) (n : Nat) (d : Dev) : Dev :=
  match srcOf t n with
  | none => stray t d
  | some id =>
    if d.srcTarget id = t.val ∧ (d.src id).act = true then
      let lvl := d.line id
      let now := d.now
      modUpdate t (onSrc id (fun s => { s with act := false }.sampled lvl now) d)
    else stray t d

/-- The source that a doorbell of target `w` may ring (R572, R580; SC's doorbell is rung by the zone cores too, log entry 48). -/
def Dev.rings (d : Dev) (w : Fin 6) (n tgt : Nat) : Option SrcId :=
  if n < 32 then
    (if n = 31 ∧ (w.val = tgt ∨ w = 4 ∨ (tgt = 4 ∧ w.val < 4)) then srcOf tgt 31 else none)
  else match srcOf w n with
    | some (.shared i) => if 48 ≤ i.val ∧ (d.evr.shared[i]).senders.testBit w.val then some (.shared i) else none
    | _ => none

/-- A write of EVR_DOORBELL in the window of target `w` (R572). -/
def doorbell (w : Fin 6) (n tgt : Nat) (d : Dev) : Dev :=
  match d.rings w n tgt with
  | some id => message id d
  | none => d.onEvr fun e => { e with targets := upd e.targets w fun g => { g with dberr := satInc 65535 g.dberr } }

/-- A shared source whose TARGET software assigns (R581). -/
def assignable (i : Fin 288) : Bool := decide (i.val < 32) || decide (48 ≤ i.val)

/-- A write of the TARGET of a shared source (R20, R583, R586). -/
def setTarget (i : Fin 288) (t : Nat) (d : Dev) : Dev :=
  let s := d.evr.shared[i]
  if assignable i && decide (t ≤ 5) && !s.act then
    let d := modUpdateN t (modUpdateN s.target (d.onEvr fun e => { e with shared := upd e.shared i fun x => { x with target := t } }))
    if s.pend && s.en && decide (t ≠ s.target) then wakeCore t d else d
  else d

/-- TIME has passed since a moderation window opened (R576). -/
def execModerationTimeout (t : Fin 6) (s : State) : Out := onDev s (modUpdate t)

/-- A private source of SC that has been pending for 1 s without being claimed (R601). -/
def execEvrSourceFault (n : Fin 32) (s : State) : Out :=
  onDev s fun d =>
    let x := d.evr.priv[4][n]
    if x.pend && !x.told && decide (x.since + msT 1000 ≤ d.now) then
      pushDiag 4 ([0] ++ le 2 n.val) (onSrc (.priv 4 n) (fun s => { s with told := true }) d)
    else d

/-! Registers (R585 to R587) -/

/-- EVR_STAT of a target (R585). -/
def Dev.evrStat (d : Dev) (t : Fin 6) : Nat :=
  (d.active t).getD 0x1FF + 512 * ((d.ready t).head?).getD 0x1FF + 2 ^ 18 * b2n (d.irq t) + 2 ^ 19 * b2n (d.modWait t)

/-- EVR_MOD (R585). -/
def Target.modReg (g : Target) : Nat := g.time + 1024 * g.count

/-- A write of EVR_MOD; COUNT 0 is out of range (R20, R585). -/
def modWrite (t : Fin 6) (v : Nat) (d : Dev) : Dev :=
  modUpdate t (d.onEvr fun e => { e with targets := upd e.targets t fun g =>
    { g with time := bits v 9 0, count := if bits v 15 10 = 0 then g.count else bits v 15 10 } })

/-- EVR_PSRCs or EVR_SRCs (R586). -/
def Dev.srcReg (d : Dev) (id : SrcId) : Nat :=
  let s := d.src id
  let sw := match id with
    | .priv _ _ => false
    | .shared i => decide (48 ≤ i.val)
  s.sense + 8 * b2n s.en + 16 * b2n s.pend + 32 * b2n s.act + 64 * b2n (d.line id) + 128 * d.srcTarget id + 1024 * (if sw then s.senders else 0)

/-- A SENSE that a source takes: SW sources and reserved numbers sense in MSG alone (R570). -/
def senseOk (id : SrcId) (v : Nat) : Bool :=
  decide (v = 0) || (decide (v ≤ 4) && !id.reserved && (match id with
    | .priv _ _ => true
    | .shared i => decide (i.val < 48)))

/-- EN, SENSE and the clear of PEND of one source (R15, R20, R570, R586). -/
def srcWrite (id : SrcId) (sense : Option Nat) (en : Option Bool) (clr : Bool) (d : Dev) : Dev :=
  let old := d.src id
  let d := onSrc id (fun s => { s with
    sense := match sense with
      | some v => if senseOk id v then v else s.sense
      | none => s.sense
    en := en.getD s.en, pend := s.pend && !clr }) d
  let d := sampleLine id d
  if (d.src id).pend && (d.src id).en && !(old.pend && old.en) then wakeCore (d.srcTarget id) d else d

/-- A write of EVR_PSRCs or EVR_SRCs by SC, or by firmware and extensions, which cannot change TARGET and SENDERS (R583, R586). -/
def srcRegWrite (sc : Bool) (id : SrcId) (v : Nat) (d : Dev) : Dev :=
  let d := srcWrite id (some (bits v 2 0)) (some (v.testBit 3)) (v.testBit 4) d
  match id with
  | .shared i =>
    if sc then
      let d := if 48 ≤ i.val then onSrc id (fun s => { s with senders := bits v 15 10 }) d else d
      setTarget i (bits v 9 7) d
    else d
  | _ => d

end Sys2Proof.Machine
end

