-- ==== Sys2Proof/Machine/QueueCmds.lean ====
section
/-! DEFINITION. Queues and timers as software and the blocks use them (chapters 16 and 17). -/

namespace Sys2Proof.Machine
open Sys2Proof

/-! Queues (R591 to R597, R606) -/

/-- A header that has been pushed: its item reserved, dropped, or refused (R591 to R593). -/
def pushHeader (q : QId) (w : Word) (d : Dev) : Dev :=
  let x := d.queue q
  let n := hdrWords w
  if !q.hdrOk w then onQueue q (fun x => { x with badhdr := satInc 255 x.badhdr, poisoned := false }) d
  else
    let r := if q = .rspq then (x, 0) else x.makeRoom q.cap n
    let d := onQueue q (fun _ => { r.1 with poisoned := false }) d
    let d := if q = .evq then evqLost r.2 d else d
    if 4 * n + r.1.used ≤ q.cap then
      wmMessage q x.wm (onQueue q (fun y => { y with part := [w], need := n - 1 }.setWm q.cap) d)
    else
      let d := onQueue q (fun y => { y with lost := satInc 65535 y.lost, drop := n - 1 }) d
      if q = .evq then evqLost 1 d else if q = .rspq then pushDiag 3 [] d else d

/-- A word pushed by the producer (R591, R592, R597). -/
def pushWord (q : QId) (w : Word) (d : Dev) : Dev :=
  let x := d.queue q
  if 0 < x.drop then onQueue q (fun y => { y with drop := y.drop - 1 }) d
  else if x.need = 0 then pushHeader q w d
  else if x.need = 1 then
    afterCommit q false x.wm (onQueue q (fun y => { y with items := y.items ++ [y.part ++ [w]], part := [], need := 0 }) d)
  else onQueue q (fun y => { y with part := y.part ++ [w], need := y.need - 1 }) d

/-- A word that zone engine `n` pushes in SAMPLES mode: the combined sum of `w`, marked as the zone's word is. The header and PHC go before
an item's first word; an item under way is completed (R31, R602, R603). -/
def pushSample (n : Fin 24) (w : Word) (d : Dev) : Dev :=
  let x := d.qs.cq[n]
  let g := d.qs.cfg[n]
  let z := d.zoneWord n (sampleIQ w)
  if 0 < x.drop ∨ 0 < x.need then pushWord (.cq n) z d
  else if g.mode = 2 ∧ 0 < g.runLeft then
    let d := d.onQs fun q => { q with cfg := upd q.cfg n fun c => { c with runLeft := c.runLeft - 1 } }
    let hdr := word (13 + 16 * 16 + 65536 * (d.sf.gen.toNat % 65536))
    pushWord (.cq n) z (pushWord (.cq n) d.phcW (pushWord (.cq n) hdr d))
  else d

/-- A producer pushes a word (R591); a capture queue's producer is its zone engine. -/
def execQueuePush (q : QId) (w : Word) (s : State) : Out :=
  onDev s fun d => match q with
    | .cq n => pushSample n w d
    | q => pushWord q w d

/-- A read of CQn_DATA: the word, and the queue after it (R594). -/
def Queue.data (x : Queue) (cap : Nat) : Nat × Queue :=
  match x.items with
  | [] => (0, x)
  | i :: rest =>
    let k := x.openAt.getD 0
    let w := (i.getD k 0).toNat
    if i.length ≤ k + 1 then (w, { x with items := rest, openAt := none }.setWm cap) else (w, { x with openAt := some (k + 1) })

/-- A read of Qx_DATA; it reads 0 and does nothing in EVQ and RSPQ (R594). -/
def queueData (q : QId) (d : Dev) : Nat × Dev :=
  match q with
  | .cq n => let r := (d.qs.cq[n]).data 2048
    (r.1, onQueue q (fun _ => r.2) d)
  | _ => (0, d)

/-- A write of 1 to Qx_CTL.DROP_REST, which follows the reads of the cycle; EVQ and RSPQ ignore it (R595). -/
def dropRest (q : QId) (d : Dev) : Dev :=
  match q with
  | .cq n => d.onCyc fun c => { c with drops := c.drops ++ [n] }
  | _ => d

/-- A write of 1 to Qx_CTL.FLUSH, which acts at the end of the cycle; RSPQ ignores it (R597). -/
def flushQueue (q : QId) (d : Dev) : Dev :=
  match q with
  | .rspq => d
  | q => d.onCyc fun c => { c with flushes := c.flushes ++ [q] }

/-- The flushes of the cycle that ends (R597). -/
def flushAll (d : Dev) : Dev :=
  let d := d.cyc.flushes.foldl (fun d q => match q with
    | .rspq => d
    | .evq => onQueue q (fun x => (x.flush true).setWm q.cap) d
    | .cq _ => onQueue q (fun x => (x.flush false).setWm q.cap) d) d
  d.onCyc fun c => { c with flushes := [] }

/-- A write of Qx_CTL, or of its mirror in the host window (R595, R597, R606, R609). -/
def queueCtl (q : QId) (v : Nat) (d : Dev) : Dev :=
  let x := d.queue q
  let hi := if bits v 7 2 = 0 then x.hi else bits v 7 2
  let lo := if bits v 13 8 = 63 then x.lo else bits v 13 8
  let wm0 := x.wm
  let d := if lo < hi then wmMessage q wm0 (onQueue q (fun y => { y with hi := hi, lo := lo }.setWm q.cap) d) else d
  let d := if v.testBit 1 then dropRest q d else d
  if v.testBit 0 then flushQueue q d else d

/-- Qx_STAT (R609). -/
def Queue.stat (x : Queue) : Nat :=
  x.used % 65536 + 65536 * x.depth + 2 ^ 28 * b2n x.openAt.isSome + 2 ^ 29 * b2n (decide (0 < x.need)) + 2 ^ 30 * b2n x.poisoned + 2 ^ 31 * b2n x.wm

/-- Qx_CTL as it reads (R609). -/
def Queue.ctl (x : Queue) : Nat := 4 * x.hi + 256 * x.lo

/-- Qx_HEAD (R609). -/
def Queue.head (x : Queue) : Nat := ((x.items.head?.bind List.head?).map BitVec.toNat).getD 0

/-! TSC (R612, R614) -/

/-- The port of a master that reads TSC: SC 0, ZC0 to ZC3 1 to 4, HSP 5 (R612). -/
def Master.port : Master → Fin 6
  | .sc => 0
  | .zc k => ⟨k.val + 1, by omega⟩
  | .ext k _ => ⟨k.val + 1, by omega⟩
  | .hsp => 5

/-- A read of TSC_L loads the port's latch (R612). -/
def tscLRead (m : Master) (d : Dev) : Nat × Dev :=
  let h : Word := (d.tim.tsc >>> 32).truncate 32
  (d.tim.tsc.toNat % 2 ^ 32, d.onTim fun t => { t with latch := upd t.latch m.port fun _ => h })

/-! General timers (R615 to R620) -/

/-- Change of one timer. -/
def onGt (n : Fin 32) (f : Gt → Gt) (d : Dev) : Dev := d.onTim fun t => { t with gt := upd t.gt n f }

/-- The test of R617. -/
def tested (cnt cmp : Word) : Bool := decide ((cnt - cmp).toNat < 2 ^ 31)

/-- A firing of a test that held with `c` in CMP and `p` in PER: FIRED, and CEN cleared or CMP moved past CNT with the misses counted; a CMP
written in the cycle of the firing stands (R617, R618). -/
def Gt.fire (g : Gt) (c : Word) (p : Nat) : Gt :=
  if p = 0 then { g with fired := true, cen := false, shot := none }
  else
    let k := (g.cnt - c).toNat / p + 1
    { g with fired := true, cmp := if g.cmpSet then g.cmp else c + word (k * p), miss := satAdd 255 g.miss (k - 1), shot := none }

/-- A compare that fires in the present cycle: its test held when the cycle began, or holds now (R617). -/
def Gt.due (g : Gt) : Option (Word × Nat) :=
  match g.shot with
  | some x => some x
  | none => if g.cen && tested g.cnt g.cmp then some (g.cmp, g.per) else none

/-- The compare fires where it is due (R617). -/
def gtFire (n : Fin 32) (d : Dev) : Dev :=
  match (d.tim.gt[n]).due with
  | some (c, p) => message (.shared (Fin.ofNat 288 n.val)) (onGt n (fun g => g.fire c p) d)
  | none => d

/-- A write of GTn_CNT, which takes effect in the following cycle with the prescaler cleared (R615). -/
def gtCnt (n : Fin 32) (v : Word) (d : Dev) : Dev := onGt n (fun g => { g with load := some v }) d

/-- A write of GTn_CTL, by SC where MODULE is to change (R615, R616, R620). -/
def gtCtl (sc : Bool) (n : Fin 32) (v : Nat) (d : Dev) : Dev :=
  onGt n (fun g => { g with
    run := v.testBit 0, cen := v.testBit 1, pre := if g.run then g.pre else bits v 5 2
    module := if sc then bits v 11 6 else g.module, presc := if v.testBit 0 && !g.run then 0 else g.presc }) d

/-- A write of GTn_CMP (R617, R618). -/
def gtCmp (n : Fin 32) (v : Word) (d : Dev) : Dev := onGt n (fun g => { g with cmp := v, cmpSet := true }) d

/-- A compare of a general timer fires (R617). -/
def execGtCompareFire (n : Fin 32) (s : State) : Out := onDev s (gtFire n)

/-! Zone timers (R621 to R623) -/

/-- Change of a zone timer. -/
def onZt (n : Fin 24) (k : Fin 2) (f : ZTimer → ZTimer) (d : Dev) : Dev := d.onTim fun t => { t with zt := upd t.zt n fun b => upd b k f }

/-- A zone timer's compare is due in the present cycle (R621). -/
def ZTimer.due (z : ZTimer) : Bool := z.shot || (z.cen && tested z.cnt z.cmp)

/-- A zone timer's compare fires where it is due (R621). -/
def ztFire (n : Fin 24) (k : Fin 2) (d : Dev) : Dev :=
  if (d.tim.zt[n][k]).due then msgZone n 24 (onZt n k (fun z => { z with fired := true, cen := false, shot := false }) d) else d

/-- A zone timer's compare fires (R621). -/
def execZoneTimerFire (n : Fin 24) (k : Fin 2) (s : State) : Out := onDev s (ztFire n k)

/-- One BCLK cycle of a general timer, with the test of the new cycle (R615, R617). -/
def Gt.tick (g : Gt) : Gt :=
  let g := match g.load with
    | some v => { g with cnt := v, presc := 0, load := none }
    | none => if !g.run then g else if 2 ^ g.pre ≤ g.presc + 1 then { g with cnt := g.cnt + 1, presc := 0 } else { g with presc := g.presc + 1 }
  { g with cmpSet := false, shot := if g.cen && tested g.cnt g.cmp then some (g.cmp, g.per) else none }

/-- One BCLK cycle of a zone timer, `count` at a carrier-cycle boundary, with the test of the new cycle (R621). -/
def ZTimer.tick (count : Bool) (z : ZTimer) : ZTimer :=
  let z := if z.run && count then { z with cnt := z.cnt + 1 } else z
  { z with shot := z.cen && tested z.cnt z.cmp, ev := false }

/-- The compares due in the cycle that ends fire (R617, R621). -/
def fireTimers (d : Dev) : Dev :=
  let gs := (d.tim.gt.toList.zip (List.finRange 32)).filter fun x => x.1.shot.isSome
  let zs := (d.tim.zt.toList.zip (List.finRange 24)).flatMap fun x => ((x.1.toList.zip (List.finRange 2)).filter fun y => y.1.shot).map fun y => (x.2, y.2)
  let d := gs.foldl (fun d x => gtFire x.2 d) d
  zs.foldl (fun d x => ztFire x.1 x.2 d) d

end Sys2Proof.Machine
end

