-- ==== Sys2Proof/Machine/Thermal.lean ====
section
/-! DEFINITION. The thermal monitor and the LPCLK source (chapters 22 and 23). -/

namespace Sys2Proof.Machine
open Sys2Proof

/-- Highest Kettle temperature, THERM_HSUM.KET_TMAX (R742). -/
def Dev.ketMax (d : Dev) : Int := d.drv.ket.toList.foldl (fun m k => max m k.temp) (d.drv.ket[0]).temp

/-- A thermal SYSTEM item (R743). -/
def pushTherm (evt : Nat) (d : Dev) : Dev :=
  pushSystem 4 evt [byteOf (temp8 d.th.temp), byteOf (temp8 d.ketMax), 0, 0, 0, 0] d

/-- Room commands in flight end with SHUT (R739). -/
def shutRoom (d : Dev) : Dev :=
  let ts := d.activeTags fun c => decide (c.opc / 16 = 4)
  ts.foldl (fun d t => match d.cmd t with
    | some c =>
      if d.inIsland t then d
      else if c.opc = 0x42 ∨ c.opc = 0x43 then stopAcc t .resourceBusy 0x12 (withdraw t d)
      else halt .resourceBusy t d
    | none => d) d

/-- SHUT is entered: both kills, the zones, the room commands and inventory (R83, R739). -/
def shutOn (d : Dev) : Dev :=
  let d := d.onTh fun t => { t with shut := true, shutEv := true }
  let d := pushTherm 3 (pmuMsg d)
  stopInv (shutRoom (txkillWrite true (swkillWrite true d)))

/-- SHUT is left: SC clears both kills (R739). -/
def shutOff (d : Dev) : Dev :=
  txkillWrite false (swkillWrite false (pushTherm 4 (d.onTh fun t => { t with shut := false })))

/-- HOT entered or left (R737, R741). -/
def hotStep (temp : Int) (d : Dev) : Dev :=
  let twice := d.th.over125
  let d := d.onTh fun t => { t with over125 := decide (125 ≤ temp) }
  if !d.th.hot && twice && decide (125 ≤ temp) then pushTherm 1 (pmuMsg (d.onTh fun t => { t with hot := true, hotEv := true }))
  else if d.th.hot && decide (temp ≤ 115) then pushTherm 2 (d.onTh fun t => { t with hot := false })
  else d

/-- SHUT entered or left (R737, R739). -/
def shutStep (temp : Int) (d : Dev) : Dev :=
  let twice := d.th.over140
  let d := d.onTh fun t => { t with over140 := decide (140 ≤ temp) }
  if !d.th.shut && twice && decide (140 ≤ temp) then shutOn d
  else if d.th.shut && decide (temp ≤ 120) then shutOff d
  else d

/-- The Tun junction measured, in °C; no measurement is taken while CORE is down (R737). -/
def execTempMeasure (temp : Int) (s : State) : Out :=
  onDev s fun d =>
    if !d.bclk || decide (d.mode.cur = .m0) then d
    else shutStep temp (hotStep temp (d.onTh fun t => { t with temp := temp, peak := max t.peak temp }))

/-- TH_STAT (R741). -/
def Thermal.stat (t : Thermal) : Nat :=
  temp8 t.temp + 256 * b2n t.hot + 512 * b2n t.shut + 1024 * b2n t.hotEv + 2048 * b2n t.shutEv + 65536 * temp8 t.peak

/-- THERM_HSUM (R742). -/
def Dev.thermSum (d : Dev) : Nat :=
  temp8 d.th.temp + 256 * temp8 d.ketMax + 65536 * b2n d.th.hot + 131072 * b2n d.th.shut +
  262144 * b2n (d.drv.ket.toList.any fun k => decide (125 ≤ k.temp))

/-- LPX has been stable for 4,096 cycles: LPCLK runs from the crystal (R757). -/
def execLpxStable (s : State) : Out := onDev s fun d => if d.mode.cur = .m0 then d else d.onPmu fun p => { p with lpx := true }

/-- A stopped LPX has been detected: LPCLK runs from the internal oscillator again (R757). -/
def execLpxStop (s : State) : Out := onDev s fun d => d.onPmu fun p => { p with lpx := false }

end Sys2Proof.Machine
end

