-- ==== Sys2Proof/Machine/RegHost.lean ====
section
/-! DEFINITION. Reads and writes of the host register window (R33), and how a read of an RC field acts (R15 to R17). -/

namespace Sys2Proof.Machine
open Sys2Proof

/-! Reads -/

/-- A register read: its value, and the device after it. -/
abbrev Rd := Dev → Nat × Dev

/-- A read without an effect. -/
def rd (f : Dev → Nat) : Rd := fun d => (f d, d)

/-- An offset without a register reads 0 (R19). -/
def rdNone : Rd := rd fun _ => 0

/-- Name of the field whose lowest bit is bit `b` of the register at internal address `a`. -/
def rcKey (a b : Nat) : Nat := 32 * a + b

/-- A read of an RC field that stands at bit `sh`: its value and its clear; 0 where the field has been read in the same BCLK cycle
already (R15, R17). -/
def rcRead (key sh : Nat) (get : Dev → Nat) (clr : Dev → Dev) : Rd := fun d =>
  if d.bus.rcRead.contains key then (0, d)
  else (get d * 2 ^ sh, (clr d).onBus fun b => { b with rcRead := key :: b.rcRead })

/-- Fields of one register read together, lowest first. -/
def rdAll : List Rd → Rd
  | [] => rdNone
  | r :: rs => fun d =>
    let x := r d
    let y := rdAll rs x.2
    (x.1 + y.1, y.2)

/-! Words of the window that no block gives -/

/-- The identity word (R4). -/
def identity : Nat := 0x7192B100 + (if Config.gradeI then 0x49 else 0x43)

/-- MODE_CAUSE (R74). -/
def Modes.causeWord (m : Modes) : Nat := m.cause + 256 * m.causeTag + 65536 * m.duration

/-- DRV_STAT.KFAULT (R175). -/
def Dev.kfault (d : Dev) : Nat := ((List.finRange 4).map fun k => b2n (d.drv.ket[k]).off * 2 ^ k.val).sum

/-- DRV_HSUM (R180). -/
def Dev.drvHsum (d : Dev) : Nat :=
  let here := allCoils.filter fun c => d.drv.coil[c].lay.present
  b2n d.pin.fkill + 2 * b2n d.drv.swkill + 4 * d.kfault + 64 * b2n (d.drv.coil.toList.any fun c => decide (c.role = .fault)) +
  128 * b2n (d.driving.any fun n => decide (d.tx[n].scale < 256)) + 256 * (d.estTotMw % 2 ^ 14) + 2 ^ 22 * b2n d.drv.layoutOk +
  2 ^ 23 * b2n (!here.isEmpty && here.all fun c => d.drv.coil[c].cal.valid)

/-- PT_CNT (R297). -/
def Dev.ptCnt (d : Dev) : Nat :=
  let es := d.sf.entry.toList.filterMap id
  es.length + 1024 * ((List.range 24).filter d.sf.zoneMap.testBit).length + 32768 * (es.filter fun e => decide (e.state = .waiting)).length + 2 ^ 25 * b2n d.sf.full

/-- ZONE_MAP (R297). -/
def Dev.zoneMap (d : Dev) : Nat := d.sf.zoneMap

/-- ACC_SUM (R382). -/
def Dev.accSum (d : Dev) : Nat :=
  let zs := (List.finRange 24).filter fun n => decide (d.powered n ≠ [])
  zs.length + 256 * (((zs.map d.zoneMw).sum) % 2 ^ 14)

/-- ARMED coils and coils in a Steep state (R400). -/
def Steep.countOf (t : Steep) (x : StpState) : Nat := (t.coil.toList.filter fun c => decide (c.state = x)).length

/-- STEEP_SUM (R401). -/
def Steep.sum (t : Steep) : Nat :=
  t.stage.code + 8 * t.countOf .armed + 2048 * t.detCoil + 2 ^ 19 * b2n t.valid + 2 ^ 20 * b2n t.disc

/-- An access or an authentication runs (R467). -/
def Dev.accessRuns (d : Dev) : Bool :=
  !(d.activeTags fun c => (decide (c.opc = 0x42) || decide (c.opc = 0x43)) && (decide (c.phase = .frames) || decide (c.phase = .island))).isEmpty

/-- RT_CNT (R467). -/
def Dev.rtCnt (d : Dev) : Nat :=
  d.room.table.length + 8192 * d.rtState + 32768 * b2n d.accessRuns + 65536 * b2n d.room.full + 2 ^ 17 * d.rtRate

/-- NCP_RSPQ (R535). -/
def Ncp.rspqWord (n : Ncp) : Nat := n.free + 65536 * n.refFree

/-- HSP_HCFG (R554). -/
def Hsp.hcfg (h : Hsp) : Nat := h.addr + 16 * h.dummy + 256 * b2n h.ddr

/-- HSP_HSTAT (R554). -/
def Hsp.hstat (h : Hsp) : Nat := b2n h.err + 2 * h.lastRej + 16 * b2n h.copy.isSome

/-- EVQ_HSTAT, and without LOST RSPQ_HSTAT (R610). -/
def Queue.hstat (x : Queue) (lost : Bool) : Nat := x.used % 65536 + 65536 * x.depth + 2 ^ 28 * b2n x.wm + 2 ^ 29 * b2n lost

/-- Q_FCMAP (R610). -/
def Queues.fcmap (q : Queues) : Nat := q.fc0Sel + 16 * b2n q.fc0Pol + 256 * q.fc1Sel + 4096 * b2n q.fc1Pol

/-- A domain is UP, as a bit (R675). -/
def Dev.upBit (d : Dev) (k : Fin 49) : Nat := b2n (decide (d.pmu.dom[k].p = .up))

/-- Bits of the domains from `k` on, `n` of them (R675). -/
def Dev.upBits (d : Dev) (k n : Nat) : Nat := ((List.range n).map fun i => d.upBit (Fin.ofNat 49 (k + i)) * 2 ^ i).sum

/-- PWR_HSUM (R675). -/
def Dev.pwrHsum (d : Dev) : Nat :=
  b2n d.pmu.vmainOk + 2 * b2n d.pmu.vbkpOk + 4 * b2n d.mode.bkp + 8 * b2n d.pmu.bkpLow + 16 * b2n d.pmu.vio33 +
  256 * (d.pmu.vmainMon / 10) + 2 ^ 17 * (d.pmu.vbkpMon / 5)

/-- PWR_HDOM (R675). -/
def Dev.pwrHdom (d : Dev) : Nat :=
  d.upBit 14 + 2 * d.upBit 15 + 4 * d.upBits 16 4 + 64 * d.upBits 44 4 + 1024 * d.upBit 48 + 2048 * d.upBits 2 12

/-! RC fields of the window, some of them mirrors of internal ones -/

/-- EVR_STRAY_CNT.STRAY of a target (R585). -/
def rdStray (t : Fin 6) : Rd :=
  rcRead (rcKey (0x20000014 + 0x1000 * t.val) 0) 0 (fun d => d.evr.targets[t].stray)
    (fun d => d.onEvr fun e => { e with targets := upd e.targets t fun g => { g with stray := 0 } })

/-- EVR_CNT.COAL of a target (R585). -/
def rdCoal (t : Fin 6) : Rd :=
  rcRead (rcKey (0x20000018 + 0x1000 * t.val) 0) 0 (fun d => d.evr.targets[t].coal)
    (fun d => d.onEvr fun e => { e with targets := upd e.targets t fun g => { g with coal := 0 } })

/-- EVR_CNT.DBERR of a target (R585). -/
def rdDberr (t : Fin 6) : Rd :=
  rcRead (rcKey (0x20000018 + 0x1000 * t.val) 16) 16 (fun d => d.evr.targets[t].dberr)
    (fun d => d.onEvr fun e => { e with targets := upd e.targets t fun g => { g with dberr := 0 } })

/-- Offset of a queue's registers from 0x2004_0000 (R608). -/
def QId.base : QId → Nat
  | .evq => 0
  | .rspq => 0x40
  | .cq n => 0x1000 + 0x40 * n.val

/-- Qx_CNT.LOST (R609). -/
def rdLost (q : QId) : Rd :=
  rcRead (rcKey (0x20040010 + q.base) 0) 0 (fun d => (d.queue q).lost) (onQueue q fun x => { x with lost := 0 })

/-- Qx_CNT.POISON (R609). -/
def rdPoison (q : QId) : Rd :=
  rcRead (rcKey (0x20040010 + q.base) 16) 16 (fun d => (d.queue q).poison) (onQueue q fun x => { x with poison := 0 })

/-- Qx_CNT.BADHDR (R609). -/
def rdBadhdr (q : QId) : Rd :=
  rcRead (rcKey (0x20040010 + q.base) 24) 24 (fun d => (d.queue q).badhdr) (onQueue q fun x => { x with badhdr := 0 })

/-- MODE_REFUSE (R75). -/
def rdModeRefuse : Rd := rdAll [
  rcRead (rcKey 0x018 0) 0 (fun d => d.mode.superseded) (fun d => d.onMode fun m => { m with superseded := 0 }),
  rcRead (rcKey 0x018 16) 16 (fun d => d.mode.refused) (fun d => d.onMode fun m => { m with refused := 0 })]

/-- NCP_CNT (R535). -/
def rdNcpCnt : Rd := rdAll [
  rcRead (rcKey 0x09C 0) 0 (fun d => d.ncp.badPkt) (fun d => d.onNcp fun n => { n with badPkt := 0 }),
  rcRead (rcKey 0x09C 8) 8 (fun d => d.ncp.full) (fun d => d.onNcp fun n => { n with full := 0 }),
  rcRead (rcKey 0x09C 16) 16 (fun d => d.ncp.dropped) (fun d => d.onNcp fun n => { n with dropped := 0 }),
  rcRead (rcKey 0x09C 24) 24 (fun d => d.ncp.guard) (fun d => d.onNcp fun n => { n with guard := 0 })]

/-- HSP_HCNT (R554). -/
def rdHspHcnt : Rd := rdAll [
  rcRead (rcKey 0x0A8 0) 0 (fun d => d.hsp.reject) (fun d => d.onHsp fun h => { h with reject := 0 }),
  rcRead (rcKey 0x0A8 8) 8 (fun d => d.hsp.short) (fun d => d.onHsp fun h => { h with short := 0 }),
  rcRead (rcKey 0x0A8 16) 16 (fun d => d.hsp.mismatch) (fun d => d.onHsp fun h => { h with mismatch := 0 }),
  rcRead (rcKey 0x0A8 24) 24 (fun d => d.hsp.wakeDisc) (fun d => d.onHsp fun h => { h with wakeDisc := 0 })]

/-- EVR_H_SRC (R587). -/
def Dev.evrHsrc (d : Dev) : Nat :=
  ((List.finRange 8).map fun k =>
    let s := d.evr.shared[Fin.ofNat 288 (32 + k.val)]
    (b2n s.en + 256 * b2n s.pend + 65536 * b2n (d.hostLine k.val)) * 2 ^ k.val).sum

/-- EVR_H_SENSE (R587). -/
def Dev.evrHsense (d : Dev) : Nat :=
  ((List.finRange 8).map fun k => (d.evr.shared[Fin.ofNat 288 (32 + k.val)]).sense * 8 ^ k.val).sum

/-- A read of the word at an offset of the host window (R19, R33, R548). -/
def hostRead (off : Nat) : Rd :=
  match off with
  | 0x000 => rd fun _ => identity
  | 0x010 => rd Dev.modeStat
  | 0x014 => rd fun d => d.mode.causeWord
  | 0x018 => rdModeRefuse
  | 0x01C => rd Dev.reachMask
  | 0x020 => rd Dev.phc
  | 0x024 => rd fun d => d.tb.stat
  | 0x030 => rd Dev.drvHsum
  | 0x040 => rd fun d => d.sf.gen.toNat
  | 0x044 => rd Dev.ptCnt
  | 0x048 => rd Dev.zoneMap
  | 0x050 => rd Dev.accSum
  | 0x060 => rd fun d => d.stp.sum
  | 0x070 => rd Dev.uhfSum
  | 0x078 => rd fun d => d.room.gen.toNat
  | 0x07C => rd Dev.rtCnt
  | 0x080 => rd fun d => d.cl.sum
  | 0x090 => rd fun d => d.ncp.activeMask
  | 0x094 => rd fun d => d.ncp.doneMask
  | 0x098 => rd fun d => d.ncp.rspqWord
  | 0x09C => rdNcpCnt
  | 0x0A0 => rd fun d => d.hsp.hcfg
  | 0x0A4 => rd fun d => d.hsp.hstat
  | 0x0A8 => rdHspHcnt
  | 0x0C0 => claim 5
  | 0x0C8 => rd fun d => d.evrStat 5
  | 0x0CC => rd fun d => (d.evr.targets[(5 : Fin 6)]).modReg
  | 0x0D4 => rdAll [rdStray 5, rdDberr 5]
  | 0x0D8 => rd Dev.evrHsrc
  | 0x0DC => rd Dev.evrHsense
  | 0x0E0 => rd fun d => d.qs.evq.hstat (decide (0 < d.qs.loss))
  | 0x0E4 => rd fun d => d.qs.evq.ctl
  | 0x0E8 => rd fun d => d.qs.rspq.hstat false
  | 0x0EC => rd fun d => d.qs.fcmap
  | 0x0F0 => rdAll [rdLost .evq, rdPoison .evq]
  | 0x0F4 => rd fun d => d.qs.rspGen
  | 0x0F8 => rd fun d => d.qs.rspq.ctl
  | 0x100 => tscLRead .hsp
  | 0x104 => rd fun d => (d.tim.latch[(5 : Fin 6)]).toNat
  | 0x110 => rd Dev.secSum
  | 0x120 => rd Dev.pwrHsum
  | 0x124 => rd Dev.pwrHdom
  | 0x128 => rd fun d => d.upBits 20 24
  | 0x130 => rd fun d => d.kiln.sum
  | 0x140 => rd fun d => d.nvm.fwver
  | 0x144 => rd fun d => d.nvm.bootHstat
  | 0x150 => rd Dev.thermSum
  | _ => rdNone

/-! Writes -/

/-- TB_STAT written: its W1C bits (R125, R127). -/
def tbStatWrite (v : Nat) (d : Dev) : Dev :=
  d.onTb fun t => { t with
    gap := w1c t.gap (v.testBit 8), step := w1c t.step (v.testBit 9), lost := w1c t.lost (v.testBit 10), freqOor := w1c t.freqOor (v.testBit 11) }

/-- HSP_HCFG written (R20, R554). -/
def hcfgWrite (v : Nat) (d : Dev) : Dev :=
  let a := bits v 3 0
  let n := bits v 7 4
  d.onHsp fun h => { h with addr := if a = 0 ∨ a = 15 then h.addr else a, dummy := if n = 0 then h.dummy else n, ddr := v.testBit 8 }

/-- EVR_H_SRC written: EN, and the W1C PEND (R587). -/
def hsrcWrite (v : Nat) (d : Dev) : Dev :=
  (List.finRange 8).foldl (fun d k =>
    srcWrite (.shared (Fin.ofNat 288 (32 + k.val))) none (some (v.testBit k.val)) (v.testBit (8 + k.val)) d) d

/-- EVR_H_SENSE written (R587). -/
def hsenseWrite (v : Nat) (d : Dev) : Dev :=
  (List.finRange 8).foldl (fun d k =>
    srcWrite (.shared (Fin.ofNat 288 (32 + k.val))) (some (bits v (3 * k.val + 2) (3 * k.val))) none false d) d

/-- Q_FCMAP written (R20, R607, R610). -/
def fcmapWrite (v : Nat) (d : Dev) : Dev :=
  d.onQs fun q => { q with
    fc0Sel := if 8 ≤ bits v 3 0 then q.fc0Sel else bits v 3 0, fc0Pol := v.testBit 4
    fc1Sel := if 8 ≤ bits v 11 8 then q.fc1Sel else bits v 11 8, fc1Pol := v.testBit 12 }

/-- A write of the word at an offset of the host window (R19, R33, R549). -/
def hostWrite (off v : Nat) (d : Dev) : Dev :=
  match off with
  | 0x024 => tbStatWrite v d
  | 0x0A0 => hcfgWrite v d
  | 0x0A4 => d.onHsp fun h => { h with err := w1c h.err (v.testBit 0) }
  | 0x0C4 => eoi 5 (bits v 8 0) d
  | 0x0CC => modWrite 5 v d
  | 0x0D0 => doorbell 5 (bits v 8 0) (bits v 11 9) d
  | 0x0D8 => hsrcWrite v d
  | 0x0DC => hsenseWrite v d
  | 0x0E4 => queueCtl .evq v d
  | 0x0EC => fcmapWrite v d
  | 0x0F8 => queueCtl .rspq v d
  | _ => d

/-- Words from an offset on, captured in one cycle: every word is as the cycle finds it in `c`, and TSC_HH goes with the TSC_HL of the same
capture (R548, R614). -/
def hostReads (c : Dev) : Nat → Nat → Dev → List Nat × Dev
  | _, 0, d => ([], d)
  | off, k + 1, d =>
    let x := hostRead off d
    let y := hostReads c (off + 4) k x.2
    ((if off = 0x104 then x.1 else (hostRead off c).1) :: y.1, y.2)

/-- Words from an offset on, written in one cycle in rising order (R549). -/
def hostWrites : Nat → List Nat → Dev → Dev
  | _, [], d => d
  | off, v :: vs, d => hostWrites (off + 4) vs (hostWrite off v d)

end Sys2Proof.Machine
end

