-- ==== Sys2Proof/Machine/Hsp.lean ====
section
/-! DEFINITION. Frames of the host serial port (chapter 15). -/

namespace Sys2Proof.Machine
open Sys2Proof

/-! Service by mode (R550, R551) -/

/-- How HSP serves frames. -/
inductive Svc where
  /-- M0: no response -/
  | off
  /-- M1: the status byte alone -/
  | hold
  /-- M3: an address match starts the wake -/
  | sleep
  /-- from the match to tWAKE -/
  | wake
  /-- M2 before register service -/
  | pre
  /-- register frames are served -/
  | regs
  /-- every frame is served -/
  | full
deriving DecidableEq, Repr

/-- M3 without a wake under way, or with a Steep declaration of the same LPCLK cycle, which a match sets aside (R395). -/
def Dev.sleeps (d : Dev) : Bool :=
  match d.mode.run with
  | none => true
  | some t => decide (t.cause = 5) && decide (d.stp.ticks = word d.pmu.lp)

/-- The row of the service table that holds now (R550). -/
def Dev.svc (d : Dev) : Svc :=
  match d.mode.cur with
  | .m0 => .off
  | .m1 => .hold
  | .m2 => if d.pmu.boot = .waitVio then .off else if d.mode.regSvc then .regs else .pre
  | .m3 => if d.bclk then .regs else if d.sleeps then .sleep else .wake
  | _ => .full

/-- The status byte (R541, R542). -/
def Dev.hspStatus (d : Dev) : Nat :=
  let v := d.svc
  if v = .hold ∨ v = .sleep ∨ v = .wake then b2n d.mode.bkp
  else
    128 * b2n (decide (v = .full)) + 64 * b2n (!d.qs.rspq.items.isEmpty) + 32 * b2n (!d.qs.evq.items.isEmpty) +
    16 * b2n (!(d.ready 5).isEmpty) + 8 * b2n d.hsp.err + 4 * b2n (decide (0 < d.qs.loss)) + 2 * b2n d.busy + b2n d.mode.bkp

/-! What every frame goes through (R540, R543, R550, R551) -/

/-- Bytes on HSP_DO: the status byte, what the frame returns, and 0xFF for the rest of the `n` bytes after byte 0. -/
def doBytes (st : Nat) (body : List Byte) (n : Nat) : List Byte :=
  byteOf st :: (body.take n ++ List.replicate (n - body.length) (byteOf 0xFF))

/-- The device with what it has sent on HSP_DO. -/
def sent (out : List Byte) (d : Dev) : Dev := d.onHsp fun h => { h with out := out }

/-- A rejection (R543, R563, R582). -/
def hspReject (cause : Nat) (d : Dev) : Dev :=
  msgHost 3 (d.onHsp fun h => { h with
    err := true, lastRej := cause, reject := satInc 255 h.reject, rej := true, errs := satInc 65535 h.errs })

/-- A frame discarded by a wake or in M2 (R550, R551). -/
def hspDiscard (d : Dev) : Dev := d.onHsp fun h => { h with wakeDisc := satInc 255 h.wakeDisc }

/-- A frame of kind `op` with ADDR `addr`, `n` whole bytes after byte 0 and `extra` bits more. `check` is the cause, other than
BITS, OP and NOTSERVED, for which it is rejected, 0 for none (R543); `serve` is what a served frame does, with the bytes it returns. A frame
rejected for its bits alone has returned those bytes before it could be rejected (DESIGN CHOICE, log entry 70). -/
def hspFrame (addr op n extra check : Nat) (serve : Dev → List Byte × Dev) (d : Dev) : Dev :=
  let st := d.hspStatus
  let v := d.svc
  let quiet := doBytes st [] n
  let edges := if d.hsp.ddr && decide (v ≠ .off) then 8 * n + extra else 0
  let d := d.onHsp fun h => { h with rs := edges }
  if v = .off then sent [] d
  else if addr % 16 ≠ d.hsp.addr then sent quiet (d.onHsp fun h => { h with mismatch := satInc 255 h.mismatch })
  else if v = .hold then sent quiet d
  else if v = .sleep then sent quiet (wakeMatch d)
  else if v = .wake ∧ 1 ≤ op ∧ op ≤ 5 then sent quiet (hspDiscard d)
  else if v = .pre ∧ (op = 4 ∨ op = 5) then sent quiet (hspDiscard d)
  else
    let cause := if extra % 8 ≠ 0 then 1
      else if 6 ≤ op then 2
      else if (op = 1 ∨ op = 2 ∨ op = 3) ∧ v ≠ .full then 3
      else check
    if cause = 1 ∧ op < 6 ∧ check = 0 ∧ (v = .full ∨ op = 0 ∨ 4 ≤ op) then sent (doBytes st (serve d).1 n) (hspReject 1 d)
    else if cause ≠ 0 then sent quiet (hspReject cause d)
    else
      let r := serve (d.onHsp fun h => { h with frames := satInc 65535 h.frames })
      sent (doBytes st r.1 n) r.2

/-! STATUS, PKT_WR (R539, R544) -/

/-- A frame whose byte 0 ends after `bits0` of its bits: nothing in M1 and M3, and in a mode that serves frames a rejection for its bits (R543,
R551; DEDUCED, log entry 70). -/
def partFrame (bits0 : Nat) (d : Dev) : Dev :=
  let v := d.svc
  if bits0 = 0 ∨ v = .off ∨ v = .hold ∨ v = .sleep ∨ v = .wake then d else hspReject 1 d

/-- A packet passed to SC, which takes it at once (R510, R544, R580). -/
def pktWr (pkt : List Byte) (d : Dev) : List Byte × Dev := (List.replicate pkt.length (byteOf 0), accept pkt (msgSc 8 d))

/-! PKT_RD (R506 to R509, R545, R546, R597, R598) -/

/-- A packet with its CRC (R504). -/
def withCrc (p : List Byte) : List Byte := p ++ le 2 (crc16 p)

/-- The null packet (R506, R507). -/
def nullPacket : List Byte := withCrc ([0, 0x80] ++ List.replicate 6 (byteOf 0))

/-- The reply packet of an RSPQ item, with REMAIN (R506). -/
def rspPacket (item : List Word) (remain : Nat) : List Byte :=
  let b := bytesOf (item.drop 1)
  let p := b.take (8 + leAt b 2 2)
  withCrc (p.take 5 ++ [byteOf (min 255 remain)] ++ p.drop 6)

/-- The event packet of an EVQ item, with REMAIN and LOSS (R506, R507). -/
def evtPacket (item : List Word) (remain loss : Nat) : List Byte :=
  withCrc ([0, 0x80] ++ le 2 (4 * item.length) ++ [0, byteOf (min 255 remain)] ++ le 2 (min 65535 loss) ++ bytesOf item)

/-- Which queue a PKT_RD reads: true RSPQ, false EVQ, none where both are empty (R508, R546). -/
def Dev.choice (d : Dev) : Option Bool :=
  let r := !d.qs.rspq.items.isEmpty
  let e := !d.qs.evq.items.isEmpty
  match d.hsp.again with
  | some b => some b
  | none => if r && !(d.ncp.lastRsp && e) then some true else if e then some false else none

/-- The packet that a choice returns (R545). -/
def Dev.packet (d : Dev) (c : Option Bool) : List Byte :=
  match c with
  | some true => rspPacket (d.qs.rspq.items.headD []) (d.qs.rspq.items.length - 1)
  | some false => evtPacket (d.qs.evq.items.headD []) (d.qs.evq.items.length - 1) d.qs.lossChosen
  | none => nullPacket

/-- The choice made when HSP_CS_N is asserted: the head opens and LOSS is taken (R545, R594, R598). -/
def choose (c : Option Bool) (d : Dev) : Dev :=
  let fresh := d.hsp.again.isNone
  let d := d.onNcp fun n => { n with lastRsp := c = some true }
  match c with
  | some true => (onQueue .rspq (fun q => { q with openAt := some 0 }) d).onHsp fun h => { h with again := c }
  | some false =>
    let d := if fresh then d.onQs fun q => { q with lossChosen := q.loss } else d
    (onQueue .evq (fun q => { q with openAt := some 0 }) d).onHsp fun h => { h with again := c }
  | none => d

/-- The head leaves its queue (R545, R606). -/
def popHead (q : QId) (d : Dev) : Dev :=
  (onQueue q (fun x => { x with items := x.items.drop 1, openAt := none, flushOpen := false }.setWm q.cap) d).onHsp fun h => { h with again := none }

/-- A reply or a refusal read whole: its tag is FREE, or its slot of the pool (R509, R512, R513, R610). -/
def replyRead (pkt : List Byte) (gen : Nat) (d : Dev) : Dev :=
  let t := byteAt pkt 1
  let d := d.onNcp fun n => if t.testBit 6 then { n with refFree := min 32 (n.refFree + 1) }
    else { n with tags := upd n.tags (Fin.ofNat 32 t) fun _ => .free }
  d.onQs fun q => { q with rspGen := gen }

/-- A packet read whole: it leaves its queue and is kept for PKT_REREAD (R509, R545, R547, R580, R598). -/
def readWhole (c : Option Bool) (pkt : List Byte) (d : Dev) : Dev :=
  match c with
  | none => d
  | some b =>
    let d := d.onHsp fun h => { h with copy := some pkt }
    let gen := (((d.qs.rspq.items.headD []).headD 0).toNat) / 65536
    let d := if b then popHead .rspq (replyRead pkt gen d)
      else popHead .evq (d.onQs fun q => { q with loss := q.loss - q.lossChosen, lossChosen := 0 })
    msgSc 9 d

/-- The frame that reads a flushed event item ends without having read it whole: the item leaves (R597). -/
def dropFlushed (d : Dev) : Dev := if d.qs.evq.flushOpen then popHead .evq d else d

/-- A PKT_RD frame that clocks `n` bytes after byte 0 (R545, R546). -/
def pktRd (n : Nat) (d : Dev) : List Byte × Dev :=
  let c := d.choice
  let d := choose c d
  let p := d.packet c
  if p.length ≤ n then (p, readWhole c p d)
  else (p, dropFlushed (d.onHsp fun h => { h with short := satInc 255 h.short }))

/-! PKT_REREAD (R547) -/

/-! REG_RD and REG_WR (R539, R543, R548, R549) -/

/-- ADDRESS is the cause that rejects a register frame for `words` words (R543). -/
def regCheck (off words : Nat) : Nat := if off % 4 ≠ 0 ∨ 0x1000 ≤ off ∨ 0x1000 < off + 4 * words then 5 else 0

/-- Words returned by a REG_RD (R539, R548). -/
def regRd (off words : Nat) (d : Dev) : List Byte × Dev :=
  let r := hostReads d off words d
  (List.replicate (3 + d.hsp.dummy) (byteOf 0) ++ r.1.flatMap (le 4), r.2)

end Sys2Proof.Machine
end

