-- ==== Sys2Proof/Machine/Msp.lean ====
section
/-! DEFINITION. The memory serial port: its transfer queue, its frames as slave and the execute-in-place window (chapter 15). -/

namespace Sys2Proof.Machine
open Sys2Proof

/-! Bus errors of the window (R35, R562) -/

/-- Base of the execute-in-place window (R34). -/
def xipBase : Nat := 0x40000000

/-- A bus error of the window (R562). -/
def xipError (k : Fin 5) (off : Nat) (d : Dev) : Dev :=
  busError (coreMaster k) (xipBase + off) (d.onMsp fun m => { m with busErr := satInc 65535 m.busErr })

/-! What runs next (R556, R562) -/

/-- A waiting window read of the first core in the order of R38 (R562). -/
def Msp.nextMiss (m : Msp) : Option XMiss :=
  (List.finRange 5).findSome? fun k => m.misses.find? fun x => decide (x.core = k)

/-- A serial line read is in progress (R561). -/
def Msp.reading (m : Msp) : Bool := m.misses.any XMiss.issued

/-- Window reads that wait although the window is off end with bus errors (R562). -/
def dropMisses (d : Dev) : Dev :=
  let xs := d.msp.misses.filter fun x => !x.issued
  xs.foldl (fun d x => xipError x.core x.off d) (d.onMsp fun m => { m with misses := m.misses.filter XMiss.issued })

/-- FCLK cycles of an assertion as master (R555 to R557, R561, R565): `lead` words go in SDR before DDR begins, DDR moves two bits in an SCK
period, and the select stands one period before and after. -/
def Msp.burst (m : Msp) (cs wlen txw dummy rxw lead : Nat) (ddr : Bool) : MspBurst :=
  let c := m.ctl
  let n := txw + rxw
  let slow := if ddr then min lead n else n
  let p := if ddr then c.divD else c.divS
  { cs := cs, txw := txw, dummy := dummy, rxw := rxw
    span := c.divS * (wlen * slow) + c.divD * ((wlen * (n - slow) + 1) / 2) + p * (dummy + 2)
    gap := p * m.csgap }

/-- TXW of an entry (R556). -/
def MspEntry.txw (e : MspEntry) : Nat := bits e.q0.toNat 31 16

/-- The assertions of an entry's select: one over the whole entry with CONT, else one for each word alone, without DUMMY (R556, R557). -/
def Msp.bursts (m : Msp) (e : MspEntry) : List MspBurst :=
  let q := e.q0.toNat
  let w := m.ctl.wlen
  let ddr := q.testBit 3
  let cs := bits q 1 0
  if q.testBit 2 then [m.burst cs w e.txw (bits q 8 4) e.rxw 1 ddr]
  else (List.range e.txw).map (fun i => m.burst cs w 1 0 0 (if i = 0 then 1 else 0) ddr) ++ List.replicate e.rxw (m.burst cs w 0 0 1 0 ddr)

/-- Bytes of the serial read of a line: the opcode and the address (R561). -/
def Msp.lineCmd (m : Msp) (off : Nat) : List Byte :=
  byteOf m.xopc :: (le (if m.xa4 then 4 else 3) (off / 32 * 32)).reverse

/-- The serial read of a line: opcode in SDR, address, dummy cycles and 32 bytes, under one select (R561). -/
def Msp.lineBurst (m : Msp) : MspBurst := m.burst m.xcs 8 (if m.xa4 then 5 else 4) m.xdummy 32 1 m.xddr

/-- FCLK cycles of assertions and the times between them. -/
def spans (l : List MspBurst) : Nat := (l.map fun b => b.span + b.gap).sum

/-- The entry or line read in progress has run its SCK periods; FCLK is twice BCLK (R555). -/
def Dev.mspRan (d : Dev) : Bool := decide (spans d.msp.run ≤ 2 * (d.now - d.msp.runT) + (d.msp.run.getLast?.map MspBurst.gap).getD 0)

/-- The select asserted `t` FCLK cycles after the start (R557). -/
def selAt : Nat → List MspBurst → Option Nat
  | _, [] => none
  | t, b :: l => if t < b.span then some b.cs else if t < b.span + b.gap then none else selAt (t - b.span - b.gap) l

/-- MSP_CS0_N to MSP_CS3_N as outputs: the one that is asserted; none while MSP is slave (R536, R557). -/
def Dev.mspSelect (d : Dev) : Option Nat :=
  if d.msp.ctl.msel && (d.msp.busy || d.msp.reading) then selAt (2 * (d.now - d.msp.runT)) d.msp.run else none

/-- With the port idle, a window miss is served before the next entry of the queue starts (R562). -/
def mspNext (d : Dev) : Dev :=
  let d := if d.msp.xen && d.msp.ctl.msel then d else dropMisses d
  let m := d.msp
  if m.busy || m.reading || !m.ctl.msel then d
  else match (if m.invBusy then none else m.nextMiss) with
    | some x =>
      let now := d.now
      d.onMsp fun m => { m with
        misses := m.misses.map fun y => if y.core = x.core then { y with issued := true } else y
        run := [m.lineBurst], runT := now, out := m.lineCmd x.off }
    | none => match m.queue with
      | [] => d
      | e :: _ =>
        let now := d.now
        if m.en then d.onMsp fun m => { m with busy := true, run := m.bursts e, runT := now } else d

/-! Entries (R556 to R559) -/

/-- Bytes of a word in SRAM (R556). -/
def Msp.wordBytes (m : Msp) : Nat := (m.ctl.wlen + 7) / 8

/-- The entry that MSP_QIN0 to MSP_QIN3 spell (R556). -/
def Msp.entry (m : Msp) : MspEntry :=
  { q0 := m.qin[0], txAddr := m.qin[1].toNat, rxw := bits m.qin[2].toNat 15 0, rxAddr := m.qin[3].toNat }

/-- A buffer of `w` words can be used (R558). -/
def Msp.bufOk (m : Msp) (a w : Nat) : Bool := decide (w = 0) || (decide (a % 4 = 0) && inSram a (w * m.wordBytes))

/-- An entry pushed, or refused; one that finds the queue full is kept for the rest of its cycle (R558). -/
def mspPush (d : Dev) : Dev :=
  let m := d.msp
  let e := m.entry
  let now := d.now
  if 16 ≤ m.queue.length then d.onMsp fun m => { m with ovf := true, late := some (e, now, m.ovf) }
  else if (e.txw = 0 ∧ e.rxw = 0) ∨ !m.bufOk e.txAddr e.txw ∨ !m.bufOk e.rxAddr e.rxw then d.onMsp fun m => { m with lastErr := 4 }
  else mspNext (d.onMsp fun m => { m with queue := m.queue ++ [e] })

/-- A write of MSP_QIN3 pushes the entry (R556). -/
def qin3Write (v : Nat) (d : Dev) : Dev := mspPush (d.onMsp fun m => { m with qin := upd m.qin 3 fun _ => word v })

/-- Received words as they lie in SRAM (R7, R556). -/
def Msp.rxBytes (m : Msp) (rx : List Nat) : List Byte := rx.flatMap fun w => le m.wordBytes (w % 2 ^ m.ctl.wlen)

/-- A word as it lies in SRAM, without the bits above WLEN (R556). -/
def Msp.trimWord (m : Msp) (b : List Byte) : List Byte := le m.wordBytes (leAt b 0 m.wordBytes % 2 ^ m.ctl.wlen)

/-- The first `n` words that an entry transmits (R556). -/
def State.txBytes (s : State) (e : MspEntry) (n : Nat) : List Byte :=
  let m := s.dev.msp
  (List.range (min n e.txw)).flatMap fun i => m.trimWord (memReads sramDflt s.sram (e.txAddr + i * m.wordBytes) m.wordBytes)

/-- Words of a buffer that lie within SRAM: WLEN may have grown since the push (R558). -/
def Msp.fits (m : Msp) (a w : Nat) : Nat := ((List.range w).find? fun i => !inSram a ((i + 1) * m.wordBytes)).getD w

/-- An entry that found the queue full is accepted where an entry completes in the cycle of its push (R558). -/
def takeLate (d : Dev) : Dev :=
  match d.msp.late with
  | some (e, t, o) =>
    let m := d.msp
    let ok := !(decide (e.txw = 0) && decide (e.rxw = 0)) && m.bufOk e.txAddr e.txw && m.bufOk e.rxAddr e.rxw
    if t ≠ d.now then d
    else d.onMsp fun m => { m with
      ovf := o, late := none, queue := if ok then m.queue ++ [e] else m.queue, lastErr := if ok then m.lastErr else 4 }
  | none => d

/-- The head entry ends with LASTERR `err` and `got` words received; held settings take effect, and the next work starts
(R556, R558, R559, R563, R580). -/
def endEntry (e : MspEntry) (err got : Nat) (out : List Byte) (d : Dev) : Dev :=
  let d := d.onMsp fun m => { m with
    queue := m.queue.drop 1, busy := false, rxGot := got, lastErr := err, done := satInc 255 m.done, out := out
    frames := if err = 0 then satInc 65535 m.frames else m.frames, errs := if err = 0 then m.errs else satInc 65535 m.errs
    rserr := m.rserr || decide (err = 2), ctl := m.held.getD m.ctl, held := none }
  let d := if e.q0.toNat.testBit 9 then msgSc 7 d else d
  mspNext (takeLate d)

/-- Words received by the head entry stored at RXADDR (R556). -/
def storeRx (e : MspEntry) (rx : List Nat) (s : State) : State :=
  { s with sram := memWrites sramDflt e.rxAddr (s.dev.msp.rxBytes rx) s.sram }

/-- The entry in progress ends (R558): with its last bit, at a word whose SRAM access fails, or without the strobe of its first receive bit,
which only an entry in DDR waits for. -/
def mspEnd (x : MspEnd) (s : State) : State :=
  match s.dev.msp.queue with
  | [] => s
  | e :: _ =>
    let m := s.dev.msp
    if !m.busy then s
    else
      let out := s.txBytes e e.txw
      match x with
      | .bus rx =>
        let rx := rx.take (m.fits e.rxAddr e.rxw)
        (storeRx e rx s).on (endEntry e 1 rx.length out)
      | .rserr => if e.q0.toNat.testBit 3 ∧ e.rxw ≠ 0 then s.on (endEntry e 2 0 out) else s
      | .ok rx =>
        let rx := rx.take e.rxw ++ List.replicate (e.rxw - rx.length) 0
        if !s.dev.mspRan then s
        else if m.fits e.txAddr e.txw < e.txw then s.on (endEntry e 1 0 (s.txBytes e (m.fits e.txAddr e.txw)))
        else
          let k := m.fits e.rxAddr e.rxw
          (storeRx e (rx.take k) s).on (endEntry e (if k < e.rxw then 1 else 0) k out)

/-- A transfer entry ends (R558). -/
def execMspEntryEnd (x : MspEnd) (s : State) : Out := .next (mspEnd x s.ev)

/-- A frame that an external master clocks: the words it sends, and `extra` bits more (R560). -/
def slaveFrame (rx : List Nat) (extra : Nat) (s : State) : State :=
  let m := s.dev.msp
  match m.queue with
  | [] => s
  | e :: _ =>
    if m.ctl.msel || !m.en || m.busy then s
    else if extra % m.ctl.wlen ≠ 0 ∨ e.rxw < rx.length ∨ 8 * 4096 < rx.length * m.ctl.wlen then
      let out := s.txBytes e (rx.length + 1)
      s.on fun d => d.onMsp fun m => { m with rej := true, errs := satInc 65535 m.errs, lastErr := 3, out := out }
    else
      let k := m.fits e.rxAddr rx.length
      (storeRx e (rx.take k) s).on (endEntry e (if k < rx.length then 1 else 0) k (s.txBytes e rx.length))

/-- A frame of MSP as slave (R560). -/
def execMspSlaveFrame (rx : List Nat) (extra : Nat) (s : State) : Out := .next (slaveFrame rx extra s.ev)

/-- SPx_CTL.EN of MSP written (R558). -/
def mspEn (v : Bool) (d : Dev) : Dev := mspNext (d.onMsp fun m => { m with en := v })

/-! Control registers of MSP (R20, R563) -/

/-- Settings of SPx_CTL and SPx_WLEN taken, at once or at the end of what is in progress (R563). -/
def mspSet (f : MspCtl → MspCtl) (d : Dev) : Dev :=
  mspNext (d.onMsp fun m => if m.busy then { m with held := some (f (m.held.getD m.ctl)) } else { m with ctl := f m.ctl })

/-- SPx_CTL of MSP written (R20, R563). -/
def mspCtlWrite (v : Nat) (d : Dev) : Dev :=
  let a := bits v 9 2
  let b := bits v 17 10
  let g := bits v 21 18
  let d := mspSet (fun c => { c with
    msel := v.testBit 0, mode3 := v.testBit 1, divS := if a < 9 then c.divS else a, divD := if b < 5 then c.divD else b }) d
  mspEn (v.testBit 22) (d.onMsp fun m => { m with csgap := if g = 0 then m.csgap else g })

/-- SPx_WLEN of MSP written (R20, R563). -/
def mspWlenWrite (v : Nat) (d : Dev) : Dev :=
  let w := bits v 12 0
  if w = 0 ∨ 4096 < w then d else mspSet (fun c => { c with wlen := w }) d

/-! Execute-in-place window (R561, R562) -/

/-- Lines of a set kept after `x` has been used: the four used last (R561). -/
def useLine (x : XLine) (l : List XLine) : List XLine :=
  let rest := l.filter fun y => decide (y.tag ≠ x.tag)
  let set := (rest.filter fun y => decide (y.tag % 512 = x.tag % 512)).take 3
  x :: rest.filter fun y => decide (y.tag % 512 ≠ x.tag % 512) || set.any fun z => decide (z.tag = y.tag)

/-- The word of a line that holds the offset (R7). -/
def XLine.word (x : XLine) (off : Nat) : Nat := leAt x.data (off % 32 / 4 * 4) 4

/-- A window read by a core: an error, a hit, or a miss that waits (R561, R562). A core with a read that waits issues no other. -/
def xipRead (k : Fin 5) (off : Nat) (d : Dev) : Dev :=
  let m := d.msp
  if m.misses.any (fun x => decide (x.core = k)) || decide (0x8000000 ≤ off) then d
  else if !m.xen || !m.ctl.msel then xipError k off d
  else match (if m.invBusy then none else m.cache.find? fun x => decide (x.tag = off / 32)) with
    | some x => readOut (x.word off) (d.onMsp fun m => { m with cache := useLine x m.cache })
    | none => mspNext (d.onMsp fun m => { m with
        miss := satInc 65535 m.miss, misses := m.misses ++ [{ core := k, off := off, issued := false }] })

/-- The missed line arrives: every read that waits for it completes, and the line is kept (R561). -/
def xipFill (data : List Byte) (d : Dev) : Dev :=
  match d.msp.misses.find? XMiss.issued with
  | none => d
  | some x =>
    if d.msp.invBusy || !d.mspRan then d
    else
      let line : XLine := { tag := x.off / 32, data := data.take 32 ++ List.replicate (32 - data.length) (byteOf 0) }
      let d := d.onMsp fun m => { m with
        misses := m.misses.filter fun y => decide (y.off / 32 ≠ line.tag), cache := useLine line m.cache }
      mspNext (readOut (line.word x.off) d)

/-- The missed line has arrived (R561). -/
def execXipLineFill (data : List Byte) (s : State) : Out := onDev s (xipFill data)

/-- The cache is invalidated (R562). -/
def xipInv (d : Dev) : Dev := d.onMsp fun m => { m with cache := [], invBusy := true }

/-- MSP_XCFG written, which invalidates the cache (R563). -/
def xcfgWrite (v : Nat) (d : Dev) : Dev :=
  mspNext (xipInv (d.onMsp fun m => { m with
    xen := v.testBit 0, xcs := bits v 2 1, xa4 := v.testBit 3, xopc := bits v 11 4, xdummy := bits v 16 12, xddr := v.testBit 17 }))

/-- The invalidation completes: window reads go on (R562). -/
def execXipInvalidateDone (s : State) : Out :=
  onDev s fun d => if d.msp.invBusy then mspNext (d.onMsp fun m => { m with invBusy := false }) else d

/-! Registers (R559, R563) -/

/-- SPx_CTL of MSP (R563). -/
def Msp.ctlWord (m : Msp) : Nat :=
  b2n m.ctl.msel + 2 * b2n m.ctl.mode3 + 4 * m.ctl.divS + 1024 * m.ctl.divD + 2 ^ 18 * m.csgap + 2 ^ 22 * b2n m.en

/-- SPx_STAT of MSP (R563). -/
def Msp.stat (m : Msp) : Nat :=
  b2n m.busy + 2 * b2n m.rej + 4 * b2n m.rserr + 8 * b2n m.ovf + 16 * m.queue.length + 512 * b2n (!m.misses.isEmpty)

/-- MSP_XCFG (R563). -/
def Msp.xcfg (m : Msp) : Nat :=
  b2n m.xen + 2 * m.xcs + 8 * b2n m.xa4 + 16 * m.xopc + 4096 * m.xdummy + 2 ^ 17 * b2n m.xddr

end Sys2Proof.Machine
end

