-- ==== Sys2Proof/Machine/RegSys.lean ====
section
/-! DEFINITION. Registers of the blocks of CORE, of the PMU, of the security island, of the room radio, of the Cask link and of Kiln
on the internal bus (R34). -/

namespace Sys2Proof.Machine
open Sys2Proof

/-! Places of an array of registers -/

/-- Which of `n` blocks of `stride` bytes from `base` on holds an offset, and the offset in it. -/
def place (n base stride off : Nat) : Option (Fin n × Nat) :=
  if h : base ≤ off ∧ (off - base) / stride < n then some (⟨(off - base) / stride, h.2⟩, (off - base) % stride) else none

/-- A register write: the value written and what it changes. -/
abbrev Wr := Nat → Dev → Dev

/-- A write to an offset without a register, or to one that takes no writes (R15, R19). -/
def wrNone : Wr := fun _ d => d

/-! Event Router (R584 to R586) -/

/-- A read in the window of target `t`. -/
def evrWinRead (t : Fin 6) (o : Nat) : Rd :=
  match o with
  | 0x000 => claim t
  | 0x008 => rd fun d => d.evrStat t
  | 0x00C => rd fun d => (d.evr.targets[t]).modReg
  | 0x014 => rdStray t
  | 0x018 => rdAll [rdCoal t, rdDberr t]
  | _ => match place 32 0x100 4 o with
    | some (s, _) => if h : t.val < 5 then rd fun d => d.srcReg (.priv ⟨t.val, h⟩ s) else rdNone
    | none => rdNone

/-- A read of the Event Router (R584). -/
def evrRead (off : Nat) : Rd :=
  match place 288 0x8080 4 off with
  | some (i, _) => rd fun d => d.srcReg (.shared i)
  | none => match place 6 0 0x1000 off with
    | some (t, o) => evrWinRead t o
    | none => rdNone

/-- The running module of an extension holds a zone (R34, R718). -/
def Dev.holdsZone (d : Dev) (x : Nat) (n : Fin 24) : Bool :=
  let m := d.nvm.mods[Fin.ofNat 63 x]
  decide (m.st = .running) && m.zmask.getLsbD n.val

/-- Zone that a private source of a zone core target concerns, where it concerns one (R579). -/
def zoneOfSrc (t : Nat) (s : Nat) : Option (Fin 24) := if t < 4 ∧ s < 30 then some (Fin.ofNat 24 (6 * t + s % 6)) else none

/-- A write of a source register takes effect: for extension code, only for the private sources of its zones and for SW sources whose
TARGET is its core. -/
def Dev.mayWriteSrc (d : Dev) (m : Master) (id : SrcId) : Bool :=
  match m with
  | .ext k x => (match id with
    | .priv t s => (match zoneOfSrc t.val s.val with
      | some n => decide (t.val = k.val) && d.holdsZone x n
      | none => false)
    | .shared i => decide (48 ≤ i.val) && decide (d.srcTarget id = k.val))
  | .zc k => decide (d.srcTarget id = k.val)
  | _ => true

/-- A source register written by a master (R583, R586). -/
def evrSrcWrite (m : Master) (id : SrcId) : Wr := fun v d =>
  if d.mayWriteSrc m id then srcRegWrite (decide (m = .sc)) id v d else d

/-- A write in the window of target `t`; extension code does not write EVR_MOD. -/
def evrWinWrite (m : Master) (t : Fin 6) (o : Nat) : Wr :=
  match o with
  | 0x004 => fun v => eoi t (bits v 8 0)
  | 0x00C => (match m with
    | .ext _ _ => wrNone
    | _ => modWrite t)
  | 0x010 => fun v => doorbell t (bits v 8 0) (bits v 11 9)
  | _ => match place 32 0x100 4 o with
    | some (s, _) => if h : t.val < 5 then evrSrcWrite m (.priv ⟨t.val, h⟩ s) else wrNone
    | none => wrNone

/-- A write to the Event Router (R584). -/
def evrWrite (m : Master) (off : Nat) : Wr :=
  match place 288 0x8080 4 off with
  | some (i, _) => evrSrcWrite m (.shared i)
  | none => match place 6 0 0x1000 off with
    | some (t, o) => evrWinWrite m t o
    | none => wrNone

/-! Timers (R624, R625) -/

/-- GTn_CTL as it reads (R625). -/
def Gt.ctlWord (g : Gt) : Nat := b2n g.run + 2 * b2n g.cen + 4 * g.pre + 64 * g.module

/-- GTn_STAT.MISS (R625). -/
def rdGtMiss (n : Fin 32) : Rd :=
  rcRead (rcKey (0x20010110 + 0x20 * n.val) 8) 8 (fun d => (d.tim.gt[n]).miss) (onGt n fun g => { g with miss := 0 })

/-- A read of the timers block (R612, R624). -/
def timRead (m : Master) (off : Nat) : Rd :=
  match off with
  | 0x000 => tscLRead m
  | 0x004 => rd fun d => (d.tim.latch[m.port]).toNat
  | 0x008 => rd fun d => b2n d.tim.gap
  | _ => match place 32 0x100 0x20 off with
    | some (n, o) => (match o with
      | 0x0 => rd fun d => (d.tim.gt[n]).cnt.toNat
      | 0x4 => rd fun d => (d.tim.gt[n]).cmp.toNat
      | 0x8 => rd fun d => (d.tim.gt[n]).per
      | 0xC => rd fun d => (d.tim.gt[n]).ctlWord
      | 0x10 => rdAll [rd fun d => b2n (d.tim.gt[n]).fired, rdGtMiss n]
      | _ => rdNone)
    | none => rdNone

/-- A write to the timers block (R16, R20, R616, R620, R625). -/
def timWrite (m : Master) (off : Nat) : Wr :=
  match off with
  | 0x008 => fun v d => d.onTim fun t => { t with gap := w1c t.gap (v.testBit 0) }
  | _ => match place 32 0x100 0x20 off with
    | some (n, o) => (match o with
      | 0x0 => fun v => gtCnt n (word v)
      | 0x4 => fun v => gtCmp n (word v)
      | 0x8 => fun v => onGt n fun g => if v < 2 ^ 31 then { g with per := v } else g
      | 0xC => gtCtl (decide (m = .sc)) n
      | 0x10 => fun v => onGt n fun g => { g with fired := w1c g.fired (v.testBit 0) }
      | _ => wrNone)
    | none => wrNone

/-! HSP and MSP (R559, R563) -/

/-- SPx_CNT of HSP (R563). -/
def rdHspCnt : Rd := rdAll [
  rcRead (rcKey 0x2002000C 0) 0 (fun d => d.hsp.frames) (fun d => d.onHsp fun h => { h with frames := 0 }),
  rcRead (rcKey 0x2002000C 16) 16 (fun d => d.hsp.errs) (fun d => d.onHsp fun h => { h with errs := 0 })]

/-- A read of the block of HSP (R563). -/
def hspRead (off : Nat) : Rd :=
  match off with
  | 0x000 => rd fun _ => 2 ^ 22
  | 0x004 => rd fun _ => 8
  | 0x008 => rd fun d => 2 * b2n d.hsp.rej
  | 0x00C => rdHspCnt
  | _ => rdNone

/-- A write to the block of HSP (R563). -/
def hspWrite (off : Nat) : Wr :=
  match off with
  | 0x008 => fun v d => d.onHsp fun h => { h with rej := w1c h.rej (v.testBit 1) }
  | _ => wrNone

/-- SPx_CNT of MSP (R563). -/
def rdMspCnt : Rd := rdAll [
  rcRead (rcKey 0x2003000C 0) 0 (fun d => d.msp.frames) (fun d => d.onMsp fun h => { h with frames := 0 }),
  rcRead (rcKey 0x2003000C 16) 16 (fun d => d.msp.errs) (fun d => d.onMsp fun h => { h with errs := 0 })]

/-- MSP_XCNT (R563). -/
def rdXcnt : Rd := rdAll [
  rcRead (rcKey 0x20030048 0) 0 (fun d => d.msp.miss) (fun d => d.onMsp fun h => { h with miss := 0 }),
  rcRead (rcKey 0x20030048 16) 16 (fun d => d.msp.busErr) (fun d => d.onMsp fun h => { h with busErr := 0 })]

/-- MSP_QDONE (R559). -/
def rdQdone : Rd := rdAll [rd fun d => d.msp.rxGot + 65536 * d.msp.lastErr,
  rcRead (rcKey 0x20030090 20) 20 (fun d => d.msp.done) (fun d => d.onMsp fun m => { m with done := 0 })]

/-- A read of the block of MSP (R556, R559, R563). -/
def mspRead (off : Nat) : Rd :=
  match off with
  | 0x000 => rd fun d => d.msp.ctlWord
  | 0x004 => rd fun d => d.msp.ctl.wlen
  | 0x008 => rd fun d => d.msp.stat
  | 0x00C => rdMspCnt
  | 0x040 => rd fun d => d.msp.xcfg
  | 0x044 => rd fun d => 2 * b2n d.msp.invBusy
  | 0x048 => rdXcnt
  | 0x080 => rd fun d => (d.msp.qin[(0 : Fin 4)]).toNat
  | 0x084 => rd fun d => (d.msp.qin[(1 : Fin 4)]).toNat
  | 0x088 => rd fun d => (d.msp.qin[(2 : Fin 4)]).toNat
  | 0x08C => rd fun d => (d.msp.qin[(3 : Fin 4)]).toNat
  | 0x090 => rdQdone
  | _ => rdNone

/-- A write to the block of MSP (R18, R556, R562, R563). -/
def mspWrite (off : Nat) : Wr :=
  match off with
  | 0x000 => mspCtlWrite
  | 0x004 => mspWlenWrite
  | 0x008 => fun v d => d.onMsp fun m => { m with
      rej := w1c m.rej (v.testBit 1), rserr := w1c m.rserr (v.testBit 2), ovf := w1c m.ovf (v.testBit 3) }
  | 0x040 => xcfgWrite
  | 0x044 => fun v d => if v.testBit 0 then xipInv d else d
  | 0x080 => fun v d => d.onMsp fun m => { m with qin := upd m.qin 0 fun _ => word (65536 * bits v 31 16 + bits v 9 0) }
  | 0x084 => fun v d => d.onMsp fun m => { m with qin := upd m.qin 1 fun _ => word v }
  | 0x088 => fun v d => d.onMsp fun m => { m with qin := upd m.qin 2 fun _ => word (bits v 15 0) }
  | 0x08C => qin3Write
  | _ => wrNone

/-! Queues (R608, R609) -/

/-- The queue whose registers hold an offset, and the offset in them (R608). -/
def queuePlace (off : Nat) : Option (QId × Nat) :=
  match place 24 0x1000 0x40 off with
  | some (n, o) => some (.cq n, o)
  | none => if off < 0x40 then some (.evq, off) else if off < 0x80 then some (.rspq, off - 0x40) else none

/-- CQn_CFG (R609). -/
def CqCfg.cfgWord (c : CqCfg) : Nat := c.mode + 4 * c.scount + 256 * b2n c.wmsrc

/-- A read of a register of a queue (R594, R609). -/
def queueRegRead (q : QId) (o : Nat) : Rd :=
  match o with
  | 0x04 => queueData q
  | 0x08 => rd fun d => (d.queue q).stat
  | 0x0C => rd fun d => (d.queue q).ctl
  | 0x10 => rdAll [rdLost q, rdPoison q, rdBadhdr q]
  | 0x14 => rd fun d => (d.queue q).head
  | 0x18 => (match q with
    | .cq n => rd fun d => (d.qs.cfg[n]).cfgWord
    | _ => rdNone)
  | _ => rdNone

/-- A read of the queue block (R608). -/
def qRead (off : Nat) : Rd :=
  match queuePlace off with
  | some (q, o) => queueRegRead q o
  | none => rdNone

/-- CQn_CFG written (R20, R602, R609). -/
def cqCfgWrite (n : Fin 24) : Wr := fun v d =>
  d.onQs fun q => { q with cfg := upd q.cfg n fun c =>
    { c with
      mode := if bits v 1 0 = 3 then c.mode else bits v 1 0
      scount := if bits v 7 2 = 0 then c.scount else bits v 7 2
      wmsrc := v.testBit 8 } }

/-- A write to a register of a queue; capture queues take no words from the bus (R608, R609). -/
def queueRegWrite (q : QId) (o : Nat) : Wr :=
  match o with
  | 0x00 => (match q with
    | .cq _ => wrNone
    | q => fun v => pushWord q (word v))
  | 0x0C => queueCtl q
  | 0x18 => (match q with
    | .cq n => cqCfgWrite n
    | _ => wrNone)
  | _ => wrNone

/-- A write to the queue block (R608). -/
def qWrite (off : Nat) : Wr :=
  match queuePlace off with
  | some (q, o) => queueRegWrite q o
  | none => wrNone

/-! Key-store interface (R653, R654) -/

/-- KS_GCNT (R654). -/
def rdKsGcnt : Rd := rdAll [
  rcRead (rcKey 0x20051004 0) 0 (fun d => d.key.refusals) (fun d => d.onKey fun k => { k with refusals := 0 }),
  rcRead (rcKey 0x20051004 16) 16 (fun d => d.key.holds) (fun d => d.onKey fun k => { k with holds := 0 }),
  rcRead (rcKey 0x20051004 24) 24 (fun d => d.key.entFail) (fun d => d.onKey fun k => { k with entFail := 0 })]

/-- A register of a request port (R653). -/
def KsPort.reg (x : KsPort) (o : Nat) : Nat :=
  match o with
  | 0x00 => x.op + 256 * x.kslot + 65536 * x.dslot + 2 ^ 24 * x.flags
  | 0x04 => x.attr
  | 0x08 => x.limit
  | 0x0C => x.src
  | 0x10 => x.dst
  | 0x14 => x.dlen + 65536 * x.alen
  | 0x18 => x.nlen + 256 * x.tlen
  | 0x20 => x.stat
  | 0x24 => x.uses
  | _ => 0

/-- A read of the key-store interface (R653, R654). -/
def ksRead (off : Nat) : Rd :=
  match off with
  | 0x1000 => rd Dev.ksGstat
  | 0x1004 => rdKsGcnt
  | _ => match place 64 0x2000 4 off with
    | some (s, _) => rd fun d => (d.key.slot[s]).word
    | none => match place 5 0 0x100 off with
      | some (p, o) => rd fun d => (d.key.port[p]).reg o
      | none => rdNone

/-- A slot number that KSLOT and DSLOT take (R20, R653). -/
def slotField (v old : Nat) : Nat := if v < 64 ∨ v = 0xFF then v else old

/-- A register of a request port written, but for KS_CTL (R20, R653). -/
def KsPort.put (x : KsPort) (o v : Nat) : KsPort :=
  match o with
  | 0x00 => { x with op := bits v 7 0, kslot := slotField (bits v 15 8) x.kslot, dslot := slotField (bits v 23 16) x.dslot, flags := bits v 31 24 }
  | 0x04 =>
    let klen := if bits v 21 16 ≤ 52 then bits v 21 16 else bits x.attr 21 16
    let ktype := if bits v 24 22 ≤ 4 then bits v 24 22 else bits x.attr 24 22
    { x with attr := bits v 15 0 + 65536 * klen + 2 ^ 22 * ktype + 2 ^ 25 * bits v 26 25 }
  | 0x08 => { x with limit := bits v 23 0 }
  | 0x0C => { x with src := v % 2 ^ 32 }
  | 0x10 => { x with dst := v % 2 ^ 32 }
  | 0x14 => { x with
      dlen := if bits v 12 0 ≤ 4096 then bits v 12 0 else x.dlen, alen := if bits v 24 16 ≤ 256 then bits v 24 16 else x.alen }
  | 0x18 => { x with
      nlen := if bits v 4 0 ≤ 16 then bits v 4 0 else x.nlen, tlen := if bits v 13 8 ≤ 32 then bits v 13 8 else x.tlen }
  | 0x20 => { x with done := w1c x.done (v.testBit 1), refused := w1c x.refused (v.testBit 2) }
  | _ => x

/-- A write to the key-store interface, but for KS_CTL (R653). -/
def ksWrite (off : Nat) : Wr :=
  match place 5 0 0x100 off with
  | some (p, o) => fun v => onPort p fun x => x.put o v
  | none => wrNone

/-! PMU, thermal monitor, Steep and flash controller (R400, R672 to R674, R721, R741) -/

/-- Code of PSTATE (R674). -/
def PState.code : PState → Nat
  | .down => 0 | .up => 1 | .goingDown => 2 | .waking => 3

/-- Code of MSTATE (R674). -/
def MState.code : MState → Nat
  | .off => 0 | .on => 1 | .idle => 2 | .down => 3 | .probe => 4

/-- PMU_STAT (R673). -/
def Dev.pmuStat (d : Dev) : Nat :=
  b2n d.pmu.vmainOk + 2 * b2n d.pmu.vbkpOk + 4 * b2n d.mode.bkp + 8 * b2n d.pmu.vio33 + 16 * b2n d.pmu.bkpLow + 32 * b2n d.pmu.rcount

/-- PMU_VMON (R673). -/
def Pmu.vmon (p : Pmu) : Nat := p.vmainMon + 4096 * p.vbkpMon + 2 ^ 22 * p.vioMon

/-- PMU_EVT (R673). -/
def Pmu.evt (p : Pmu) : Nat := b2n p.evBkpLow + 2 * b2n p.evBkpOk + 4 * b2n p.evWakeFail + 8 * b2n p.evReturn

/-- PMU_CNT (R673). -/
def rdPmuCnt : Rd := rdAll [
  rcRead (rcKey 0x2006000C 0) 0 (fun d => d.pmu.cntSwitch) (fun d => d.onPmu fun p => { p with cntSwitch := 0 }),
  rcRead (rcKey 0x2006000C 8) 8 (fun d => d.pmu.cntRestart) (fun d => d.onPmu fun p => { p with cntRestart := 0 }),
  rcRead (rcKey 0x2006000C 16) 16 (fun d => d.pmu.cntWakeFail) (fun d => d.onPmu fun p => { p with cntWakeFail := 0 }),
  rcRead (rcKey 0x2006000C 24) 24 (fun d => d.pmu.cntSag) (fun d => d.onPmu fun p => { p with cntSag := 0 })]

/-- PMU_DOMd (R674). -/
def Dev.domReg (d : Dev) (k : Fin 49) : Nat :=
  let m := d.pmu.dom[k]
  m.p.code + 4 * (mstate d.mode.cur k.val).code + 32 * b2n (d.domBusy k) + 64 * b2n m.keep + 128 * m.idle

/-- PMU_DSTATd (R674). -/
def rdDstat (k : Fin 49) : Rd := rdAll [
  rcRead (rcKey (0x20060200 + 4 * k.val) 0) 0 (fun d => (d.pmu.dom[k]).wakes) (onDom k fun m => { m with wakes := 0 }),
  rcRead (rcKey (0x20060200 + 4 * k.val) 16) 16 (fun d => (d.pmu.dom[k]).smax) (onDom k fun m => { m with smax := 0 })]

/-- STP_STAT (R400). -/
def Steep.stat (t : Steep) : Nat :=
  t.stage.code + 8 * t.countOf .armed + 2048 * t.countOf .learn + 2 ^ 19 * t.countOf .occ

/-- STP_CFG0 (R400). -/
def StpCfg.word0 (g : StpCfg) : Nat := g.sweep + 256 * g.burst + 2 ^ 14 * g.amp + 2 ^ 20 * g.thA + 2 ^ 28 * g.thP

/-- STP_CFG1 (R400). -/
def StpCfg.word1 (g : StpCfg) : Nat := g.learn + 16 * g.mass + 4096 * g.confMs + 65536 * g.drift

/-- STP_CNT (R400). -/
def rdStpCnt : Rd := rdAll [
  rcRead (rcKey 0x2006080C 0) 0 (fun d => d.stp.cntTrig) (fun d => d.onStp fun t => { t with cntTrig := 0 }),
  rcRead (rcKey 0x2006080C 8) 8 (fun d => d.stp.cntFalse) (fun d => d.onStp fun t => { t with cntFalse := 0 }),
  rcRead (rcKey 0x2006080C 16) 16 (fun d => d.stp.cntMass) (fun d => d.onStp fun t => { t with cntMass := 0 }),
  rcRead (rcKey 0x2006080C 24) 24 (fun d => d.stp.cntDisc) (fun d => d.onStp fun t => { t with cntDisc := 0 })]

/-- STP_SWEEPS (R400). -/
def rdSweeps : Rd := rdAll [rd fun d => d.stp.sweeps % 2 ^ 24,
  rcRead (rcKey 0x20060810 24) 24 (fun d => d.stp.skip) (fun d => d.onStp fun t => { t with skip := 0 })]

/-- The words of STP_Cn (R400). -/
def StpC.word (x : StpC) (o : Nat) : Nat :=
  if o = 0 then x.ba + 1024 * x.bp + 65536 * x.state.code else x.sa + 1024 * x.sp + 65536 * x.lcount

/-- FL_CNT (R721). -/
def rdFlCnt : Rd := rdAll [
  rcRead (rcKey 0x20068008 0) 0 (fun d => d.nvm.eraseFail) (fun d => d.onNvm fun v => { v with eraseFail := 0 }),
  rcRead (rcKey 0x20068008 8) 8 (fun d => d.nvm.progFail) (fun d => d.onNvm fun v => { v with progFail := 0 }),
  rcRead (rcKey 0x20068008 16) 16 (fun d => d.nvm.retired) (fun d => d.onNvm fun v => { v with retired := 0 }),
  rcRead (rcKey 0x20068008 24) 24 (fun d => d.nvm.recovered) (fun d => d.onNvm fun v => { v with recovered := 0 })]

/-- FL_EVT (R721). -/
def Nvm.evt (v : Nvm) : Nat := b2n v.evRetired + 2 * b2n v.evRecovered + 4 * b2n v.evSpareOut

/-- FL_SECTs (R721). -/
def Sector.word (x : Sector) : Nat := x.phys + 256 * b2n x.bad + 65536 * x.growth

/-- A read of the flash controller (R721). -/
def flRead (off : Nat) : Rd :=
  match off with
  | 0x000 => rd fun d => d.nvm.flStat
  | 0x004 => rd fun d => d.nvm.evt
  | 0x008 => rdFlCnt
  | _ => match place 248 0x100 4 off with
    | some (s, _) => rd fun d => d.nvm.cal (d.nvm.sect[s]).word
    | none => rdNone

/-- A read of a register of Steep (R400). -/
def stpRead (off : Nat) : Rd :=
  match off with
  | 0x800 => rd fun d => d.stp.cfg.word0
  | 0x804 => rd fun d => d.stp.cfg.word1
  | 0x808 => rd fun d => d.stp.stat
  | 0x80C => rdStpCnt
  | 0x810 => rdSweeps
  | 0x814 => rd fun d => d.stp.detCoil + 256 * d.stp.nconf + 65536 * b2n d.stp.valid + 131072 * b2n d.stp.disc
  | 0x818 => rd fun d => d.stp.ticks.toNat
  | 0x81C => rd fun d => d.stp.slots
  | _ => match place 192 0x1000 8 off with
    | some (c, o) => rd fun d => (d.stp.coil[c]).word o
    | none => rdNone

/-- A read of the PMU block (R400, R672, R721, R741). -/
def pmuRead (off : Nat) : Rd :=
  match off with
  | 0x000 => rd Dev.pmuStat
  | 0x004 => rd fun d => d.pmu.vmon
  | 0x008 => rd fun d => d.pmu.evt
  | 0x00C => rdPmuCnt
  | 0x010 => rd fun d => d.pmu.vset + 2048 * d.pmu.guard
  | 0x020 => rd fun d => d.th.stat
  | _ => match place 49 0x100 4 off with
    | some (k, _) => rd fun d => d.domReg k
    | none => match place 49 0x200 4 off with
      | some (k, _) => rdDstat k
      | none => if 0x8000 ≤ off then flRead (off - 0x8000) else stpRead off

/-- PMU_DOMd written (R20, R670, R674). -/
def domWrite (k : Fin 49) : Wr := fun v d =>
  if k.val < 2 then d
  else
    let keep := v.testBit 6
    let code := bits v 17 7
    let ok := decide (1 ≤ code % 1024) && decide (code % 1024 ≤ 1000)
    let d := onDom k (fun m =>
      let n : Dom := { m with keep := keep, idle := if ok then code else m.idle }
      if m.keep && !keep then n.restart else n) d
    keepWake k d

/-- A field in a range, or its old value (R20). -/
def inRange (lo hi v old : Nat) : Nat := if lo ≤ v ∧ v ≤ hi then v else old

/-- STP_CFG0 and STP_CFG1 written (R20, R399, R400). -/
def StpCfg.put (g : StpCfg) (first : Bool) (v : Nat) : StpCfg :=
  if first then { g with
    sweep := inRange 5 200 (bits v 7 0) g.sweep, burst := inRange 4 32 (bits v 13 8) g.burst, amp := inRange 1 63 (bits v 19 14) g.amp
    thA := inRange 4 255 (bits v 27 20) g.thA, thP := inRange 1 15 (bits v 31 28) g.thP }
  else { g with
    learn := inRange 4 15 (bits v 3 0) g.learn, mass := inRange 8 192 (bits v 11 4) g.mass
    confMs := inRange 1 15 (bits v 15 12) g.confMs, drift := inRange 4 7 (bits v 18 16) g.drift }

/-- A write to the PMU block (R400, R673, R674, R721, R741). -/
def pmuWrite (off : Nat) : Wr :=
  match off with
  | 0x008 => fun v d => d.onPmu fun p => { p with
      evBkpLow := w1c p.evBkpLow (v.testBit 0), evBkpOk := w1c p.evBkpOk (v.testBit 1)
      evWakeFail := w1c p.evWakeFail (v.testBit 2), evReturn := w1c p.evReturn (v.testBit 3) }
  | 0x020 => fun v d => d.onTh fun t => { t with hotEv := w1c t.hotEv (v.testBit 10), shutEv := w1c t.shutEv (v.testBit 11) }
  | 0x800 => fun v d => d.onStp fun t => { t with cfg := t.cfg.put true v }
  | 0x804 => fun v d => d.onStp fun t => { t with cfg := t.cfg.put false v }
  | 0x814 => fun v d => d.onStp fun t => { t with valid := w1c t.valid (v.testBit 16), disc := w1c t.disc (v.testBit 17) }
  | 0x8004 => fun v d => d.onNvm fun f => { f with
      evRetired := w1c f.evRetired (v.testBit 0), evRecovered := w1c f.evRecovered (v.testBit 1), evSpareOut := w1c f.evSpareOut (v.testBit 2) }
  | _ => match place 49 0x100 4 off with
    | some (k, _) => domWrite k
    | none => wrNone

/-! Room radio (R435 to R437) -/

/-- UHF_CNT (R436). -/
def rdUhfCnt : Rd := rdAll [
  rcRead (rcKey 0x23000008 0) 0 (fun d => d.uhf.cals) (fun d => d.onUhf fun u => { u with cals := 0 }),
  rcRead (rcKey 0x23000008 8) 8 (fun d => d.uhf.calFail) (fun d => d.onUhf fun u => { u with calFail := 0 }),
  rcRead (rcKey 0x23000008 16) 16 (fun d => d.uhf.cntResid) (fun d => d.onUhf fun u => { u with cntResid := 0 }),
  rcRead (rcKey 0x23000008 24) 24 (fun d => d.uhf.preempt) (fun d => d.onUhf fun u => { u with preempt := 0 })]

/-- COEX_STAT (R437). -/
def rdCoexStat : Rd := rdAll [rd fun d => d.coexStat % 65536,
  rcRead (rcKey 0x2300000C 16) 16 (fun d => d.uhf.yields) (fun d => d.onUhf fun u => { u with yields := 0 }),
  rcRead (rcKey 0x2300000C 24) 24 (fun d => d.uhf.denied) (fun d => d.onUhf fun u => { u with denied := 0 })]

/-- A read of the room radio (R435). -/
def uhfRead (off : Nat) : Rd :=
  match off with
  | 0x000 => rd fun d => d.uhf.ctlWord
  | 0x004 => rd Dev.uhfStat
  | 0x008 => rdUhfCnt
  | 0x00C => rdCoexStat
  | _ => match place 64 0x100 4 off with
    | some (c, _) => rd fun d => d.uhfCh c
    | none => rdNone

/-- UHF_CTL written: the kill, the configuration, the target channel and its HOP, the carrier (R407, R408, R410, R416, R436). -/
def uhfCtlWrite : Wr := fun v d =>
  let c : Fin 64 := Fin.ofNat 64 (bits v 5 0)
  let a : Fin 8 := Fin.ofNat 8 (bits v 8 6)
  let d := if v.testBit 11 = d.uhf.txkill then d else txkillWrite (v.testBit 11) d
  let d := if a = d.uhf.acfgT then d else acfgTo a d
  let d := if v.testBit 10 then hopTo c d else d.onUhf fun u => { u with target := c }
  if v.testBit 9 = d.uhf.carrier then d else carrierWrite (v.testBit 9) d

/-- A write to the room radio (R435, R436). -/
def uhfWrite (off : Nat) : Wr :=
  match off with
  | 0x000 => uhfCtlWrite
  | 0x004 => fun v d => d.onUhf fun u => { u with href := w1c u.href (v.testBit 15) }
  | _ => wrNone

/-! Cask link (R497) -/

/-- CL_CNT (R497). -/
def rdClCnt : Rd := rdAll [
  rcRead (rcKey 0x24000004 0) 0 (fun d => d.cl.crcErr) (fun d => d.onCl fun l => { l with crcErr := 0 }),
  rcRead (rcKey 0x24000004 16) 16 (fun d => d.cl.gaps) (fun d => d.onCl fun l => { l with gaps := 0 })]

/-- CL_REGr: its low word loads the latch of the high word (R8, R497). -/
def rdClReg (r : Fin 12) (o : Nat) : Rd := fun d =>
  if o = 0 then
    let hi : Word := word (leAt d.cl.regs (16 + 8 * r.val) 4)
    (leAt d.cl.regs (12 + 8 * r.val) 4, d.onCl fun l => { l with latch := upd l.latch r fun _ => hi })
  else ((d.cl.latch[r]).toNat, d)

/-- A read of CL_QRY (R498). -/
def rdClQry (m : Master) (q arg : Nat) : Rd := fun d =>
  if m = .sc ∧ 1 ≤ q ∧ q ≤ 5 ∧ arg < 1024 ∧ !d.cl.busy then (1, sendQuery .raw q arg d) else (0, d)

/-- A read of the Cask link (R493, R494, R497). -/
def clRead (m : Master) (off : Nat) : Rd :=
  match off with
  | 0x000 => rd fun d => d.cl.stat
  | 0x004 => rdClCnt
  | 0x008 => rd fun d => leAt d.cl.cycle 0 4
  | 0x00C => rd fun d => leAt d.cl.cycle 4 4
  | 0x050 => rd fun d => leAt d.cl.regs 0 4
  | 0x054 => rd fun d => leAt d.cl.regs 4 4
  | 0x100 => rd fun d => d.cl.qstat
  | _ =>
    if 0x8000 ≤ off then rdClQry m ((off - 0x8000) / 0x1000) (off % 0x1000 / 4)
    else match place 12 0x080 8 off with
      | some (r, o) => rdClReg r o
      | none => match place 4 0x010 0x10 off with
        | some (c, o) => if o < 12 then rd fun d => leAt d.cl.cycle (12 + 12 * c.val + o) 4 else rdNone
        | none => match place 64 0x400 4 off with
          | some (i, _) => rd fun d => leAt d.cl.qbuf (4 * i.val) 4
          | none => rdNone

/-! Kiln (R699) -/

/-- KILN_STAT (R699). -/
def Dev.kilnStat (d : Dev) : Nat :=
  let survey := !(d.activeTags fun c => decide (c.opc = 0x84) && decide (c.phase = .coilSet)).isEmpty
  b2n survey + 2 * b2n d.kiln.due + 4 * b2n d.kiln.recordOk + 256 * d.kiln.hist.length + 65536 * d.kiln.sdays

/-- KILN_EVT (R699). -/
def Kiln.evt (k : Kiln) : Nat := k.evState.toNat + 128 * b2n k.evLever + 256 * b2n k.evDue

/-- KILN_LEV (R699). -/
def Dev.kilnLev (d : Dev) : Nat := d.pmu.guard + 256 * d.hf.kwadj + 65536 * twos 8 d.lau.kadj + 2 ^ 24 * d.kiln.kaFd

/-- KILN_MEAS (R699). -/
def Kiln.meas (k : Kiln) : Nat := k.dMax.getD 0 % 65536 + 65536 * (k.dRef.getD 0 % 65536)

/-- A read of Kiln (R699). -/
def kilnRegRead (off : Nat) : Rd :=
  match off with
  | 0x000 => rd fun d => d.kiln.cfg.surveyDays + 256 * d.kiln.cfg.warnDays + 2 ^ 18 * d.kiln.cfg.fdTgt
  | 0x004 => rd Dev.kilnStat
  | 0x008 => rd fun d => d.kiln.ksec
  | 0x00C => rd fun d => d.kiln.evt
  | 0x010 => rd Dev.kilnLev
  | 0x014 => rd fun d => d.kiln.meas
  | _ => match place 7 0x100 8 off with
    | some (m, o) =>
      if o = 0 then rd fun d => marginCode (d.kiln.margin[m]).margin + 65536 * (d.kiln.margin[m]).state
      else rd fun d => (d.kiln.margin[m]).days
    | none => rdNone

/-- A write to Kiln (R20, R699). -/
def kilnRegWrite (off : Nat) : Wr :=
  match off with
  | 0x000 => fun v d => d.onKiln fun k => { k with cfg := {
      surveyDays := inRange 1 255 (bits v 7 0) k.cfg.surveyDays, warnDays := inRange 1 1000 (bits v 17 8) k.cfg.warnDays
      fdTgt := inRange 1 255 (bits v 25 18) k.cfg.fdTgt } }
  | 0x00C => fun v d => d.onKiln fun k => { k with
      evState := k.evState &&& ~~~(BitVec.ofNat 7 v), evLever := w1c k.evLever (v.testBit 7), evDue := w1c k.evDue (v.testBit 8) }
  | _ => wrNone

end Sys2Proof.Machine
end

