-- ==== Sys2Proof/Machine/RegZone.lean ====
section
/-! DEFINITION. Registers of the time base, of the drive controller with the probe sequencer, of the receive channels, of Lauter and of
the zone engines on the internal bus (R34). -/

namespace Sys2Proof.Machine
open Sys2Proof

/-! Time base (R124 to R133) -/

/-- TB_CNT (R130). -/
def rdTbCnt : Rd := rdAll [
  rcRead (rcKey 0x2007001C 0) 0 (fun d => d.tb.steps) (fun d => d.onTb fun t => { t with steps := 0 }),
  rcRead (rcKey 0x2007001C 8) 8 (fun d => d.tb.rejects) (fun d => d.onTb fun t => { t with rejects := 0 }),
  rcRead (rcKey 0x2007001C 16) 16 (fun d => d.tb.holds) (fun d => d.onTb fun t => { t with holds := 0 }),
  rcRead (rcKey 0x2007001C 24) 24 (fun d => d.tb.gaps) (fun d => d.onTb fun t => { t with gaps := 0 })]

/-- Change of one phase compare. -/
def onPcmp (n : Fin 32) (f : Pcmp → Pcmp) (d : Dev) : Dev := d.onTb fun t => { t with pcmp := upd t.pcmp n f }

/-- PCMPn_STAT (R132). -/
def rdPcmpStat (n : Fin 32) : Rd := rdAll [rd fun d => b2n (d.tb.pcmp[n]).fired,
  rcRead (rcKey (0x2007010C + 0x10 * n.val) 8) 8 (fun d => (d.tb.pcmp[n]).miss) (onPcmp n fun c => { c with miss := 0 })]

/-- PCMPn_CTL (R132). -/
def Pcmp.ctlWord (c : Pcmp) (n : Fin 32) : Nat := b2n c.en + 2 * b2n c.evt + 4 * b2n (c.ztrig && decide (n.val < 24))

/-- Two entries of the quiet map, as one word (R124, R133). -/
def Tb.qword (t : Tb) (b : Fin 2) (g : Fin 24) (k : Nat) : Nat :=
  ((t.qmap[b])[g])[Fin.ofNat 64 k].word + 65536 * ((t.qmap[b])[g])[Fin.ofNat 64 (k + 1)].word

/-- A read of the time base (R124). -/
def tbRead (off : Nat) : Rd :=
  match off with
  | 0x000 => rd Dev.phc
  | 0x004 => rd fun d => d.tb.stat
  | 0x008 => rd fun d => d.tb.cfg.word
  | 0x00C => rd fun d => d.tb.zcCfg.word
  | 0x010 => rd fun d => d.tb.freq
  | 0x014 => rd fun d => d.tb.inc
  | 0x018 => rd fun d => twos 16 d.tb.err
  | 0x01C => rdTbCnt
  | 0x024 => rd fun d => d.tb.capPhc.toNat
  | 0x028 => rd fun d => d.tb.capTsc.toNat % 2 ^ 32
  | 0x02C => rd fun d => d.tb.capTsc.toNat / 2 ^ 32
  | _ => match place 32 0x100 0x10 off with
    | some (n, o) => (match o with
      | 0x0 => rd fun d => (d.tb.pcmp[n]).tgt.toNat
      | 0x4 => rd fun d => (d.tb.pcmp[n]).per
      | 0x8 => rd fun d => (d.tb.pcmp[n]).ctlWord n
      | _ => rdPcmpStat n)
    | none => match place 2 0x1000 0x1000 off with
      | some (b, o) => (match place 24 0 0x80 o with
        | some (g, q) => rd fun d => d.tb.qword b g (q / 2)
        | none => rdNone)
      | none => rdNone

/-- PCMPn_CTL written; an enabled compare whose target has passed fires (R107, R132). -/
def pcmpCtlWrite (n : Fin 32) : Wr := fun v d =>
  let d := onPcmp n (fun c => { c with
    en := v.testBit 0, evt := v.testBit 1, ztrig := v.testBit 2 && decide (n.val < 24) }) d
  if d.pcmpDue n then pcmpFire n d else d

/-- A write to a phase compare (R16, R20, R108, R132). -/
def pcmpWrite (n : Fin 32) (o : Nat) : Wr :=
  match o with
  | 0x0 => pcmpTgtWrite n
  | 0x4 => fun v => onPcmp n fun c => if bits v 16 0 ≤ 65536 then { c with per := bits v 16 0 } else c
  | 0x8 => pcmpCtlWrite n
  | _ => fun v => onPcmp n fun c => { c with fired := w1c c.fired (v.testBit 0) }

/-- A write to the time base (R124). -/
def tbWrite (off : Nat) : Wr :=
  match off with
  | 0x004 => tbStatWrite
  | 0x008 => tbCfgWrite false
  | 0x00C => tbCfgWrite true
  | 0x020 => fun v d => if v.testBit 0 then tbCapGo d else d
  | _ => match place 32 0x100 0x10 off with
    | some (n, o) => pcmpWrite n o
    | none => wrNone

/-! Drive controller and probe sequencer (R174 to R178, R294, R295, R340) -/

/-- A sum of bits, bit k of Kettle k. -/
def ketBits (f : Fin 4 → Bool) : Nat := ((List.finRange 4).map fun k => b2n (f k) * 2 ^ k.val).sum

/-- DRV_STAT (R175). -/
def Dev.drvStat (d : Dev) : Nat :=
  b2n d.pin.fkill + 2 * b2n d.drv.swkill + 4 * b2n d.drv.layoutOk + 16 * ketBits (fun k => d.linkUp k) + 256 * d.kfault +
  4096 * ketBits (fun k => (d.drv.ket[k]).kLim) + 65536 * b2n d.drv.totLim + 131072 * b2n d.drv.measLim

/-- DRV_KSTATk (R176). -/
def Kettle.stat (k : Kettle) : Nat :=
  temp8 k.temp + 256 * (k.vdrv % 4096) + 2 ^ 20 * b2n k.uv + 2 ^ 21 * b2n k.ov + 2 ^ 22 * b2n k.otWarn + 2 ^ 23 * b2n k.otShut +
  2 ^ 24 * b2n k.link

/-- DRV_FCNT (R176). -/
def rdFcnt : Rd := rdAll [
  rcRead (rcKey 0x22080030 0) 0 (fun d => d.drv.coilf) (fun d => d.onDrv fun v => { v with coilf := 0 }),
  rcRead (rcKey 0x22080030 16) 16 (fun d => d.drv.ketf) (fun d => d.onDrv fun v => { v with ketf := 0 })]

/-- Number of an owning zone, 31 for none (R177, R242). -/
def ownerNo (o : Option (Fin 24)) : Nat :=
  match o with
  | some n => n.val
  | none => 31

/-- COIL_STATn (R177). -/
def Coil.stat (c : Coil) : Nat :=
  c.role.code + 16 * ownerNo c.owner + 512 * b2n c.oc + 1024 * b2n c.opn + 2048 * b2n c.ron + 4096 * b2n c.latched +
  65536 * c.fcount + 2 ^ 20 * c.word.amp

/-- The words of COIL_CALn (R178). -/
def Drive.calWord (v : Drive) (c : Fin 192) (o : Nat) : Nat :=
  let k := (v.coil[c]).cal
  let vd := v.vOf c
  match o with
  | 0x0 => k.trim + 64 * b2n k.valid + 65536 * k.phTrim
  | 0x4 => k.rLoad + 65536 * k.gain
  | 0x8 => if vd = 0 then 0 else min 65535 (pFull vd k.eff.rLoad) + 65536 * aMax vd k.eff.rLoad
  | _ => 0

/-- COIL_NBn_j (R156, R178). -/
def Coil.nbWord (c : Coil) (j : Nat) : Nat :=
  match c.lay.nb[j]? with
  | none => 0xFF
  | some b =>
    match (if c.cal.valid then c.cal.cpl[j]? else none) with
    | some (re, im) => b + 256 * twos 8 re + 65536 * twos 8 im
    | none => b

/-- PRB_STAT (R294). -/
def Dev.prbStat (d : Dev) : Nat :=
  let elig := (d.prb.coil.toList.filter fun c => decide (c.elig = 0)).length
  d.prb.passUs + 65536 * elig + 2 ^ 24 * d.prb.bursts.length + 2 ^ 28 * b2n (d.prb.images.any Image.running)

/-- PRB_CNT (R294). -/
def rdPrbCnt : Rd := rdAll [
  rcRead (rcKey 0x2208800C 0) 0 (fun d => d.prb.cntTrig) (fun d => d.onPrb fun p => { p with cntTrig := 0 }),
  rcRead (rcKey 0x2208800C 8) 8 (fun d => d.prb.cntFalse) (fun d => d.onPrb fun p => { p with cntFalse := 0 }),
  rcRead (rcKey 0x2208800C 16) 16 (fun d => d.prb.cntInval) (fun d => d.onPrb fun p => { p with cntInval := 0 }),
  rcRead (rcKey 0x2208800C 24) 24 (fun d => d.prb.cntBskip) (fun d => d.onPrb fun p => { p with cntBskip := 0 })]

/-- PRB_CFG (R294). -/
def Probe.cfgWord (p : Probe) : Nat := p.amp + 256 * p.thS + 65536 * p.thM + 2 ^ 24 * b2n p.en + 2 ^ 25 * p.drift

/-- PRB_Cn (R295). -/
def PrbC.word (c : PrbC) : Nat :=
  c.elig + 8 * b2n c.bvalid + 16 * b2n c.bsrc + 32 * b2n c.chg +
  64 * b2n (c.occ && (decide (c.elig = 0) || decide (c.elig = 2))) + 65536 * min 65535 c.delta

/-- HF_FTH (R340). -/
def Hf.fth (h : Hf) : Nat := h.rfldTh + 256 * h.wfldTh + 65536 * h.kwadj + 2 ^ 24 * b2n h.wnocal

/-- A read of the arrays of the drive controller (R174, R295). -/
def drvArrayRead (off : Nat) : Rd :=
  match place 192 0x1000 4 off with
  | some (c, _) => rd fun d => (d.drv.coil[c]).stat
  | none => match place 192 0x2000 0x10 off with
    | some (c, o) => rd fun d => d.drv.calWord c o
    | none => match place 192 0x4000 0x20 off with
      | some (c, o) => if o < 24 then rd fun d => (d.drv.coil[c]).nbWord (o / 4) else rdNone
      | none => match place 192 0x9000 4 off with
        | some (c, _) => rd fun d => (d.prb.coil[c]).word
        | none => match place 4 0x010 4 off with
          | some (k, _) => rd fun d => d.estKetMw k % 4096 + 65536 * (d.drv.ket[k]).meas
          | none => match place 4 0x020 4 off with
            | some (k, _) => rd fun d => (d.drv.ket[k]).stat
            | none => rdNone

/-- A read of the drive controller's range (R174, R294, R295, R340). -/
def drvRead (off : Nat) : Rd :=
  match off with
  | 0x0000 => rd fun d => b2n d.drv.swkill + 2 * d.drv.ramp + 256 * d.drv.probeRsv
  | 0x0004 => rd Dev.drvStat
  | 0x0008 => rd fun d => d.estTotMw % 2 ^ 14 + 65536 * d.drv.meas
  | 0x0030 => rdFcnt
  | 0x8000 => rd fun d => d.prb.cfgWord
  | 0x8008 => rd Dev.prbStat
  | 0x800C => rdPrbCnt
  | 0x8010 => rd fun d => d.prb.passes.toNat
  | 0xA000 => rd fun d => d.hf.fth
  | 0xA004 => rd fun d => d.hf.fref
  | _ => drvArrayRead off

/-- DRV_CTL written (R20, R169, R175). -/
def drvCtlWrite : Wr := fun v d =>
  let d := d.onDrv fun w => { w with ramp := bits v 4 1, probeRsv := inRange 0 30 (bits v 15 8) w.probeRsv }
  if v.testBit 0 = d.drv.swkill then d else swkillWrite (v.testBit 0) d

/-- COIL_STATn written: its W1C flags and REARM (R16, R172, R177). -/
def coilStatWrite (c : Fin 192) : Wr := fun v d =>
  let d := d.onDrv fun w => w.onCoil c fun k => { k with
    oc := w1c k.oc (v.testBit 9), opn := w1c k.opn (v.testBit 10), ron := w1c k.ron (v.testBit 11) }
  if v.testBit 28 then rearm c d else d

/-- DRV_STAT written (R175). -/
def drvStatWrite : Wr := fun v d =>
  d.onDrv fun w => { w with
    ket := Vector.ofFn fun k => { w.ket[k] with kLim := w1c (w.ket[k]).kLim (v.testBit (12 + k.val)) }
    totLim := w1c w.totLim (v.testBit 16), measLim := w1c w.measLim (v.testBit 17) }

/-- DRV_KSTATk written (R176). -/
def kstatWrite (k : Fin 4) : Wr := fun v d =>
  d.onDrv fun w => w.onKet k fun x => { x with
    uv := w1c x.uv (v.testBit 20), ov := w1c x.ov (v.testBit 21), otWarn := w1c x.otWarn (v.testBit 22)
    otShut := w1c x.otShut (v.testBit 23), link := w1c x.link (v.testBit 24) }

/-- PRB_CFG written (R20, R294). -/
def prbCfgWrite : Wr := fun v d =>
  d.onPrb fun p => { p with
    amp := inRange 1 255 (bits v 7 0) p.amp, thS := inRange 1 255 (bits v 15 8) p.thS, thM := inRange 1 255 (bits v 23 16) p.thM
    en := v.testBit 24, drift := inRange 4 7 (bits v 27 25) p.drift }

/-- HF_FTH written (R20, R340). -/
def fthWrite : Wr := fun v d =>
  d.onHf fun h => { h with
    rfldTh := inRange 0 200 (bits v 7 0) h.rfldTh, wfldTh := inRange 0 200 (bits v 15 8) h.wfldTh, wnocal := v.testBit 24 }

/-- A write to the drive controller's range (R174, R294, R340). -/
def drvWrite (off : Nat) : Wr :=
  match off with
  | 0x0000 => drvCtlWrite
  | 0x0004 => drvStatWrite
  | 0x8000 => prbCfgWrite
  | 0x8004 => fun v d => if v.testBit 0 then clearBaselines d else d
  | 0xA000 => fthWrite
  | 0xA004 => fun v d => d.onHf fun h => { h with fref := bits v 15 0 }
  | _ => match place 192 0x1000 4 off with
    | some (c, _) => coilStatWrite c
    | none => match place 4 0x020 4 off with
      | some (k, _) => kstatWrite k
      | none => wrNone

/-! Receive channels (R206 to R208) -/

/-- RX_CFG (R207). -/
def Rx.cfgWord (r : Rx) : Nat := r.gInit + 8 * r.agcWin + 256 * r.lowTh + 2048 * r.probeG + 16384 * b2n r.csub + 32768 * r.dcr

/-- RX_CNT (R207). -/
def rdRxCnt : Rd := rdAll [
  rcRead (rcKey 0x22040008 0) 0 (fun d => d.rx.cntOvr) (fun d => d.onRx fun r => { r with cntOvr := 0 }),
  rcRead (rcKey 0x22040008 16) 16 (fun d => d.rx.cntSat) (fun d => d.onRx fun r => { r with cntSat := 0 })]

/-- RX_CHn (R208). -/
def Dev.rxChReg (d : Dev) (c : Fin 192) : Nat :=
  let x := d.rx.ch[c]
  x.gain + 8 * b2n x.hvQ + 16 * x.histQ + 128 * b2n x.hvF + 256 * x.histF + 2048 * b2n (d.setOf c).isSome + 4096 * b2n (d.chInv c) +
  8192 * d.chCause c + 65536 * (d.chRem c % 256) + 2 ^ 24 * b2n x.ovr + 2 ^ 25 * b2n x.sat

/-- A read of the receive channels (R206). -/
def rxRead (off : Nat) : Rd :=
  match off with
  | 0x000 => rd fun d => d.rx.cfgWord
  | 0x008 => rdRxCnt
  | _ => match place 192 0x1000 4 off with
    | some (c, _) => rd fun d => d.rxChReg c
    | none => rdNone

/-- RX_CFG written (R20, R207). -/
def rxCfgWrite : Wr := fun v d =>
  probeGainWrite (inRange 0 6 (bits v 13 11) d.rx.probeG) <| d.onRx fun r => { r with
    gInit := inRange 0 6 (bits v 2 0) r.gInit, agcWin := inRange 4 31 (bits v 7 3) r.agcWin, lowTh := inRange 1 7 (bits v 10 8) r.lowTh
    csub := v.testBit 14, dcr := inRange 0 2 (bits v 16 15) r.dcr }

/-- A write to the receive channels (R206). -/
def rxWrite (off : Nat) : Wr :=
  match off with
  | 0x000 => rxCfgWrite
  | 0x004 => fun v d => if v.testBit 0 then hclr d else d
  | _ => match place 192 0x1000 4 off with
    | some (c, _) => fun v => onCh c fun x => { x with ovr := w1c x.ovr (v.testBit 24), sat := w1c x.sat (v.testBit 25) }
    | none => wrNone

/-! Lauter (R240 to R243) -/

/-- Zones that hold a class (R241). -/
def Lauter.holding (l : Lauter) (k : LClass) : Nat := (l.zone.toList.filter fun z => decide (z.cls = k)).length

/-- LAU_STAT (R241). -/
def Lauter.stat (l : Lauter) : Nat :=
  l.freeEng.length + 128 * l.holding .recog + 4096 * l.holding .track +
  2 ^ 17 * (l.zone.toList.filter fun z => z.wait.isSome).length + 2 ^ 22 * l.probeEngs.length

/-- LAU_CNT (R241). -/
def rdLauCnt : Rd := rdAll [
  rcRead (rcKey 0x2200000C 0) 0 (fun d => d.lau.waits) (fun d => d.onLau fun l => { l with waits := 0 }),
  rcRead (rcKey 0x2200000C 16) 16 (fun d => d.lau.waitMax) (fun d => d.onLau fun l => { l with waitMax := 0 })]

/-- The templates that run on an engine (R217, R231, R242). -/
def Dev.running (d : Dev) (e : Engine) : List Tmpl :=
  match e.cls, e.zone with
  | .recog, _ => library.filter fun t => decide (t.group = e.group)
  | .track, some n => maskTmpls d.lau.zone[n].tmask
  | _, _ => []

/-- FILL of an engine: a slot that its lanes read has not had a span of words since it was emptied (R214, R229, R239, R242). -/
def Dev.fills (d : Dev) (i : Fin 64) : Bool :=
  let e := d.lau.eng[i]
  e.folds.any fun x => decide (d.now < x.2 + 16 * (if e.cls = .probe then 256 else slotSpan (d.running e) x.1))

/-- LE_STATe (R242). -/
def Dev.leStat (d : Dev) (i : Fin 64) : Nat :=
  let e := d.lau.eng[i]
  (if e.cls = .probe then 30 else ownerNo e.zone) + 32 * e.cls.code + 128 * e.group + 512 * e.lanes + 2 ^ 17 * b2n (d.fills i)

/-- LZn_STAT (R243). -/
def Dev.lzStat (d : Dev) (n : Fin 24) : Nat :=
  let z := d.lau.zone[n]
  let es := d.lau.zoneEngs n
  let first := match es with
    | e :: _ => e.val
    | [] => 0x3F
  z.cls.code + 4 * b2n z.wait.isSome + 8 * es.length + 32 * b2n (es.any fun e => d.fills e) + 64 * b2n z.hold +
  128 * b2n z.listen + 256 * b2n (d.zoneQuiet n) + 512 * z.dets.length + 4096 * z.refuse + 65536 * first

/-- LZn_DET0 to LZn_DET3 of the oldest record; 0 with an empty queue (R243). -/
def LZone.detWord (z : LZone) (i : Nat) : Nat :=
  match z.dets.head? with
  | none => 0
  | some r =>
    match i with
    | 0 => r.tid + 16 * r.var + 64 * b2n r.quiet + 128 * r.score + 2 ^ 17 * r.th + 2 ^ 27 * r.seq + 2 ^ 31
    | 1 => r.phc
    | 2 => r.tscl
    | _ => r.mag + 65536 * r.phase + 2 ^ 27 * r.frac

/-- LZn_CNT (R243). -/
def rdLzCnt (n : Fin 24) : Rd := rdAll [
  rcRead (rcKey (0x22010024 + 0x40 * n.val) 0) 0 (fun d => (d.lau.zone[n]).det) (onLz n fun z => { z with det := 0 }),
  rcRead (rcKey (0x22010024 + 0x40 * n.val) 8) 8 (fun d => (d.lau.zone[n]).alt) (onLz n fun z => { z with alt := 0 }),
  rcRead (rcKey (0x22010024 + 0x40 * n.val) 16) 16 (fun d => (d.lau.zone[n]).lost) (onLz n fun z => { z with lost := 0 }),
  rcRead (rcKey (0x22010024 + 0x40 * n.val) 24) 24 (fun d => (d.lau.zone[n]).inelig) (onLz n fun z => { z with inelig := 0 })]

/-- A read of zone n's block of Lauter (R240, R243). -/
def lzRead (n : Fin 24) (o : Nat) : Rd :=
  match o with
  | 0x00 => rd fun d => (d.lau.zone[n]).reqClass + 65536 * (d.lau.zone[n]).reqMask
  | 0x04 => rd fun d => d.lzStat n
  | 0x10 => rd fun d => (d.lau.zone[n]).detWord 0
  | 0x14 => rd fun d => (d.lau.zone[n]).detWord 1
  | 0x18 => rd fun d => (d.lau.zone[n]).detWord 2
  | 0x1C => rd fun d => (d.lau.zone[n]).detWord 3
  | 0x24 => rdLzCnt n
  | _ => rdNone

/-- A read of Lauter (R240). -/
def lauRead (off : Nat) : Rd :=
  match off with
  | 0x000 => rd fun d => d.lau.probeEng + 16 * d.lau.peakWin
  | 0x004 => rd fun d => d.lau.stat
  | 0x008 => rd fun d => twos 8 d.lau.kadj
  | 0x00C => rdLauCnt
  | _ => match place 64 0x1000 4 off with
    | some (e, _) => rd fun d => d.leStat e
    | none => match place 24 0x10000 0x40 off with
      | some (n, o) => lzRead n o
      | none => rdNone

/-- LAU_CFG written (R20, R234, R241). -/
def lauCfgWrite : Wr := fun v d =>
  probeEngWrite (bits v 3 0) (d.onLau fun l => { l with peakWin := inRange 1 31 (bits v 8 4) l.peakWin })

/-- A write to Lauter (R240). -/
def lauWrite (off : Nat) : Wr :=
  match off with
  | 0x000 => lauCfgWrite
  | _ => match place 24 0x10000 0x40 off with
    | some (n, o) => (match o with
      | 0x00 => fun v => lzReq n (bits v 1 0) (bits v 29 16)
      | 0x20 => fun v d => if v.testBit 0 then dpop n d else d
      | _ => wrNone)
    | none => wrNone

/-! Zone engines (R179, R209, R296, R339, R381, R626) -/

/-- ZEn_STAT (R296). -/
def Dev.zeStat (d : Dev) (n : Fin 24) : Nat :=
  let z := d.sf.zone[n]
  let own := d.drv.coil.toList.filter fun c => decide (c.owner = some n)
  let st := match z.state with
    | .free => 0
    | .opened => 1
    | .closing => 2
  st + 4 * z.entry.getD 0x1FF + 2048 * (own.filter fun c => decide (c.role = .active)).length + 32768 * own.length +
  2 ^ 20 * b2n (d.prbOk n) + 2 ^ 21 * b2n z.oref

/-- ZEn_TX_CTL (R179). -/
def ZoneTx.ctlWord (t : ZoneTx) : Nat := b2n t.field + 4 * t.minScale

/-- ZEn_TX_STAT (R179). -/
def ZoneTx.stat (t : ZoneTx) : Nat :=
  t.scale + 512 * b2n t.limCoil + 1024 * b2n t.limKet + 2048 * b2n t.limTot + 4096 * b2n t.meas + 8192 * b2n t.rule +
  16384 * b2n t.refused + 32768 * b2n t.held.isSome + 65536 * b2n t.on + 131072 * b2n t.coilf + 2 ^ 20 * t.ruleCode

/-- ZEn_TXWk (R179). -/
def TxW.word (w : TxW) : Nat := w.coil + 256 * w.role + 2048 * w.amp + 2 ^ 19 * w.phase

/-- ZEn_RX_CTL (R209). -/
def ZoneRx.ctlWord (z : ZoneRx) : Nat := z.filt + 4 * z.agc + 16 * z.gfix

/-- ZEn_RX_STAT (R209). -/
def Dev.zrxStat (d : Dev) (n : Fin 24) : Nat :=
  let z := d.rx.zone[n]
  z.gain + 8 * b2n z.frozen + 16 * b2n z.held.isSome + 32 * z.filtAct + 128 * (d.members n).length + 4096 * b2n (d.zoneInv n) +
  8192 * b2n z.clip

/-- ZEn_FR_CTL as it reads (R339). -/
def Framer.ctlWord (f : Framer) : Nat :=
  f.tech + 8 * f.txRate + 128 * f.rxRate + 2048 * b2n f.crcTx + 4096 * b2n f.crcRx + 8192 * b2n f.par + 16384 * b2n f.arm

/-- ZEn_FR_STAT (R339). -/
def Dev.frStat (d : Dev) (n : Fin 24) : Nat :=
  let f := d.hf.fr[n]
  b2n (decide (f.tx ≠ .idle)) + 2 * b2n (d.lau.zone[n]).listen + 4 * b2n f.txDone + 8 * b2n f.rxDone + 16 * b2n f.noResp +
  32 * b2n f.crcErr + 64 * b2n f.parErr + 128 * b2n f.codErr + 256 * b2n f.coll + 512 * b2n f.abandoned + 1024 * b2n f.rxLost +
  2048 * b2n f.rxBuf + 4096 * b2n (d.prbOk n) + 8192 * f.rxLastBits + 65536 * f.rxLen

/-- ZEn_FR_CNT (R339). -/
def rdFrCnt (n : Fin 24) : Rd :=
  let a := 0x21000224 + 0x10000 * n.val
  rdAll [
    rcRead (rcKey a 0) 0 (fun d => (d.hf.fr[n]).cntLost) (onFr n fun f => { f with cntLost := 0 }),
    rcRead (rcKey a 8) 8 (fun d => (d.hf.fr[n]).cntIgnored) (onFr n fun f => { f with cntIgnored := 0 }),
    rcRead (rcKey a 12) 12 (fun d => (d.hf.fr[n]).cntExcess) (onFr n fun f => { f with cntExcess := 0 }),
    rcRead (rcKey a 16) 16 (fun d => (d.hf.fr[n]).cntDown) (onFr n fun f => { f with cntDown := 0 }),
    rcRead (rcKey a 20) 20 (fun d => (d.hf.fr[n]).cntWrunk) (onFr n fun f => { f with cntWrunk := 0 })]

/-- ZEn_MB_STAT (R381). -/
def MbStat.word (m : MbStat) : Nat :=
  m.rtype + 16 * m.pwr + 64 * b2n m.ext + 128 * b2n m.err + 256 * m.var + 1024 * b2n m.valid + 2048 * b2n m.hdrErr

/-- ZEn_TMk_CTL (R626). -/
def ZTimer.ctlWord (z : ZTimer) : Nat := b2n z.run + 2 * b2n z.cen + 4 * z.start

/-- A read of the buffers, timers, weights and coil list of a zone engine (R179, R296, R339, R626). -/
def zeArrayRead (n : Fin 24) (off : Nat) : Rd :=
  match place 16 0x040 4 off with
  | some (k, _) => rd fun d => ((d.sf.zone[n]).coilk[k]).1 + 256 * ((d.sf.zone[n]).coilk[k]).2
  | none => match place 16 0x0C0 4 off with
    | some (k, _) => rd fun d => ((d.tx[n]).txw[k]).word
    | none => match place 2 0x300 0x10 off with
      | some (k, o) => (match o with
        | 0x0 => rd fun d => ((d.tim.zt[n])[k]).cnt.toNat
        | 0x4 => rd fun d => ((d.tim.zt[n])[k]).cmp.toNat
        | 0x8 => rd fun d => ((d.tim.zt[n])[k]).ctlWord
        | _ => rd fun d => b2n ((d.tim.zt[n])[k]).fired)
      | none =>
        if 0x1000 ≤ off ∧ off < 0x2000 then rd fun d => leAt (d.hf.fr[n]).txBuf (off - 0x1000) 4
        else if 0x2000 ≤ off ∧ off < 0x3000 then rd fun d => leAt (d.hf.fr[n]).rx0 (off - 0x2000) 4
        else if 0x3000 ≤ off ∧ off < 0x4000 then rd fun d => leAt (d.hf.fr[n]).rx1 (off - 0x3000) 4
        else rdNone

/-- A read of zone engine n. -/
def zeRead (n : Fin 24) (off : Nat) : Rd :=
  match off with
  | 0x000 => rd fun d => d.zeStat n
  | 0x080 => rd fun d => (d.tx[n]).ctlWord
  | 0x084 => rd fun d => (d.tx[n]).stat
  | 0x100 => rd fun d => (d.rx.zone[n]).ctlWord
  | 0x104 => rd fun d => d.zrxStat n
  | 0x140 => rd fun d => fldField (d.hf.fr[n]).fld + 65536 * b2n (d.hf.fr[n]).fld.isSome
  | 0x200 => rd fun d => (d.hf.fr[n]).ctlWord
  | 0x204 => rd fun d => (d.hf.fr[n]).len + 8192 * (d.hf.fr[n]).lastBits
  | 0x208 => rd fun d => (d.hf.fr[n]).wopen
  | 0x20C => rd fun d => (d.hf.fr[n]).wclose
  | 0x210 => rd fun d => d.frStat n
  | 0x214 => rd fun d => (d.hf.fr[n]).collBit
  | 0x218 => rd fun d => (d.hf.fr[n]).tend.toNat
  | 0x220 => rd fun d => (d.hf.fr[n]).depth + 256 * (d.hf.fr[n]).pause + 65536 * (d.hf.fr[n]).edge
  | 0x224 => rdFrCnt n
  | 0x228 => rd fun d => (d.hf.fr[n]).mb.word
  | _ => zeArrayRead n off

/-- ZEn_CTL written, by SC alone: CLOSE before OPEN (R269, R272, R296). A close so asked for has no cause of R271: its commands
complete with ABORTED (DESIGN CHOICE, log entry 50). -/
def zeCtlWrite (n : Fin 24) : Wr := fun v d =>
  let d := if v.testBit 1 then closeZone n 0 (some (.aborted, 0)) d else d
  if v.testBit 0 then zoneOpen n d else d

/-- ZEn_TX_CTL written (R20, R146, R149, R179). -/
def txCtlWrite (n : Fin 24) : Wr := fun v d =>
  let d := onTxZ n (fun t => { t with minScale := inRange 0 256 (bits v 10 2) t.minScale }) d
  let d := fieldWrite n (v.testBit 0) d
  if v.testBit 1 then txCommit n d else d

/-- ZEn_TX_STAT written (R179). -/
def txStatWrite (n : Fin 24) : Wr := fun v =>
  onTxZ n fun t => { t with
    limCoil := w1c t.limCoil (v.testBit 9), limKet := w1c t.limKet (v.testBit 10), limTot := w1c t.limTot (v.testBit 11)
    meas := w1c t.meas (v.testBit 12), rule := w1c t.rule (v.testBit 13), refused := w1c t.refused (v.testBit 14)
    coilf := w1c t.coilf (v.testBit 17) }

/-- ZEn_RX_CTL written (R187, R195, R209). -/
def rxCtlWrite (n : Fin 24) : Wr := fun v d =>
  let d := if bits v 1 0 = (d.rx.zone[n]).filt then d else filtWrite n (bits v 1 0) d
  agcWrite n (bits v 3 2) (bits v 6 4) d

/-- ZEn_FR_CTL written (R302, R306, R339). -/
def frCtlWrite (n : Fin 24) : Wr := fun v d =>
  let listen := (d.lau.zone[n]).listen
  let d := onFr n (fun f => f.ctl listen v) d
  let d := if v.testBit 16 then abandon n d else d
  if v.testBit 15 then frSend n d else d

/-- ZEn_FR_STAT written (R339). -/
def frStatWrite (n : Fin 24) : Wr := fun v =>
  onFr n fun f => { f with
    txDone := w1c f.txDone (v.testBit 2), rxDone := w1c f.rxDone (v.testBit 3), noResp := w1c f.noResp (v.testBit 4)
    crcErr := w1c f.crcErr (v.testBit 5), parErr := w1c f.parErr (v.testBit 6), codErr := w1c f.codErr (v.testBit 7)
    coll := w1c f.coll (v.testBit 8), abandoned := w1c f.abandoned (v.testBit 9), rxLost := w1c f.rxLost (v.testBit 10) }

/-- The four bytes of a word put into a buffer (R7). -/
def putWord (b : List Byte) (i v : Nat) : List Byte :=
  (b.take i ++ List.replicate (i - b.length) (byteOf 0) ++ le 4 v ++ b.drop (i + 4)).take 4096

/-- A zone timer written; its event in the same cycle wins over CNT and RUN (R621, R622, R626). -/
def ztWrite (n : Fin 24) (k : Fin 2) (o : Nat) : Wr := fun v =>
  onZt n k fun z => match o with
    | 0x0 => if z.ev then z else { z with cnt := word v }
    | 0x4 => { z with cmp := word v }
    | 0x8 => { z with run := v.testBit 0 || z.ev, cen := v.testBit 1, start := bits v 3 2 }
    | _ => { z with fired := w1c z.fired (v.testBit 0) }

/-- A COIL field: a coil index or 0xFF, unused; 192 to 254 are out of range (R20, R179, R296). -/
def coilField (v old : Nat) : Nat := if v < 192 ∨ v = 255 then v else old

/-- The stated codes of a role field; others leave it unchanged (R20, R179). -/
def roleField (v old : Nat) : Nat := inRange 0 4 v old

/-- A write to the buffers, timers, weights and coil list of a zone engine; the coil list is SC's (R179, R296, R339, R626). -/
def zeArrayWrite (m : Master) (n : Fin 24) (off : Nat) : Wr :=
  match place 16 0x040 4 off with
  | some (k, _) => if m = .sc then fun v => onZone n fun z => { z with coilk := upd z.coilk k fun x => (coilField (bits v 7 0) x.1, roleField (bits v 10 8) x.2) }
    else wrNone
  | none => match place 16 0x0C0 4 off with
    | some (k, _) => fun v => onTxZ n fun t => { t with txw := upd t.txw k fun w =>
        { coil := coilField (bits v 7 0) w.coil, role := roleField (bits v 10 8) w.role, amp := bits v 18 11, phase := bits v 29 19 } }
    | none => match place 2 0x300 0x10 off with
      | some (k, o) => ztWrite n k o
      | none =>
        if 0x1000 ≤ off ∧ off < 0x2000 then fun v => onFr n fun f => { f with txBuf := putWord f.txBuf (off - 0x1000) v } else wrNone

/-- A write to zone engine n. -/
def zeWrite (m : Master) (n : Fin 24) (off : Nat) : Wr :=
  match off with
  | 0x000 => fun v => onZone n fun z => { z with oref := w1c z.oref (v.testBit 21) }
  | 0x004 => if m = .sc then zeCtlWrite n else wrNone
  | 0x080 => txCtlWrite n
  | 0x084 => txStatWrite n
  | 0x100 => rxCtlWrite n
  | 0x104 => fun v => onZRx n fun z => { z with clip := w1c z.clip (v.testBit 13) }
  | 0x200 => frCtlWrite n
  | 0x204 => fun v => onFr n fun f => { f with len := inRange 0 4096 (bits v 12 0) f.len, lastBits := bits v 15 13 }
  | 0x208 => fun v => onFr n fun f => { f with wopen := bits v 19 0 }
  | 0x20C => fun v => onFr n fun f => { f with wclose := bits v 27 0 }
  | 0x210 => frStatWrite n
  | 0x21C => fun v => rxAck n (bits v 1 0)
  | 0x220 => fun v => onFr n fun f => { f with depth := bits v 7 0, pause := inRange 1 255 (bits v 15 8) f.pause, edge := bits v 19 16 }
  | 0x228 => fun v => onFr n fun f => { f with mb := { f.mb with hdrErr := w1c f.mb.hdrErr (v.testBit 11) } }
  | _ => zeArrayWrite m n off

end Sys2Proof.Machine
end

