-- ==== Sys2Proof/Machine/RegMap.lean ====
section
/-! DEFINITION. The internal address map: regions, permissions, bus errors, stalls on a powered-down domain (R34 to R40, R665). -/

namespace Sys2Proof.Machine
open Sys2Proof

/-- A region of the map (R34). -/
inductive Region where
  | rom | sram | flash | evr | tim | hsp | msp | queues | ks | pmu | tb
  | ze (n : Fin 24)
  | lau | uhf | cl | kiln | xip
deriving DecidableEq, Repr

/-- The 64 KiB regions from 0x2000_0000 on (R34). -/
def coreRegion : Nat → Option Region
  | 0 => some .evr | 1 => some .tim | 2 => some .hsp | 3 => some .msp | 4 => some .queues | 5 => some .ks | 6 => some .pmu | 7 => some .tb
  | _ => none

/-- The region that holds an address, and the offset in it (R34). -/
def regionOf (a : Nat) : Option (Region × Nat) :=
  if a < 0x10000 then some (.rom, a)
  else if 0x10000000 ≤ a ∧ a < 0x10600000 then some (.sram, a - 0x10000000)
  else if 0x18000000 ≤ a ∧ a < 0x18200000 then some (.flash, a - 0x18000000)
  else if 0x20000000 ≤ a ∧ a < 0x20080000 then (coreRegion ((a - 0x20000000) / 0x10000)).map fun r => (r, a % 0x10000)
  else if 0x22000000 ≤ a ∧ a < 0x22100000 then some (.lau, a - 0x22000000)
  else if 0x23000000 ≤ a ∧ a < 0x23100000 then some (.uhf, a - 0x23000000)
  else if 0x24000000 ≤ a ∧ a < 0x24010000 then some (.cl, a - 0x24000000)
  else if 0x25000000 ≤ a ∧ a < 0x25010000 then some (.kiln, a - 0x25000000)
  else if 0x40000000 ≤ a ∧ a < 0x48000000 then some (.xip, a - 0x40000000)
  else (place 24 0x21000000 0x10000 a).map fun x => (.ze x.1, x.2)

/-- The power domain of a register or of a memory (R27, R34, R661). -/
def Region.dom (r : Region) (off : Nat) : Fin 49 :=
  match r with
  | .sram => Fin.ofNat 49 (2 + off / 0x80000)
  | .ks => 14
  | .pmu => 0
  | .ze n => Fin.ofNat 49 (16 + n.val / 6)
  | .lau => (match place 192 0x41000 4 off with
    | some (c, _) => Fin.ofNat 49 (20 + c.val / 8)
    | none => 15)
  | .uhf => 48
  | _ => 1

/-! Permissions (R34, R40) -/

/-- Zone whose block of Lauter an offset is in, and the offset in the block (R240). -/
def lauZone (off : Nat) : Option (Fin 24 × Nat) := place 24 0x10000 0x40 off

/-- Zone of a capture queue's registers (R608). -/
def queueZone (off : Nat) : Option (Fin 24) := (place 24 0x1000 0x40 off).map (·.1)

/-- Timer of an offset of the timers block (R624). -/
def timerAt (off : Nat) : Option (Fin 32) := (place 32 0x100 0x20 off).map (·.1)

/-- Zone whose phase compare an offset of the time base belongs to (R124, R132). -/
def pcmpZone (off : Nat) : Option (Fin 24) :=
  match place 32 0x100 0x10 off with
  | some (n, _) => if h : n.val < 24 then some ⟨n.val, h⟩ else none
  | none => none

/-- Shared source of an offset of the Event Router (R584). -/
def sharedAt (off : Nat) : Option (Fin 288) := (place 288 0x8080 4 off).map (·.1)

/-- A zone of zone core k (R27). -/
def ofCore (k : Fin 4) (n : Fin 24) : Bool := decide (n.val / 6 = k.val)

/-- Access of the firmware of zone core k (R34). -/
def Dev.mayZc (d : Dev) (k : Fin 4) (wr : Bool) (r : Region) (off : Nat) : Bool :=
  match r with
  | .rom => !wr
  | .sram => true
  | .flash => !wr
  | .evr => (match sharedAt off with
    | some i => decide (d.srcTarget (.shared i) = k.val)
    | none => decide (off / 0x1000 = k.val))
  | .tim => true
  | .queues => (queueZone off).any (ofCore k)
  | .ks => decide (off / 0x100 = k.val + 1) || (decide (off = 0x1000) && !wr)
  | .tb => !wr || (pcmpZone off).any (ofCore k)
  | .ze n => ofCore k n
  | .lau => !wr || (lauZone off).any fun x => ofCore k x.1
  | .cl => !wr
  | .kiln => !wr
  | .xip => !wr
  | .hsp => false
  | .msp => false
  | .pmu => false
  | .uhf => false

/-- Access of an instance of module x on zone core k (R34, R620). -/
def Dev.mayExt (d : Dev) (k : Fin 4) (x : Nat) (wr : Bool) (r : Region) (off : Nat) : Bool :=
  let own (n : Fin 24) : Bool := d.holdsZone x n && ofCore k n
  match r with
  | .sram => d.nvm.inPart x k (sramBase + off) 4
  | .flash =>
    let m := d.nvm.mods[Fin.ofNat 63 x]
    !wr && decide (m.sect * sectorBytes ≤ off) && decide (off < (m.sect + m.nsect) * sectorBytes)
  | .evr => (match sharedAt off with
    | some i => decide (d.srcTarget (.shared i) = k.val)
    | none => decide (off / 0x1000 = k.val))
  | .tim => (decide (off < 0xC) && !wr) || (timerAt off).any fun n => decide ((d.tim.gt[n]).module = x)
  | .queues => (queueZone off).any own
  | .ks => decide (off / 0x100 = k.val + 1) || (decide (off = 0x1000) && !wr)
  | .tb => !wr || (pcmpZone off).any own
  | .ze n => own n
  | .lau => (lauZone off).any fun y => own y.1 && (if wr then decide (y.2 = 0x20) else decide (y.2 = 0x04) || (decide (0x10 ≤ y.2) && decide (y.2 < 0x20)))
  | _ => false

/-- The map permits an access (R34). -/
def Dev.may (d : Dev) (m : Master) (wr : Bool) (r : Region) (off : Nat) : Bool :=
  match m with
  | .sc => true
  | .zc k => d.mayZc k wr r off
  | .ext k x => d.mayExt k x wr r off
  | .hsp => false

/-! Accesses on a powered block -/

/-- Master of extension code reads EVR_MOD: what it receives is not given. -/
def noEvrMod (m : Master) (r : Region) (off : Nat) : Bool :=
  match m, r with
  | .ext _ _, .evr => decide (off % 0x1000 = 0x00C) && decide (off < 0x6000)
  | _, _ => false

/-- A read of a register of a device block (R15, R19, R40). -/
def devRead (m : Master) (r : Region) (off : Nat) : Rd :=
  match r with
  | .evr => evrRead off
  | .tim => timRead m off
  | .hsp => hspRead off
  | .msp => mspRead off
  | .queues => qRead off
  | .ks => ksRead off
  | .pmu => pmuRead off
  | .tb => tbRead off
  | .ze n => zeRead n off
  | .lau => if off < 0x40000 then lauRead off else if off < 0x80000 then rxRead (off - 0x40000) else drvRead (off - 0x80000)
  | .uhf => uhfRead off
  | .cl => clRead m off
  | .kiln => kilnRegRead off
  | _ => rdNone

/-- A write of a register of a device block (R15, R16, R18 to R20, R37, R40). -/
def devWrite (m : Master) (r : Region) (off : Nat) : Wr :=
  match r with
  | .evr => evrWrite m off
  | .tim => timWrite m off
  | .hsp => hspWrite off
  | .msp => mspWrite off
  | .queues => qWrite off
  | .ks => ksWrite off
  | .pmu => pmuWrite off
  | .tb => tbWrite off
  | .ze n => zeWrite m n off
  | .lau => if off < 0x40000 then lauWrite off else if off < 0x80000 then rxWrite (off - 0x40000) else drvWrite (off - 0x80000)
  | .uhf => uhfWrite off
  | .kiln => kilnRegWrite off
  | _ => wrNone

/-- The word of a memory at an offset, none for a region that is none (R7, R34, R709). -/
def State.memWord (s : State) (r : Region) (off : Nat) : Option Nat :=
  match r with
  | .rom => some (leAt ((List.range 4).map fun i => Config.rom (off + i)) 0 4)
  | .sram => some (leAt (memReads sramDflt s.sram (sramBase + off) 4) 0 4)
  | .flash =>
    if off < 2 * sectorBytes then
      some (leAt ((List.range 4).map fun i => s.dev.nvm.jByte (decide (sectorBytes ≤ off)) (off % sectorBytes + i)) 0 4)
    else some (leAt (s.dev.nvm.read s.flash (off / sectorBytes) (off % sectorBytes) 4) 0 4)
  | _ => none

/-- The core of an access, in the order of R38. -/
def Master.core : Master → Fin 5
  | .sc => 0
  | .zc k => ⟨k.val + 1, by omega⟩
  | .ext k _ => ⟨k.val + 1, by omega⟩
  | .hsp => 0

/-- What a read returns where the map does not permit it (R34, R36). -/
def deniedRead (m : Master) (a : Nat) (d : Dev) : Dev :=
  match m with
  | .ext _ x => readOut 0 (moduleFault (Fin.ofNat 63 x) a 0 d)
  | _ => readOut (Config.noAccess (d.now * 2 ^ 32 + a)).toNat d

/-- A write where the map does not permit it (R34, R36). -/
def deniedWrite (m : Master) (a : Nat) (d : Dev) : Dev :=
  match m with
  | .ext _ x => moduleFault (Fin.ofNat 63 x) a 1 d
  | _ => d

/-- Byte buffers of a zone engine (R339). -/
def frameBuf (off : Nat) : Bool := decide (0x1000 ≤ off) && decide (off < 0x4000)

/-- A read at an offset that is no multiple of 4: registers stand at multiples of 4 but for the quiet map's entries of odd bins and
the bytes of the frame buffers (R19, R124, R339). -/
def oddRead (r : Region) (off : Nat) : Rd :=
  match r with
  | .tb => if 0x1000 ≤ off ∧ off < 0x3000 ∧ off % 4 = 2 then fun d => ((tbRead (off - 2) d).1 / 65536, d) else rdNone
  | .ze n => if frameBuf off then zeArrayRead n off else rdNone
  | _ => rdNone

/-- A write at such an offset (R19, R339). -/
def oddWrite (m : Master) (r : Region) (off : Nat) : Wr :=
  match r with
  | .ze n => if frameBuf off then zeArrayWrite m n off else wrNone
  | _ => wrNone

/-- A permitted read carried out. A window read takes the word that its address lies in (DESIGN CHOICE, log entry 59). -/
def readNow (m : Master) (r : Region) (off a : Nat) (s : State) : State :=
  match s.memWord r off with
  | some w => s.on (readOut w)
  | none =>
    if r = .xip then s.on (xipRead m.core (off - off % 4))
    else if off % 4 ≠ 0 then s.on fun d => readOut (oddRead r off d).1 (oddRead r off d).2
    else if noEvrMod m r off then s.on fun d => readOut (Config.noAccess (d.now * 2 ^ 32 + a)).toNat d
    else s.on fun d => readOut (devRead m r off d).1 (devRead m r off d).2

/-- A permitted write carried out; boot ROM, flash and the Cask link take none (R34, R37, R562). -/
def writeNow (m : Master) (r : Region) (off v : Nat) (s : State) : State :=
  if r = .sram then { s with sram := memWrites sramDflt (sramBase + off) (le 4 v) s.sram }
  else if r = .xip then s.on (xipError m.core off)
  else if off % 4 ≠ 0 then s.on (oddWrite m r off v)
  else if r = .ks ∧ off < 0x500 ∧ off % 0x100 = 0x1C then
    (if v.testBit 0 then s.on fun _ => ksGo m (Fin.ofNat 5 (off / 0x100)) s else s)
  else s.on (devWrite m r off v)

/-- An access to an address in no region: a bus error, and for extension code an access that the map does not permit (R35, R36). -/
def outside (m : Master) (a : Nat) (data : Option Nat) (d : Dev) : Dev :=
  match data with
  | none => deniedRead m a (busError m a d)
  | some _ => deniedWrite m a (busError m a d)

/-- An access whose block is powered: permitted, or not (R34, R36). -/
def accessNow (m : Master) (a : Nat) (data : Option Nat) (s : State) : State :=
  match regionOf a with
  | none => s.on (outside m a data)
  | some (r, off) =>
    match data with
    | none => if s.dev.may m false r off then readNow m r off a s else s.on (deniedRead m a)
    | some v => if s.dev.may m true r off then writeNow m r off v s else s.on (deniedWrite m a)

/-! Accesses (R35, R39, R665) -/

/-- The code of a master runs: BCLK runs, a zone core's domain is up, and an instance of a running module is there (R30, R715). -/
def Dev.codeRuns (d : Dev) (m : Master) : Bool :=
  d.bclk && (match m with
  | .sc => true
  | .zc k => decide ((d.pmu.dom[Fin.ofNat 49 (16 + k.val)]).p = .up)
  | .ext k x =>
    let y := d.nvm.mods[Fin.ofNat 63 x]
    decide ((d.pmu.dom[Fin.ofNat 49 (16 + k.val)]).p = .up) && decide (x < 63) && decide (y.st = .running) && y.parts.any fun p => decide (p.1 = k)
  | .hsp => false)

/-- The core of a master has an access that stalls (R561, R665). -/
def Dev.stalled (d : Dev) (m : Master) : Bool :=
  d.bus.stalls.any (fun x => decide (x.master.core = m.core)) || d.msp.misses.any fun x => decide (x.core = m.core)

/-- The flash controller erases or programs (R714, R721). -/
def Nvm.flBusy (v : Nvm) : Bool := !v.jobs.isEmpty

/-- An access that stalls for a domain, or for the flash controller (R665, R714). -/
def stall (m : Master) (dom a : Nat) (data : Option Nat) (d : Dev) : Dev :=
  let now := d.now
  d.onBus fun b => { b with stalls := b.stalls ++ [{ master := m, dom := dom, addr := a, data := data, since := now }] }

/-- An access of 32 bits: it completes, ends with a bus error, or stalls until the domain is ready (R34 to R40, R665). A core that
stalls issues none, and neither does one that is not running. -/
def access (m : Master) (a : Nat) (data : Option Nat) (s : State) : State :=
  if !s.dev.codeRuns m || s.dev.stalled m then s
  else
    match regionOf a with
    | none => s.on (outside m a data)
    | some (r, off) =>
      let k := r.dom off
      if r = .flash ∧ data = none ∧ s.dev.nvm.flBusy ∧ s.dev.may m false r off then s.on (stall m 49 a none)
      else if k.val < 2 ∨ !s.dev.may m data.isSome r off then accessNow m a data s
      else
        let s := s.on (wakeDom k)
        if (s.dev.pmu.dom[k]).p = .up then accessNow m a data s
        else s.on (stall m k.val a data)

/-! A domain becomes ready (R661, R665, R666) -/

/-- The stall of an access in 0.1 µs, for SMAX (R674). -/
def stallTenths (t : Nat) : Nat := min 65535 (t * 1000 / 21696)

/-- A stalled access completes. -/
def completeStall (k : Fin 49) (x : Stall) (s : State) : State :=
  let t := stallTenths (s.dev.now - x.since)
  let s := s.on (onDom k fun m => { m with smax := max m.smax t })
  accessNow x.master x.addr x.data s

/-- The accesses that wait for a domain, in the order of R38. -/
def Dev.stalledOn (d : Dev) (k : Fin 49) : List Stall :=
  (List.finRange 5).flatMap fun c => d.bus.stalls.filter fun x => decide (x.dom = k.val) && decide (x.master.core = c)

/-- An operation of the flash controller has ended: the reads of flash that stalled for it complete, in the order of R38 (R714). -/
def flashReads (s : State) : State :=
  let xs := (List.finRange 5).flatMap fun c => s.dev.bus.stalls.filter fun x => decide (x.dom = 49) && decide (x.master.core = c)
  xs.foldl (fun s x => accessNow x.master x.addr x.data s)
    (s.on fun d => d.onBus fun b => { b with stalls := b.stalls.filter fun x => decide (x.dom ≠ 49) })

/-- A sector erase ends after `us` µs, verified where `ok` (R712 to R714). -/
def execFlashEraseDone (ok : Bool) (us : Nat) (s : State) : Out :=
  if s.dev.nvm.jobs = [] then .next s.ev else .next (flashReads (flashErased ok us s.ev))

/-- A program ends, verified or not (R712 to R714). -/
def execFlashProgramDone (ok : Bool) (s : State) : Out :=
  if s.dev.nvm.jobs = [] then .next s.ev else .next (flashReads (programDone ok s.ev))

/-- A waking domain is ready, its stalled accesses complete, and a power-down that waits starts (R88, R613, R661, R665, R666). -/
def wakeReady (k : Fin 49) (s : State) : State :=
  if (s.dev.pmu.dom[k]).p ≠ .waking then s
  else if k = 1 then s.on coreUp
  else
    let down := (s.dev.pmu.dom[k]).redown
    let xs := s.dev.stalledOn k
    let s := s.on fun d => domUp k (d.onBus fun b => { b with stalls := b.stalls.filter fun x => decide (x.dom ≠ k.val) })
    let s := xs.foldl (fun s x => completeStall k x s) s
    (if down then s.on (domGoing k) else s).on keepDone

/-- A waking domain becomes ready (R661). -/
def execDomainWakeReady (k : Fin 49) (s : State) : Out := .next (wakeReady k s.ev)

/-- Before a backup switch-over the step in progress of every domain on which an access stalls completes, and with it the access
(R666). -/
def finishStalls (s : State) : State :=
  (doms.filter fun k => s.dev.bus.stalls.any fun x => decide (x.dom = k.val)).foldl (fun s k => wakeReady k (s.on (downDone k))) s

/-- A recognised fall of VMAIN below 9.0 V, to `mv` (R658, R666). -/
def execVmainFall (mv : Nat) (s : State) : Out :=
  let s := s.ev
  .next (vmainFall mv (if mv < 9000 ∧ s.dev.pmu.vbkpOk ∧ s.dev.bclk then finishStalls s else s))

end Sys2Proof.Machine
end

