-- ==== Sys2Proof/Machine/Clock.lean ====
section
/-! DEFINITION. What a clock cycle does with no command at hand: the counters of the device (R30, R84, R611, R613, R615, R621, R663,
R680). -/

namespace Sys2Proof.Machine
open Sys2Proof

/-- 1/32 BCLK cycles in an LPCLK cycle (R613). -/
def lpUnits : Nat := 211875

/-- 1/32 BCLK cycles in a second (R30). -/
def secUnits : Nat := 6942720000

/-- KSEC goes on by a part of a second (R680). -/
def Kiln.addTime (k : Kiln) (u : Nat) : Kiln :=
  let t := k.frac + u
  { k with ksec := (k.ksec + t / secUnits) % 2 ^ 32, frac := t % secUnits }

/-- LPCLK counted while BCLK runs (R613). -/
def Pmu.addLp (p : Pmu) : Pmu :=
  let t := p.lpFrac + 32
  { p with lp := p.lp + t / lpUnits, lpFrac := t % lpUnits }

/-- Zones whose listening window is open (R681). -/
def Lauter.listening (l : Lauter) : Nat := (l.zone.toList.filter LZone.listen).length

/-- One BCLK cycle. The one that ends does what it still holds: the compares that are due fire, the flushes act, and a refusal that is due is
reported (R597, R617, R638, R644). Then TSC, PHC, timers, zone timers at carrier cycles, idle timers, LPCLK, KSEC, Kiln's listening time and the room radio's ramp that is due go on, and
the lines are sampled (R17, R84, R416, R570, R611, R615, R621, R663, R680, R681). -/
def bclkTick (d : Dev) : Dev :=
  let d := idleTick (secRelease (refusalEnd (flushAll (fireTimers d.event))))
  let d := d.onTim fun t =>
    let c := decide ((t.tsc + 1).toNat % 16 = 0)
    { t with tsc := t.tsc + 1, gt := t.gt.map Gt.tick, zt := t.zt.map fun b => b.map (ZTimer.tick c) }
  let d := d.onTb fun t => { t with phc := t.phc + BitVec.ofNat 56 t.inc }
  let open_ := d.lau.listening
  let d := d.onKiln fun k => { k.addTime 32 with listen := k.listen + open_ }
  sampleLines (rampStart ((d.onPmu Pmu.addLp).onBus fun b => { b with rcRead := [] }))

/-- One LPCLK cycle while BCLK stands still (R613, R680). -/
def lpTick (d : Dev) : Dev :=
  (d.onPmu fun p => { p with lp := p.lp + 1 }).onKiln fun k => k.addTime lpUnits

/-- One clock cycle: of BCLK where it runs, else of LPCLK where AON is powered (R30); a new cycle for the order of R38. -/
def tick (d : Dev) : Dev :=
  let d := if d.bclk then bclkTick d else if d.mode.cur = .m0 then d else lpTick d
  d.onCyc fun c => { c with slot := 0 }

end Sys2Proof.Machine
end

