-- ==== Sys2Proof/Machine/CoreRows.lean ====
section
/-! DEFINITION. The accesses of software: register accesses of the cores and frames of HSP, each at its place in the order of a BCLK cycle
(R16, R17, R38). -/

namespace Sys2Proof.Machine
open Sys2Proof

/-! The order of a cycle (R16, R17, R38) -/

/-- The cycle in which the access of port `p` falls: the present one where neither it, nor a later port, nor hardware has acted in it, else the
next (DESIGN CHOICE, log entry 70). -/
def startCore (p : Fin 6) (d : Dev) : Dev := (if d.cyc.slot ≤ p.val then d else tick d).onCyc fun c => { c with slot := p.val + 1 }

/-- An access of port `p` that changes the state. -/
def coreRowS (p : Fin 6) (s : State) (f : State → State) : Out := .next (f (s.on (startCore p)))

/-- An access of port `p` that changes the device alone. -/
def coreRow (p : Fin 6) (s : State) (f : Dev → Dev) : Out := coreRowS p s fun s => s.on f

/-- Port of the core of zone `n`'s cluster (R27). -/
def zcPort (n : Fin 24) : Fin 6 := ⟨n.val / 6 + 1, by omega⟩

/-- Port that works the window of an Event Router target (R566). -/
def tgtPort (t : Fin 6) : Fin 6 := if t = 4 then 0 else if h : t.val < 4 then ⟨t.val + 1, by omega⟩ else 5

/-- Port of the consumer of a queue: SC for EVQ and RSPQ, the zone core for a capture queue (R588). -/
def QId.port : QId → Fin 6
  | .cq n => zcPort n
  | _ => 0

/-- Port of the core that works compare `n`: the zone core for 0 to 23, SC for the rest (R108). -/
def pcmpPort (n : Fin 32) : Fin 6 := if h : n.val < 24 then zcPort ⟨n.val, h⟩ else 0

/-- A write of a register or of a memory word by a core (R15, R39). -/
def execRegisterWrite (m : Master) (a v : Nat) (s : State) : Out := coreRowS m.port s (access m a (some (v % 2 ^ 32)))

/-- A read of a register, of an RC field or of a memory word by a core (R15, R17, R39). -/
def execRcFieldRead (m : Master) (a : Nat) (s : State) : Out := coreRowS m.port s (access m a none)

/-- A write of TB_CFG or TB_ZC (R106). -/
def execTbCfgWrite (zc : Bool) (v : Nat) (s : State) : Out := coreRow 0 s (tbCfgWrite zc v)

/-- A write of 1 to TB_CAP.GO (R87). -/
def execTbCapGo (s : State) : Out := coreRow 0 s tbCapGo

/-- A write of a phase compare target (R108). -/
def execPcmpTgtWrite (n : Fin 32) (v : Nat) (s : State) : Out := coreRow (pcmpPort n) s (pcmpTgtWrite n v)

/-- A write of 1 to ZEn_TX_CTL.COMMIT (R146, R147). -/
def execTxCommit (n : Fin 24) (s : State) : Out := coreRow (zcPort n) s (txCommit n)

/-- A write of ZEn_TX_CTL.FIELD (R149). -/
def execFieldWrite (n : Fin 24) (on : Bool) (s : State) : Out := coreRow (zcPort n) s (fieldWrite n on)

/-- A write of DRV_CTL.SWKILL (R169). -/
def execSwkillWrite (on : Bool) (s : State) : Out := coreRow 0 s (swkillWrite on)

/-- A write of 1 to COIL_STATn.REARM (R172). -/
def execRearm (c : Fin 192) (s : State) : Out := coreRow 0 s (rearm c)

/-- A write of ZEn_RX_CTL.FILT (R187). -/
def execFiltWrite (n : Fin 24) (p : Nat) (s : State) : Out := coreRow (zcPort n) s (filtWrite n p)

/-- A write of ZEn_RX_CTL.AGC and GFIX (R195). -/
def execAgcModeWrite (n : Fin 24) (agc gfix : Nat) (s : State) : Out := coreRow (zcPort n) s (agcWrite n agc gfix)

/-- A write of 1 to RX_CMD.HCLR (R196). -/
def execHclr (s : State) : Out := coreRow 0 s hclr

/-- A write of 1 to LZn_DPOP (R227). -/
def execLzDpop (n : Fin 24) (s : State) : Out := coreRow (zcPort n) s (dpop n)

/-- A write of LZn_REQ (R232). -/
def execLzReq (n : Fin 24) (cls m : Nat) (s : State) : Out := coreRow (zcPort n) s (lzReq n cls m)

/-- A change of LAU_CFG.PROBE_ENG (R234). -/
def execProbeEngChange (v : Nat) (s : State) : Out := coreRow 0 s (probeEngWrite v)

/-- A write of 1 to PRB_CMD.BCLR (R255). -/
def execPrbBclr (s : State) : Out := coreRow 0 s clearBaselines

/-- A write of 1 to ZEn_CTL.OPEN (R269). -/
def execZoneOpen (n : Fin 24) (s : State) : Out := coreRow 0 s (zoneOpen n)

/-- A write of 1 to ZEn_FR_CTL.SEND (R302, R303). -/
def execFrameSend (n : Fin 24) (s : State) : Out := coreRow (zcPort n) s (frSend n)

/-- A write of 1 to ZEn_FR_CTL.ABANDON (R306). -/
def execFrameAbandon (n : Fin 24) (s : State) : Out := coreRow (zcPort n) s (abandon n)

/-- A write of ZEn_FR_RXACK (R305). -/
def execRxAck (n : Fin 24) (ack : Nat) (s : State) : Out := coreRow (zcPort n) s (rxAck n ack)

/-- UHF_CTL.HOP written 1 with CHAN `c` (R416, R421, R422). -/
def execUhfHop (c : Fin 64) (s : State) : Out := coreRow 0 s (hopTo c)

/-- UHF_CTL.CARRIER written (R407, R426). -/
def execUhfCarrierWrite (v : Bool) (s : State) : Out := coreRow 0 s (carrierWrite v)

/-- UHF_CTL.TXKILL written (R408). -/
def execUhfTxkillWrite (v : Bool) (s : State) : Out := coreRow 0 s (txkillWrite v)

/-- UHF_CTL.ACFG written (R410, R417). -/
def execUhfAcfgWrite (a : Fin 8) (s : State) : Out := coreRow 0 s fun d => roomNochan (acfgTo a d)

/-- A read of CL_QRY with QCODE `q` and QARG `arg` (R497, R498). -/
def execClQryRead (m : Master) (q arg : Nat) (s : State) : Out :=
  coreRowS m.port s (access m (0x24008000 + 0x1000 * (q % 8) + 4 * (arg % 1024)) none)

/-- A STATUS frame, or with `op` of 6 or more a frame of a reserved kind; `part` gives the bits of a byte 0 that ends early. -/
def execStatusFrame (addr op n extra : Nat) (part : Option (Fin 8)) (s : State) : Out :=
  coreRow 5 s fun d => match part with
    | some k => partFrame k.val d
    | none => hspFrame addr (if op % 16 < 6 then 0 else op % 16) n extra 0 (fun d => ([], d)) d

/-- A PKT_WR frame with the packet `pkt` (R544). -/
def execPktWr (addr : Nat) (pkt : List Byte) (extra : Nat) (s : State) : Out :=
  coreRow 5 s (hspFrame addr 1 pkt.length extra (if pkt.length = 0 ∨ 4360 < pkt.length then 4 else 0) (pktWr pkt))

/-- A PKT_RD frame. The choice is made in every frame that the mode serves, before a rejection of its bits (R543, R545, R546). -/
def execPktRd (addr n extra : Nat) (s : State) : Out :=
  coreRow 5 s fun d =>
    let bad := decide (extra % 8 ≠ 0) && decide (d.svc = .full) && decide (addr % 16 = d.hsp.addr)
    let e := hspFrame addr 2 n extra 0 (pktRd n) d
    if bad then dropFlushed (choose d.choice e) else e

/-- A PKT_REREAD frame (R547). -/
def execPktReread (addr n extra : Nat) (s : State) : Out :=
  coreRow 5 s (hspFrame addr 3 n extra 0 fun d => (d.hsp.copy.getD nullPacket, d))

/-- A REG_RD frame of `n` bytes after byte 0, the first three of them `off` and `nm1` (R548). -/
def execRegRd (addr off nm1 n extra : Nat) (s : State) : Out :=
  coreRow 5 s (hspFrame addr 4 n extra (if n < 3 then 4 else regCheck (off % 65536) (nm1 % 256 + 1)) (regRd (off % 65536) (nm1 % 256 + 1)))

/-- A REG_WR frame with the bytes `body` after byte 0: offset, NM1 and words (R549). -/
def execRegWr (addr : Nat) (body : List Byte) (extra : Nat) (s : State) : Out :=
  let off := leAt body 0 2
  let n := byteAt body 2 + 1
  coreRow 5 s (hspFrame addr 5 body.length extra (if body.length ≠ 3 + 4 * n then 4 else regCheck off n) fun d =>
    (List.replicate body.length (byteOf 0), hostWrites off ((wordsOf (body.drop 3)).map BitVec.toNat) d))

/-- A write of MSP_QIN3 (R556). -/
def execMspEntryPush (v : Nat) (s : State) : Out := coreRow 0 s (qin3Write v)

/-- A write of SPx_CTL.EN (R558). -/
def execMspEnWrite (v : Bool) (s : State) : Out := coreRow 0 s (mspEn v)

/-- A window read that misses the cache (R561, R562). -/
def execXipMiss (k : Fin 5) (off : Nat) (s : State) : Out := coreRow (k.castLE (by omega)) s (xipRead k off)

/-- A write of 1 to MSP_XCTL.INV, or of a value to MSP_XCFG (R562, R563). -/
def execXipInvalidate (xcfg : Option Nat) (s : State) : Out :=
  coreRow 0 s fun d => match xcfg with
    | none => xipInv d
    | some v => xcfgWrite v d

/-- A read of EVR_CLAIM of a target (R574). -/
def execEvrClaim (t : Fin 6) (s : State) : Out := coreRow (tgtPort t) s fun d => readOut (claim t d).1 (claim t d).2

/-- A write of a source number to EVR_EOI of a target (R575). -/
def execEvrEoi (t : Fin 6) (n : Nat) (s : State) : Out := coreRow (tgtPort t) s (eoi t (n % 512))

/-- A write of a source number, with TGT, to EVR_DOORBELL (R572). -/
def execEvrDoorbell (w : Fin 6) (n tgt : Nat) (s : State) : Out := coreRow (tgtPort w) s (doorbell w (n % 512) (tgt % 8))

/-- A write of the TARGET of a shared source (R583). -/
def execSourceTargetWrite (i : Fin 288) (t : Nat) (s : State) : Out := coreRow 0 s (setTarget i t)

/-- A write of 1 to KS_CTL.GO of port `p` by a master (R642). -/
def execKsGo (m : Master) (p : Fin 5) (s : State) : Out := coreRowS m.port s (access m (0x2005001C + 0x100 * p.val) (some 1))

/-- A read of Qx_DATA (R594). -/
def execQueueDataRead (q : QId) (s : State) : Out := coreRow q.port s fun d => readOut (queueData q d).1 (queueData q d).2

/-- A write of 1 to Qx_CTL.DROP_REST (R595). -/
def execQueueDropRest (q : QId) (s : State) : Out := coreRow q.port s (dropRest q)

/-- A write of 1 to Qx_CTL.FLUSH (R597). -/
def execQueueFlush (q : QId) (s : State) : Out := coreRow q.port s (flushQueue q)

/-- A read of TSC_L (R612); HSP reads its mirror (R614). -/
def execTscLRead (m : Master) (s : State) : Out :=
  coreRowS m.port s fun s => if m = .hsp then s.on fun d => readOut (tscLRead .hsp d).1 (tscLRead .hsp d).2 else access m 0x20010000 none s

/-- A write of GTn_CNT by SC (R615). -/
def execGtCntWrite (n : Fin 32) (v : Word) (s : State) : Out := coreRow 0 s (gtCnt n v)

/-- A write of GTn_CTL by a master (R34, R616, R620). -/
def execGtCtlWrite (m : Master) (n : Fin 32) (v : Nat) (s : State) : Out :=
  coreRowS m.port s (access m (0x2001010C + 0x20 * n.val) (some (v % 2 ^ 32)))

/-- A write of GTn_CMP by SC (R617). -/
def execGtCmpWrite (n : Fin 32) (v : Word) (s : State) : Out := coreRow 0 s (gtCmp n v)

end Sys2Proof.Machine
end

