-- ==== Sys2Proof/Machine/Dispatch.lean ====
section
/-! DEFINITION. The effect of each command. -/

namespace Sys2Proof.Machine
open Sys2Proof

/-- The effect of a command on everything but the queue of commands. -/
def exec (i : Instr) (s : State) : Host.Outcome State Fault Refusal :=
  match i with
  | .registerWrite m a v => Sys2Proof.Machine.execRegisterWrite m a v s
  | .rcFieldRead m a => Sys2Proof.Machine.execRcFieldRead m a s
  | .fkillAssert => Sys2Proof.Machine.execFkillAssert s
  | .fkillDeassert => Sys2Proof.Machine.execFkillDeassert s
  | .probeResume => Sys2Proof.Machine.execProbeResume s
  | .setMode tag => Sys2Proof.Machine.execSetMode tag s
  | .drainEnd => Sys2Proof.Machine.execDrainEnd s
  | .transitionLegComplete => Sys2Proof.Machine.execTransitionLegComplete s
  | .vmainFall mv => Sys2Proof.Machine.execVmainFall mv s
  | .vmainSag mv => Sys2Proof.Machine.execVmainSag mv s
  | .bkpReturn => Sys2Proof.Machine.execBkpReturn s
  | .vmainQualified mv => Sys2Proof.Machine.execVmainQualified mv s
  | .vioMeasure mv => Sys2Proof.Machine.execVioMeasure mv s
  | .vbkpOkRise mv => Sys2Proof.Machine.execVbkpOkRise mv s
  | .vbkpOkFall mv => Sys2Proof.Machine.execVbkpOkFall mv s
  | .bkpLowChange low mv => Sys2Proof.Machine.execBkpLowChange low mv s
  | .sysrstAssert => Sys2Proof.Machine.execSysrstAssert s
  | .sysrstDeassert => Sys2Proof.Machine.execSysrstDeassert s
  | .bootDone fs => Sys2Proof.Machine.execBootDone fs s
  | .bootFail => Sys2Proof.Machine.execBootFail s
  | .m3WakeMatch => Sys2Proof.Machine.execM3WakeMatch s
  | .qualify tag draw => Sys2Proof.Machine.execQualify tag draw s
  | .qualifyTestEnd => Sys2Proof.Machine.execQualifyTestEnd s
  | .sourceEdge zc rise stable width => Sys2Proof.Machine.execSourceEdge zc rise stable width s
  | .sourceQualLoss zc => Sys2Proof.Machine.execSourceQualLoss zc s
  | .holdoverExpiry => Sys2Proof.Machine.execHoldoverExpiry s
  | .tbCfgWrite zc v => Sys2Proof.Machine.execTbCfgWrite zc v s
  | .tbCapGo => Sys2Proof.Machine.execTbCapGo s
  | .pcmpTgtWrite n v => Sys2Proof.Machine.execPcmpTgtWrite n v s
  | .pcmpFire n => Sys2Proof.Machine.execPcmpFire n s
  | .binBoundary ms => Sys2Proof.Machine.execBinBoundary ms s
  | .timebaseCfg tag => Sys2Proof.Machine.execTimebaseCfg tag s
  | .qmapRead tag => Sys2Proof.Machine.execQmapRead tag s
  | .txCommit n => Sys2Proof.Machine.execTxCommit n s
  | .commitApply n cur => Sys2Proof.Machine.execCommitApply n cur s
  | .fieldWrite n on => Sys2Proof.Machine.execFieldWrite n on s
  | .fieldRampEnd n => Sys2Proof.Machine.execFieldRampEnd n s
  | .driveLinkRefresh k => Sys2Proof.Machine.execDriveLinkRefresh k s
  | .limiterReeval ks cur => Sys2Proof.Machine.execLimiterReeval ks cur s
  | .backstopMeasure m => Sys2Proof.Machine.execBackstopMeasure m s
  | .swkillWrite on => Sys2Proof.Machine.execSwkillWrite on s
  | .driverFault x => Sys2Proof.Machine.execDriverFault x s
  | .kettleFaultClear k f vdrv temp => Sys2Proof.Machine.execKettleFaultClear k f vdrv temp s
  | .ronMonitorScan cs => Sys2Proof.Machine.execRonMonitorScan cs s
  | .rearm c => Sys2Proof.Machine.execRearm c s
  | .rearmTestEnd c oc opn ron => Sys2Proof.Machine.execRearmTestEnd c oc opn ron s
  | .calibrateCoils tag => Sys2Proof.Machine.execCalibrateCoils tag s
  | .calibrateDone => Sys2Proof.Machine.execCalibrateDone s
  | .adcOverrange c x ws => Sys2Proof.Machine.execAdcOverrange c x ws s
  | .agcWindowEnd c ws => Sys2Proof.Machine.execAgcWindowEnd c ws s
  | .invalidRunEnd c => Sys2Proof.Machine.execInvalidRunEnd c s
  | .filtWrite n p => Sys2Proof.Machine.execFiltWrite n p s
  | .agcModeWrite n agc gfix => Sys2Proof.Machine.execAgcModeWrite n agc gfix s
  | .hclr => Sys2Proof.Machine.execHclr s
  | .templateCrossing n tid var xs => Sys2Proof.Machine.execTemplateCrossing n tid var xs s
  | .peakSearchEnd n => Sys2Proof.Machine.execPeakSearchEnd n s
  | .detectionDeclare n mag phase frac => Sys2Proof.Machine.execDetectionDeclare n mag phase frac s
  | .lzDpop n => Sys2Proof.Machine.execLzDpop n s
  | .lzReq n cls m => Sys2Proof.Machine.execLzReq n cls m s
  | .engineGrant => Sys2Proof.Machine.execEngineGrant s
  | .probeEngChange v => Sys2Proof.Machine.execProbeEngChange v s
  | .probeSlotBoundary rs => Sys2Proof.Machine.execProbeSlotBoundary rs s
  | .prbBclr => Sys2Proof.Machine.execPrbBclr s
  | .presenceUpdateStep => Sys2Proof.Machine.execPresenceUpdateStep s
  | .zoneOpen n => Sys2Proof.Machine.execZoneOpen n s
  | .zoneClose n cause => Sys2Proof.Machine.execZoneClose n cause s
  | .zoneCloseDone n => Sys2Proof.Machine.execZoneCloseDone n s
  | .holdTimeExpiry n => Sys2Proof.Machine.execHoldTimeExpiry n s
  | .zoneWaitTimeout tag => Sys2Proof.Machine.execZoneWaitTimeout tag s
  | .snapshot tag => Sys2Proof.Machine.execSnapshot tag s
  | .snapshotReleaseTimeout b => Sys2Proof.Machine.execSnapshotReleaseTimeout b s
  | .surfaceStart tag => Sys2Proof.Machine.execSurfaceStart tag s
  | .frameSend n => Sys2Proof.Machine.execFrameSend n s
  | .frameTxEnd n => Sys2Proof.Machine.execFrameTxEnd n s
  | .listenWindowOpen n => Sys2Proof.Machine.execListenWindowOpen n s
  | .listenWindowClose n => Sys2Proof.Machine.execListenWindowClose n s
  | .frameRxEnd n x r slotEnds => Sys2Proof.Machine.execFrameRxEnd n x r slotEnds s
  | .frameAbandon n => Sys2Proof.Machine.execFrameAbandon n s
  | .rxAck n ack => Sys2Proof.Machine.execRxAck n ack s
  | .powerOnWaitEnd n => Sys2Proof.Machine.execPowerOnWaitEnd n s
  | .presenceCheck n missing => Sys2Proof.Machine.execPresenceCheck n missing s
  | .lateReplyWaitEnd j => Sys2Proof.Machine.execLateReplyWaitEnd j s
  | .zoneExchange tag x => Sys2Proof.Machine.execZoneExchange tag x s
  | .hfConfig tag => Sys2Proof.Machine.execHfConfig tag s
  | .cardInfo tag => Sys2Proof.Machine.execCardInfo tag s
  | .workStopBeforeDeadline tag => Sys2Proof.Machine.execWorkStopBeforeDeadline tag s
  | .commandDeadline tag => Sys2Proof.Machine.execCommandDeadline tag s
  | .commandGuard tag => Sys2Proof.Machine.execCommandGuard tag s
  | .accRound tag => Sys2Proof.Machine.execAccRound tag s
  | .accConfig tag => Sys2Proof.Machine.execAccConfig tag s
  | .accExchange tag x => Sys2Proof.Machine.execAccExchange tag x s
  | .accPower tag a => Sys2Proof.Machine.execAccPower tag a s
  | .accInfo tag => Sys2Proof.Machine.execAccInfo tag s
  | .accPing n missing => Sys2Proof.Machine.execAccPing n missing s
  | .accKeepPing n pings => Sys2Proof.Machine.execAccKeepPing n pings s
  | .accRampLimit tag => Sys2Proof.Machine.execAccRampLimit tag s
  | .accLostBudget j => Sys2Proof.Machine.execAccLostBudget j s
  | .steepSweepStart vdrv => Sys2Proof.Machine.execSteepSweepStart vdrv s
  | .steepSweepEnd rs => Sys2Proof.Machine.execSteepSweepEnd rs s
  | .steepConfirmStart vdrv => Sys2Proof.Machine.execSteepConfirmStart vdrv s
  | .steepConfirmEnd rs => Sys2Proof.Machine.execSteepConfirmEnd rs s
  | .steepConfig tag => Sys2Proof.Machine.execSteepConfig tag s
  | .uhfHop c => Sys2Proof.Machine.execUhfHop c s
  | .uhfCarrierWrite v => Sys2Proof.Machine.execUhfCarrierWrite v s
  | .uhfTxkillWrite v => Sys2Proof.Machine.execUhfTxkillWrite v s
  | .uhfAcfgWrite a => Sys2Proof.Machine.execUhfAcfgWrite a s
  | .uhfHopDone => Sys2Proof.Machine.execUhfHopDone s
  | .uhfCalEnd x => Sys2Proof.Machine.execUhfCalEnd x s
  | .uhfDwellExpiry draw => Sys2Proof.Machine.execUhfDwellExpiry draw s
  | .cancellerTrack dir => Sys2Proof.Machine.execCancellerTrack dir s
  | .residualExcursion j above => Sys2Proof.Machine.execResidualExcursion j above s
  | .residualPersist j => Sys2Proof.Machine.execResidualPersist j s
  | .coexGntChange level => Sys2Proof.Machine.execCoexGntChange level s
  | .coexGntTimeout draw => Sys2Proof.Machine.execCoexGntTimeout draw s
  | .coexDecision draw => Sys2Proof.Machine.execCoexDecision draw s
  | .coexReqChange req pri => Sys2Proof.Machine.execCoexReqChange req pri s
  | .coexHoldMax => Sys2Proof.Machine.execCoexHoldMax s
  | .coexBackoffEnd => Sys2Proof.Machine.execCoexBackoffEnd s
  | .aerialWaitLimit tag => Sys2Proof.Machine.execAerialWaitLimit tag s
  | .radioConfig tag => Sys2Proof.Machine.execRadioConfig tag s
  | .calibrateUhf tag => Sys2Proof.Machine.execCalibrateUhf tag s
  | .roomInventory tag draw => Sys2Proof.Machine.execRoomInventory tag draw s
  | .roomConfig tag => Sys2Proof.Machine.execRoomConfig tag s
  | .roomAccess tag x => Sys2Proof.Machine.execRoomAccess tag x s
  | .roomAuth tag x => Sys2Proof.Machine.execRoomAuth tag x s
  | .uhfTagReply x => Sys2Proof.Machine.execUhfTagReply x s
  | .uhfSlotEmpty => Sys2Proof.Machine.execUhfSlotEmpty s
  | .onceMaxMs tag => Sys2Proof.Machine.execOnceMaxMs tag s
  | .roomUpdateStep => Sys2Proof.Machine.execRoomUpdateStep s
  | .sealChange low => Sys2Proof.Machine.execSealChange low s
  | .caskCycleEnd ns xs => Sys2Proof.Machine.execCaskCycleEnd ns xs s
  | .caskTimedCommit => Sys2Proof.Machine.execCaskTimedCommit s
  | .caskRegsTimer => Sys2Proof.Machine.execCaskRegsTimer s
  | .caskPowerFail => Sys2Proof.Machine.execCaskPowerFail s
  | .caskPowerOn rom ram conv cbkp => Sys2Proof.Machine.execCaskPowerOn rom ram conv cbkp s
  | .caskSupplySwitch cbkp => Sys2Proof.Machine.execCaskSupplySwitch cbkp s
  | .caskQuery => Sys2Proof.Machine.execCaskQuery s
  | .adjIdent => Sys2Proof.Machine.execAdjIdent s
  | .adjParamRead id => Sys2Proof.Machine.execAdjParamRead id s
  | .adjLive => Sys2Proof.Machine.execAdjLive s
  | .adjParamStage id v => Sys2Proof.Machine.execAdjParamStage id v s
  | .adjStageDiscard => Sys2Proof.Machine.execAdjStageDiscard s
  | .adjCommit => Sys2Proof.Machine.execAdjCommit s
  | .adjFrameTimeout => Sys2Proof.Machine.execAdjFrameTimeout s
  | .caskFrameReceive noise => Sys2Proof.Machine.execCaskFrameReceive noise s
  | .caskLinkTimeout => Sys2Proof.Machine.execCaskLinkTimeout s
  | .clQryRead m q arg => Sys2Proof.Machine.execClQryRead m q arg s
  | .caskQueryTimeout => Sys2Proof.Machine.execCaskQueryTimeout s
  | .caskRead tag => Sys2Proof.Machine.execCaskRead tag s
  | .statusFrame addr op n extra part => Sys2Proof.Machine.execStatusFrame addr op n extra part s
  | .pktWr addr pkt extra => Sys2Proof.Machine.execPktWr addr pkt extra s
  | .pktRd addr n extra => Sys2Proof.Machine.execPktRd addr n extra s
  | .pktReread addr n extra => Sys2Proof.Machine.execPktReread addr n extra s
  | .regRd addr off nm1 n extra => Sys2Proof.Machine.execRegRd addr off nm1 n extra s
  | .regWr addr body extra => Sys2Proof.Machine.execRegWr addr body extra s
  | .getStatus tag => Sys2Proof.Machine.execGetStatus tag s
  | .echo tag => Sys2Proof.Machine.execEcho tag s
  | .echoHoldEnd tag => Sys2Proof.Machine.execEchoHoldEnd tag s
  | .abort tag => Sys2Proof.Machine.execAbort tag s
  | .kwathesTest tag => Sys2Proof.Machine.execKwathesTest tag s
  | .mspEntryPush v => Sys2Proof.Machine.execMspEntryPush v s
  | .mspEntryEnd x => Sys2Proof.Machine.execMspEntryEnd x s
  | .mspSlaveFrame rx extra => Sys2Proof.Machine.execMspSlaveFrame rx extra s
  | .mspEnWrite v => Sys2Proof.Machine.execMspEnWrite v s
  | .xipMiss k off => Sys2Proof.Machine.execXipMiss k off s
  | .xipLineFill data => Sys2Proof.Machine.execXipLineFill data s
  | .xipInvalidate xcfg => Sys2Proof.Machine.execXipInvalidate xcfg s
  | .xipInvalidateDone => Sys2Proof.Machine.execXipInvalidateDone s
  | .sourceMessage id => Sys2Proof.Machine.execSourceMessage id s
  | .sourceLineChange id => Sys2Proof.Machine.execSourceLineChange id s
  | .evrClaim t => Sys2Proof.Machine.execEvrClaim t s
  | .evrEoi t n => Sys2Proof.Machine.execEvrEoi t n s
  | .evrDoorbell w n tgt => Sys2Proof.Machine.execEvrDoorbell w n tgt s
  | .sourceTargetWrite j t => Sys2Proof.Machine.execSourceTargetWrite j t s
  | .moderationTimeout t => Sys2Proof.Machine.execModerationTimeout t s
  | .evrSourceFault n => Sys2Proof.Machine.execEvrSourceFault n s
  | .queuePush q w => Sys2Proof.Machine.execQueuePush q w s
  | .queueDataRead q => Sys2Proof.Machine.execQueueDataRead q s
  | .queueDropRest q => Sys2Proof.Machine.execQueueDropRest q s
  | .queueFlush q => Sys2Proof.Machine.execQueueFlush q s
  | .tscLRead m => Sys2Proof.Machine.execTscLRead m s
  | .gtCntWrite n v => Sys2Proof.Machine.execGtCntWrite n v s
  | .gtCtlWrite m n v => Sys2Proof.Machine.execGtCtlWrite m n v s
  | .gtCmpWrite n v => Sys2Proof.Machine.execGtCmpWrite n v s
  | .gtCompareFire n => Sys2Proof.Machine.execGtCompareFire n s
  | .zoneTimerFire n k => Sys2Proof.Machine.execZoneTimerFire n k s
  | .keyLoad tag => Sys2Proof.Machine.execKeyLoad tag s
  | .keyUnload tag => Sys2Proof.Machine.execKeyUnload tag s
  | .keyInfo tag => Sys2Proof.Machine.execKeyInfo tag s
  | .crypto tag => Sys2Proof.Machine.execCrypto tag s
  | .random tag => Sys2Proof.Machine.execRandom tag s
  | .ksGo m p => Sys2Proof.Machine.execKsGo m p s
  | .ksOpComplete rnd => Sys2Proof.Machine.execKsOpComplete rnd s
  | .ksRefusalEnd => Sys2Proof.Machine.execKsRefusalEnd s
  | .entropyFail => Sys2Proof.Machine.execEntropyFail s
  | .entropyRetest pass => Sys2Proof.Machine.execEntropyRetest pass s
  | .idleTimerExpiry k => Sys2Proof.Machine.execIdleTimerExpiry k s
  | .domainPowerDownDone k => Sys2Proof.Machine.execDomainPowerDownDone k s
  | .domainWakeReady k => Sys2Proof.Machine.execDomainWakeReady k s
  | .domainWakeFail k => Sys2Proof.Machine.execDomainWakeFail k s
  | .powerPolicy tag => Sys2Proof.Machine.execPowerPolicy tag s
  | .guardRailStep => Sys2Proof.Machine.execGuardRailStep s
  | .kilnRoMeasure fs => Sys2Proof.Machine.execKilnRoMeasure fs s
  | .kilnRefMeasure ref => Sys2Proof.Machine.execKilnRefMeasure ref s
  | .kilnRonAverage ron => Sys2Proof.Machine.execKilnRonAverage ron s
  | .kilnGuardLower => Sys2Proof.Machine.execKilnGuardLower s
  | .kilnDayBoundary => Sys2Proof.Machine.execKilnDayBoundary s
  | .kilnSurveyDue => Sys2Proof.Machine.execKilnSurveyDue s
  | .kilnSurvey tag fs ref => Sys2Proof.Machine.execKilnSurvey tag fs ref s
  | .kilnRead tag => Sys2Proof.Machine.execKilnRead tag s
  | .imageWrite tag => Sys2Proof.Machine.execImageWrite tag s
  | .imageCommit tag => Sys2Proof.Machine.execImageCommit tag s
  | .extLoad tag => Sys2Proof.Machine.execExtLoad tag s
  | .extControl tag => Sys2Proof.Machine.execExtControl tag s
  | .configStore tag => Sys2Proof.Machine.execConfigStore tag s
  | .flashEraseDone ok us => Sys2Proof.Machine.execFlashEraseDone ok us s
  | .flashProgramDone ok => Sys2Proof.Machine.execFlashProgramDone ok s
  | .tempMeasure temp => Sys2Proof.Machine.execTempMeasure temp s
  | .lpxStable => Sys2Proof.Machine.execLpxStable s
  | .lpxStop => Sys2Proof.Machine.execLpxStop s
  | .wtxWaitLimit tag => Sys2Proof.Machine.execWtxWaitLimit tag s
  | .revisitExpiry draw => Sys2Proof.Machine.execRevisitExpiry draw s
  | .failedChannelRetry draw => Sys2Proof.Machine.execFailedChannelRetry draw s
  | .caskEraseDone => Sys2Proof.Machine.execCaskEraseDone s
  | .caskSupplyRecover => Sys2Proof.Machine.execCaskSupplyRecover s
  | .caskHoldReset n part => Sys2Proof.Machine.execCaskHoldReset n part s
  | .adjBadCommand cmd => Sys2Proof.Machine.execAdjBadCommand cmd s

end Sys2Proof.Machine
end

