-- ==== Sys2Proof/Safety.lean ====
section
/-! DEFINITION. What a claim about the machine is stated in: well-kept states, commands that complete, and fields that are off. -/

namespace Sys2Proof.Machine
open Sys2Proof

/-- No bridge carries an enabled drive word (R23, R72). -/
def Dev.bridgesAreOff (d : Dev) : Prop := ∀ c : Fin 192, (d.drv.coil[c]).word.en = false

/-- The parts of the device. -/
inductive Part where
  | mode | tb | drv | tx | rx | lau | prb | sf | hf | acc | stp | uhf | key | room | cask | cl | nvm | kiln | ncp | hsp | msp | evr | qs | tim | pmu | th | pin | bus | cyc
deriving DecidableEq, Repr

/-- Place of a part in a set of parts. -/
def Part.idx : Part → Nat
  | .mode => 0
  | .tb => 1
  | .drv => 2
  | .tx => 3
  | .rx => 4
  | .lau => 5
  | .prb => 6
  | .sf => 7
  | .hf => 8
  | .acc => 9
  | .stp => 10
  | .uhf => 11
  | .key => 12
  | .room => 13
  | .cask => 14
  | .cl => 15
  | .nvm => 16
  | .kiln => 17
  | .ncp => 18
  | .hsp => 19
  | .msp => 20
  | .evr => 21
  | .qs => 22
  | .tim => 23
  | .pmu => 24
  | .th => 25
  | .pin => 26
  | .bus => 27
  | .cyc => 30

/-- A part is the same in two states of the device. -/
def Part.same (d e : Dev) : Part → Prop
  | .mode => e.mode = d.mode
  | .tb => e.tb = d.tb
  | .drv => e.drv = d.drv
  | .tx => e.tx = d.tx
  | .rx => e.rx = d.rx
  | .lau => e.lau = d.lau
  | .prb => e.prb = d.prb
  | .sf => e.sf = d.sf
  | .hf => e.hf = d.hf
  | .acc => e.acc = d.acc
  | .stp => e.stp = d.stp
  | .uhf => e.uhf = d.uhf
  | .key => e.key = d.key
  | .room => e.room = d.room
  | .cask => e.cask = d.cask
  | .cl => e.cl = d.cl
  | .nvm => e.nvm = d.nvm
  | .kiln => e.kiln = d.kiln
  | .ncp => e.ncp = d.ncp
  | .hsp => e.hsp = d.hsp
  | .msp => e.msp = d.msp
  | .evr => e.evr = d.evr
  | .qs => e.qs = d.qs
  | .tim => e.tim = d.tim
  | .pmu => e.pmu = d.pmu
  | .th => e.th = d.th
  | .pin => e.pin = d.pin
  | .bus => e.bus = d.bus
  | .cyc => e.cyc = d.cyc

/-- Outside the parts whose bits are set in `m`, the device is the same. -/
def Frame (m : Nat) (d e : Dev) : Prop := ∀ p : Part, m.testBit p.idx = false → p.same d e

/-- Outside the parts of `m` the device is the same; SRAM is the same unless bit 28 of `m` is set, and flash unless bit 29 is; the
queue of commands is the same. -/
def SFrame (m : Nat) (s t : State) : Prop :=
  Frame m s.dev t.dev ∧ (m.testBit 28 = false → t.sram = s.sram) ∧ (m.testBit 29 = false → t.flash = s.flash) ∧
  t.pending = s.pending

/-- The set of a list of parts. -/
def mask (ps : List Part) : Nat := ps.foldl (fun m p => m ||| 2 ^ p.idx) 0

/-- The set that stands for SRAM. -/
def sramSet : Nat := 2 ^ 28

/-- The set that stands for flash. -/
def flashSet : Nat := 2 ^ 29

/-- The port whose access a command is, in the order of R38: a core's or HSP's; none for a command of hardware or firmware. -/
def portOf : Instr → Option (Fin 6)
  | .registerWrite m _ _ => some m.port
  | .rcFieldRead m _ => some m.port
  | .clQryRead m _ _ => some m.port
  | .ksGo m _ => some m.port
  | .tscLRead m => some m.port
  | .gtCtlWrite m _ _ => some m.port
  | .pcmpTgtWrite n _ => some (pcmpPort n)
  | .txCommit n => some (zcPort n)
  | .fieldWrite n _ => some (zcPort n)
  | .filtWrite n _ => some (zcPort n)
  | .agcModeWrite n _ _ => some (zcPort n)
  | .lzDpop n => some (zcPort n)
  | .lzReq n _ _ => some (zcPort n)
  | .frameSend n => some (zcPort n)
  | .frameAbandon n => some (zcPort n)
  | .rxAck n _ => some (zcPort n)
  | .evrClaim t => some (tgtPort t)
  | .evrEoi t _ => some (tgtPort t)
  | .evrDoorbell w _ _ => some (tgtPort w)
  | .queueDataRead q => some q.port
  | .queueDropRest q => some q.port
  | .queueFlush q => some q.port
  | .xipMiss k _ => some (k.castLE (by omega))
  | .statusFrame .. | .pktWr .. | .pktRd .. | .pktReread .. | .regRd .. | .regWr .. => some 5
  | .tbCfgWrite .. | .tbCapGo | .swkillWrite _ | .rearm _ | .hclr | .probeEngChange _ | .prbBclr | .zoneOpen _ | .uhfHop _
  | .uhfCarrierWrite _ | .uhfTxkillWrite _ | .uhfAcfgWrite _ | .mspEntryPush _ | .mspEnWrite _ | .xipInvalidate _
  | .sourceTargetWrite .. | .gtCntWrite .. | .gtCmpWrite .. => some 0
  | _ => none

/-- The state that the command `i` finds: where its port or a later one has already acted in the BCLK cycle, the next cycle has begun, and
hardware finds the DROP_RESTs of the cycle done (R16, R17, R38, R595; log entry 70). -/
def State.foundBy (i : Instr) (s : State) : State :=
  match portOf i with
  | some p => s.on (startCore p)
  | none => s.ev

/-- The command `i` completes where it finds the state `s`: whatever state `s0` was before its place in the cycle came, `exec i s0` answers a
next state `t` that has the property `post`, and what lies outside the set `m` is in `t` as it is in `s`. -/
def Completes (m : Nat) (i : Instr) (s : State) (post : State → Prop) : Prop :=
  ∀ s0 : State, s0.foundBy i = s → ∃ t, exec i s0 = .next t ∧ SFrame m s t ∧ post t

/-- The set of every part of the device. -/
def devSet : Nat := 1342177279

/-- The command of opcode `opc` under `tag` can be carried out: it is ACTIVE and fresh, no barrier holds it, no boot monitor stands
in its way, and the mode permits it (R51, R61, R514, R524). -/
def Ready (opc : Nat) (tag : Fin 32) (c : Cmd) (d : Dev) : Prop :=
  d.startable opc tag = some c ∧ d.nvm.monitor = false ∧ d.modeCheck opc = none

/-- The words of the reply of a command (R506, R507). -/
def replyWords (tag : Fin 32) (c : Cmd) (st : Status) (p : List Byte) (d : Dev) : List Word :=
  wordsOf (replyPacket c.opc (tag.val + 32 * b2n c.barrier + 128) st.code ((d.now - c.accT) / 21696) p)

/-- The command under `tag` has completed: its tag is DONE with the status (an ABORT's with 0xFF, R528), and where RSPQ had room for it the reply was committed
behind what was there (R507, R509, R593). -/
def Replied (tag : Fin 32) (c : Cmd) (st : Status) (p : List Byte) (d e : Dev) : Prop :=
  e.ncp.tags[tag] = .done c.resv (if c.opc = 4 then 0xFF else st.code) ∧
  (4 * ((replyWords tag c st p d).length + 1) + d.qs.rspq.used ≤ QId.rspq.cap →
    ∃ h rest, e.qs.rspq.items = d.qs.rspq.items ++ (h :: replyWords tag c st p d) :: rest)

/-- The security island is free, no request waits for it, and its domain is up (R642, R661). -/
def Dev.islandFree (d : Dev) : Prop :=
  d.key.cur = none ∧ d.key.pend = Vector.replicate 5 [] ∧ (d.pmu.dom[(14 : Fin 49)]).p = .up

/-- The island has taken up the request `r` of the command `c` under `tag` and will refuse it where R637 says so. -/
def TakenUp (tag : Fin 32) (c : Cmd) (r : KReq) (d e : Dev) : Prop :=
  e.key.cur = some { req := r, start := d.now, refused := d.refuses r } ∧ e.cmd tag = some { c with phase := .island } ∧
  e.key.slot = d.key.slot

/-- The command under `tag` waits for the flash controller, which has been given work of `who` behind what it had (R710, R718). -/
def WaitsForFlash (tag : Fin 32) (c : Cmd) (who : FWho) (d e : Dev) : Prop :=
  e.cmd tag = some { c with phase := .flash } ∧ ∃ j, e.nvm.jobs = d.nvm.jobs ++ [j] ∧ j.who = who

end Sys2Proof.Machine
end

