-- ==== Sys2Proof/Certificates/Slice0/Obligations.lean ====
section
/-! DEFINITION. The statements for the provers. -/

open Sys2Proof Sys2Proof.Machine

/-! ## The machine as a whole -/

/-- Step of a state with command `c` at the front of its queue is `exec c` on the state with the rest of the queue. -/
def Obligations.StepRunsFrontCommand : Prop :=
  ∀ (c : Instr) (rest : List Instr) (s : State), step { s with pending := c :: rest } = exec c { s with pending := rest }

/-- The accesses of a BCLK cycle come in the order SC, ZC0 to ZC3 and HSP, and hardware acts after them (R16, R17, R38). Hardware that
has acted in the cycle finds the state as it is; where it has not, the DROP_RESTs of the cycle drop the heads of their capture queues
and nothing else changes (R595). A port whose turn has not passed finds the state as it is, and another the next cycle. A command of
hardware does to a state what it does to the state that it finds. The order is the model's reading (log entry 70). -/
def Obligations.CommandsFindTheirPlace : Prop :=
  (∀ (i : Instr) (s : State), portOf i = none → 6 ≤ s.dev.cyc.slot → s.foundBy i = s) ∧
  (∀ (i : Instr) (s : State), portOf i = none → s.dev.cyc.slot < 6 →
    SFrame (mask [.qs, .cyc]) s (s.foundBy i) ∧ (s.foundBy i).dev.cyc = { s.dev.cyc with slot := 6, drops := [] } ∧
    (s.foundBy i).dev.qs.evq = s.dev.qs.evq ∧ (s.foundBy i).dev.qs.rspq = s.dev.qs.rspq ∧
    ∀ n : Fin 24, ((s.foundBy i).dev.qs.cq[n]).items = (s.dev.qs.cq[n]).items.drop (s.dev.cyc.drops.count n)) ∧
  (∀ (i : Instr) (p : Fin 6) (s : State), portOf i = some p → s.dev.cyc.slot ≤ p.val →
    s.foundBy i = s.on (fun d => d.onCyc fun c => { c with slot := p.val + 1 })) ∧
  (∀ (i : Instr) (p : Fin 6) (s : State), portOf i = some p → p.val < s.dev.cyc.slot →
    s.foundBy i = s.on (fun d => (tick d).onCyc fun c => { c with slot := p.val + 1 })) ∧
  (∀ (i : Instr) (s : State), portOf i = none → exec i (s.foundBy i) = exec i s)

/-- With an empty queue a step is one clock cycle and no command: the byte memories are as they were, a new BCLK cycle begins for the
accesses, TSC counts by one and PHC by TB_INC while CORE has power (R84, R611), and LPCLK counts by one while only AON has (R613). That
an empty queue lets a cycle pass is the model's choice (log entry 2). -/
def Obligations.IdleStepCountsTime : Prop :=
  ∀ s : State, s.pending = [] → ∃ t, step s = .next t ∧ t.pending = [] ∧ SFrame (mask [.mode, .tb, .drv, .rx, .uhf, .key, .room, .kiln,
    .ncp, .evr, .qs, .tim, .pmu, .bus, .cyc]) s t ∧ t.dev.cyc.slot = 0 ∧
    (s.dev.bclk = true → t.dev.tim.tsc = s.dev.tim.tsc + 1 ∧ t.dev.tb.phc = s.dev.tb.phc + BitVec.ofNat 56 s.dev.tb.inc) ∧
    (s.dev.bclk = false → s.dev.mode.cur ≠ .m0 → t.dev.pmu.lp = s.dev.pmu.lp + 1 ∧ t.dev.tim = s.dev.tim ∧ t.dev.tb = s.dev.tb)

/-- Every command answers a next state in every state, and leaves the queue of commands alone. -/
def Obligations.EveryCommandAnswersNext : Prop :=
  ∀ (i : Instr) (s : State), ∃ t, exec i s = .next t ∧ t.pending = s.pending

/-- Every step keeps both byte memories in their canonical form. -/
def Obligations.StepKeepsMemoryForm : Prop :=
  ∀ s t : State, s.memWf = true → step s = .next t → t.memWf = true

/-- The canonical form holds after reset, and the queue is empty. -/
def Obligations.ResetHasMemoryForm : Prop :=
  State.reset.memWf = true ∧ State.reset.pending = []

/-- Only the end of an erase, the end of a program and the start of the device change the flash: no access, no other command. -/
def Obligations.OnlyTheControllerWritesFlash : Prop :=
  ∀ (i : Instr) (s t : State), exec i s = .next t → t.flash ≠ s.flash →
    (∃ ok g, i = .flashEraseDone ok g) ∨ (∃ ok, i = .flashProgramDone ok) ∨ (∃ deg, i = .bootDone deg) ∨ i = .bootFail

/-! ## The mains time base (chapter 03) -/

/-- An edge of MAINS_ZC in RISING mode that passes its tests is accepted: it qualifies the source when it comes 15.15 ms to 22.22 ms
after the last accepted edge, with the period between them (R91, R92, R94), and so is an edge of Cask while its broadcast reports
voltage. One that comes earlier is rejected and counted; one of the other direction, or before whose level DEGLITCH has not passed,
changes nothing (R91). A source without an accepted edge for 1.5 periods loses its qualification; LOCKED or ACQUIRE on it becomes
HOLDOVER (R92, R103). HOLDOVER ends in VIRTUAL after the cycles in effect at its entry (R103). -/
def Obligations.TimeBaseSourcesQualifyAndFail : Prop :=
  (∀ (stable width l : Nat) (s : State), s.dev.bclk = true → s.dev.tb.cfg.srcsel ≠ 3 → s.dev.tb.zcCfg.zmode = 0 →
    s.dev.tb.zcCfg.deglitch ≤ stable → s.dev.tb.zc.last = some l → 3286944 ≤ s.dev.now - l → s.dev.now - l ≤ 4820851 →
    s.dev.tb.zc.per s.dev.tb.cfg.vfreq ≤ 4 * (s.dev.now - l) →
    Completes (mask [.tb]) (.sourceEdge true true stable width) s fun t =>
      t.dev.tb.zc = { last := some s.dev.now, period := some (s.dev.now - l), ok := true }) ∧
  (∀ (stable width l : Nat) (s : State), s.dev.bclk = true → s.dev.tb.cfg.srcsel ≠ 3 → s.dev.cl.link = true → s.dev.cl.vpres = true →
    s.dev.tb.cask.last = some l → 3286944 ≤ s.dev.now - l → s.dev.now - l ≤ 4820851 →
    s.dev.tb.cask.per s.dev.tb.cfg.vfreq ≤ 4 * (s.dev.now - l) →
    Completes (mask [.tb]) (.sourceEdge false true stable width) s fun t =>
      t.dev.tb.cask = { last := some s.dev.now, period := some (s.dev.now - l), ok := true } ∧ t.dev.tb.zc = s.dev.tb.zc) ∧
  (∀ (rise : Bool) (stable width l : Nat) (s : State), s.dev.bclk = true → s.dev.tb.cfg.srcsel ≠ 3 → s.dev.tb.zcCfg.zmode < 2 →
    rise = decide (s.dev.tb.zcCfg.zmode = 0) → s.dev.tb.zcCfg.deglitch ≤ stable → s.dev.tb.zc.last = some l →
    s.dev.tb.zc.per s.dev.tb.cfg.vfreq ≤ 4 * (s.dev.now - l) → s.dev.now - l < 3286944 →
    Completes (mask [.tb]) (.sourceEdge true rise stable width) s fun t =>
      t.dev.tb = { s.dev.tb with rejects := satInc 255 s.dev.tb.rejects, freqOor := true }) ∧
  (∀ (rise : Bool) (stable width : Nat) (s : State), rise ≠ decide (s.dev.tb.zcCfg.zmode = 0) ∨ stable < s.dev.tb.zcCfg.deglitch →
    Completes (mask [.tb]) (.sourceEdge true rise stable width) s fun t => t.dev.tb = s.dev.tb) ∧
  (∀ (zc : Bool) (l : Nat) (s : State), (s.dev.tb.edgeSrc zc).last = some l → (s.dev.tb.edgeSrc zc).ok = true →
    3 * (s.dev.tb.edgeSrc zc).per s.dev.tb.cfg.vfreq ≤ 2 * (s.dev.now - l) →
    Completes (mask [.tb]) (.sourceQualLoss zc) s fun t =>
      (t.dev.tb.edgeSrc zc).ok = false ∧
      (s.dev.tb.src = srcName zc → s.dev.tb.state = .locked ∨ s.dev.tb.state = .acquire →
        t.dev.tb.state = .holdover ∧ t.dev.tb.lost = true ∧ t.dev.tb.holdPhc = s.dev.tb.phc) ∧
      (s.dev.tb.src ≠ srcName zc → t.dev.tb.state = s.dev.tb.state)) ∧
  (∀ s : State, s.dev.tb.state = .holdover → s.dev.tb.holdCyc ≤ (s.dev.tb.phc - s.dev.tb.holdPhc).toNat / 2 ^ 40 →
    Completes (mask [.tb]) .holdoverExpiry s fun t =>
      t.dev.tb.state = .virtual ∧ t.dev.tb.src = .virtual ∧ t.dev.tb.phc = s.dev.tb.phc)

/-- TB_CFG and TB_ZC read back what was written when every field is in range (R20, R128, R129), and in VIRTUAL a new VFREQ takes effect
at once (R98); TB_CAP.GO captures PHC and TSC together (R87). -/
def Obligations.TimeBaseRegistersTakeTheirValues : Prop :=
  (∀ (v : Nat) (s : State), tbCfgOk v = true →
    Completes (mask [.tb]) (.tbCfgWrite false v) s fun t =>
      t.dev.tb.cfg.word = v % 2 ^ 27 ∧ t.dev.tb.zcCfg = s.dev.tb.zcCfg ∧ t.dev.tb.phc = s.dev.tb.phc ∧
      (s.dev.tb.state = .virtual → t.dev.tb.inc = (if v.testBit 2 then 304069 else 253391))) ∧
  (∀ (v : Nat) (s : State), bits v 1 0 ≠ 3 →
    Completes (mask [.tb]) (.tbCfgWrite true v) s fun t =>
      t.dev.tb.zcCfg.word = v % 2 ^ 22 ∧ t.dev.tb.cfg = s.dev.tb.cfg ∧ t.dev.tb.phc = s.dev.tb.phc) ∧
  (∀ s : State, Completes (mask [.tb]) .tbCapGo s fun t =>
      t.dev.tb = { s.dev.tb with capPhc := word s.dev.phc, capTsc := s.dev.tim.tsc })

/-- A target that has not been passed is stored and nothing fires (R107), and one written to an enabled compare that has been passed
fires at once, however it was passed (R108). A compare that fires sets FIRED; with PER 0 it is disabled, and with PER above 0, a field
of 17 bits, its new target lies ahead of PHC (R107, R109). The other compares are as they were. -/
def Obligations.PhaseComparesFireOnce : Prop :=
  (∀ (n : Fin 32) (v : Nat) (s : State), s.dev.tb.pcmp[n].en = false ∨ passed s.dev.phc (word v) = false →
    Completes (mask [.tb, .hf, .evr, .tim, .pmu]) (.pcmpTgtWrite n v) s fun t =>
      t.dev.tb.pcmp[n] = { s.dev.tb.pcmp[n] with tgt := word v } ∧ ∀ k, k ≠ n → t.dev.tb.pcmp[k] = s.dev.tb.pcmp[k]) ∧
  (∀ (n : Fin 32) (v : Nat) (s : State), s.dev.tb.pcmp[n].en = true → passed s.dev.phc (word v) = true →
    Completes (mask [.tb, .hf, .evr, .tim, .pmu]) (.pcmpTgtWrite n v) s fun t =>
      t.dev.tb.pcmp[n].fired = true ∧
      (s.dev.tb.pcmp[n].per = 0 → t.dev.tb.pcmp[n].en = false ∧ t.dev.tb.pcmp[n].tgt = word v) ∧
      (0 < s.dev.tb.pcmp[n].per → s.dev.tb.pcmp[n].per < 2 ^ 17 →
        t.dev.tb.pcmp[n].en = true ∧ passed s.dev.phc t.dev.tb.pcmp[n].tgt = false) ∧
      ∀ k, k ≠ n → t.dev.tb.pcmp[k] = s.dev.tb.pcmp[k]) ∧
  (∀ (n : Fin 32) (s : State), s.dev.pcmpDue n = true → s.dev.tb.firstDue n = true →
    Completes (mask [.tb, .hf, .evr, .tim, .pmu]) (.pcmpFire n) s fun t =>
      t.dev.tb.pcmp[n].fired = true ∧
      (s.dev.tb.pcmp[n].per = 0 → t.dev.tb.pcmp[n].en = false ∧ t.dev.tb.pcmp[n].tgt = s.dev.tb.pcmp[n].tgt) ∧
      (0 < s.dev.tb.pcmp[n].per → s.dev.tb.pcmp[n].per < 2 ^ 17 →
        t.dev.tb.pcmp[n].en = true ∧ passed s.dev.phc t.dev.tb.pcmp[n].tgt = false) ∧
      ∀ k, k ≠ n → t.dev.tb.pcmp[k] = s.dev.tb.pcmp[k])

/-- At a bin boundary the strobe comes, the bin that ends is observed for the groups that have a value, and no others (R114, R118,
R119), and the classes that hold for the bin that begins are taken, none in ACQUIRE or HOLDOVER (R97, R114). TIMEBASE_CFG writes TB_CFG
in M4 and M9 and replies with TB_STAT and TB_FREQ; QMAP_READ replies with the 64 entries of a group (R134 to R136). -/
def Obligations.QuietMapAndItsCommands : Prop :=
  (∀ (ms : List BinMeas) (s : State), s.dev.phase / 1024 ≠ s.dev.tb.bin →
    Completes (mask [.tb, .drv, .uhf, .room, .ncp, .evr, .qs, .pmu]) (.binBoundary ms) s fun t =>
      t.dev.tb.bin = s.dev.phase / 1024 ∧ t.dev.tb.strobe = some s.dev.now ∧
      (∀ g : Fin 24, s.dev.binValue ms g = none → t.dev.tb.qmap[s.dev.tb.bank][g] = s.dev.tb.qmap[s.dev.tb.bank][g]) ∧
      (∀ (g : Fin 24) (m : Nat), s.dev.binValue ms g = some m → (s.dev.tb.qmap[s.dev.tb.bank][g][Fin.ofNat 64 s.dev.tb.bin]).nobs = 0 →
        (t.dev.tb.qmap[s.dev.tb.bank][g][Fin.ofNat 64 s.dev.tb.bin]).nobs = 1) ∧
      t.dev.tb.latched = t.dev.tb.classesNow (s.dev.phase / 1024) ∧
      (s.dev.tb.state = .acquire ∨ s.dev.tb.state = .holdover → t.dev.tb.latched = Vector.replicate 24 .unknown)) ∧
  (∀ (tag : Fin 32) (c : Cmd) (cfg zc : Nat) (s : State), Ready 0x07 tag c s.dev → s.dev.mode.cur = .m4 ∨ s.dev.mode.cur = .m9 →
    cfg < 2 ^ 27 → zc < 2 ^ 22 → tbCfgOk cfg = true → c.payload = le 4 cfg ++ le 4 zc ++ [1, 0, 0, 0] →
    Completes (mask [.tb, .ncp, .evr, .qs, .pmu]) (.timebaseCfg tag) s fun t =>
      t.dev.tb.cfg.word = cfg ∧ t.dev.tb.zcCfg = s.dev.tb.zcCfg ∧ t.dev.tb.qmap = s.dev.tb.qmap ∧
      Replied tag c .ok (le 4 t.dev.tb.stat ++ le 4 t.dev.tb.freq) s.dev t.dev) ∧
  (∀ (tag : Fin 32) (c : Cmd) (b : Fin 2) (g : Fin 24) (s : State), Ready 0x92 tag c s.dev →
    c.payload = [byteOf b.val, byteOf g.val] →
    Completes (mask [.ncp, .evr, .qs, .pmu]) (.qmapRead tag) s fun t =>
      Replied tag c .ok ([byteOf b.val, byteOf g.val] ++ (s.dev.tb.qmap[b][g]).toList.flatMap fun e => le 2 e.word) s.dev t.dev)

/-! ## The internal map, the modes and the supplies (chapters 01, 02 and 19) -/

/-- SC writes an aligned word of powered SRAM: the four bytes at the address take the value, lowest first, and every other byte is as
it was (R7, R34). A write into the Cask link region changes nothing (R37). SC reads an aligned word of powered SRAM: the bus gives its
four bytes, lowest first, and no memory changes (R7, R34). A read of TB_CFG gives the fields in effect (R128). A read of TB_CNT gives
its counts and clears each, and in the same BCLK cycle a second read gives 0 (R15, R17, R130). A read outside every region gives 0 and
a bus error (R35). -/
def Obligations.CoreAccessesReachTheirWord : Prop :=
  (∀ (a v : Nat) (s : State), s.memWf = true → inSram a 4 = true → a % 4 = 0 → s.dev.codeRuns .sc = true → s.dev.stalled .sc = false →
    (s.dev.pmu.dom[Fin.ofNat 49 (2 + (a - sramBase) / 0x80000)]).p = .up →
    Completes (mask [.mode, .tb, .drv, .tx, .rx, .lau, .prb, .sf, .hf, .stp, .uhf, .key, .room, .cask, .cl, .nvm, .kiln, .ncp, .hsp,
      .msp, .evr, .qs, .tim, .pmu, .th, .bus, .cyc] ||| sramSet) (.registerWrite .sc a v) s fun t =>
      (∀ i, i < 4 → memRead sramDflt (a + i) t.sram = byteOf (v / 256 ^ i)) ∧
      ∀ b, b < a ∨ a + 4 ≤ b → memRead sramDflt b t.sram = memRead sramDflt b s.sram) ∧
  (∀ (m : Master) (off v : Nat) (s : State), m = .sc ∨ (∃ k, m = .zc k) → off < 0x10000 →
    Completes (mask []) (.registerWrite m (0x24000000 + off) v) s fun t => t = s) ∧
  (∀ (a : Nat) (s : State), inSram a 4 = true → a % 4 = 0 → s.dev.codeRuns .sc = true → s.dev.stalled .sc = false →
    (s.dev.pmu.dom[Fin.ofNat 49 (2 + (a - sramBase) / 0x80000)]).p = .up →
    Completes (mask [.mode, .tb, .drv, .tx, .rx, .lau, .prb, .sf, .hf, .stp, .uhf, .key, .room, .cask, .cl, .nvm, .kiln, .ncp, .hsp,
      .msp, .evr, .qs, .tim, .pmu, .th, .bus, .cyc] ||| sramSet) (.rcFieldRead .sc a) s fun t =>
      t.dev.bus = { s.dev.bus with rdata := leAt (memReads sramDflt s.sram a 4) 0 4 } ∧ t.sram = s.sram) ∧
  (∀ s : State, s.dev.codeRuns .sc = true → s.dev.stalled .sc = false →
    Completes (mask [.mode, .tb, .drv, .tx, .rx, .lau, .prb, .sf, .hf, .stp, .uhf, .key, .room, .cask, .cl, .nvm, .kiln, .ncp, .hsp,
      .msp, .evr, .qs, .tim, .pmu, .th, .bus, .cyc] ||| sramSet) (.rcFieldRead .sc 0x20070008) s fun t =>
      t.dev = { s.dev with bus := { s.dev.bus with rdata := s.dev.tb.cfg.word } } ∧ t.sram = s.sram) ∧
  (∀ s : State, s.dev.codeRuns .sc = true → s.dev.stalled .sc = false → s.dev.bus.rcRead = [] →
    Completes (mask [.mode, .tb, .drv, .tx, .rx, .lau, .prb, .sf, .hf, .stp, .uhf, .key, .room, .cask, .cl, .nvm, .kiln, .ncp, .hsp,
      .msp, .evr, .qs, .tim, .pmu, .th, .bus, .cyc] ||| sramSet) (.rcFieldRead .sc 0x2007001C) s fun t =>
      t.dev.bus.rdata = s.dev.tb.steps + 256 * s.dev.tb.rejects + 65536 * s.dev.tb.holds + 16777216 * s.dev.tb.gaps ∧
      t.dev = { s.dev with bus := t.dev.bus, tb := { s.dev.tb with steps := 0, rejects := 0, holds := 0, gaps := 0 } } ∧
      t.dev.bus.rcRead.length = 4 ∧ t.sram = s.sram) ∧
  (∀ s : State, s.dev.codeRuns .sc = true → s.dev.stalled .sc = false → (∀ f ∈ [0, 8, 16, 24], rcKey 0x2007001C f ∈ s.dev.bus.rcRead) →
    Completes (mask [.mode, .tb, .drv, .tx, .rx, .lau, .prb, .sf, .hf, .stp, .uhf, .key, .room, .cask, .cl, .nvm, .kiln, .ncp, .hsp,
      .msp, .evr, .qs, .tim, .pmu, .th, .bus, .cyc] ||| sramSet) (.rcFieldRead .sc 0x2007001C) s fun t =>
      t.dev = { s.dev with bus := { s.dev.bus with rdata := 0 } } ∧ t.sram = s.sram) ∧
  (∀ (a : Nat) (s : State), regionOf a = none → s.dev.codeRuns .sc = true → s.dev.stalled .sc = false →
    Completes (mask [.mode, .tb, .drv, .tx, .rx, .lau, .prb, .sf, .hf, .stp, .uhf, .key, .room, .cask, .cl, .nvm, .kiln, .ncp, .hsp,
      .msp, .evr, .qs, .tim, .pmu, .th, .bus, .cyc] ||| sramSet) (.rcFieldRead .sc a) s fun t =>
      t.dev.bus.err = some { master := .sc, addr := a } ∧ t.dev.bus.rdata = 0 ∧ t.sram = s.sram)

/-- SET_MODE to another mode that can be reached starts a transition along its legs, with the present mode kept in CUR; to the present
mode it replies OK at once with DURATION 0 (R46, R57, R58, R60). A drain whose work has completed ends and the transition goes on
(R60). The last leg of a transition sets CUR, PREV, CAUSE and SEQ (R54, R73, R74). An address match of HSP in M3 starts the transition
to M4 with CAUSE 6, wakes CORE and counts the frame it discards (R63, R67, R551). -/
def Obligations.TransitionsStartAndComplete : Prop :=
  (∀ (tag : Fin 32) (c : Cmd) (tgt : Mode) (legs : List Mode) (s : State), Ready 0x02 tag c s.dev → tgt ≠ .m0 → tgt ≠ .m1 →
    c.payload = [byteOf tgt.code, 0] → c.deadline = 0 → s.dev.busy = false → s.dev.reach s.dev.mode.cur false tgt = some legs →
    legs ≠ [] →
    Completes (mask [.mode, .drv, .tx, .rx, .lau, .prb, .sf, .hf, .uhf, .key, .room, .cl, .nvm, .ncp, .evr, .qs, .tim,
      .pmu]) (.setMode tag) s fun t =>
      t.dev.mode.cur = s.dev.mode.cur ∧ ∃ r, t.dev.mode.run = some r ∧ r.tag = some tag ∧ r.legs = legs ∧ r.cause = 0 ∧
        r.left = s.dev.mode.cur ∧ r.draining = false) ∧
  (∀ (tag : Fin 32) (c : Cmd) (s : State), Ready 0x02 tag c s.dev → 4 ≤ s.dev.mode.cur.code → s.dev.mode.cur ≠ .m11 →
    c.payload = [byteOf s.dev.mode.cur.code, 0] → c.deadline = 0 → s.dev.busy = false →
    s.dev.mode.cur.surface = false ∨ s.dev.drv.layoutOk = true →
    Completes (mask [.mode, .drv, .tx, .rx, .lau, .prb, .sf, .hf, .uhf, .key, .room, .cl, .nvm, .ncp, .evr, .qs, .tim,
      .pmu]) (.setMode tag) s fun t =>
      t.dev.mode = s.dev.mode ∧
      Replied tag c .ok [byteOf s.dev.mode.cur.code, byteOf s.dev.mode.cause, 0, 0] s.dev t.dev) ∧
  (∀ (r : Trans) (s : State), s.dev.mode.run = some r → r.draining = true → s.dev.workTags r.ends = [] →
    Completes (mask [.mode, .drv, .tx, .rx, .lau, .prb, .sf, .hf, .uhf, .key, .room, .cl, .nvm, .ncp, .evr, .qs, .tim,
      .pmu]) .drainEnd s fun t =>
      t.dev.mode.cur = s.dev.mode.cur ∧ ∃ q, t.dev.mode.run = some q ∧ q.draining = false ∧ q.legs = r.legs ∧ q.tag = r.tag) ∧
  (∀ (r : Trans) (m : Mode) (s : State), s.dev.mode.run = some r → r.draining = false → r.at_ ≠ .m2 → m ≠ .m2 → r.legs = [m] →
    s.dev.mode.pending = none → s.dev.islandBusy = false →
    Completes (devSet) .transitionLegComplete s fun t =>
      t.dev.mode.cur = m ∧ t.dev.mode.prev = r.left ∧ t.dev.mode.run = none ∧ t.dev.mode.cause = r.cause ∧
      t.dev.mode.seq = s.dev.mode.seq + 1) ∧
  (∀ s : State, s.dev.mode.cur = .m3 → s.dev.mode.run = none →
    Completes (mask [.mode, .drv, .tx, .rx, .lau, .prb, .sf, .hf, .stp, .uhf, .key, .room, .cl, .nvm, .ncp, .hsp, .evr, .qs, .tim,
      .pmu]) .m3WakeMatch s fun t =>
      (∃ r, t.dev.mode.run = some r ∧ r.legs = [.m4] ∧ r.cause = 6 ∧ r.left = .m3) ∧ (t.dev.pmu.dom[(1 : Fin 49)]).p = .waking ∧
      t.dev.hsp.wakeDisc = satInc 255 s.dev.hsp.wakeDisc)

/-- Loss of VMAIN with backup present leads to M1 with CAUSE 7, without backup to M0 with SRAM lost (R53, R69, R70, R658); a sag that
stays above 9.0 V is counted (R658). The return from backup leads to M4 with CAUSE 8 (R71). VMAIN that is good starts the boot from M0
in M2 with CAUSE 1 (R657, R701); VIO in a class lets it go on (R657). VBKP leads from M0 to M1 and its loss from M1 to M0 (R53, R659);
BKP_LOW follows VBKP while the device runs from VMAIN (R659). -/
def Obligations.SuppliesGovernTheMode : Prop :=
  (∀ (mv : Nat) (s : State), mv < 9000 → s.dev.mode.cur ≠ .m0 → s.dev.mode.cur ≠ .m1 → s.dev.pmu.vbkpOk = true →
    Completes (devSet ||| sramSet) (.vmainFall mv) s fun t =>
      (s.dev.bus.stalls = [] → t.sram = s.sram) ∧ t.flash = s.flash ∧ t.dev.pmu.vmainMon = mv / 10 ∧
      t.dev.mode.cur = .m1 ∧ t.dev.mode.cause = 7 ∧ t.dev.mode.bkp = true ∧ t.dev.mode.run = none) ∧
  (∀ (mv : Nat) (s : State), mv < 9000 → s.dev.mode.cur ≠ .m0 → s.dev.mode.cur ≠ .m1 → s.dev.pmu.vbkpOk = false →
    Completes (devSet ||| sramSet) (.vmainFall mv) s fun t =>
      t.sram = [] ∧ t.flash = s.flash ∧
      t.dev.mode.cur = .m0 ∧ ∀ k : Fin 49, (t.dev.pmu.dom[k]).p = .down) ∧
  (∀ (mv : Nat) (s : State), 9000 ≤ mv →
    Completes (devSet ||| sramSet) (.vmainFall mv) s fun t => t = s) ∧
  (∀ (mv : Nat) (s : State), 9000 ≤ mv → mv ≤ 10200 → s.dev.mode.cur ≠ .m0 → s.dev.mode.cur ≠ .m1 →
    Completes (mask [.pmu]) (.vmainSag mv) s fun t =>
      t.dev.pmu = { s.dev.pmu with vmainMon := mv / 10, cntSag := satInc 255 s.dev.pmu.cntSag }) ∧
  (∀ s : State, s.dev.mode.cur = .m1 →
    Completes (mask [.mode, .tb, .drv, .rx, .lau, .prb, .sf, .uhf, .key, .ncp, .evr, .qs, .tim, .pmu, .th]) .bkpReturn s fun t =>
      t.dev.mode.cur = .m4 ∧ t.dev.mode.cause = 8 ∧ t.dev.mode.bkp = false ∧ t.dev.mode.regSvc = true ∧
      t.dev.mode.seq = s.dev.mode.seq + 1) ∧
  (∀ (mv : Nat) (s : State), 10200 < mv → s.dev.mode.cur = .m0 →
    Completes (devSet ||| sramSet) (.vmainQualified mv) s fun t =>
      t.sram = [] ∧ t.flash = s.flash ∧
      t.dev.mode.cur = .m2 ∧ t.dev.mode.cause = 1 ∧ t.dev.pmu.vmainOk = true ∧ t.dev.cask = s.dev.cask ∧
      t.dev.pmu.boot = if s.dev.pin.sysrst then .held else .waitVio) ∧
  (∀ (mv : Nat) (s : State), s.dev.mode.cur = .m2 → s.dev.pmu.boot = .waitVio → 1620 ≤ mv → mv ≤ 1980 →
    Completes (mask [.mode, .pmu]) (.vioMeasure mv) s fun t =>
      t.dev.pmu = { s.dev.pmu with vioMon := mv / 10, vio33 := false, vmainOk := true, boot := .running } ∧
      t.dev.mode = { s.dev.mode with regSvc := true }) ∧
  (∀ (mv : Nat) (s : State), 2400 ≤ mv → s.dev.mode.cur = .m0 →
    Completes (mask [.mode, .prb, .sf, .evr, .qs, .pmu]) (.vbkpOkRise mv) s fun t =>
      t.dev.mode.cur = .m1 ∧ t.dev.mode.bkp = true ∧ t.dev.pmu.vbkpOk = true ∧ (t.dev.pmu.dom[(0 : Fin 49)]).p = .up) ∧
  (∀ (mv : Nat) (s : State), mv < 2300 → s.dev.mode.cur = .m1 →
    Completes (devSet ||| sramSet) (.vbkpOkFall mv) s fun t =>
      t.sram = [] ∧ t.flash = s.flash ∧
      t.dev.mode.cur = .m0 ∧ t.dev.pmu.vbkpOk = false) ∧
  (∀ (low : Bool) (mv : Nat) (s : State), s.dev.mode.cur ≠ .m0 → s.dev.mode.cur ≠ .m1 → s.dev.pmu.bkpLow ≠ low →
    (low = true → mv < 2700) → (low = false → 2800 ≤ mv) →
    Completes (mask [.evr, .qs, .pmu]) (.bkpLowChange low mv) s fun t =>
      t.dev.pmu.bkpLow = low ∧ t.dev.pmu.vbkpMon = min 1023 (mv / 10) ∧ (low = true → t.dev.pmu.evBkpLow = true) ∧
      (low = false → t.dev.pmu.evBkpOk = true))

/-- SYSRST_N takes the device to M2 with CAUSE 2, keeps both byte memories, and holds the boot until it is released (R68, R701). Boot
with an image that verifies ends in M4 with CAUSE 3, and without one in M11 with CAUSE 4 (R703, R708, R720). -/
def Obligations.ResetsAndBoot : Prop :=
  (∀ s : State, s.dev.mode.cur ≠ .m0 → s.dev.mode.cur ≠ .m1 →
    Completes (devSet) .sysrstAssert s fun t =>
      t.dev.mode.cur = .m2 ∧ t.dev.mode.cause = 2 ∧ t.dev.pin.sysrst = true ∧ t.dev.pmu.boot = .held ∧
      t.dev.nvm.slotA = s.dev.nvm.slotA ∧ t.dev.nvm.slotB = s.dev.nvm.slotB ∧ t.dev.cask = s.dev.cask ∧
      t.dev.kiln.ksec = s.dev.kiln.ksec) ∧
  (∀ s : State, s.dev.pmu.boot = .held →
    Completes (mask [.pmu, .pin]) .sysrstDeassert s fun t =>
      t.dev.pmu = { s.dev.pmu with boot := .waitVio } ∧ t.dev.pin = { s.dev.pin with sysrst := false }) ∧
  (∀ (fs : Vector (Nat × Nat) 48) (b : Bool) (r : Trans) (s : State), s.dev.mode.cur = .m2 → s.dev.pmu.boot = .running →
    s.dev.mode.run = some r → (bootSelect s).1 = some b →
    Completes (mask [.mode, .tb, .drv, .rx, .lau, .prb, .sf, .hf, .uhf, .key, .nvm, .kiln, .ncp, .msp, .evr, .qs, .tim,
      .pmu] ||| sramSet ||| flashSet) (.bootDone fs) s fun t =>
      t.dev.mode.cur = .m4 ∧ t.dev.mode.cause = 3 ∧
      t.dev.mode.run = none) ∧
  (∀ (r : Trans) (s : State), s.dev.mode.cur = .m2 → s.dev.pmu.boot = .running → s.dev.mode.run = some r → (bootSelect s).1 = none →
    Completes (mask [.mode, .tb, .drv, .rx, .lau, .prb, .sf, .hf, .uhf, .key, .nvm, .kiln, .ncp, .msp, .evr, .qs, .tim,
      .pmu] ||| sramSet ||| flashSet) .bootFail s fun t =>
      t.sram = s.sram ∧ t.dev.mode.cur = .m11 ∧ t.dev.mode.cause = 4 ∧
      t.dev.mode.run = none)

/-! ## The coil drive and the kills (chapter 04) -/

/-- FKILL_N and SWKILL turn every bridge off, at the drive controller and at the Kettles (R23, R72, R166, R167, R169). FKILL_N released
clears its status bit and leaves the bridges off, 1 ms later probing may resume, and SWKILL written 0 is cleared (R72, R167, R169). -/
def Obligations.KillsTurnEveryBridgeOff : Prop :=
  (∀ s : State, s.dev.pin.fkill = false →
    Completes (mask [.mode, .drv, .tx, .rx, .lau, .prb, .sf, .hf, .ncp, .evr, .qs, .tim, .pmu, .pin]) .fkillAssert s fun t =>
      t.dev.pin = { s.dev.pin with fkill := true, resumeAt := none } ∧ t.dev.bridgesAreOff ∧
      ∀ c : Fin 192, (t.dev.drv.coil[c]).kword.en = false) ∧
  (∀ s : State, s.dev.drv.swkill = false →
    Completes (mask [.mode, .drv, .tx, .rx, .lau, .prb, .sf, .hf, .ncp, .evr, .qs, .tim,
      .pmu]) (.swkillWrite true) s fun t => t.dev.drv.swkill = true ∧ t.dev.bridgesAreOff ∧
      ∀ c : Fin 192, (t.dev.drv.coil[c]).kword.en = false) ∧
  (∀ s : State, Completes (mask [.mode, .drv, .tx, .rx, .lau, .prb, .sf, .hf, .ncp, .evr, .qs, .tim,
    .pmu]) (.swkillWrite false) s fun t => t.dev.drv.swkill = false) ∧
  (∀ s : State, s.dev.pin.fkill = true →
    Completes (mask [.pin]) .fkillDeassert s fun t =>
      t.dev.pin = { s.dev.pin with fkill := false, resumeAt := some s.dev.now } ∧ t.dev.drv = s.dev.drv) ∧
  (∀ (t0 : Nat) (s : State), s.dev.pin.resumeAt = some t0 → s.dev.pin.fkill = false → t0 + msT 1 ≤ s.dev.now →
    Completes (mask [.drv, .rx, .prb, .pin]) .probeResume s fun t => t.dev.pin = { s.dev.pin with resumeAt := none })

/-- The weights of a zone in use become due at the next carrier boundary, or are held while the framer sends (R146, R147). At the
boundary a set that no rule and no limit refuses is committed at the limiter's SCALE, and its coils take their roles; one that a rule
or the limiter refuses changes nothing but RULE and RULE_CODE, or REFUSED (R152, R154, R161, R179). Of commits at one boundary those of
lower zones have come first, and what is left of one that came so is its mark (R162). In a mode that permits zone fields a field that
no foreign active coil stands against starts its on ramp of RAMP + 1 carrier cycles; a foreign one that is not of a higher zone in the
same cycle refuses it with code 5, and a higher zone of the same cycle gives way (R149, R151, R153). In another mode the write changes
no field (R48). A field that is on starts its off ramp, without one where a kill holds the bridges off, and each ramp ends after its
cycles (R149, R151). A closing zone then gives its coils back (R272). -/
def Obligations.CommitsApplyAndFieldsRamp : Prop :=
  (∀ (n : Fin 24) (s : State), s.dev.hf.fr[n].tx ≠ .sending →
    Completes (mask [.tx]) (.txCommit n) s fun t =>
      t.dev.tx[n] = { s.dev.tx[n] with due := some (usedTx s.dev.tx[n].txw.toList), dueT := s.dev.now, early := false } ∧
      ∀ m, m ≠ n → t.dev.tx[m] = s.dev.tx[m]) ∧
  (∀ (n : Fin 24) (s : State), s.dev.hf.fr[n].tx = .sending →
    Completes (mask [.tx]) (.txCommit n) s fun t =>
      t.dev.tx[n] = { s.dev.tx[n] with held := some (usedTx s.dev.tx[n].txw.toList) } ∧ ∀ m, m ≠ n → t.dev.tx[m] = s.dev.tx[m]) ∧
  (∀ (n : Fin 24) (cur : List (Fin 192 × Nat)) (ws : List TxW) (s : State), s.dev.tx[n].due = some ws → usedTx ws = ws →
    carrierAfter s.dev.tx[n].dueT ≤ s.dev.now → s.dev.dueBelow n = [] →
    s.dev.ruleCode n ws = 0 → (s.dev.limit n ws).refuse = false →
    Completes (mask [.drv, .tx, .rx, .lau, .prb, .sf, .hf, .ncp, .evr, .qs, .tim, .pmu]) (.commitApply n cur) s fun t =>
      t.dev.tx[n].cur = ws ∧ t.dev.tx[n].driving = true ∧ t.dev.tx[n].scale = (s.dev.limit n ws).scale ∧ t.dev.tx[n].due = none ∧
      (∀ w ∈ ws, w.role ≤ 4 → ∀ c : Fin 192, c.val = w.coil → (s.dev.drv.coil[c]).role ≠ .fault →
        some (t.dev.drv.coil[c]).role = Role.ofTxw w.role) ∧
      ∀ m, m ≠ n → t.dev.tx[m] = s.dev.tx[m]) ∧
  (∀ (n : Fin 24) (cur : List (Fin 192 × Nat)) (ws : List TxW) (s : State), s.dev.tx[n].due = some ws → usedTx ws = ws →
    carrierAfter s.dev.tx[n].dueT ≤ s.dev.now → s.dev.dueBelow n = [] →
    s.dev.ruleCode n ws ≠ 0 → s.dev.sf.zone[n].entry = none →
    Completes (mask [.drv, .tx, .rx, .lau, .prb, .sf, .hf, .ncp, .evr, .qs, .tim, .pmu]) (.commitApply n cur) s fun t =>
      t.dev.tx[n] = { s.dev.tx[n] with due := none, rule := true, ruleCode := s.dev.ruleCode n ws } ∧
      (∀ m, m ≠ n → t.dev.tx[m] = s.dev.tx[m]) ∧ t.dev.drv = s.dev.drv) ∧
  (∀ (n : Fin 24) (cur : List (Fin 192 × Nat)) (ws : List TxW) (s : State), s.dev.tx[n].due = some ws → usedTx ws = ws →
    carrierAfter s.dev.tx[n].dueT ≤ s.dev.now → s.dev.dueBelow n = [] →
    s.dev.ruleCode n ws = 0 → (s.dev.limit n ws).refuse = true →
    Completes (mask [.drv, .tx, .rx, .lau, .prb, .sf, .hf, .ncp, .evr, .qs, .tim, .pmu]) (.commitApply n cur) s fun t =>
      t.dev.tx[n] = { s.dev.tx[n] with due := none, refused := true } ∧
      (∀ m, m ≠ n → t.dev.tx[m] = s.dev.tx[m]) ∧ t.dev.drv = s.dev.drv) ∧
  (∀ (n : Fin 24) (cur : List (Fin 192 × Nat)) (s : State), s.dev.tx[n].due = none → s.dev.tx[n].early = true →
    Completes (mask [.drv, .tx, .rx, .lau, .prb, .sf, .hf, .ncp, .evr, .qs, .tim, .pmu]) (.commitApply n cur) s fun t =>
      t.dev.tx[n] = { s.dev.tx[n] with early := false } ∧ (∀ m, m ≠ n → t.dev.tx[m] = s.dev.tx[m]) ∧ t.dev.drv = s.dev.drv) ∧
  (∀ (n : Fin 24) (s : State), s.dev.mode.cur.surface = true → s.dev.killed = false → s.dev.tx[n].on = false → s.dev.rivals n = [] →
    Completes (mask [.drv, .tx, .rx, .lau, .prb, .sf, .hf, .ncp, .evr, .qs, .tim, .pmu]) (.fieldWrite n true) s fun t =>
      t.dev.tx[n] = { s.dev.tx[n] with field := true, on := true, rampNow := .rising, rampT := s.dev.now,
                                       rampLen := rampCycles s.dev.drv.ramp } ∧ ∀ m, m ≠ n → t.dev.tx[m] = s.dev.tx[m]) ∧
  (∀ (n m : Fin 24) (s : State), s.dev.mode.cur.surface = true → s.dev.killed = false → s.dev.tx[n].on = false → m ∈ s.dev.rivals n →
    s.dev.yields n m = false → s.dev.sf.zone[n].entry = none →
    Completes (mask [.drv, .tx, .rx, .lau, .prb, .sf, .hf, .ncp, .evr, .qs, .tim, .pmu]) (.fieldWrite n true) s fun t =>
      t.dev.tx[n] = { s.dev.tx[n] with rule := true, ruleCode := 5 } ∧ (∀ m, m ≠ n → t.dev.tx[m] = s.dev.tx[m]) ∧
      t.dev.drv = s.dev.drv) ∧
  (∀ (n : Fin 24) (s : State), s.dev.mode.cur.surface = true → s.dev.killed = false → s.dev.tx[n].on = false →
    (∀ m ∈ s.dev.rivals n, s.dev.yields n m = true) →
    Completes (mask [.drv, .tx, .rx, .lau, .prb, .sf, .hf, .ncp, .evr, .qs, .tim, .pmu]) (.fieldWrite n true) s fun t =>
      t.dev.tx[n].on = true ∧ t.dev.tx[n].rampNow = .rising ∧
      ∀ m ∈ s.dev.rivals n, t.dev.tx[m].on = false ∧ t.dev.tx[m].rule = true ∧ t.dev.tx[m].ruleCode = 5) ∧
  (∀ (n : Fin 24) (s : State), s.dev.mode.cur.surface = false →
    Completes (mask [.drv, .tx, .rx, .lau, .prb, .sf, .hf, .ncp, .evr, .qs, .tim,
      .pmu]) (.fieldWrite n true) s fun t => t.dev.tx = s.dev.tx ∧ t.dev.drv = s.dev.drv) ∧
  (∀ (n : Fin 24) (s : State), s.dev.killed = false → s.dev.tx[n].on = true → s.dev.tx[n].rampNow ≠ .falling →
    Completes (mask [.drv, .tx, .rx, .lau, .prb, .sf, .hf, .ncp, .evr, .qs, .tim, .pmu]) (.fieldWrite n false) s fun t =>
      t.dev.tx[n] = { s.dev.tx[n] with field := false, rampNow := .falling, rampT := s.dev.now,
                                       rampLen := rampCycles s.dev.drv.ramp } ∧ ∀ m, m ≠ n → t.dev.tx[m] = s.dev.tx[m]) ∧
  (∀ (n : Fin 24) (s : State), s.dev.killed = true → s.dev.tx[n].on = true →
    Completes (mask [.drv, .tx, .rx, .lau, .prb, .sf, .hf, .ncp, .evr, .qs, .tim, .pmu]) (.fieldWrite n false) s fun t =>
      t.dev.tx[n] = { s.dev.tx[n] with field := false, on := false, rampNow := .none } ∧
      ∀ m, m ≠ n → t.dev.tx[m] = s.dev.tx[m]) ∧
  (∀ (n : Fin 24) (s : State), s.dev.tx[n].rampNow = .rising → s.dev.tx[n].on = true → s.dev.tx[n].rampT + s.dev.tx[n].rampLen ≤ s.dev.now →
    Completes (mask [.drv, .tx, .rx, .prb]) (.fieldRampEnd n) s fun t =>
      t.dev.tx[n] = { s.dev.tx[n] with rampNow := .none } ∧ ∀ m, m ≠ n → t.dev.tx[m] = s.dev.tx[m]) ∧
  (∀ (n : Fin 24) (s : State), s.dev.tx[n].rampNow = .falling → s.dev.tx[n].rampT + s.dev.tx[n].rampLen ≤ s.dev.now →
    s.dev.sf.zone[n].state ≠ .closing →
    Completes (mask [.drv, .tx, .rx, .prb]) (.fieldRampEnd n) s fun t =>
      t.dev.tx[n] = { s.dev.tx[n] with rampNow := .none, on := false } ∧ ∀ m, m ≠ n → t.dev.tx[m] = s.dev.tx[m]) ∧
  (∀ (n : Fin 24) (s : State), s.dev.tx[n].rampNow = .falling → s.dev.tx[n].rampT + s.dev.tx[n].rampLen ≤ s.dev.now →
    s.dev.sf.zone[n].state = .closing →
    Completes (mask [.drv, .tx, .rx, .prb]) (.fieldRampEnd n) s fun t =>
      t.dev.tx[n] = { s.dev.tx[n] with rampNow := .none, on := false, cur := [], driving := false, due := none, held := none } ∧
      ∀ c : Fin 192, (s.dev.drv.coil[c]).owner = some n →
        (t.dev.drv.coil[c]).owner = none ∧ ((s.dev.drv.coil[c]).role ≠ .fault →
          (t.dev.drv.coil[c]).role = .free ∨ (t.dev.drv.coil[c]).role = .shadow))

/-- A refresh of a drive link gives the Kettle its 48 drive words with the present ramp and modulation and ends park and a link fault
(R24, R145, R148, R149, R170). A re-evaluation takes the measured VDRV and temperature and raises no SCALE (R163). A measurement above
a limit lowers SCALE of the zones concerned by 16, and turns the field of one off whose SCALE would fall below MIN_SCALE (R164, R176).
-/
def Obligations.LinksAndLimits : Prop :=
  (∀ (k : Fin 4) (s : State), s.dev.linkRuns k = true → (s.dev.drv.ket[k]).linkNow = false →
    Completes (mask [.drv, .rx, .prb, .evr, .qs, .pmu]) (.driveLinkRefresh k) s fun t =>
      (∀ c : Fin 192, (t.dev.drv.coil[c]) =
        if kOf c = k then { s.dev.drv.coil[c] with kword := s.dev.linkWord c } else s.dev.drv.coil[c]) ∧
      (t.dev.drv.ket[k]) = { s.dev.drv.ket[k] with parked := false, linkOk := true } ∧
      ∀ j : Fin 4, j ≠ k → (t.dev.drv.ket[j]) = s.dev.drv.ket[j]) ∧
  (∀ (k : Fin 4) (s : State), s.dev.linkRuns k = true → (s.dev.drv.ket[k]).linkNow = true →
    Completes (mask [.drv, .rx, .prb, .evr, .qs, .pmu]) (.driveLinkRefresh k) s fun t =>
      (t.dev.drv.ket[k]) = { s.dev.drv.ket[k] with parked := false, linkOk := true, linkNow := false } ∧
      (∀ c : Fin 192, kOf c = k → (t.dev.drv.coil[c]).kword = s.dev.linkWord c) ∧
      ∀ j : Fin 4, j ≠ k → (t.dev.drv.ket[j]) = s.dev.drv.ket[j]) ∧
  (∀ (ks : Vector (Nat × Int) 4) (cur : List (Fin 192 × Nat)) (s : State), (∀ n : Fin 24, (s.dev.hf.fr[n]).overT = none) →
    Completes (mask [.mode, .drv, .tx, .rx, .prb, .hf, .evr, .pmu]) (.limiterReeval ks cur) s fun t =>
      (∀ k : Fin 4, (t.dev.drv.ket[k]).vdrv = (ks[k]).1 ∧ (t.dev.drv.ket[k]).temp = (ks[k]).2) ∧
      ∀ n : Fin 24, t.dev.tx[n].scale ≤ s.dev.tx[n].scale ∧ t.dev.tx[n].cur = s.dev.tx[n].cur) ∧
  (∀ (m : PowerMeas) (s : State), s.dev.mode.qual = none → m.tot < 2 ^ 14 → (∀ k : Fin 4, m.kets[k] < 2 ^ 12) →
    (∀ n ∈ s.dev.overZones m, s.dev.tx[n].minScale + 16 ≤ s.dev.tx[n].scale) →
    Completes (mask [.mode, .drv, .tx, .rx, .lau, .prb, .sf, .hf, .ncp, .evr, .qs, .tim, .pmu]) (.backstopMeasure m) s fun t =>
      t.dev.drv.meas = m.tot ∧ (∀ k : Fin 4, (t.dev.drv.ket[k]).meas = m.kets[k]) ∧
      (s.dev.overZones m ≠ [] → t.dev.drv.measLim = true) ∧
      ∀ n : Fin 24, t.dev.tx[n] =
        if n ∈ s.dev.overZones m then { s.dev.tx[n] with meas := true, scale := s.dev.tx[n].scale - 16 } else s.dev.tx[n]) ∧
  (∀ (m : PowerMeas) (n : Fin 24) (s : State), s.dev.mode.qual = none → n ∈ s.dev.overZones m →
    s.dev.tx[n].scale < s.dev.tx[n].minScale + 16 →
    Completes (mask [.mode, .drv, .tx, .rx, .lau, .prb, .sf, .hf, .ncp, .evr, .qs, .tim, .pmu]) (.backstopMeasure m) s fun t =>
      t.dev.tx[n].on = false ∧ t.dev.tx[n].field = false ∧ t.dev.drv.measLim = true)

/-- A coil fault turns its coil off in role FAULT, with its owner kept (R170, R171, R173, R600); so does the 10 ms scan (R170). A
Kettle fault other than OT_WARN turns off every coil of the Kettle, and clears by itself (R170). In a mode that permits its burst REARM
starts the test of a coil in FAULT that is not latched, at amplitude 16 and with its flags cleared, and on a latched coil it does
nothing (R172); the test gives an owned coil GUARD_DAMP and another FREE or SHADOW (R151, R172), or FAULT with its flag again (R172).
-/
def Obligations.FaultsHoldCoilsOffUntilRearm : Prop :=
  (∀ (c : Fin 192) (f : CoilFault) (s : State), (s.dev.drv.coil[c]).role ≠ .absent →
    (s.dev.drv.coil[c]).role ≠ .fault ∨ (s.dev.drv.coil[c]).rearm = true →
    f ≠ .opn ∨ ((s.dev.drv.coil[c]).word.en = true ∧ 32 ≤ (s.dev.drv.coil[c]).word.amp) → s.dev.drv.calAmp c = none →
    s.dev.mode.qual = none →
    Completes (mask [.mode, .drv, .tx, .rx, .lau, .prb, .sf, .hf, .ncp, .evr, .qs, .tim, .pmu]) (.driverFault (.coil c f)) s fun t =>
      (t.dev.drv.coil[c]).role = .fault ∧ (t.dev.drv.coil[c]).owner = (s.dev.drv.coil[c]).owner ∧
      (t.dev.drv.coil[c]).word.en = false ∧ (t.dev.drv.coil[c]).fcount = satInc 15 (s.dev.drv.coil[c]).fcount ∧
      (f = .oc → (t.dev.drv.coil[c]).oc = true) ∧ (f = .opn → (t.dev.drv.coil[c]).opn = true) ∧
      (f = .ron → (t.dev.drv.coil[c]).ron = true) ∧ t.dev.drv.coilf = satInc 65535 s.dev.drv.coilf) ∧
  (∀ (k : Fin 4) (f : KetFault) (v : Nat) (x : Int) (s : State), (s.dev.drv.ket[k]).has f = false → f.met v x = true →
    f ≠ .link ∨ (s.dev.drv.ket[k]).parked = false → s.dev.mode.qual = none →
    Completes (mask [.mode, .drv, .tx, .rx, .lau, .prb, .sf, .hf, .ncp, .evr, .qs, .tim, .pmu]) (.driverFault (.kettle k f v x)) s fun t =>
      (t.dev.drv.ket[k]).has f = true ∧ (t.dev.drv.ket[k]).vdrv = v ∧ (t.dev.drv.ket[k]).temp = x ∧
      (f ≠ .otWarn → ∀ c : Fin 192, kOf c = k → (t.dev.drv.coil[c]).word.en = false) ∧
      t.dev.drv.ketf = satInc 65535 s.dev.drv.ketf) ∧
  (∀ (k : Fin 4) (f : KetFault) (v : Nat) (x : Int) (s : State), (s.dev.drv.ket[k]).has f = true → f.ended v x = true →
    f ≠ .link ∨ s.dev.linkRuns k = true →
    Completes (mask [.drv, .rx, .prb, .evr, .qs, .pmu]) (.kettleFaultClear k f v x) s fun t =>
      (t.dev.drv.ket[k]) = { (s.dev.drv.ket[k]).clear f with vdrv := v, temp := x } ∧
      ∀ j : Fin 4, j ≠ k → (t.dev.drv.ket[j]) = s.dev.drv.ket[j]) ∧
  (∀ (cs : List (Fin 192)) (s : State), s.dev.mode.qual = none →
    Completes (mask [.mode, .drv, .tx, .rx, .prb, .ncp, .evr, .qs, .pmu]) (.ronMonitorScan cs) s fun t =>
      ∀ c ∈ cs, (s.dev.drv.coil[c]).role ≠ .absent →
        (t.dev.drv.coil[c]).role = .fault ∧ (t.dev.drv.coil[c]).owner = (s.dev.drv.coil[c]).owner ∧
        ((s.dev.drv.coil[c]).role ≠ .fault → (t.dev.drv.coil[c]).ron = true)) ∧
  (∀ (c : Fin 192) (s : State), (s.dev.drv.coil[c]).role = .fault → (s.dev.drv.coil[c]).latched = false →
    (s.dev.drv.coil[c]).rearm = false → s.dev.mode.cur.hfAllowed = true → s.dev.mode.cur ≠ .m3 →
    Completes (mask [.drv, .rx]) (.rearm c) s fun t =>
      ({ t.dev.drv.coil[c] with binDrv := (s.dev.drv.coil[c]).binDrv, binOwn := (s.dev.drv.coil[c]).binOwn } : Coil) =
        { s.dev.drv.coil[c] with oc := false, opn := false, ron := false, rearm := true, rearmT := s.dev.now,
                                 word := s.dev.burstWord c 16 } ∧
      ∀ x : Fin 192, x ≠ c → (t.dev.drv.coil[x]).role = (s.dev.drv.coil[x]).role ∧
        (t.dev.drv.coil[x]).owner = (s.dev.drv.coil[x]).owner ∧ (t.dev.drv.coil[x]).rearm = (s.dev.drv.coil[x]).rearm) ∧
  (∀ (c : Fin 192) (s : State), (s.dev.drv.coil[c]).latched = true → Completes (mask []) (.rearm c) s fun t => t = s) ∧
  (∀ (c : Fin 192) (s : State), (s.dev.drv.coil[c]).rearm = true →
    Completes (mask [.drv, .tx, .rx, .prb, .evr, .qs, .pmu]) (.rearmTestEnd c false false false) s fun t =>
      (t.dev.drv.coil[c]).rearm = false ∧ (t.dev.drv.coil[c]).owner = (s.dev.drv.coil[c]).owner ∧
      ((s.dev.drv.coil[c]).owner ≠ none → (t.dev.drv.coil[c]).role = .guardDamp) ∧
      ((s.dev.drv.coil[c]).owner = none → (t.dev.drv.coil[c]).role = .free ∨ (t.dev.drv.coil[c]).role = .shadow)) ∧
  (∀ (c : Fin 192) (s : State), (s.dev.drv.coil[c]).rearm = true →
    Completes (mask [.drv, .tx, .rx, .prb, .evr, .qs, .pmu]) (.rearmTestEnd c true false false) s fun t =>
      (t.dev.drv.coil[c]).rearm = false ∧ (t.dev.drv.coil[c]).role = .fault ∧ (t.dev.drv.coil[c]).oc = true ∧
      (t.dev.drv.coil[c]).fcount = satInc 15 (s.dev.drv.coil[c]).fcount)

/-- CALIBRATE of coils that no survey stands before runs (R157). Once its coil sets have been driven it completes; a coil that no burst
has measured has no valid record and every other keeps the one that its bursts gave (R158, R159). QUALIFY with TEST 0 replies with
zeros where no test runs (R79); an HF test starts with its coils and level (R79, R80), and after DURATION and its off ramp it ends and
its command completes (R83, R149). A test with HOLD replies once its field has ramped up, and goes on (R83). -/
def Obligations.CoilsAreCalibratedAndTested : Prop :=
  (∀ (tag : Fin 32) (c : Cmd) (store first last : Nat) (s : State), Ready 0x80 tag c s.dev → store < 2 → first ≤ last → last ≤ 191 →
    c.payload = [1, byteOf store, byteOf first, byteOf last] → s.dev.drv.calRun = none → s.dev.surveyAhead c.order = false →
    Completes (mask [.drv, .ncp, .evr, .qs, .pmu]) (.calibrateCoils tag) s fun t =>
      t.dev.drv = { s.dev.drv with calRun := some { tag := tag, target := 1, store := store.testBit 0, first := first, last := last } } ∧
      t.dev.cmd tag = some { c with phase := .coilSet }) ∧
  (∀ (r : CalRun) (c : Cmd) (s : State), s.dev.drv.calRun = some r → r.store = false → s.dev.seqDone r.tag = true →
    s.dev.cmd r.tag = some c → c.stopReq = false →
    Completes (mask [.drv, .rx, .hf, .nvm, .kiln, .ncp, .evr, .qs, .pmu]) .calibrateDone s fun t =>
      let all := allCoils.filter fun k => decide (r.first ≤ k.val) && decide (k.val ≤ r.last) && decide ((s.dev.drv.coil[k]).role ≠ .absent)
      let ok := (all.filter fun k => (t.dev.drv.coil[k]).cal.valid).length
      t.dev.drv.calRun = none ∧ Replied r.tag c .ok [1, byteOf ok, byteOf (all.length - ok), 0] s.dev t.dev ∧
      ∀ k : Fin 192, (t.dev.drv.coil[k]).cal =
        if k ∈ all ∧ k.val ∉ s.dev.seqGot r.tag then {} else (s.dev.drv.coil[k]).cal) ∧
  (∀ (tag : Fin 32) (draw : Nat) (c : Cmd) (s : State), Ready 0x94 tag c s.dev → c.payload = List.replicate 12 0 → s.dev.mode.cur = .m10 →
    s.dev.mode.qual = none →
    Completes (mask [.mode, .drv, .rx, .uhf, .room, .ncp, .evr, .qs, .pmu]) (.qualify tag draw) s fun t => t.dev.mode = s.dev.mode ∧ Replied tag c .ok (List.replicate 8 0) s.dev t.dev) ∧
  (∀ (tag : Fin 32) (draw : Nat) (c : Cmd) (k : Fin 192) (s : State), Ready 0x94 tag c s.dev → c.payload.length = 12 → s.dev.mode.cur = .m10 →
    s.dev.mode.qual = none → s.dev.fade = none → s.dev.qualOk c.payload = true → byteAt c.payload 0 = 1 → (byteAt c.payload 1).testBit 0 = false →
    c.deadline = 0 → s.dev.drv.layoutOk = true → s.dev.killed = false → (∀ j : Fin 4, (s.dev.drv.ket[j]).off = false) →
    byteAt c.payload 4 ≤ k.val → k.val ≤ byteAt c.payload 5 → (s.dev.drv.coil[k]).role ≠ .absent → (s.dev.drv.coil[k]).role ≠ .fault →
    Completes (mask [.mode, .drv, .rx, .uhf, .room, .ncp, .evr, .qs, .pmu]) (.qualify tag draw) s fun t =>
      ∃ q, t.dev.mode.qual = some q ∧ q.test = 1 ∧ q.hold = false ∧ q.first = byteAt c.payload 4 ∧ q.last = byteAt c.payload 5 ∧
        q.level = byteAt c.payload 6 ∧ q.duration = leAt c.payload 2 2 ∧ q.tag = some tag ∧ q.start = s.dev.now ∧
        q.len = rampCycles s.dev.drv.ramp) ∧
  (∀ (q : Qual) (tag : Fin 32) (c : Cmd) (s : State), s.dev.mode.qual = some q → q.hf = true → q.hold = false →
    q.start + msT q.duration + q.len ≤ s.dev.now → q.tag = some tag → s.dev.cmd tag = some c →
    Completes (mask [.mode, .drv, .rx, .uhf, .ncp, .evr, .qs, .pmu]) .qualifyTestEnd s fun t =>
      t.dev.mode.qual = none ∧ Replied tag c .ok (s.dev.qualReply q 0) s.dev t.dev) ∧
  (∀ (q : Qual) (tag : Fin 32) (c : Cmd) (s : State), s.dev.mode.qual = some q → q.hf = true → q.hold = true →
    q.start + q.len ≤ s.dev.now → q.tag = some tag → s.dev.cmd tag = some c →
    Completes (mask [.mode, .drv, .rx, .uhf, .ncp, .evr, .qs, .pmu]) .qualifyTestEnd s fun t =>
      t.dev.mode.qual = some { q with tag := none } ∧ Replied tag c .ok (s.dev.qualReply q 1) s.dev t.dev)

/-! ## The receive chain (chapter 05) -/

/-- A sample of the ADC at 0.98 of full scale steps the gain of a channel outside receive sets down, and that of its whole set where it
is in one; a frozen set notes it in CLIP (R192, R193, R196). At the end of a window of AGC_WIN valid words a loop below LOW_TH steps
up, and before it nothing steps (R192). An invalid run that has passed ends (R200); RX_CMD.HCLR makes every history invalid (R196). A
filter profile takes effect at once, or at the end of the frame that is being received (R187). Loop mode FIXED gives every channel of
the receive set the gain GFIX, and a change to AUTO starts a new window (R191, R195). -/
def Obligations.ReceiveChannelsFollowTheirControls : Prop :=
  (∀ (c : Fin 192) (x : Int) (ws : AdcWords) (s : State), (s.dev.pmu.dom[hfrxDom c]).p = .up → 98 * 8192 ≤ 100 * x.natAbs →
    s.dev.setOf c = none → (s.dev.rx.ch[c]).saved = none → 0 < (s.dev.rx.ch[c]).gain →
    Completes (mask [.rx]) (.adcOverrange c x ws) s fun t =>
      (t.dev.rx.ch[c]).gain = (s.dev.rx.ch[c]).gain - 1 ∧ (t.dev.rx.ch[c]).histQ = (s.dev.rx.ch[c]).gain - 1 ∧
      (t.dev.rx.ch[c]).hvQ = true ∧ (t.dev.rx.ch[c]).ovr = true ∧ t.dev.rx.cntOvr = satInc 65535 s.dev.rx.cntOvr ∧
      s.dev.now + 384 ≤ (t.dev.rx.ch[c]).invEnd ∧ ∀ y : Fin 192, y ≠ c → (t.dev.rx.ch[y]) = s.dev.rx.ch[y]) ∧
  (∀ (c : Fin 192) (n : Fin 24) (x : Int) (ws : AdcWords) (s : State), (s.dev.pmu.dom[hfrxDom c]).p = .up → 98 * 8192 ≤ 100 * x.natAbs →
    s.dev.setOf c = some n →
    Completes (mask [.rx]) (.adcOverrange c x ws) s fun t =>
      (t.dev.rx.ch[c]).ovr = true ∧ t.dev.rx.cntOvr = satInc 65535 s.dev.rx.cntOvr ∧
      ((s.dev.rx.zone[n]).frozen = true → (t.dev.rx.zone[n]) = { s.dev.rx.zone[n] with clip := true }) ∧
      ((s.dev.rx.zone[n]).frozen = false → (s.dev.rx.zone[n]).agc = 0 → 0 < (s.dev.rx.zone[n]).gain →
        (t.dev.rx.zone[n]).gain = (s.dev.rx.zone[n]).gain - 1 ∧
        ∀ y : Fin 192, s.dev.member n y = true → (t.dev.rx.ch[y]).gain = (s.dev.rx.zone[n]).gain - 1)) ∧
  (∀ (c : Fin 192) (x : Int) (s : State), 100 * x.natAbs < 98 * 8192 →
    Completes (mask []) (.adcOverrange c x []) s fun t => t = s) ∧
  (∀ (c : Fin 192) (ws : List (Fin 192 × AdcWords)) (s : State), s.dev.alwaysInv c = false → s.dev.setOf c = none →
    (s.dev.rx.ch[c]).saved = none → s.dev.rx.agcWin ≤ s.dev.validIn [c] (s.dev.rx.ch[c]).winT s.dev.now →
    Completes (mask [.rx]) (.agcWindowEnd c ws) s fun t =>
      (t.dev.rx.ch[c]).gain = (if 16 * (ws.map fun x => peakOf x.2).foldl max 0 < s.dev.rx.lowTh * 8192 ∧ (s.dev.rx.ch[c]).gain < 6 then
        (s.dev.rx.ch[c]).gain + 1 else (s.dev.rx.ch[c]).gain) ∧
      (t.dev.rx.ch[c]).histQ = (t.dev.rx.ch[c]).gain ∧ (t.dev.rx.ch[c]).hvQ = true ∧
      ∀ y : Fin 192, y ≠ c → (t.dev.rx.ch[y]).gain = (s.dev.rx.ch[y]).gain) ∧
  (∀ (c : Fin 192) (ws : List (Fin 192 × AdcWords)) (s : State), s.dev.setOf c = none →
    s.dev.validIn [c] (s.dev.rx.ch[c]).winT s.dev.now < s.dev.rx.agcWin →
    Completes (mask [.rx]) (.agcWindowEnd c ws) s fun t => ∀ y : Fin 192, (t.dev.rx.ch[y]).gain = (s.dev.rx.ch[y]).gain) ∧
  (∀ (c : Fin 192) (n : Fin 24) (ws : List (Fin 192 × AdcWords)) (s : State), s.dev.alwaysInv c = false → s.dev.setOf c = some n →
    (s.dev.rx.zone[n]).agc = 0 → (s.dev.rx.zone[n]).frozen = false → (s.dev.rx.zone[n]).gain < 6 →
    s.dev.rx.agcWin ≤ s.dev.validIn (s.dev.members n) (s.dev.rx.zone[n]).winT s.dev.now →
    16 * (ws.map fun x => peakOf x.2).foldl max 0 < s.dev.rx.lowTh * 8192 →
    Completes (mask [.rx]) (.agcWindowEnd c ws) s fun t =>
      (t.dev.rx.zone[n]).gain = (s.dev.rx.zone[n]).gain + 1 ∧
      ∀ y : Fin 192, s.dev.member n y = true → (t.dev.rx.ch[y]).gain = (s.dev.rx.zone[n]).gain + 1) ∧
  (∀ (c : Fin 192) (s : State), (s.dev.rx.ch[c]).invEnd ≤ s.dev.now →
    Completes (mask [.rx]) (.invalidRunEnd c) s fun t =>
      (t.dev.rx.ch[c]) = { s.dev.rx.ch[c] with invEnd := 0, cause := 0 } ∧ ∀ x : Fin 192, x ≠ c → (t.dev.rx.ch[x]) = s.dev.rx.ch[x]) ∧
  (∀ s : State, Completes (mask [.rx]) .hclr s fun t =>
      ∀ x : Fin 192, (t.dev.rx.ch[x]) = { s.dev.rx.ch[x] with hvQ := false, hvF := false }) ∧
  (∀ (n : Fin 24) (p : Nat) (s : State), p ≤ 2 →
    Completes (mask [.rx]) (.filtWrite n p) s fun t =>
      (t.dev.rx.zone[n]) = (if (s.dev.lau.zone[n]).hold = true then { s.dev.rx.zone[n] with filt := p, held := some p }
        else { s.dev.rx.zone[n] with filt := p, filtAct := p, held := none }) ∧
      ∀ m : Fin 24, m ≠ n → (t.dev.rx.zone[m]) = s.dev.rx.zone[m]) ∧
  (∀ (n : Fin 24) (gfix : Nat) (s : State), gfix < 7 → (s.dev.rx.zone[n]).gain ≠ gfix →
    Completes (mask [.rx]) (.agcModeWrite n 2 gfix) s fun t =>
      (t.dev.rx.zone[n]) = { s.dev.rx.zone[n] with agc := 2, gfix := gfix, gain := gfix, winT := s.dev.now } ∧
      ∀ c : Fin 192, (t.dev.rx.ch[c]).gain = if s.dev.member n c then gfix else (s.dev.rx.ch[c]).gain) ∧
  (∀ (n : Fin 24) (gfix : Nat) (s : State), gfix < 7 →
    Completes (mask [.rx]) (.agcModeWrite n 0 gfix) s fun t =>
      (t.dev.rx.zone[n]) = { s.dev.rx.zone[n] with
        agc := 0, gfix := gfix, winT := if (s.dev.rx.zone[n]).agc ≠ 0 then s.dev.now else (s.dev.rx.zone[n]).winT } ∧
      t.dev.rx.ch = s.dev.rx.ch)

/-! ## Lauter (chapter 06) -/

/-- A template whose score reaches its threshold with seven eighths of its span valid enters the peak search, and with fewer is
counted; one that has crossed goes on in it, and a score below the threshold changes nothing (R220, R222 to R224). The search ends
after PEAK_WIN words without a new highest score, or 256 words (R223). A detection is declared from the best of its search: its record
is the last of the queue, HOLD is set, the search is over, the gain loop is frozen and the framer has its detection with template,
variant and phase (R193, R219, R225 to R228). LZn_DPOP takes the oldest record (R227). -/
def Obligations.DetectionsAreSearchedAndDeclared : Prop :=
  (∀ (n : Fin 24) (tid var : Nat) (xs : List Cplx) (u : Tmpl) (s : State), tmpl tid = some u → s.dev.lau.lib = true → s.dev.runs n u = true →
    (s.dev.lau.zone[n]).hold = false → (s.dev.lau.zone[n]).due = none →
    (s.dev.lau.zone[n]).listen = true ∨ (s.dev.lau.zone[n]).crossed tid ≠ none →
    7 * u.span ≤ 8 * s.dev.validWords n u →
    Completes (mask [.lau]) (.templateCrossing n tid var xs) s fun t =>
      (t.dev.lau.zone[n]) = (let v := if tid = 14 then var % 3 else 0
        if (s.dev.lau.zone[n]).crossed tid = none ∧ s.dev.score n u v xs < s.dev.threshold n u then s.dev.lau.zone[n]
        else (s.dev.lau.zone[n]).cross
          { tid := tid, var := v, score := s.dev.score n u v xs, th := s.dev.threshold n u, quiet := s.dev.zoneQuiet n
            phc := s.dev.phc, tsc := s.dev.now } s.dev.now) ∧
      ∀ m : Fin 24, m ≠ n → (t.dev.lau.zone[m]) = s.dev.lau.zone[m]) ∧
  (∀ (n : Fin 24) (tid var : Nat) (xs : List Cplx) (u : Tmpl) (s : State), tmpl tid = some u → s.dev.lau.lib = true → s.dev.runs n u = true →
    (s.dev.lau.zone[n]).listen = true → (s.dev.lau.zone[n]).hold = false → (s.dev.lau.zone[n]).due = none →
    (s.dev.lau.zone[n]).crossed tid = none → 8 * s.dev.validWords n u < 7 * u.span →
    Completes (mask [.lau]) (.templateCrossing n tid var xs) s fun t =>
      (t.dev.lau.zone[n]) = { s.dev.lau.zone[n] with
        inelig := if s.dev.score n u (if tid = 14 then var % 3 else 0) xs < s.dev.threshold n u then (s.dev.lau.zone[n]).inelig
          else satInc 255 (s.dev.lau.zone[n]).inelig }) ∧
  (∀ (n : Fin 24) (tid var : Nat) (xs : List Cplx) (u : Tmpl) (s : State), tmpl tid = some u → (s.dev.lau.zone[n]).crossed tid = none →
    s.dev.score n u (if tid = 14 then var % 3 else 0) xs < s.dev.threshold n u →
    Completes (mask []) (.templateCrossing n tid var xs) s fun t => t = s) ∧
  (∀ (n : Fin 24) (s : State), (s.dev.lau.zone[n]).search ≠ [] → (s.dev.lau.zone[n]).due = none →
    16 * s.dev.lau.peakWin ≤ s.dev.now - (s.dev.lau.zone[n]).lastMax ∨ 4096 ≤ s.dev.now - (s.dev.lau.zone[n]).firstAt →
    Completes (mask [.lau]) (.peakSearchEnd n) s fun t =>
      (t.dev.lau.zone[n]) = { s.dev.lau.zone[n] with due := some (s.dev.now + 64) }) ∧
  (∀ (n : Fin 24) (mag phase frac t0 : Nat) (b : Cross) (s : State), (s.dev.lau.zone[n]).due = some t0 → t0 ≤ s.dev.now →
    bestOf (s.dev.lau.zone[n]).search = some b → (s.dev.hf.fr[n]).abandT ≠ some s.dev.now →
    Completes (mask [.rx, .lau, .hf, .kiln, .evr, .qs, .tim, .pmu]) (.detectionDeclare n mag phase frac) s fun t =>
      (∃ r, (t.dev.lau.zone[n]).dets.getLast? = some r ∧ r.tid = b.tid ∧ r.var = b.var ∧ r.score = b.score ∧ r.th = b.th ∧
        r.phc = b.phc ∧ r.seq = (s.dev.lau.zone[n]).seq ∧ r.mag = mag % 65536) ∧
      (t.dev.lau.zone[n]).hold = true ∧ (t.dev.lau.zone[n]).search = [] ∧ (t.dev.lau.zone[n]).due = none ∧
      (t.dev.lau.zone[n]).seq = ((s.dev.lau.zone[n]).seq + 1) % 16 ∧
      (t.dev.rx.zone[n]).frozen = true ∧ (t.dev.hf.fr[n]).det = true ∧
      (t.dev.hf.fr[n]).demod = some { tid := b.tid, var := b.var, tsc := b.tsc, frac := frac % 8, phase := phase % 2048 }) ∧
  (∀ (n : Fin 24) (s : State),
    Completes (mask [.lau]) (.lzDpop n) s fun t =>
      (t.dev.lau.zone[n]) = { s.dev.lau.zone[n] with dets := (s.dev.lau.zone[n]).dets.drop 1 } ∧
      ∀ m : Fin 24, m ≠ n → (t.dev.lau.zone[m]) = s.dev.lau.zone[m])

/-- A request for engines is refused with its code, held while HOLD is 1, or put into the waiting order behind the earlier ones and the
lower zones of its cycle (R232, R233, R236); the head of that order is granted where engines suffice (R233). PROBE_ENG takes a value
from 2 to 8, to which idle PROBE engines above it give way, and no other (R20, R234). A slot boundary starts bursts only on coils that
are eligible, or that border a zone, and no more of them than engines are held for probing (R244, R246, R250). PRB_CMD.BCLR makes every
baseline invalid (R255). -/
def Obligations.EnginesAndBurstsAreGranted : Prop :=
  (∀ (n : Fin 24) (m : Nat) (s : State), (s.dev.sf.zone[n]).state = .opened → trackRefuse (m % 16384) ≠ 0 →
    Completes (mask [.lau]) (.lzReq n 2 m) s fun t =>
      (t.dev.lau.zone[n]) = { s.dev.lau.zone[n] with reqClass := 2, reqMask := m % 16384, refuse := trackRefuse (m % 16384) }) ∧
  (∀ (n : Fin 24) (m : Nat) (s : State), (s.dev.sf.zone[n]).state = .opened → (s.dev.lau.zone[n]).hold = true →
    Completes (mask [.lau]) (.lzReq n 1 m) s fun t =>
      (t.dev.lau.zone[n]) = { s.dev.lau.zone[n] with
        reqClass := 1, reqMask := m % 16384, wait := some { cls := .recog, tmask := m % 16384, held := true, since := s.dev.now } }) ∧
  (∀ (n : Fin 24) (m : Nat) (a b : List (Fin 24)) (s : State), (s.dev.sf.zone[n]).state = .opened → (s.dev.lau.zone[n]).hold = false →
    (s.dev.lau.zone[n]).cls = .none → s.dev.lau.order.filter (fun k => k ≠ n) = a ++ b →
    (∀ k ∈ a, ∃ r, (s.dev.lau.zone[k]).wait = some r ∧ (r.since < s.dev.now ∨ k < n)) →
    (∀ k, b.head? = some k → ∃ r, (s.dev.lau.zone[k]).wait = some r ∧ s.dev.now ≤ r.since ∧ n ≤ k) →
    Completes (mask [.lau]) (.lzReq n 1 m) s fun t =>
      t.dev.lau.order = a ++ n :: b ∧
      ∃ r, (t.dev.lau.zone[n]).wait = some r ∧ r.cls = .recog ∧ r.held = false ∧ r.since = s.dev.now) ∧
  (∀ (n : Fin 24) (rest : List (Fin 24)) (r : LReq) (s : State), s.dev.lau.order = n :: rest → s.dev.lau.probing = false →
    (s.dev.lau.zone[n]).wait = some r → r.cls.need ≤ s.dev.lau.freeEng.length + (s.dev.lau.zone[n]).cls.need →
    Completes (mask [.lau]) .engineGrant s fun t =>
      (t.dev.lau.zone[n]).cls = r.cls ∧ (t.dev.lau.zone[n]).wait = none ∧ t.dev.lau.order = rest.filter (fun k => k ≠ n) ∧
      ∀ m : Fin 24, m ≠ n → (t.dev.lau.zone[m]) = s.dev.lau.zone[m]) ∧
  (∀ (v : Nat) (s : State), 2 ≤ v → v ≤ 8 →
    Completes (mask [.lau]) (.probeEngChange v) s fun t =>
      t.dev.lau.probeEng = v ∧ t.dev.lau.order = s.dev.lau.order ∧
      (∀ n : Fin 24, (t.dev.lau.zone[n]).cls = (s.dev.lau.zone[n]).cls) ∧
      ((∀ e : Fin 64, (s.dev.lau.eng[e]).coil = none) → t.dev.lau.probeEngs.length ≤ v)) ∧
  (∀ (v : Nat) (s : State), v < 2 ∨ 8 < v → Completes (mask []) (.probeEngChange v) s fun t => t = s) ∧
  (∀ (rs : List Reading) (s : State), s.dev.mode.cur.surface = true →
    Completes (mask [.drv, .rx, .lau, .prb, .sf, .hf, .kiln, .evr, .qs, .pmu]) (.probeSlotBoundary rs) s fun t =>
      t.dev.prb.bursts.length ≤ t.dev.lau.probeEngs.length ∧
      ∀ b ∈ t.dev.prb.bursts, ∃ c : Fin 192, b.coil = c.val ∧ (t.dev.elig c = 0 ∨ t.dev.elig c = 2)) ∧
  (∀ s : State, Completes (mask [.prb]) .prbBclr s fun t =>
    ∀ c : Fin 192, (t.dev.prb.coil[c]) = { s.dev.prb.coil[c] with bvalid := false, bsrc := false, self := (0, 0), mutB := [] })

/-! ## Probing, zones and the presence table (chapter 07) -/

/-- OPEN on a free engine whose listed coils can be granted opens the zone and gives it those coils, and otherwise sets OREF and
changes no coil (R264, R269). A close takes an open zone to CLOSING with its cause, its field off, its engines released and its framer
still (R271, R272); HOLD_MS after its last command an idle zone closes with cause 1 (R271, R293). Once its field is off the engine is
FREE and owns no coil (R272). -/
def Obligations.ZonesOpenAndClose : Prop :=
  (∀ (n : Fin 24) (s : State), (s.dev.sf.zone[n]).state = .free → s.dev.openable n = true →
    Completes (mask [.tb, .drv, .tx, .rx, .lau, .prb, .sf, .hf, .evr, .qs, .tim, .pmu]) (.zoneOpen n) s fun t =>
      (t.dev.sf.zone[n]).state = .opened ∧ (t.dev.sf.zone[n]).entry = (s.dev.sf.zone[n]).entry ∧
      (t.dev.sf.zone[n]).oref = false ∧
      (∀ c : Fin 192, match (s.dev.sf.zone[n]).list.find? (fun x => decide (x.1 = c.val)) with
        | some x => ∀ r, Role.ofTxw x.2 = some r → (t.dev.drv.coil[c]).role = r ∧ (t.dev.drv.coil[c]).owner = some n
        | none => (t.dev.drv.coil[c]).owner = (s.dev.drv.coil[c]).owner) ∧
      ∀ m : Fin 24, m ≠ n → (t.dev.sf.zone[m]) = s.dev.sf.zone[m] ∧ t.dev.tx[m] = s.dev.tx[m]) ∧
  (∀ (n : Fin 24) (s : State), (s.dev.sf.zone[n]).state = .free → s.dev.openable n = false → (s.dev.sf.zone[n]).reserved = false →
    Completes (mask [.tb, .drv, .tx, .rx, .lau, .prb, .sf, .hf, .evr, .qs, .tim, .pmu]) (.zoneOpen n) s fun t =>
      (t.dev.sf.zone[n]) = { s.dev.sf.zone[n] with oref := true } ∧ t.dev.drv = s.dev.drv ∧ t.dev.tx = s.dev.tx) ∧
  (∀ (n : Fin 24) (cause : Nat) (s : State), (s.dev.sf.zone[n]).state = .opened →
    Completes (mask [.drv, .tx, .rx, .lau, .prb, .sf, .hf, .ncp, .evr, .qs, .tim, .pmu]) (.zoneClose n cause) s fun t =>
      (t.dev.sf.zone[n]).state = .closing ∧ (t.dev.sf.zone[n]).cause = cause ∧ t.dev.tx[n].field = false ∧
      (t.dev.lau.zone[n]).cls = .none ∧ (t.dev.lau.zone[n]).hold = false ∧ (t.dev.hf.fr[n]).tx = .idle) ∧
  (∀ (n : Fin 24) (s : State), (s.dev.sf.zone[n]).state = .opened → (s.dev.sf.zone[n]).identified = true → s.dev.zoneIdle n = true →
    msT s.dev.sf.holdMs ≤ s.dev.now - (s.dev.sf.zone[n]).lastUse →
    Completes (mask [.drv, .tx, .rx, .lau, .prb, .sf, .hf, .ncp, .evr, .qs, .tim, .pmu]) (.holdTimeExpiry n) s fun t =>
      (t.dev.sf.zone[n]).state = .closing ∧ (t.dev.sf.zone[n]).cause = 1 ∧ t.dev.tx[n].field = false) ∧
  (∀ (n : Fin 24) (s : State), (s.dev.sf.zone[n]).state = .closing → s.dev.tx[n].on = false →
    Completes (mask [.drv, .tx, .rx, .prb, .sf]) (.zoneCloseDone n) s fun t =>
      (t.dev.sf.zone[n]).state = .free ∧ (t.dev.sf.zone[n]).entry = none ∧ t.dev.tx[n].cur = [] ∧ t.dev.tx[n].driving = false ∧
      ∀ c : Fin 192, (t.dev.drv.coil[c]).owner =
        if (s.dev.drv.coil[c]).owner = some n then none else (s.dev.drv.coil[c]).owner)

/-- A command that has waited ZWAIT_MS for a zone completes with RESOURCE_BUSY (R276). SURFACE_START replies with PT_GEN and gives the
next update step its policy (R293), which that step takes (R285, R293). A card gone leaves the table with PT_GEN raised and its reuse
count one higher (R284, R285). -/
def Obligations.PresencePolicyAndEntries : Prop :=
  (∀ (tag : Fin 32) (c : Cmd) (s : State), s.dev.cmd tag = some c → c.opc ≠ 4 → c.phase = .zone → c.deadline = 0 →
    msT s.dev.sf.zwaitMs ≤ s.dev.now - c.waitT →
    Completes (mask [.hf, .ncp, .evr, .qs, .pmu]) (.zoneWaitTimeout tag) s fun t =>
      t.dev.ncp.tags[tag] = .done c.resv Status.resourceBusy.code ∧ t.dev.sf = s.dev.sf) ∧
  (∀ (tag : Fin 32) (c : Cmd) (hold wait auto_ act : Nat) (s : State), Ready 0x10 tag c s.dev → hold ≤ 60000 → 1 ≤ wait → wait ≤ 5000 →
    auto_ ≤ 1 → 1 ≤ act → act ≤ 9 → c.payload = le 2 hold ++ le 2 wait ++ [byteOf auto_, byteOf act, 0, 0] →
    Completes (mask [.sf, .ncp, .evr, .qs, .pmu]) (.surfaceStart tag) s fun t =>
      t.dev.sf = { s.dev.sf with newPolicy := some (hold, wait, auto_.testBit 0, act) } ∧
      Replied tag c .ok (le 4 s.dev.sf.gen.toNat) s.dev t.dev) ∧
  (∀ (p : Nat × Nat × Bool × Nat) (s : State), s.dev.room.lastRoom = true ∨ s.dev.presDue = false ∨ s.dev.roomDue = false →
    s.dev.sf.pend = [] → s.dev.sf.newPolicy = some p → s.dev.waitList = [] →
    Completes (mask [.drv, .tx, .rx, .lau, .prb, .sf, .hf, .room, .ncp, .evr, .qs, .tim, .pmu]) .presenceUpdateStep s fun t =>
      t.dev.sf = { s.dev.sf with
        holdMs := p.1, zwaitMs := p.2.1, autoIdent := p.2.2.1, minAct := p.2.2.2, newPolicy := none
        zoneMap := (s.dev.busyZones.map fun n => 2 ^ n.val).sum }) ∧
  (∀ (i : Fin 512) (e : Entry) (phc : Word) (s : State), s.dev.room.lastRoom = true ∨ s.dev.presDue = false ∨ s.dev.roomDue = false →
    s.dev.sf.pend = [.gone i.val phc] → s.dev.sf.entry[i] = some e →
    (∀ (j : Fin 512) (x : Entry), s.dev.sf.entry[j] = some x → j = i ∨ x.state ≠ .waiting) →
    Completes (mask [.drv, .tx, .rx, .lau, .prb, .sf, .hf, .room, .ncp, .evr, .qs, .tim, .pmu]) .presenceUpdateStep s fun t =>
      t.dev.sf.entry[i] = none ∧ t.dev.sf.reuse[i] = (s.dev.sf.reuse[i] + 1) % 128 ∧ t.dev.sf.gen = s.dev.sf.gen + 1 ∧
      t.dev.sf.pend = [])

/-- SNAPSHOT freezes the tables it asks for, as they stood when it was accepted, and replies with their first page (R289 to R291); a
buffer that no command has named for 1 s is released (R292). -/
def Obligations.SnapshotsFreezeTables : Prop :=
  (∀ (tag : Fin 32) (c : Cmd) (table : Nat) (b : Fin 2) (s : State), Ready 0x05 tag c s.dev → 1 ≤ table → table ≤ 3 →
    c.payload = [byteOf table, 3, 0, 0, 0, 0, 0, 0] → ((List.finRange 2).find? fun k => (s.dev.sf.snap[k]).isNone) = some b →
    Completes (mask [.sf, .ncp, .evr, .qs, .pmu]) (.snapshot tag) s fun t =>
      t.dev.sf = { s.dev.sf with taken := s.dev.sf.taken.filter fun x => decide (x.1 ≠ tag.val) } ∧
      Replied tag c .ok ((s.dev.frozenAt tag.val table).reply b.val (if table.testBit 0 then 0 else 512)).1 s.dev t.dev) ∧
  (∀ (tag : Fin 32) (c : Cmd) (table : Nat) (b : Fin 2) (s : State), Ready 0x05 tag c s.dev → 1 ≤ table → table ≤ 3 →
    c.payload = [byteOf table, 1, 0, 0, 0, 0, 0, 0] → ((List.finRange 2).find? fun k => (s.dev.sf.snap[k]).isNone) = some b →
    ((s.dev.frozenAt tag.val table).reply b.val (if table.testBit 0 then 0 else 512)).2 = false →
    Completes (mask [.sf, .ncp, .evr, .qs, .pmu]) (.snapshot tag) s fun t =>
      t.dev.sf = { s.dev.sf with
        snap := s.dev.sf.snap.set b.val (some (s.dev.frozenAt tag.val table)) b.isLt
        taken := s.dev.sf.taken.filter fun x => decide (x.1 ≠ tag.val) } ∧
      Replied tag c .ok ((s.dev.frozenAt tag.val table).reply b.val (if table.testBit 0 then 0 else 512)).1 s.dev t.dev) ∧
  (∀ (b : Fin 2) (x : Snap) (s : State), s.dev.sf.snap[b] = some x → x.named + msT 1000 ≤ s.dev.now →
    Completes (mask [.sf]) (.snapshotReleaseTimeout b) s fun t =>
      t.dev.sf = { s.dev.sf with snap := s.dev.sf.snap.set b.val none b.isLt })

/-! ## HF framers and card protocols (chapter 08) -/

/-- SEND codes LEN bytes of the transmit buffer and starts them at a carrier boundary, or arms the framer, and is held while a frame is
received (R302, R303); the frame's end raises the framer's source, is the start of its listening window and lets a held commit go
(R147, R302, R304). The listening window opens WOPEN words after the frame's end (R304), and closes with NO_RESP where nothing was
detected (R304, R306). -/
def Obligations.FramesAreSentAndAwaited : Prop :=
  (∀ (n : Fin 24) (s : State), (s.dev.sf.zone[n]).state = .opened → (s.dev.hf.fr[n]).tx ≠ .sending → (s.dev.lau.zone[n]).hold = false →
    Completes (mask [.lau, .hf]) (.frameSend n) s fun t =>
      (t.dev.hf.fr[n]) = (let f := s.dev.hf.fr[n]
        if f.arm then { f with heldSend := false, winFrom := none, tx := .armed }
        else { f with
          heldSend := false, winFrom := none, tx := .sending, waveT := carrierAfter (s.dev.now + 16 * f.gap), gap := 0
          wave := frameWave f.tech f.txRate f.pause f.par f.crcTx f.lastBits ((List.range f.len).map fun i => (f.txBuf[i]?).getD 0) }) ∧
      (t.dev.lau.zone[n]) = { s.dev.lau.zone[n] with listen := false } ∧
      ∀ m : Fin 24, m ≠ n → (t.dev.hf.fr[m]) = (s.dev.hf.fr[m])) ∧
  (∀ (n : Fin 24) (s : State), (s.dev.sf.zone[n]).state = .opened → (s.dev.hf.fr[n]).tx ≠ .sending → (s.dev.lau.zone[n]).hold = true →
    Completes (mask [.lau, .hf]) (.frameSend n) s fun t =>
      (t.dev.hf.fr[n]) = { s.dev.hf.fr[n] with heldSend := true } ∧ t.dev.lau = s.dev.lau) ∧
  (∀ (n : Fin 24) (s : State), (s.dev.hf.fr[n]).tx = .sending → (s.dev.hf.fr[n]).slots.head? ≠ some .sensf →
    Completes (mask [.drv, .tx, .rx, .lau, .prb, .sf, .hf, .ncp, .evr, .qs, .tim, .pmu]) (.frameTxEnd n) s fun t =>
      (t.dev.hf.fr[n]) = { s.dev.hf.fr[n] with
        tx := .idle, txDone := true, tend := s.dev.phcW, winFrom := some s.dev.now, det := false, gone := false } ∧
      t.dev.tx[n].held = none ∧
      ∀ m : Fin 24, m ≠ n → (t.dev.hf.fr[m]) = (s.dev.hf.fr[m])) ∧
  (∀ (n : Fin 24) (t0 : Nat) (s : State), (s.dev.hf.fr[n]).winFrom = some t0 → (s.dev.hf.fr[n]).tx = .idle →
    (s.dev.lau.zone[n]).listen = false → 16 * (s.dev.hf.fr[n]).wopen ≤ s.dev.now - t0 →
    Completes (mask [.lau, .hf]) (.listenWindowOpen n) s fun t =>
      (t.dev.lau.zone[n]) = { s.dev.lau.zone[n] with listen := true } ∧
      ((s.dev.lau.zone[n]).hold = false → t.dev.hf = s.dev.hf)) ∧
  (∀ (n : Fin 24) (t0 : Nat) (s : State), (s.dev.hf.fr[n]).winFrom = some t0 → (s.dev.lau.zone[n]).listen = true →
    (s.dev.lau.zone[n]).hold = false → 256 * (s.dev.hf.fr[n]).wclose ≤ s.dev.now - t0 → (s.dev.hf.fr[n]).det = false →
    (s.dev.lau.zone[n]).search = [] → (s.dev.hf.fr[n]).slots = [] → (s.dev.hf.fr[n]).seek = none →
    Completes (mask [.drv, .tx, .rx, .lau, .prb, .sf, .hf, .ncp, .evr, .qs, .tim, .pmu]) (.listenWindowClose n) s fun t =>
      (t.dev.lau.zone[n]) = { s.dev.lau.zone[n] with listen := false } ∧
      (t.dev.hf.fr[n]) = { s.dev.hf.fr[n] with winFrom := none, noResp := true, gone := false })

/-- A received frame takes the next free buffer with its length and the marks of its checks, or is lost where both are held and nothing
comes of it, and HOLD clears (R226, R305). An identifier of an enabled technology goes to SC (R316), and a reply of a disabled one is
only counted (R299). ZEn_FR_RXACK frees buffers (R305). ABANDON ends a frame and clears HOLD (R306). The power-on wait gives way to the
wake train (R312, R313). Every 50 ms a check keeps the cards that answer (R323), and a late reply that does not come leaves its card
deactivated (R333). -/
def Obligations.FramesAreReceivedAndCardsChecked : Prop :=
  (∀ (n : Fin 24) (x : RxFrame) (s : State), (s.dev.lau.zone[n]).hold = true → (s.dev.hf.fr[n]).held0 = false →
    (s.dev.hf.fr[n]).held1 = false → (s.dev.hf.fr[n]).heldSend = false → (s.dev.hf.fr[n]).seek = none → s.dev.heard n x = x →
    Completes (mask [.drv, .tx, .rx, .lau, .prb, .sf, .hf, .kiln, .ncp, .evr, .qs, .tim, .pmu]) (.frameRxEnd n x .none false) s fun t =>
      (t.dev.lau.zone[n]).hold = false ∧ (t.dev.hf.fr[n]).rxDone = true ∧
      (t.dev.hf.fr[n]).rxLen = min 4096 x.data.length ∧ (t.dev.hf.fr[n]).rxBuf = (s.dev.hf.fr[n]).nextBuf ∧
      (if (s.dev.hf.fr[n]).nextBuf then (t.dev.hf.fr[n]).rx1 else (t.dev.hf.fr[n]).rx0) = x.data.take 4096 ∧
      (t.dev.hf.fr[n]).crcErr = ((s.dev.hf.fr[n]).crcErr || ((s.dev.hf.fr[n]).crcRx && decide (x.crc ≠ crcOf (s.dev.hf.fr[n]).tech x.data))) ∧
      (t.dev.hf.fr[n]).parErr =
        ((s.dev.hf.fr[n]).parErr || (decide ((s.dev.hf.fr[n]).tech = 1) && (s.dev.hf.fr[n]).par && x.parityBad)) ∧
      (t.dev.hf.fr[n]).codErr = ((s.dev.hf.fr[n]).codErr || x.cod) ∧
      ∀ m : Fin 24, m ≠ n → (t.dev.hf.fr[m]) = (s.dev.hf.fr[m])) ∧
  (∀ (n : Fin 24) (x : RxFrame) (proto : Nat) (uid : List Byte) (card : Card) (acc : Acc) (b : Nat) (s : State),
    (s.dev.lau.zone[n]).hold = true → (s.dev.hf.fr[n]).held0 = false → (s.dev.hf.fr[n]).held1 = false →
    (s.dev.hf.fr[n]).heldSend = false → (s.dev.hf.fr[n]).seek = none → s.dev.heard n x = x → (s.dev.sf.zone[n]).module = none →
    (s.dev.hf.fr[n]).ignores (((s.dev.hf.fr[n]).demod.map Demod.tid).getD 0) = false → s.dev.lateOn n = none →
    (s.dev.hf.fr[n]).crcRx = false → (s.dev.hf.fr[n]).par = false → x.cod = false → x.coll = none → uidOk proto uid = true →
    techBit proto = some b → (s.dev.hf.fr[n]).tTech.testBit b = true → s.dev.entryWith n uid = none → s.dev.identDue n uid = false →
    (s.dev.sf.zone[n]).found < 4 →
    Completes (mask [.drv, .tx, .rx, .lau, .prb, .sf, .hf, .kiln, .ncp, .evr, .qs, .tim,
      .pmu]) (.frameRxEnd n x (.ident proto uid card acc) false) s fun t =>
      t.dev.sf.pend = s.dev.sf.pend ++ [.ident n proto uid card { acc with info := [] } s.dev.phcW] ∧
      (t.dev.sf.zone[n]) = { s.dev.sf.zone[n] with found := (s.dev.sf.zone[n]).found + 1 }) ∧
  (∀ (n : Fin 24) (x : RxFrame) (r : FwResult) (s : State),
    (s.dev.lau.zone[n]).hold = true → (s.dev.hf.fr[n]).held0 = false → (s.dev.hf.fr[n]).held1 = false →
    (s.dev.hf.fr[n]).heldSend = false → (s.dev.hf.fr[n]).seek = none → (s.dev.sf.zone[n]).module = none →
    (s.dev.hf.fr[n]).ignores (((s.dev.hf.fr[n]).demod.map Demod.tid).getD 0) = true →
    Completes (mask [.drv, .tx, .rx, .lau, .prb, .sf, .hf, .kiln, .ncp, .evr, .qs, .tim, .pmu]) (.frameRxEnd n x r false) s fun t =>
      (t.dev.hf.fr[n]).cntIgnored = satInc 15 (s.dev.hf.fr[n]).cntIgnored ∧ t.dev.sf = s.dev.sf) ∧
  (∀ (n : Fin 24) (x : RxFrame) (r : FwResult) (s : State), (s.dev.lau.zone[n]).hold = true → (s.dev.hf.fr[n]).held0 = true →
    (s.dev.hf.fr[n]).held1 = true → (s.dev.hf.fr[n]).heldSend = false →
    Completes (mask [.drv, .tx, .rx, .lau, .prb, .sf, .hf, .kiln, .ncp, .evr, .qs, .tim, .pmu]) (.frameRxEnd n x r false) s fun t =>
      (t.dev.lau.zone[n]).hold = false ∧ (t.dev.hf.fr[n]).rxLost = true ∧
      (t.dev.hf.fr[n]).cntLost = satInc 255 (s.dev.hf.fr[n]).cntLost ∧ (t.dev.hf.fr[n]).rx0 = (s.dev.hf.fr[n]).rx0 ∧
      (t.dev.hf.fr[n]).rx1 = (s.dev.hf.fr[n]).rx1 ∧ t.dev.sf = s.dev.sf) ∧
  (∀ (n : Fin 24) (ack : Nat) (s : State),
    Completes (mask [.hf]) (.rxAck n ack) s fun t =>
      (t.dev.hf.fr[n]) = { s.dev.hf.fr[n] with
        held0 := (s.dev.hf.fr[n]).held0 && !ack.testBit 0, held1 := (s.dev.hf.fr[n]).held1 && !ack.testBit 1 } ∧
      ∀ m : Fin 24, m ≠ n → (t.dev.hf.fr[m]) = (s.dev.hf.fr[m])) ∧
  (∀ (n : Fin 24) (s : State), (s.dev.hf.fr[n]).heldSend = false →
    Completes (mask [.drv, .tx, .rx, .lau, .prb, .hf, .evr, .qs, .pmu]) (.frameAbandon n) s fun t =>
      (t.dev.hf.fr[n]).tx = .idle ∧ (t.dev.hf.fr[n]).abandoned = true ∧ (t.dev.hf.fr[n]).abandT = some s.dev.now ∧ (t.dev.lau.zone[n]).hold = false ∧
      (t.dev.rx.zone[n]).frozen = false) ∧
  (∀ (n : Fin 24) (t0 : Nat) (s : State), (s.dev.hf.fr[n]).powEnd = some t0 → t0 ≤ s.dev.now → (s.dev.sf.zone[n]).state = .opened →
    Completes (mask [.lau, .hf]) (.powerOnWaitEnd n) s fun t =>
      (t.dev.hf.fr[n]).powEnd = none ∧ (t.dev.hf.fr[n]).slots = (s.dev.nextTrain n).1 ∧ (t.dev.hf.fr[n]).trains = 0 ∧
      (t.dev.hf.fr[n]).tTech = s.dev.hf.tech) ∧
  (∀ (n : Fin 24) (s : State), s.dev.checkDue n false = true → s.dev.checked n false ≠ [] →
    Completes (mask [.drv, .tx, .rx, .lau, .prb, .sf, .hf, .ncp, .evr, .qs, .tim, .pmu]) (.presenceCheck n []) s fun t =>
      (t.dev.hf.fr[n]) = { s.dev.hf.fr[n] with lastCheck := s.dev.now } ∧
      ∀ (i : Fin 512) (e : Entry), i.val ∈ s.dev.checked n false → s.dev.sf.entry[i] = some e →
        t.dev.sf.entry[i] = some { e with card := { e.card with missed := 0 } }) ∧
  (∀ (i : Fin 512) (e : Entry) (s : State), s.dev.sf.entry[i] = some e → e.card.late.isSome = true →
    Completes (mask [.sf, .evr, .qs, .pmu]) (.lateReplyWaitEnd i) s fun t =>
      t.dev.sf.entry[i] = some { e with card := { e.card with late := none, act := 0, desync := true } })

/-- ZONE_EXCHANGE on an identified card of an open zone, with nothing before it and the field its frame needs, begins to exchange
frames (R310, R326, R328); a valid reply completes it with the card's data (R325, R336), and no reply from a card that is present, with
no retry left, with PROTOCOL_ERR (R336). HF_CONFIG in range takes effect and replies with what it set (R337). CARD_INFO replies with
what the device holds of an identified card, and changes no card (R281, R338). -/
def Obligations.CardCommandsReply : Prop :=
  (∀ (tag : Fin 32) (c : Cmd) (x : XStep) (i : Nat) (e : Entry) (n : Fin 24) (s : State), Ready 0x18 tag c s.dev →
    9 ≤ c.payload.length → c.payload.length ≤ 4104 → exchangeOk c.payload = true → c.deadline = 0 →
    s.dev.entryOf (leAt c.payload 0 2) = some (i, e) → (∀ j, s.dev.aheadOn tag j = []) → e.state = .opened → e.zone = some n →
    e.card.late = none → check5 c e = false → needsAct c e = false → s.dev.fldPass (isWrite c e) (s.dev.hf.fr[n]).fld = true → x.res = .running →
    Completes (mask [.drv, .tx, .rx, .lau, .prb, .sf, .hf, .ncp, .evr, .qs, .tim, .pmu]) (.zoneExchange tag x) s fun t =>
      ∃ k, t.dev.cmd tag = some k ∧ k.phase = .frames ∧ k.entry = i ∧ k.retries = s.dev.hf.retry ∧ k.payload = c.payload) ∧
  (∀ (tag : Fin 32) (c : Cmd) (x : XStep) (data : List Byte) (lb hdr ec : Nat) (i : Fin 512) (e : Entry) (s : State),
    s.dev.cmd tag = some c → c.opc = 0x18 → c.phase = .frames → s.dev.started c = true → c.entry = i.val → s.dev.sf.entry[i] = some e →
    x.res = .valid data lb hdr ec → data.length ≤ 4096 →
    Completes (mask [.drv, .tx, .rx, .lau, .prb, .sf, .hf, .ncp, .evr, .qs, .tim, .pmu]) (.zoneExchange tag x) s fun t =>
      Replied tag c .ok (xReply { c with sent := c.sent + x.sent, rhdr := hdr } 0 lb ec s.dev.phc data) s.dev t.dev) ∧
  (∀ (tag : Fin 32) (c : Cmd) (x : XStep) (i : Fin 512) (e : Entry) (s : State),
    s.dev.cmd tag = some c → c.opc = 0x18 → c.phase = .frames → s.dev.started c = true → c.entry = i.val → s.dev.sf.entry[i] = some e →
    x.res = .noResp → x.sent = 0 → x.present = true → c.retries = 0 → ((c.writeSent || x.wrote) && !x.acked) = false →
    Completes (mask [.drv, .tx, .rx, .lau, .prb, .sf, .hf, .ncp, .evr, .qs, .tim,
      .pmu]) (.zoneExchange tag x) s fun t => t.dev.ncp.tags[tag] = .done c.resv Status.protocolErr.code) ∧
  (∀ (tag : Fin 32) (c : Cmd) (tech rate pw : Nat) (s : State), Ready 0x11 tag c s.dev → tech ≤ 31 → rate ≤ 6 → 10 ≤ pw → pw ≤ 100 →
    c.payload = [byteOf tech, byteOf rate, 1, 1, byteOf pw, 2, 1, 0, 30, 60, 0, 0] →
    Completes (mask [.hf, .ncp, .evr, .qs, .pmu]) (.hfConfig tag) s fun t =>
      t.dev.hf = { s.dev.hf with
        tech := tech, maxRate := rate, maxRateF := 1, vMode := 1, powWait := pw, retry := 2, autoAct := 1, afi := 0, rfldTh := 30,
        wfldTh := 60, wnocal := false } ∧
      Replied tag c .ok c.payload s.dev t.dev) ∧
  (∀ (tag : Fin 32) (c : Cmd) (i : Nat) (e : Entry) (s : State), Ready 0x12 tag c s.dev → c.payload.length = 2 →
    s.dev.entryOf (leAt c.payload 0 2) = some (i, e) → (∀ j, s.dev.aheadOn tag j = []) → e.card.late = none → e.uid ≠ [] → e.proto ≠ 14 →
    Completes (mask [.sf, .hf, .ncp, .evr, .qs, .pmu]) (.cardInfo tag) s fun t =>
      Replied tag c .ok (le 2 (s.dev.sf.entryId i) ++ [byteOf e.card.tech, byteOf e.card.act, byteOf e.card.rate, byteOf e.card.fwi,
        byteOf e.card.fsc, byteOf (min 64 e.card.info.length)] ++ e.card.info.take 64) s.dev t.dev)

/-! ## Accessories (chapter 09) -/

/-- ACC_EXCHANGE completes with the accessory's answer (R366). ACC_ROUND starts a seek round on the zone, and completes with the
identifiers of what it found once the table holds them (R357, R379). ACC_CONFIG in range takes effect and replies with what it set
(R378). ACC_INFO replies with what the device holds of an accessory (R380). -/
def Obligations.AccessoryCommandsReply : Prop :=
  (∀ (tag : Fin 32) (c : Cmd) (x : XStep) (data : List Byte) (lb hdr ec : Nat) (i : Fin 512) (e : Entry) (s : State),
    s.dev.cmd tag = some c → c.opc = 0x32 → c.phase = .frames → s.dev.started c = true → c.entry = i.val → s.dev.sf.entry[i] = some e →
    x.res = .valid data lb hdr ec → data.length ≤ 4096 →
    Completes (mask [.drv, .tx, .rx, .lau, .prb, .sf, .hf, .ncp, .evr, .qs, .tim, .pmu]) (.accExchange tag x) s fun t =>
      Replied tag c .ok (xReply { c with sent := c.sent + x.sent, rhdr := hdr } 0 lb ec s.dev.phc data) s.dev t.dev ∧
      ∃ f, t.dev.sf.entry[i] = some f ∧ f.acc.pwr = bits hdr 5 4 ∧ f.acc.missed = 0) ∧
  (∀ (tag : Fin 32) (c : Cmd) (i : Nat) (e : Entry) (n : Fin 24) (s : State), Ready 0x30 tag c s.dev → c.payload.length = 4 →
    byteAt c.payload 2 ≤ 4 → 1 ≤ byteAt c.payload 3 → byteAt c.payload 3 ≤ 7 → s.dev.entryOf (leAt c.payload 0 2) = some (i, e) →
    (∀ j, s.dev.aheadOn tag j = []) → e.card.late = none → e.state = .opened → e.zone = some n → e.proto = 14 →
    (s.dev.sf.zone[n]).state = .opened → (s.dev.lau.zone[n]).hold = false → (s.dev.hf.fr[n]).tx = .idle →
    Completes (mask [.lau, .sf, .hf, .ncp, .evr, .qs, .pmu]) (.accRound tag) s fun t =>
      (t.dev.hf.fr[n]).seek = some { q := byteAt c.payload 2, sel := 8 * byteAt c.payload 3, tag := some tag } ∧
      (t.dev.hf.fr[n]).tx = .sending ∧ ∃ k, t.dev.cmd tag = some k ∧ k.phase = .slots ∧ k.entry = i) ∧
  (∀ (tag : Fin 32) (c : Cmd) (s : State), s.dev.cmd tag = some c → c.opc = 0x30 → c.phase = .slots → c.stopReq = false →
    s.dev.rounding tag = false → s.dev.sf.pend = [] →
    Completes (mask [.lau, .sf, .hf, .ncp, .evr, .qs, .pmu]) (.accRound tag) s fun t =>
      let ids := (aidsOf 4 c.got).filterMap fun a => ((List.range 512).find? fun i => match s.dev.sf.at i with
        | some e => decide (e.uid = a) && decide (e.proto = 14) && decide (e.state = .opened)
        | none => false).map fun i => s.dev.sf.entryId i
      Replied tag c .ok (byteOf ids.length :: ids.flatMap fun x => le 2 x) s.dev t.dev) ∧
  (∀ (tag : Fin 32) (c : Cmd) (fl q pz ramp keep : Nat) (s : State), Ready 0x31 tag c s.dev → fl ≤ 3 → q ≤ 4 → 100 ≤ pz → pz ≤ 3000 →
    20 ≤ ramp → ramp ≤ 1000 → 10 ≤ keep → keep ≤ 50 →
    c.payload = [byteOf fl, byteOf q] ++ le 2 pz ++ le 2 ramp ++ [byteOf keep, 0] →
    Completes (mask [.acc, .ncp, .evr, .qs, .pmu]) (.accConfig tag) s fun t =>
      t.dev.acc = { en := fl.testBit 0, order := fl.testBit 1, qInit := q, pzMax := pz, rampMs := ramp, keepMs := keep } ∧
      Replied tag c .ok c.payload s.dev t.dev) ∧
  (∀ (tag : Fin 32) (c : Cmd) (i : Nat) (e : Entry) (s : State), Ready 0x34 tag c s.dev → c.payload.length = 2 →
    s.dev.entryOf (leAt c.payload 0 2) = some (i, e) → (∀ j, s.dev.aheadOn tag j = []) → e.card.late = none → e.uid ≠ [] → e.proto = 14 →
    Completes (mask [.sf, .hf, .ncp, .evr, .qs, .pmu]) (.accInfo tag) s fun t =>
      Replied tag c .ok (le 2 (s.dev.sf.entryId i) ++ [byteOf (b2n e.acc.act), byteOf e.acc.power] ++ le 2 e.acc.handle ++
        [byteOf e.acc.pwr, 0] ++ (if e.acc.act then (e.acc.info ++ List.replicate 8 0).take 8 else List.replicate 8 0)) s.dev t.dev)

/-- ACC_POWER completes with delivery on once every fed accessory has PWR 2 or more (R373, R376); RAMP_MS without that ends it with
FIELD_LOW and delivery off (R373, R376). A keep round takes the answers of the fed accessories (R374); an accessory without power for
500 ms with raising blocked loses its delivery (R375); a ping of an idle zone keeps the accessories that answer (R363). -/
def Obligations.PowerDeliveryStartsAndIsKept : Prop :=
  (∀ (tag : Fin 32) (c : Cmd) (a : AccStep) (i : Fin 512) (e : Entry) (n : Fin 24) (s : State), s.dev.cmd tag = some c → c.opc = 0x33 →
    c.phase = .ramp → c.stopReq = false → c.entry = i.val → s.dev.sf.entry[i] = some e → e.zone = some n → e.acc.power = 1 →
    a.pings = [] → a.done = some true → (∀ k ∈ s.dev.powered n, 2 ≤ s.dev.pwrOf k) →
    Completes (mask [.drv, .tx, .rx, .lau, .prb, .sf, .hf, .ncp, .evr, .qs, .tim, .pmu]) (.accPower tag a) s fun t =>
      t.dev.ncp.tags[tag] = .done c.resv 0 ∧
      t.dev.sf.entry[i] = some { e with
        acc := { e.acc with power := 2, limit := byteAt c.payload 3, lowSince := none, exceeded := 0 } }) ∧
  (∀ (tag : Fin 32) (c : Cmd) (i : Fin 512) (e : Entry) (s : State), s.dev.cmd tag = some c → c.opc = 0x33 → c.phase = .ramp →
    c.entry = i.val → s.dev.sf.entry[i] = some e → e.acc.power = 1 → e.acc.pwr < 2 →
    msT s.dev.acc.rampMs ≤ s.dev.now - e.acc.rampStart →
    Completes (mask [.drv, .tx, .rx, .prb, .sf, .hf, .ncp, .evr, .qs, .pmu]) (.accRampLimit tag) s fun t =>
      t.dev.ncp.tags[tag] = .done c.resv Status.fieldLow.code ∧
      ∃ f, t.dev.sf.entry[i] = some f ∧ f.acc.power = 0) ∧
  (∀ (n : Fin 24) (i : Fin 512) (p : Nat) (e : Entry) (s : State), i.val ∈ s.dev.fed n → s.dev.sf.entry[i] = some e →
    msT s.dev.acc.keepMs ≤ s.dev.now - (s.dev.hf.fr[n]).lastPing →
    Completes (mask [.drv, .tx, .rx, .lau, .prb, .sf, .hf, .ncp, .evr, .qs, .tim, .pmu]) (.accKeepPing n [(i.val, some p)]) s fun t =>
      (t.dev.hf.fr[n]).lastPing = s.dev.now ∧
      ∃ f, t.dev.sf.entry[i] = some f ∧ f.acc.pwr = p % 4 ∧ f.acc.missed = 0 ∧ f.acc.lastReply = s.dev.now ∧ f.acc.power = 2) ∧
  (∀ (i : Fin 512) (e : Entry) (t0 : Nat) (n : Fin 24) (s : State), s.dev.sf.entry[i] = some e → e.acc.lowSince = some t0 →
    e.zone = some n → e.acc.power = 2 → msT 500 ≤ s.dev.now - t0 →
    Completes (mask [.drv, .tx, .rx, .prb, .sf, .evr, .qs, .pmu]) (.accLostBudget i) s fun t =>
      ∃ f, t.dev.sf.entry[i] = some f ∧ f.acc.power = 0 ∧ f.acc.lowSince = none) ∧
  (∀ (n : Fin 24) (s : State), s.dev.checkDue n true = true → s.dev.powered n = [] → s.dev.checked n true ≠ [] →
    Completes (mask [.drv, .tx, .rx, .lau, .prb, .sf, .hf, .ncp, .evr, .qs, .tim, .pmu]) (.accPing n []) s fun t =>
      (t.dev.hf.fr[n]) = { s.dev.hf.fr[n] with lastPing := s.dev.now } ∧
      ∀ (i : Fin 512) (e : Entry), i.val ∈ s.dev.checked n true → s.dev.sf.entry[i] = some e →
        t.dev.sf.entry[i] = some { e with acc := { e.acc with missed := 0, lastReply := s.dev.now } })

/-! ## Steep detection (chapter 10) -/

/-- A sweep starts in M3 when it is due, and is skipped with SKIP counted where FKILL_N or a low VDRV blocks it (R386); its end, once
its slots have passed, counts it and takes the readings of the coils of its schedule (R385, R389, R390). A confirmation sweep starts
CONF_MS after a trigger (R393). Where it confirms a triggered coil, the detection is recorded and the device starts for M5, or M8 with
STF, with CAUSE 5 (R394, R395); where it does not, the trigger was false (R393). STEEP_CONFIG replies with the configuration in effect
and the coils that are ARMED, and in M4 sets it, or clears what the coils have learned (R399). -/
def Obligations.SteepSweepsAndConfirms : Prop :=
  (∀ (v : Vector Nat 4) (s : State), s.dev.mode.cur = .m3 → s.dev.busy = false → s.dev.stp.stage = .waiting → s.dev.stp.trig = none →
    s.dev.stp.nextAt ≤ s.dev.pmu.lp →
    Completes (mask [.stp]) (.steepSweepStart v) s fun t =>
      t.dev.stp = { s.dev.stp with
        nextAt := s.dev.stp.nextAt + s.dev.stp.cfg.period, startAt := s.dev.pmu.lp
        skip := if s.dev.sweepBlocked v then satInc 255 s.dev.stp.skip else s.dev.stp.skip
        stage := if s.dev.sweepBlocked v then .waiting else .sweep }) ∧
  (∀ (rs : Vector (Nat × Nat) 192) (s : State), s.dev.mode.cur = .m3 → s.dev.stp.stage = .sweep → s.dev.swept s.dev.stp.slots = true →
    Completes (mask [.stp]) (.steepSweepEnd rs) s fun t =>
      t.dev.stp.stage = .waiting ∧ t.dev.stp.sweeps = (s.dev.stp.sweeps + 1) % 2 ^ 24 ∧ t.dev.stp.cfg = s.dev.stp.cfg ∧
      ∀ x ∈ s.dev.stp.sched, (t.dev.stp.coil[x.2]).sa = (rs[x.2]).1 % 1024 ∧ (t.dev.stp.coil[x.2]).sp = (rs[x.2]).2 % 64) ∧
  (∀ (v : Vector Nat 4) (hit : List (Fin 192)) (t0 : Nat) (s : State), s.dev.stp.trig = some (hit, t0) → s.dev.mode.cur = .m3 →
    s.dev.busy = false → s.dev.stp.stage = .waiting → s.dev.stp.cfg.confMs * 32768 ≤ 1000 * (s.dev.pmu.lp - t0) →
    s.dev.sweepBlocked v = false →
    Completes (mask [.stp]) (.steepConfirmStart v) s fun t =>
      t.dev.stp = { s.dev.stp with stage := .confirm, startAt := s.dev.pmu.lp }) ∧
  (∀ (rs : Vector (Nat × Nat) 192) (hit : List (Fin 192)) (t0 : Nat) (c : Fin 192) (s : State), s.dev.stp.trig = some (hit, t0) →
    s.dev.mode.cur = .m3 → s.dev.busy = false → s.dev.stp.stage = .confirm → s.dev.swept (s.dev.stp.confSlots hit) = true →
    c ∈ s.dev.stp.confCoils hit → c ∈ hit →
    ((s.dev.stp.put (readingsOf (s.dev.stp.confCoils hit) rs)).coil[c]).trig s.dev.stp.cfg = true →
    Completes (mask [.mode, .drv, .tx, .rx, .lau, .prb, .sf, .hf, .stp, .uhf, .key, .room, .cl, .nvm, .ncp, .evr, .qs, .tim,
      .pmu]) (.steepConfirmEnd rs) s fun t =>
      t.dev.stp.valid = true ∧ t.dev.stp.disc = false ∧ t.dev.stp.stage = .handover ∧ t.dev.stp.trig = none ∧
      t.dev.stp.ticks = word s.dev.pmu.lp ∧
      ∃ r, t.dev.mode.run = some r ∧ r.cause = 5 ∧ r.legs = [if s.dev.mode.stf then .m8 else .m5]) ∧
  (∀ (rs : Vector (Nat × Nat) 192) (hit : List (Fin 192)) (t0 : Nat) (s : State), s.dev.stp.trig = some (hit, t0) →
    s.dev.mode.cur = .m3 → s.dev.stp.stage = .confirm → s.dev.swept (s.dev.stp.confSlots hit) = true →
    (∀ c ∈ s.dev.stp.confCoils hit, c ∈ hit →
      ((s.dev.stp.put (readingsOf (s.dev.stp.confCoils hit) rs)).coil[c]).trig s.dev.stp.cfg = false) →
    Completes (mask [.mode, .drv, .tx, .rx, .lau, .prb, .sf, .hf, .stp, .uhf, .key, .room, .cl, .nvm, .ncp, .evr, .qs, .tim,
      .pmu]) (.steepConfirmEnd rs) s fun t =>
      t.dev.stp = { s.dev.stp.put (readingsOf (s.dev.stp.confCoils hit) rs) with
        stage := .waiting, trig := none, cntFalse := satInc 255 s.dev.stp.cntFalse } ∧
      t.dev.mode = s.dev.mode) ∧
  (∀ (tag : Fin 32) (c : Cmd) (s : State), Ready 0x72 tag c s.dev → c.payload = List.replicate 12 0 →
    Completes (mask [.stp, .ncp, .evr, .qs, .pmu]) (.steepConfig tag) s fun t =>
      t.dev.stp = s.dev.stp ∧ Replied tag c .ok s.dev.stp.reply s.dev t.dev) ∧
  (∀ (tag : Fin 32) (c : Cmd) (s : State), Ready 0x72 tag c s.dev → c.payload.length = 12 → byteAt c.payload 0 = 1 →
    zeros c.payload [10, 11] = true → steepOk c.payload = true → s.dev.mode.cur = .m4 →
    Completes (mask [.stp, .ncp, .evr, .qs, .pmu]) (.steepConfig tag) s fun t =>
      t.dev.stp = { s.dev.stp with cfg := steepOf c.payload } ∧
      Replied tag c .ok { s.dev.stp with cfg := steepOf c.payload }.reply s.dev t.dev) ∧
  (∀ (tag : Fin 32) (c : Cmd) (s : State), Ready 0x72 tag c s.dev → c.payload = 2 :: List.replicate 11 0 → s.dev.mode.cur = .m4 →
    Completes (mask [.stp, .ncp, .evr, .qs, .pmu]) (.steepConfig tag) s fun t => t.dev.stp = { s.dev.stp with coil := s.dev.stp.coil.map StpC.forget })

/-! ## The room radio (chapter 11) -/

/-- HOP with the carrier off and the channel usable tunes it; a change being carried out lets it wait; REVISIT_MS refuses it (R416,
R421, R422). The end of a hop leaves the synthesiser idle; its carrier, where it is wanted and the aerial held, went on 12 µs after the
hop's origin, in the clock cycle of that instant (R416; rampStart is what a cycle of the clock does with the ramp, log entry 2). A
dwell that is over ends the carrier (R420, R421). CARRIER written 1 with no other user of the aerial and a calibrated channel turns the
carrier on (R407, R416, R426), and written 0 turns it off and gives up the aerial (R407, R426). TXKILL turns it off at once (R408). A
new antenna configuration is taken (R410). -/
def Obligations.TheCarrierHopsAndStops : Prop :=
  (∀ (c : Fin 64) (s : State), s.dev.uhf.txkill = false → s.dev.uhf.busy = false → s.dev.chUsable c s.dev.uhf.acfg = true →
    s.dev.uhf.on = false → s.dev.uhf.carrier = false → s.dev.chRefused c = false →
    Completes (mask [.uhf, .room, .evr, .pmu]) (.uhfHop c) s fun t =>
      t.dev.uhf.chan = c ∧ t.dev.uhf.target = c ∧ t.dev.uhf.run = .hop ∧ t.dev.uhf.lastCh = some c ∧ t.dev.uhf.on = false) ∧
  (∀ (c : Fin 64) (s : State), s.dev.uhf.txkill = false → s.dev.uhf.busy = true →
    Completes (mask [.uhf, .room, .evr, .pmu]) (.uhfHop c) s fun t => t.dev.uhf = { s.dev.uhf with target := c, nextHop := some c }) ∧
  (∀ (c : Fin 64) (s : State), s.dev.uhf.txkill = false → s.dev.uhf.busy = false → s.dev.chUsable c s.dev.uhf.acfg = true →
    s.dev.uhf.on = false → s.dev.chRefused c = true →
    Completes (mask [.uhf, .room, .evr, .pmu]) (.uhfHop c) s fun t => t.dev.uhf = { s.dev.uhf with target := c, href := true }) ∧
  (∀ s : State, s.dev.uhf.run = .hop → s.dev.uhf.on = false → s.dev.uhf.runT + usT 12 ≤ s.dev.now → s.dev.uhf.carrier = false →
    s.dev.uhf.nextHop = none → s.dev.uhf.acfgT = s.dev.uhf.acfg →
    Completes (mask [.mode, .uhf, .room, .ncp, .evr, .qs, .pmu]) .uhfHopDone s fun t => t.dev.uhf = { s.dev.uhf with run := .idle }) ∧
  (∀ s : State, s.dev.uhf.run = .hop → s.dev.uhf.on = true → s.dev.uhf.runT + wordsT 1628 ≤ s.dev.now → s.dev.uhf.nextHop = none →
    s.dev.uhf.acfgT = s.dev.uhf.acfg →
    Completes (mask [.mode, .uhf, .room, .ncp, .evr, .qs, .pmu]) .uhfHopDone s fun t => t.dev.uhf = { s.dev.uhf with run := .idle }) ∧
  (∀ s : State, s.dev.uhf.run = .hop → s.dev.uhf.on = false → s.dev.uhf.runT + usT 12 = s.dev.now → s.dev.mayRamp = true →
    s.dev.uhf.nextHop = none → s.dev.uhf.nochan = false → s.dev.chNeed s.dev.uhf.chan s.dev.uhf.acfg = .hop →
    s.dev.uhf.acfgT = s.dev.uhf.acfg →
    (rampStart s.dev).uhf.on = true ∧ (rampStart s.dev).uhf.onT = s.dev.now ∧ (rampStart s.dev).uhf.run = .hop ∧
    (rampStart s.dev).uhf.chan = s.dev.uhf.chan) ∧
  (∀ (draw : Nat) (s : State), s.dev.uhf.on = true → s.dev.dwellOver = true →
    Completes (mask [.uhf, .room, .evr, .qs, .pmu]) (.uhfDwellExpiry draw) s fun t => t.dev.uhf.on = false) ∧
  (∀ s : State, s.dev.uhf.txkill = false → s.dev.uhf.on = false → s.dev.uhf.run = .idle → s.dev.mayTransmit = true →
    s.dev.uhf.nochan = false → s.dev.uhf.revWait = false → s.dev.uhf.calRun = none → s.dev.uhf.coex.role = 0 →
    s.dev.chUsable s.dev.uhf.chan s.dev.uhf.acfg = true → s.dev.chNeed s.dev.uhf.chan s.dev.uhf.acfg = .hop →
    Completes (mask [.mode, .uhf, .ncp, .evr, .pmu]) (.uhfCarrierWrite true) s fun t =>
      t.dev.uhf.carrier = true ∧ t.dev.uhf.hold = true ∧ t.dev.uhf.on = true ∧ t.dev.uhf.run = .on ∧ t.dev.uhf.chan = s.dev.uhf.chan) ∧
  (∀ s : State, s.dev.uhf.txkill = false →
    Completes (mask [.mode, .uhf, .ncp, .evr, .pmu]) (.uhfCarrierWrite false) s fun t =>
      t.dev.uhf.carrier = false ∧ t.dev.uhf.on = false ∧ t.dev.uhf.hold = false ∧ t.dev.uhf.want = false ∧ t.dev.uhf.reqOut = false) ∧
  (∀ s : State, Completes (mask [.uhf, .evr, .pmu]) (.uhfTxkillWrite true) s fun t =>
    t.dev.uhf.txkill = true ∧ t.dev.uhf.on = false ∧ t.dev.uhf.run ≠ .full ∧ t.dev.uhf.run ≠ .canc) ∧
  (∀ s : State, Completes (mask [.uhf, .evr, .pmu]) (.uhfTxkillWrite false) s fun t => t.dev.uhf = { s.dev.uhf with txkill := false }) ∧
  (∀ (a : Fin 8) (s : State), s.dev.uhf.busy = false → s.dev.uhf.acfg ≠ a → s.dev.uhf.on = false → s.dev.uhf.carrier = false →
    s.dev.mode.cur.uhfAllowed = true → s.dev.uhf.nochan = false → (∃ k, s.dev.chUsable k a = true) →
    Completes (mask [.mode, .uhf, .room, .ncp, .evr, .qs, .pmu]) (.uhfAcfgWrite a) s fun t =>
      t.dev.uhf.acfgT = a ∧ t.dev.uhf.acfg = a ∧ t.dev.uhf.run = .acfg)

/-- A passed calibration makes its channel and canceller setting valid and leaves the carrier on (R415, R416); one that fails makes the
channel FAILED and is counted (R417). The canceller tracks by one code a chain (R413); residuals above the limit are counted and ask
for another calibration (R414). -/
def Obligations.CancellersAreCalibrated : Prop :=
  (∀ (x : CalRes) (s : State), s.dev.uhf.run = .full → s.dev.uhf.on = true → x.fail true (s.dev.uhf.ant[s.dev.uhf.acfg]).en = 0 →
    s.dev.uhf.calRun = none → s.dev.uhf.nextHop = none → s.dev.uhf.acfgT = s.dev.uhf.acfg → s.dev.uhf.nochan = false →
    Completes (mask [.mode, .uhf, .room, .nvm, .kiln, .ncp, .evr, .qs, .pmu]) (.uhfCalEnd x) s fun t =>
      t.dev.uhf.on = true ∧ t.dev.uhf.run = .idle ∧ (t.dev.uhf.ch[s.dev.uhf.chan]).cal = .valid ∧
      (t.dev.uhf.ch[s.dev.uhf.chan]).part = x.part ∧ (t.dev.uhf.ch[s.dev.uhf.chan]).canc[s.dev.uhf.acfg] = x.canc) ∧
  (∀ (x : CalRes) (s : State), s.dev.uhf.run = .full → s.dev.uhf.on = true → s.dev.uhf.calRun = none → s.dev.uhf.nextHop = none →
    s.dev.uhf.acfgT = s.dev.uhf.acfg → 0 < x.fail true (s.dev.uhf.ant[s.dev.uhf.acfg]).en →
    x.fail true (s.dev.uhf.ant[s.dev.uhf.acfg]).en < 4 →
    Completes (mask [.mode, .uhf, .room, .nvm, .kiln, .ncp, .evr, .qs, .pmu]) (.uhfCalEnd x) s fun t =>
      (t.dev.uhf.ch[s.dev.uhf.chan]).cal = .failed ∧ t.dev.uhf.calFail = satInc 255 s.dev.uhf.calFail) ∧
  (∀ (dir : Vector TrackDir 4) (s : State), s.dev.uhf.on = true → s.dev.uhf.frozen = false → s.dev.uhf.run = .idle →
    s.dev.uhf.trackT + usT 2 ≤ s.dev.now →
    Completes (mask [.uhf]) (.cancellerTrack dir) s fun t =>
      t.dev.uhf.trackT = s.dev.now ∧
      ∀ i : Fin 4, (t.dev.uhf.track.code[i]) =
        if (s.dev.uhf.ant[s.dev.uhf.acfg]).en.testBit i.val then (dir[i]).step (s.dev.uhf.track.code[i]) else s.dev.uhf.track.code[i]) ∧
  (∀ (i : Fin 4) (s : State), s.dev.uhf.on = true → (s.dev.uhf.ant[s.dev.uhf.acfg]).en.testBit i.val = true →
    (s.dev.uhf.resid[i]) = none →
    Completes (mask [.uhf]) (.residualExcursion i true) s fun t =>
      t.dev.uhf = { s.dev.uhf with
        resid := s.dev.uhf.resid.set i.val (some s.dev.now) i.isLt, cntResid := satInc 255 s.dev.uhf.cntResid, icause := 6 }) ∧
  (∀ (i : Fin 4) (t0 : Nat) (s : State), (s.dev.uhf.resid[i]) = some t0 → t0 + msT 1 ≤ s.dev.now →
    Completes (mask [.uhf]) (.residualPersist i) s fun t =>
      (t.dev.uhf.ch[s.dev.uhf.chan]).again = (s.dev.uhf.ch[s.dev.uhf.chan]).again ||| bit8 s.dev.uhf.acfg ∧
      ∀ c : Fin 64, c ≠ s.dev.uhf.chan → (t.dev.uhf.ch[c]) = s.dev.uhf.ch[c])

/-- As requester the device holds the aerial once its request is granted and gives it up with its carrier off when the grant goes
(R426); a request not granted in GNT_TO backs off and is made again (R426, R428). As arbiter the device takes the levels of the peer's
lines (R424, R425), grants a request where it does not hold the aerial and does not ask for it, gives the aerial up after HOLD_MAX, and
grants it once its carrier is off (R427). A new section COEX takes effect at the next decision (R432). -/
def Obligations.TheAerialIsRequestedAndArbitrated : Prop :=
  (∀ (level : Bool) (s : State), s.dev.mode.cur ≠ .m0 → s.dev.uhf.coex.role = 1 → (level ^^ s.dev.uhf.coex.pol.testBit 2) = true →
    s.dev.uhf.reqOut = true → s.dev.uhf.hold = false →
    Completes (mask [.mode, .uhf, .ncp, .evr, .pmu]) (.coexGntChange level) s fun t => t.dev.uhf.gntIn = true ∧ t.dev.uhf.hold = true) ∧
  (∀ (level : Bool) (s : State), s.dev.mode.cur ≠ .m0 → s.dev.uhf.coex.role = 1 → (level ^^ s.dev.uhf.coex.pol.testBit 2) = false →
    s.dev.uhf.hold = true →
    Completes (mask [.mode, .uhf, .ncp, .evr, .pmu]) (.coexGntChange level) s fun t =>
      t.dev.uhf.gntIn = false ∧ t.dev.uhf.hold = false ∧ t.dev.uhf.on = false) ∧
  (∀ (draw t0 : Nat) (s : State), s.dev.uhf.coex.role = 1 → s.dev.uhf.reqOut = true → s.dev.uhf.hold = false →
    s.dev.uhf.reqT = some t0 → t0 + usT (10 * s.dev.uhf.coex.gntTo) ≤ s.dev.now →
    Completes (mask [.uhf]) (.coexGntTimeout draw) s fun t =>
      t.dev.uhf.reqOut = false ∧ t.dev.uhf.reqT = none ∧ ∃ e, t.dev.uhf.boEnd = some e ∧ s.dev.now ≤ e) ∧
  (∀ (t0 : Nat) (s : State), s.dev.uhf.boEnd = some t0 → t0 ≤ s.dev.now → s.dev.uhf.coex.role = 1 → s.dev.uhf.want = true →
    s.dev.uhf.hold = false →
    Completes (mask [.mode, .uhf, .ncp, .evr, .pmu]) .coexBackoffEnd s fun t => t.dev.uhf.boEnd = none ∧ t.dev.uhf.reqOut = true) ∧
  (∀ (req pri : Bool) (s : State), s.dev.mode.cur ≠ .m0 → s.dev.uhf.coex.role = 2 →
    Completes (mask [.uhf]) (.coexReqChange req pri) s fun t =>
      t.dev.uhf = { s.dev.uhf with peerPin := req ^^ s.dev.uhf.coex.pol.testBit 0, peerPri := pri ^^ s.dev.uhf.coex.pol.testBit 1 }) ∧
  (∀ (draw : Nat) (s : State), s.dev.mode.cur ≠ .m0 → s.dev.uhf.coexNext = none → s.dev.uhf.coex.role = 2 → s.dev.uhf.peerPin = true →
    s.dev.uhf.gntOut = false → s.dev.uhf.gntDue = false → s.dev.uhf.hold = false → s.dev.uhf.want = false → s.dev.carrierOff = true →
    Completes (mask [.mode, .uhf, .ncp, .evr, .pmu]) (.coexDecision draw) s fun t => t.dev.uhf = { s.dev.uhf with peerReq := true, gntOut := true }) ∧
  (∀ (draw : Nat) (s : State), s.dev.mode.cur ≠ .m0 → s.dev.uhf.coexNext = none → s.dev.uhf.coex.role = 2 → s.dev.uhf.peerPin = true →
    s.dev.uhf.gntOut = false → s.dev.uhf.gntDue = true → s.dev.carrierOff = true →
    Completes (mask [.mode, .uhf, .ncp, .evr, .pmu]) (.coexDecision draw) s fun t =>
      t.dev.uhf = { s.dev.uhf with peerReq := true, gntOut := true, gntDue := false }) ∧
  (∀ (draw : Nat) (g : CoexCfg) (s : State), s.dev.mode.cur ≠ .m0 → s.dev.uhf.coexNext = some g → g.role ≠ 2 → s.dev.uhf.want = false →
    Completes (mask [.mode, .uhf, .ncp, .evr, .pmu]) (.coexDecision draw) s fun t =>
      t.dev.uhf.coex = g ∧ t.dev.uhf.coexNext = none ∧ t.dev.uhf.gntOut = false ∧ t.dev.uhf.gntDue = false ∧
      t.dev.uhf.hold = s.dev.uhf.hold) ∧
  (∀ s : State, s.dev.uhf.coex.role = 2 → s.dev.uhf.peerReq = true → s.dev.uhf.gntOut = false → s.dev.uhf.hold = true →
    s.dev.uhf.peerT + msT s.dev.uhf.coex.holdMax ≤ s.dev.now →
    Completes (mask [.uhf, .evr, .pmu]) .coexHoldMax s fun t => t.dev.uhf.gntDue = true ∧ t.dev.uhf.hold = false ∧ t.dev.uhf.on = false)

/-- RADIO_CONFIG replies with a section (R430, R431), and in M4 writes the section COEX for the next decision (R430, R432). CALIBRATE
of UHF channels waits for the aerial with its first channel tuned (R429, R433). A command that could not obtain the aerial in its time
completes with COEX_DENIED and is counted (R429). A channel that REVISIT_MS had refused is selected once it is permitted (R420), and
NOCHAN ends once a channel is usable again (R417). -/
def Obligations.TheRadioIsConfiguredAndWaits : Prop :=
  (∀ (tag : Fin 32) (c : Cmd) (s : State), Ready 0x08 tag c s.dev → c.payload = [3, 0, 0, 0] →
    Completes (mask [.uhf, .room, .ncp, .evr, .qs, .pmu]) (.radioConfig tag) s fun t =>
      t.dev.uhf = s.dev.uhf ∧ Replied tag c .ok ([3, 0, 0, 0] ++ s.dev.uhf.txBytes) s.dev t.dev) ∧
  (∀ (tag : Fin 32) (c : Cmd) (p : List Byte) (s : State), Ready 0x08 tag c s.dev → c.payload = [4, 1, 0, 0] ++ p → p.length = 8 →
    coexOk p = true → s.dev.mode.cur = .m4 →
    Completes (mask [.uhf, .room, .ncp, .evr, .qs, .pmu]) (.radioConfig tag) s fun t =>
      t.dev.uhf = { s.dev.uhf with coexNext := some { role := byteAt p 0, pol := byteAt p 1, primode := byteAt p 2, hiMs := byteAt p 3,
                                                      gntTo := byteAt p 4, holdMax := byteAt p 5 } } ∧
      Replied tag c .ok ([4, 0, 0, 0] ++ p) s.dev t.dev) ∧
  (∀ (tag : Fin 32) (c : Cmd) (fl first last : Nat) (k : Fin 64) (rest : List (Fin 64)) (s : State), Ready 0x80 tag c s.dev → fl ≤ 3 →
    first ≤ last → last ≤ 63 → c.payload = [2, byteOf fl, byteOf first, byteOf last] → s.dev.uhf.calRun = none →
    (allCh.filter fun j => decide (first ≤ j.val) && decide (j.val ≤ last) && (s.dev.uhf.chCfg[j]).en) = k :: rest →
    s.dev.uhf.hold = false → s.dev.uhf.coex.role = 1 → s.dev.uhf.boEnd = none → s.dev.uhf.gntIn = false →
    Completes (mask [.mode, .uhf, .nvm, .kiln, .ncp, .evr, .qs, .pmu]) (.calibrateUhf tag) s fun t =>
      t.dev.uhf.calRun = some { tag := tag, left := k :: rest, cfgs := [] } ∧ t.dev.uhf.carrier = true ∧ t.dev.uhf.chan = k ∧
      t.dev.uhf.reqOut = true ∧ ∃ x, t.dev.cmd tag = some x ∧ x.phase = .aerial) ∧
  (∀ (tag : Fin 32) (c : Cmd) (s : State), s.dev.cmd tag = some c → c.opc = 0x80 → s.dev.aerialLate c = true →
    Completes (mask [.mode, .uhf, .room, .ncp, .evr, .qs, .pmu]) (.aerialWaitLimit tag) s fun t =>
      t.dev.ncp.tags[tag] = .done c.resv Status.coexDenied.code ∧ t.dev.uhf.calRun = none ∧ t.dev.uhf.carrier = false ∧
      t.dev.uhf.denied = satInc 255 s.dev.uhf.denied) ∧
  (∀ (draw : Nat) (c : Fin 64) (rest : List (Fin 64)) (s : State), s.dev.uhf.revWait = true → s.dev.mode.qual = none →
    s.dev.permitted = c :: rest → s.dev.uhf.txc.hopMode = 0 → s.dev.uhf.txkill = false → s.dev.uhf.busy = false →
    s.dev.uhf.on = false → s.dev.uhf.carrier = false →
    Completes (mask [.uhf, .room, .evr, .qs, .pmu]) (.revisitExpiry draw) s fun t =>
      t.dev.uhf.revWait = false ∧ t.dev.uhf.chan = c ∧ t.dev.uhf.run = .hop) ∧
  (∀ (draw : Nat) (s : State), s.dev.uhf.nochan = true → s.dev.usable ≠ [] → s.dev.uhf.carrier = false →
    Completes (mask [.uhf, .room, .evr, .qs, .pmu]) (.failedChannelRetry draw) s fun t => t.dev.uhf = { s.dev.uhf with nochan := false })

/-! ## Room inventory (chapter 12) -/

/-- ROOM_INVENTORY without an action replies with the state of inventory; RUN with the carrier on starts it (R457, R458). MAX_MS ends a
ONCE with PARTIAL and inventory with it (R458). -/
def Obligations.InventoryRuns : Prop :=
  (∀ (tag : Fin 32) (c : Cmd) (draw : Nat) (s : State), Ready 0x40 tag c s.dev → c.payload = List.replicate 12 0 →
    Completes (mask [.mode, .uhf, .room, .ncp, .evr, .qs, .pmu]) (.roomInventory tag draw) s fun t =>
      t.dev.room = s.dev.room ∧ t.dev.uhf = s.dev.uhf ∧ Replied tag c .ok (s.dev.invReply none) s.dev t.dev) ∧
  (∀ (tag : Fin 32) (c : Cmd) (draw : Nat) (s : State), Ready 0x40 tag c s.dev → invOk c.payload = true → 12 ≤ c.payload.length →
    byteAt c.payload 0 = 1 → s.dev.room.once = none → s.dev.th.shut = false → s.dev.room.inv = none → s.dev.uhf.on = true →
    s.dev.uhf.hold = true → s.dev.uhf.nochan = false →
    Completes (mask [.mode, .uhf, .room, .ncp, .evr, .qs, .pmu]) (.roomInventory tag draw) s fun t =>
      t.dev.room.inv = some (invPar c.payload) ∧ t.dev.room.next = none ∧ t.dev.room.runTags = s.dev.room.runTags ++ [tag] ∧
      t.dev.room.q = (invPar c.payload).qInit ∧ t.dev.uhf.carrier = true ∧ ∃ x, t.dev.cmd tag = some x ∧ x.phase = .slots) ∧
  (∀ (tag : Fin 32) (c : Cmd) (o : OnceRun) (s : State), s.dev.room.once = some o → o.tag = tag → o.start + msT o.maxMs ≤ s.dev.now →
    s.dev.cmd tag = some c → c.opc ≠ 4 → s.dev.room.pend = [] → s.dev.room.stopTags = [] →
    Completes (mask [.mode, .uhf, .room, .ncp, .evr, .qs, .pmu]) (.onceMaxMs tag) s fun t =>
      t.dev.room.inv = none ∧ t.dev.room.once = none ∧ t.dev.room.slot = false ∧
      t.dev.ncp.tags[tag] = .done c.resv Status.partly.code)

/-- In a slot, an empty one lowers and a collided one raises Qfp by C, Q follows Qfp, and a read waits for the room table (R442, R444,
R445, R453). A room update step takes what waits: a first read of a tag enters it at the lowest free index with RT_GEN raised (R451,
R453). -/
def Obligations.SlotsAndReadsFillTheRoomTable : Prop :=
  (∀ (p : InvPar) (s : State), s.dev.inSlot = true → s.dev.slotOver = true → s.dev.room.inv = some p → s.dev.room.stopTags = [] →
    s.dev.room.once = none → 3 ≤ s.dev.room.left →
    Completes (mask [.mode, .uhf, .room, .ncp, .evr, .qs, .pmu]) .uhfSlotEmpty s fun t =>
      t.dev.room.qfp = s.dev.room.qfp - s.dev.room.act.c ∧ t.dev.room.q = qOf t.dev.room.qfp ∧ t.dev.room.pend = s.dev.room.pend) ∧
  (∀ (p : InvPar) (rn : Option Nat) (s : State), s.dev.inSlot = true → s.dev.room.inv = some p → s.dev.room.stopTags = [] →
    s.dev.room.once = none → 3 ≤ s.dev.room.left →
    Completes (mask [.mode, .uhf, .room, .ncp, .evr, .qs, .pmu]) (.uhfTagReply (.collided rn)) s fun t =>
      t.dev.room.qfp = min 150 (s.dev.room.qfp + s.dev.room.act.c) ∧ t.dev.room.q = qOf t.dev.room.qfp ∧ t.dev.room.replied = true ∧
      t.dev.room.pend = s.dev.room.pend) ∧
  (∀ (p : InvPar) (rn pc : Nat) (epc : List Byte) (power phase : Vector Int 4) (s : State), s.dev.inSlot = true →
    s.dev.room.inv = some p → s.dev.room.stopTags = [] → s.dev.room.once = none → 3 ≤ s.dev.room.left → epc.length ≤ 62 →
    s.dev.rxValid ≠ 0 →
    Completes (mask [.mode, .uhf, .room, .ncp, .evr, .qs, .pmu]) (.uhfTagReply (.epc rn pc epc power phase)) s fun t =>
      t.dev.room.qfp = s.dev.room.qfp ∧ ∃ r, t.dev.room.pend = s.dev.room.pend ++ [.read r] ∧ r.pc = pc ∧ r.epc = epc ∧
        r.chan = s.dev.uhf.chan.val ∧ r.phc = s.dev.phcW) ∧
  (∀ (r : RRead) (s : State), s.dev.roomDue = true → s.dev.room.lastRoom = false ∨ s.dev.presDue = false → s.dev.room.pend = [.read r] →
    s.dev.room.act.age = 0 → (s.dev.room.table.find? fun x => decide (x.2.pc = r.pc) && decide (x.2.epc = r.epc)) = none →
    freeFrom 0 s.dev.room.table < 4096 →
    Completes (mask [.room, .ncp, .evr, .qs, .pmu]) .roomUpdateStep s fun t =>
      t.dev.room.pend = [] ∧ t.dev.room.stepT = s.dev.now ∧ t.dev.room.lastRoom = true ∧ t.dev.room.gen = s.dev.room.gen + 1 ∧
      ∃ e, t.dev.room.at (freeFrom 0 s.dev.room.table) = some e ∧ e.epc = r.epc ∧ e.pc = r.pc ∧ e.reads = 1 ∧
        e.rssi = r.rssi ∧ e.lastPhc = r.phc ∧ e.genChg = s.dev.room.gen + 1)

/-- ROOM_CONFIG replies with the configuration of an antenna configuration, and with SET sets it (R459). ROOM_ACCESS and ROOM_AUTH with
the radio begin with the singulation: a Select on the tag's EPC and a Query (R461). ROOM_ACCESS that reads completes with the words
read, and ROOM_AUTH once the tag has answered; both send a NAK and give the radio back (R460 to R462). -/
def Obligations.RoomCommandsReply : Prop :=
  (∀ (tag : Fin 32) (c : Cmd) (s : State), Ready 0x41 tag c s.dev → c.payload.length = 20 → roomCfgOk c.payload = true →
    byteAt c.payload 0 = 0 →
    Completes (mask [.room, .ncp, .evr, .qs, .pmu]) (.roomConfig tag) s fun t =>
      t.dev.room = s.dev.room ∧
      Replied tag c .ok (s.dev.room.cfg.bytes (Fin.ofNat 8 (byteAt c.payload 1))) s.dev t.dev) ∧
  (∀ (tag : Fin 32) (c : Cmd) (s : State), Ready 0x41 tag c s.dev → c.payload.length = 20 → roomCfgOk c.payload = true →
    byteAt c.payload 0 = 1 →
    Completes (mask [.room, .ncp, .evr, .qs, .pmu]) (.roomConfig tag) s fun t =>
      t.dev.room.cfg.age = leAt c.payload 2 2 ∧ t.dev.room.cfg.c = byteAt c.payload 4 ∧ t.dev.room.cfg.move = byteAt c.payload 5 ∧
      (t.dev.room.cfg.arr[Fin.ofNat 8 (byteAt c.payload 1)]) =
        { kind := byteAt c.payload 6, d := leAt c.payload 8 2
          ph := #v[signed 16 (leAt c.payload 12 2), signed 16 (leAt c.payload 14 2), signed 16 (leAt c.payload 16 2)]
          ref := leAt c.payload 18 2 } ∧
      t.dev.room.table = s.dev.room.table) ∧
  (∀ (tag : Fin 32) (c : Cmd) (x : RStep) (s : State), s.dev.cmd tag = some c → c.opc = 0x42 → c.phase = .frames → c.deadline = 0 →
    c.stopReq = false → s.dev.room.access = some tag → s.dev.roomUp = true → s.dev.room.acc.stage = .start → x.ans = .silent →
    Completes (mask [.mode, .uhf, .key, .room, .ncp, .evr, .qs, .pmu]) (.roomAccess tag x) s fun t =>
      (∃ q, t.dev.room.air = [.select 0 4 1 32 (8 * s.dev.room.acc.epc.length) s.dev.room.acc.epc, q]) ∧ t.dev.room.acc.stage = .rn16 ∧
      t.dev.room.access = some tag ∧ t.dev.cmd tag = some { c with sent := c.sent + 2 }) ∧
  (∀ (tag : Fin 32) (c : Cmd) (x : RStep) (s : State), s.dev.cmd tag = some c → c.opc = 0x43 → c.phase = .frames → c.deadline = 0 →
    c.stopReq = false → s.dev.room.access = some tag → s.dev.roomUp = true → s.dev.room.acc.stage = .start → x.ans = .silent →
    Completes (mask [.mode, .uhf, .key, .room, .ncp, .evr, .qs, .pmu]) (.roomAuth tag x) s fun t =>
      (∃ q, t.dev.room.air = [.select 0 4 1 32 (8 * s.dev.room.acc.epc.length) s.dev.room.acc.epc, q]) ∧ t.dev.room.acc.stage = .rn16 ∧
      t.dev.room.access = some tag ∧ t.dev.cmd tag = some { c with sent := c.sent + 2 }) ∧
  (∀ (tag : Fin 32) (c : Cmd) (x : RStep) (l : List Byte) (s : State), s.dev.cmd tag = some c → c.opc = 0x42 → c.phase = .frames →
    byteAt c.payload 2 = 1 → s.dev.room.access = some tag → s.dev.roomUp = true → s.dev.room.acc.stage = .op → x.ans = .data l →
    l.length = 2 * byteAt c.payload 6 →
    Completes (mask [.mode, .uhf, .key, .room, .ncp, .evr, .qs, .pmu]) (.roomAccess tag x) s fun t =>
      t.dev.room.access = none ∧ t.dev.room.needSel = true ∧ t.dev.room.air = [.nak] ∧
      Replied tag c .ok (accReply { c with sent := c.sent + 1, rssi := x.rssi } 0 0 0 s.dev.phc l) s.dev t.dev) ∧
  (∀ (tag : Fin 32) (c : Cmd) (x : RStep) (l : List Byte) (s : State), s.dev.cmd tag = some c → c.opc = 0x43 → c.phase = .frames →
    s.dev.room.access = some tag → s.dev.roomUp = true → s.dev.room.acc.stage = .op → x.ans = .data l → l.length = 16 →
    s.dev.room.pend = [] →
    Completes (mask [.mode, .uhf, .key, .room, .ncp, .evr, .qs, .pmu]) (.roomAuth tag x) s fun t =>
      t.dev.room.access = none ∧ t.dev.room.air = [.nak] ∧ t.dev.room.pend = [] ∧ t.dev.room.stepT = s.dev.now ∧
      t.dev.ncp.tags[tag] = .done c.resv 0)

/-! ## Cask (chapter 13) -/

/-- The end of a Cask cycle gives its frequency and Vrms, adds each channel's energy, measured from the cycle's samples, to its
registers and broadcasts a CYCLE frame (R471 to R473, R491, R493). A change of the seal commits and is logged, and a closed seal
discards what is staged (R470, R490). 900 s after the last commit every register writes a record to its next blank cell (R477, R478).
Each second counts and broadcasts a REGS frame (R491). -/
def Obligations.CaskMetersAndCommits : Prop :=
  (∀ (ns : Nat) (xs : List CSample) (s : State), s.dev.cask.phase = .run →
    Completes (mask [.cask]) (.caskCycleEnd ns xs) s fun t =>
      t.dev.cask.freq = (10 ^ 12 + ns / 2) / max 1 ns % 2 ^ 32 ∧ t.dev.cask.vrms = rms (s.dev.cask.par.volts xs) % 2 ^ 32 ∧
      (∃ f, t.dev.cask.wire.getLast? = some f ∧ f.type = 1 ∧ f.payload = t.dev.cask.cyclePayload) ∧
      ∀ c : Fin 4, s.dev.cask.par.imode c ≠ 2 → 10 ≤ (s.dev.cask.par.measure c xs).irms → s.dev.cask.selfFail = false →
        (t.dev.cask.regs[Fin.ofNat 12 (3 * c.val + 2)]) =
          (s.dev.cask.regs[Fin.ofNat 12 (3 * c.val + 2)]).add (s.dev.cask.par.measure c xs).varh.natAbs ∧
        (0 < (s.dev.cask.par.measure c xs).wh → (t.dev.cask.regs[Fin.ofNat 12 (3 * c.val)]) =
          (s.dev.cask.regs[Fin.ofNat 12 (3 * c.val)]).add (s.dev.cask.par.measure c xs).wh.natAbs) ∧
        ((s.dev.cask.par.measure c xs).wh < 0 → (t.dev.cask.regs[Fin.ofNat 12 (3 * c.val + 1)]) =
          (s.dev.cask.regs[Fin.ofNat 12 (3 * c.val + 1)]).add (s.dev.cask.par.measure c xs).wh.natAbs)) ∧
  (∀ (low : Bool) (s : State), s.dev.cask.phase = .run → s.dev.cask.sealOpen ≠ low →
    Completes (mask [.cask]) (.sealChange low) s fun t =>
      t.dev.cask.sealOpen = low ∧ t.dev.cask.cseq = (s.dev.cask.cseq + 1) % 2 ^ 32 ∧
      (∃ e, t.dev.cask.log.getLast? = some e ∧ e.type = (if low then 5 else 6)) ∧
      (low = false → ∀ i : Fin 32, (t.dev.cask.staged[i]) = none)) ∧
  (∀ s : State, s.dev.cask.phase = .run → 900 ≤ s.dev.cask.csec - s.dev.cask.comSec → s.dev.cask.erase = [] →
    Completes (mask [.cask]) .caskTimedCommit s fun t =>
      t.dev.cask.cseq = (s.dev.cask.cseq + 1) % 2 ^ 32 ∧ t.dev.cask.comSec = s.dev.cask.csec ∧
      ∀ (r : Fin 12) (c : Fin 8), (s.dev.cask.regs[r]).nextCell = some c →
        (t.dev.cask.regs[r]).cells[c] = .full { seq := ((s.dev.cask.regs[r]).seq + 1) % 2 ^ 32, value := (s.dev.cask.regs[r]).value
                                                cseq := (s.dev.cask.cseq + 1) % 2 ^ 32, csec := s.dev.cask.csec }) ∧
  (∀ s : State, s.dev.cask.phase = .run →
    Completes (mask [.cask]) .caskRegsTimer s fun t =>
      t.dev.cask.csec = (s.dev.cask.csec + 1) % 2 ^ 32 ∧ t.dev.cask.regs = s.dev.cask.regs ∧
      ∃ f, t.dev.cask.wire = s.dev.cask.wire ++ [f] ∧ f.type = 2 ∧ f.payload = t.dev.cask.regsPayload) ∧
  (∀ (r : Fin 12) (c : Fin 8) (rest : List (Fin 12 × Fin 8)) (s : State), s.dev.cask.phase = .run →
    s.dev.cask.erase = (r, c) :: rest → rest.head? ≠ some (r, c) →
    Completes (mask [.cask]) .caskEraseDone s fun t => t.dev.cask.erase = rest ∧ (t.dev.cask.regs[r]).cells[c] = .blank)

/-- Cask stops measuring when its supply fails, measures again when it recovers in time, and is otherwise held in reset (R478, R482);
it powers on with HELLO first and POWER_UP last (R479, R487, R491), and changes its supply (R481). -/
def Obligations.CaskSupplies : Prop :=
  (∀ s : State, s.dev.cask.phase = .run →
    Completes (mask [.cask]) .caskPowerFail s fun t =>
      t.dev.cask = { s.dev.cask with phase := .failing, erase := [], query := none }) ∧
  (∀ s : State, s.dev.cask.phase = .failing →
    Completes (mask [.cask]) .caskSupplyRecover s fun t =>
      t.dev.cask.phase = .run ∧ t.dev.cask.cseq = (s.dev.cask.cseq + 1) % 2 ^ 32 ∧
      ∃ e, t.dev.cask.log.getLast? = some e ∧ e.type = 2) ∧
  (∀ (n : Fin 14) (part : Bool) (s : State), s.dev.cask.phase = .failing →
    Completes (mask [.cask]) (.caskHoldReset n part) s fun t =>
      t.dev.cask.phase = .off ∧ t.dev.cask.wire = [] ∧ t.dev.cask.sealOpen = false ∧ t.dev.cask.fuses = s.dev.cask.fuses) ∧
  (∀ (rom ram conv cbkp : Bool) (s : State), s.dev.cask.phase = .off →
    Completes (mask [.cask]) (.caskPowerOn rom ram conv cbkp) s fun t =>
      t.dev.cask.phase = .run ∧ t.dev.cask.cbkp = cbkp ∧ t.dev.cask.selfFail = !(rom && ram && conv) ∧
      t.dev.cask.sealOpen = false ∧ (∃ f, t.dev.cask.wire.head? = some f ∧ f.type = 5 ∧ f.bseq = 0) ∧
      ∃ e, t.dev.cask.log.getLast? = some e ∧ e.type = 2) ∧
  (∀ (cbkp : Bool) (s : State), s.dev.cask.phase = .run →
    Completes (mask [.cask]) (.caskSupplySwitch cbkp) s fun t => t.dev.cask = { s.dev.cask with cbkp := cbkp })

/-- A query that Cask can answer is answered with a QREPLY frame, and another discarded (R495). The adjustment port answers IDENT,
PARAM_READ and LIVE, refuses a CMD out of its table and discards a broken frame, and changes nothing else (R488). -/
def Obligations.CaskAnswers : Prop :=
  (∀ (q arg : Nat) (data : List Byte) (s : State), s.dev.cask.phase = .run → s.dev.cask.query = some (q, arg) →
    s.dev.cask.answer q arg = some data →
    Completes (mask [.cask]) .caskQuery s fun t =>
      t.dev.cask = { s.dev.cask with
        query := none, bseq := s.dev.cask.bseq + 1
        wire := s.dev.cask.wire ++
          [{ type := 4, bseq := s.dev.cask.bseq, payload := [byteOf q] ++ le 2 arg ++ le 2 data.length ++ [0] ++ data }] }) ∧
  (∀ s : State, s.dev.cask.phase = .run →
    Completes (mask [.cask]) .adjIdent s fun t =>
      t.dev.cask = { s.dev.cask with
        atx := adjFrame 1 0 (le 2 Config.caskFwver.toNat ++ le 2 s.dev.cask.fuses ++ le 4 s.dev.cask.par.pbseq ++ digestBytes) }) ∧
  (∀ (id : Fin 32) (s : State), s.dev.cask.phase = .run →
    Completes (mask [.cask]) (.adjParamRead id.val) s fun t =>
      t.dev.cask = { s.dev.cask with
        atx := adjFrame 2 0 (le 4 (s.dev.cask.par.vals[id]).toNat ++ le 4 ((s.dev.cask.staged[id]).getD 0).toNat ++
          [byteOf (b2n (s.dev.cask.staged[id]).isSome)]) }) ∧
  (∀ (id : Nat) (s : State), s.dev.cask.phase = .run → 32 ≤ id →
    Completes (mask [.cask]) (.adjParamRead id) s fun t => t.dev.cask = { s.dev.cask with atx := adjFrame 2 0x0E [] }) ∧
  (∀ s : State, s.dev.cask.phase = .run →
    Completes (mask [.cask]) .adjLive s fun t => t.dev.cask = { s.dev.cask with atx := adjFrame 3 0 s.dev.cask.cyclePayload }) ∧
  (∀ s : State, s.dev.cask.phase = .run →
    Completes (mask [.cask]) .adjFrameTimeout s fun t => t.dev.cask = { s.dev.cask with atx := [] }) ∧
  (∀ (cmd : BitVec 8) (s : State), s.dev.cask.phase = .run → cmd.toNat = 0 ∨ 6 < cmd.toNat →
    Completes (mask [.cask]) (.adjBadCommand cmd) s fun t => t.dev.cask = { s.dev.cask with atx := adjFrame cmd.toNat 0x0D [] })

/-- With the seal open a parameter in range is staged, staged values are discarded, and a commit of them uses one fuse (R486, R488 to
R490); with the seal closed each is refused with status 0x11 and changes nothing else (R488). -/
def Obligations.AdjustmentNeedsTheSealOpen : Prop :=
  (∀ (id : Nat) (v : Word) (s : State), s.dev.cask.phase = .run → s.dev.cask.sealOpen = true → parOk id v = true →
    Completes (mask [.cask]) (.adjParamStage id v) s fun t =>
      (t.dev.cask.staged[Fin.ofNat 32 id]) = some v ∧ t.dev.cask.par = s.dev.cask.par ∧ t.dev.cask.atx = adjFrame 4 0 []) ∧
  (∀ (id : Nat) (v : Word) (s : State), s.dev.cask.phase = .run → s.dev.cask.sealOpen = false →
    Completes (mask [.cask]) (.adjParamStage id v) s fun t => t.dev.cask = { s.dev.cask with atx := adjFrame 4 0x11 [] }) ∧
  (∀ s : State, s.dev.cask.phase = .run → s.dev.cask.sealOpen = true →
    Completes (mask [.cask]) .adjStageDiscard s fun t =>
      t.dev.cask = { s.dev.cask with staged := Vector.replicate 32 none, atx := adjFrame 5 0 [] }) ∧
  (∀ s : State, s.dev.cask.phase = .run → s.dev.cask.sealOpen = true → s.dev.cask.staged.toList.any Option.isSome = true →
    s.dev.cask.fuses < 512 →
    Completes (mask [.cask]) .adjCommit s fun t =>
      t.dev.cask.fuses = s.dev.cask.fuses + 1 ∧ (∀ i : Fin 32, (t.dev.cask.staged[i]) = none) ∧
      t.dev.cask.atx = adjFrame 6 0 (le 2 (s.dev.cask.fuses + 1)) ∧
      ∃ b, t.dev.cask.parNext = some b ∧ b.adj = s.dev.cask.fuses + 1 ∧
        ∀ (i : Fin 32) (v : Word), (s.dev.cask.staged[i]) = some v → (b.vals[i]) = v) ∧
  (∀ s : State, s.dev.cask.phase = .run → s.dev.cask.sealOpen = false →
    Completes (mask [.cask]) .adjCommit s fun t => t.dev.cask = { s.dev.cask with atx := adjFrame 6 0x11 [] })

/-- A CYCLE frame that arrives with its CRC right makes LINK 1 and is the source of CASK_READ; a frame whose CRC the line has made
wrong is counted, and one that the line leaves as it is has its CRC right; 50 ms without a CYCLE make LINK 0 (R491, R496, R501). A read
of CL_QRY sends a query (R498), and one without answer times out (R498). -/
def Obligations.TheCaskLink : Prop :=
  (∀ (noise : List Byte) (f g : CFrame) (rest : List CFrame) (s : State), s.dev.cask.wire = f :: rest → s.dev.bclk = true →
    frameOf (noised noise f.bytes) = some g → g.type = 1 → s.dev.cl.link = true →
    Completes (mask [.cask, .cl, .ncp, .evr, .qs, .pmu]) (.caskFrameReceive noise) s fun t =>
      t.dev.cask = { s.dev.cask with wire := rest } ∧ t.dev.cl.link = true ∧ t.dev.cl.cycle = g.payload ∧ t.dev.cl.bseq = g.bseq ∧
      t.dev.cl.cycT = some s.dev.now ∧ t.dev.cl.crcErr = s.dev.cl.crcErr) ∧
  (∀ (noise : List Byte) (f : CFrame) (rest : List CFrame) (s : State), s.dev.cask.wire = f :: rest → s.dev.bclk = true →
    frameOf (noised noise f.bytes) = none →
    Completes (mask [.cask, .cl, .ncp, .evr, .qs, .pmu]) (.caskFrameReceive noise) s fun t =>
      t.dev.cask = { s.dev.cask with wire := rest } ∧ t.dev.cl = { s.dev.cl with crcErr := satInc 65535 s.dev.cl.crcErr }) ∧
  (∀ f : CFrame, f.type < 256 → frameOf (noised [] f.bytes) = some f) ∧
  (∀ (t0 : Nat) (s : State), s.dev.cl.cycT = some t0 → s.dev.cl.link = true → t0 + msT 50 ≤ s.dev.now →
    Completes (mask [.cl]) .caskLinkTimeout s fun t => t.dev.cl = { s.dev.cl with link := false }) ∧
  (∀ (q arg : Nat) (s : State), s.dev.codeRuns .sc = true → s.dev.stalled .sc = false → 1 ≤ q → q ≤ 5 → arg < 1024 →
    s.dev.cl.busy = false →
    Completes (mask [.mode, .tb, .drv, .tx, .rx, .lau, .prb, .sf, .hf, .stp, .uhf, .key, .room, .cask, .cl, .nvm, .kiln, .ncp, .hsp,
      .msp, .evr, .qs, .tim, .pmu, .th, .bus, .cyc] ||| sramSet) (.clQryRead .sc q arg) s fun t =>
      t.dev.bus = { s.dev.bus with rdata := 1 } ∧
      t.dev.cl = { s.dev.cl with
        busy := true, done := false, timeout := false, qcode := q, qarg := arg, qT := s.dev.now, owner := some .raw }) ∧
  (∀ s : State, s.dev.cl.busy = true → s.dev.cl.qT + msT 5 ≤ s.dev.now → s.dev.cl.owner = some .raw → s.dev.cl.catch_ = none →
    s.dev.nextRead = none →
    Completes (mask [.cask, .cl, .ncp, .evr, .qs, .pmu]) .caskQueryTimeout s fun t =>
      t.dev.cl = { s.dev.cl with busy := false, timeout := true, owner := none }) ∧
  (∀ (tag : Fin 32) (c : Cmd) (s : State), Ready 0x50 tag c s.dev → c.payload = [1, 0, 0, 0] → s.dev.cl.link = true →
    Completes (mask [.cask, .cl, .ncp, .evr, .qs, .pmu]) (.caskRead tag) s fun t =>
      t.dev.cl = s.dev.cl ∧ Replied tag c .ok (readHeader 1 s.dev.cl.cycB s.dev.cl.cycT s.dev ++ s.dev.cl.cycle) s.dev t.dev)

/-! ## The command protocol (chapter 14) -/

/-- GET_STATUS replies with the status words and ECHO with its data once HOLD has passed, and neither changes anything else (R532,
R533). -/
def Obligations.StatusAndEcho : Prop :=
  (∀ (tag : Fin 32) (c : Cmd) (s : State), Ready 0x01 tag c s.dev → c.payload = [] →
    Completes (mask [.ncp, .evr, .qs, .pmu]) (.getStatus tag) s fun t => Replied tag c .ok s.dev.statusBytes s.dev t.dev) ∧
  (∀ (tag : Fin 32) (c : Cmd) (s : State), Ready 0x03 tag c s.dev → 2 ≤ c.payload.length → c.payload.length ≤ 258 →
    leAt c.payload 0 2 ≤ 60000 → s.dev.echoDue c = true →
    Completes (mask [.ncp, .evr, .qs, .pmu]) (.echo tag) s fun t => Replied tag c .ok (c.payload.drop 2) s.dev t.dev) ∧
  (∀ (tag : Fin 32) (c : Cmd) (s : State), s.dev.cmd tag = some c → c.opc = 3 → c.phase = .holdTime → s.dev.echoDue c = true →
    s.dev.pastDeadline c = false →
    Completes (mask [.ncp, .evr, .qs, .pmu]) (.echoHoldEnd tag) s fun t => Replied tag c .ok (c.payload.drop 2) s.dev t.dev)

/-- A command whose deadline comes before it has begun completes with DEADLINE (R518, R520), and one without a deadline that has not
begun in 120 s with INTERNAL, counted (R521). An exchange of frames stops 0.1 ms before its deadline (R331, R518), and after more than
10 s of extended waiting (R332). ABORT of a tag without a command replies NOT_PENDING (R527, R528); ABORT of a command that has not
begun completes it with ABORTED and itself with OK (R528, R530, R531). -/
def Obligations.CommandsAreEndedBeforeTheirOwn : Prop :=
  (∀ (tag : Fin 32) (c : Cmd) (s : State), s.dev.cmd tag = some c → c.phase = .fresh → s.dev.pastDeadline c = true →
    Completes (mask [.mode, .drv, .tx, .rx, .prb, .sf, .hf, .uhf, .key, .room, .cl, .nvm, .ncp, .evr, .qs,
      .pmu]) (.commandDeadline tag) s fun t => Replied tag c .deadline [] s.dev t.dev) ∧
  (∀ (tag : Fin 32) (c : Cmd) (s : State), s.dev.cmd tag = some c → c.phase = .fresh → c.deadline = 0 →
    c.accT + msT 120000 ≤ s.dev.now →
    Completes (mask [.mode, .drv, .tx, .rx, .prb, .sf, .hf, .uhf, .key, .room, .cl, .nvm, .ncp, .evr, .qs,
      .pmu]) (.commandGuard tag) s fun t =>
      t.dev.ncp.tags[tag] = .done c.resv (if c.opc = 4 then 0xFF else Status.internal.code) ∧ t.dev.ncp.guard = satInc 255 s.dev.ncp.guard) ∧
  (∀ (tag : Fin 32) (c : Cmd) (s : State), s.dev.cmd tag = some c → c.opc = 0x18 → c.phase = .frames → c.writeSent = false →
    s.dev.inIsland tag = false → c.deadline ≠ 0 → c.accT + dlT (c.deadline - 1) ≤ s.dev.now →
    Completes (mask [.mode, .drv, .tx, .rx, .prb, .sf, .hf, .uhf, .key, .room, .cl, .nvm, .ncp, .evr, .qs,
      .pmu]) (.workStopBeforeDeadline tag) s fun t =>
      t.dev.ncp.tags[tag] = .done c.resv Status.deadline.code) ∧
  (∀ (tag : Fin 32) (c : Cmd) (s : State), s.dev.cmd tag = some c → c.opc = 0x18 → c.phase = .frames → c.writeSent = false →
    c.deadline = 0 → msT 10000 < c.ext →
    Completes (mask [.sf, .hf, .ncp, .evr, .qs, .pmu]) (.wtxWaitLimit tag) s fun t => t.dev.ncp.tags[tag] = .done c.resv Status.deadline.code) ∧
  (∀ (tag x : Fin 32) (c : Cmd) (s : State), Ready 0x04 tag c s.dev → x ≠ tag → c.payload = [byteOf x.val, 0] → s.dev.cmd x = none →
    Completes (mask [.mode, .drv, .tx, .rx, .prb, .sf, .hf, .uhf, .key, .room, .cl, .nvm, .ncp, .evr, .qs, .pmu]) (.abort tag) s fun t =>
      Replied tag c .notPending [byteOf x.val, byteOf (s.dev.lostTo x.val), 0, 0] s.dev t.dev) ∧
  (∀ (tag x : Fin 32) (c k : Cmd) (s : State), Ready 0x04 tag c s.dev → x ≠ tag → c.payload = [byteOf x.val, 0] →
    s.dev.cmd x = some k → k.phase = .fresh → k.opc ≠ 4 → s.dev.ncp.aborts = [] →
    Completes (mask [.mode, .drv, .tx, .rx, .prb, .sf, .hf, .uhf, .key, .room, .cl, .nvm, .ncp, .evr, .qs, .pmu]) (.abort tag) s fun t =>
      t.dev.ncp.tags[x] = .done k.resv Status.aborted.code ∧ t.dev.ncp.tags[tag] = .done c.resv 0xFF ∧ t.dev.ncp.aborts = [])

/-! ## The serial ports (chapter 15) -/

/-- In full service an addressed frame of whole bytes returns the status byte (R541, R542): STATUS nothing more; PKT_WR hands its
packet to SC, which accepts or refuses it (R509 to R512, R544); PKT_RD returns the head of RSPQ or EVQ, or the null packet, and what is
read whole leaves its queue (R545, R546); PKT_REREAD returns the copy (R547). A frame for another address counts MISMATCH (R540), one
of a reserved OP is rejected, and so is one that ends within byte 0 (R543; log entry 70). -/
def Obligations.PacketFramesAreServed : Prop :=
  (∀ (a op n x : Nat) (s : State), s.dev.svc = .full → a % 16 = s.dev.hsp.addr → x % 8 = 0 → op % 16 < 6 →
    Completes (mask [.mode, .drv, .tx, .rx, .lau, .prb, .sf, .hf, .stp, .uhf, .key, .room, .cl, .nvm, .ncp, .hsp, .evr, .qs, .tim,
      .pmu]) (.statusFrame a op n x none) s fun t =>
      t.dev.hsp = { s.dev.hsp with
        rs := if s.dev.hsp.ddr then 8 * n + x else 0, frames := satInc 65535 s.dev.hsp.frames
        out := doBytes s.dev.hspStatus [] n }) ∧
  (∀ (a op n x : Nat) (k : Fin 8) (s : State), s.dev.svc = .full → 0 < k.val →
    Completes (mask [.mode, .drv, .tx, .rx, .lau, .prb, .sf, .hf, .stp, .uhf, .key, .room, .cl, .nvm, .ncp, .hsp, .evr, .qs, .tim,
      .pmu]) (.statusFrame a op n x (some k)) s fun t =>
      t.dev.hsp = { s.dev.hsp with
        err := true, rej := true, lastRej := 1, reject := satInc 255 s.dev.hsp.reject, errs := satInc 65535 s.dev.hsp.errs }) ∧
  (∀ (a op n x : Nat) (s : State), s.dev.svc = .full → a % 16 = s.dev.hsp.addr → x % 8 = 0 → 6 ≤ op % 16 →
    Completes (mask [.mode, .drv, .tx, .rx, .lau, .prb, .sf, .hf, .stp, .uhf, .key, .room, .cl, .nvm, .ncp, .hsp, .evr, .qs, .tim,
      .pmu]) (.statusFrame a op n x none) s fun t =>
      t.dev.hsp = { s.dev.hsp with
        err := true, rej := true, lastRej := 2, reject := satInc 255 s.dev.hsp.reject, errs := satInc 65535 s.dev.hsp.errs
        rs := if s.dev.hsp.ddr then 8 * n + x else 0, out := doBytes s.dev.hspStatus [] n }) ∧
  (∀ (a op n x : Nat) (s : State), s.dev.svc = .full → a % 16 ≠ s.dev.hsp.addr →
    Completes (mask [.mode, .drv, .tx, .rx, .lau, .prb, .sf, .hf, .stp, .uhf, .key, .room, .cl, .nvm, .ncp, .hsp, .evr, .qs, .tim,
      .pmu]) (.statusFrame a op n x none) s fun t =>
      t.dev.hsp = { s.dev.hsp with
        rs := if s.dev.hsp.ddr then 8 * n + x else 0, mismatch := satInc 255 s.dev.hsp.mismatch
        out := doBytes s.dev.hspStatus [] n }) ∧
  (∀ (a x : Nat) (pkt : List Byte) (s : State), s.dev.svc = .full → a % 16 = s.dev.hsp.addr → x % 8 = 0 → 0 < pkt.length →
    pkt.length ≤ 4360 → s.dev.ncp.check pkt = none → (rpl (byteAt pkt 0)).isSome = true → s.dev.unlisted = none →
    Completes (mask [.mode, .drv, .tx, .rx, .lau, .prb, .sf, .hf, .stp, .uhf, .key, .room, .cl, .nvm, .ncp, .hsp, .evr, .qs, .tim,
      .pmu]) (.pktWr a pkt x) s fun t =>
      t.dev.ncp = { s.dev.ncp with
        tags := upd s.dev.ncp.tags (Fin.ofNat 32 (byteAt pkt 1)) fun _ => .active (cmdOf pkt s.dev.now s.dev.ncp.nextOrder)
        nextOrder := s.dev.ncp.nextOrder + 1 } ∧
      t.dev.hsp.out = doBytes s.dev.hspStatus (List.replicate pkt.length (byteOf 0)) pkt.length) ∧
  (∀ (a x : Nat) (pkt : List Byte) (st : Status) (why : Nat) (s : State), s.dev.svc = .full → a % 16 = s.dev.hsp.addr → x % 8 = 0 →
    0 < pkt.length → pkt.length ≤ 4360 → s.dev.ncp.check pkt = some (st, why) → 0 < s.dev.ncp.refFree →
    Completes (mask [.mode, .drv, .tx, .rx, .lau, .prb, .sf, .hf, .stp, .uhf, .key, .room, .cl, .nvm, .ncp, .hsp, .evr, .qs, .tim,
      .pmu]) (.pktWr a pkt x) s fun t =>
      t.dev.ncp.tags = s.dev.ncp.tags ∧ t.dev.ncp.refFree = s.dev.ncp.refFree - 1 ∧
      (s.dev.qs.rspq.used + 4 * (wordsOf (replyPacket (byteAt pkt 0) (byteAt pkt 1 % 64 + 0xC0) st.code 0 [byteOf why])).length + 4 ≤ 32768 →
        ∃ h, t.dev.qs.rspq.items = s.dev.qs.rspq.items ++
          [h :: wordsOf (replyPacket (byteAt pkt 0) (byteAt pkt 1 % 64 + 0xC0) st.code 0 [byteOf why])])) ∧
  (∀ (a n x : Nat) (i : List Word) (rest : List (List Word)) (s : State), s.dev.svc = .full → a % 16 = s.dev.hsp.addr → x % 8 = 0 →
    s.dev.hsp.again = none → s.dev.qs.rspq.items = i :: rest → s.dev.qs.evq.items = [] → (rspPacket i rest.length).length ≤ n →
    (byteAt (rspPacket i rest.length) 1).testBit 6 = false →
    Completes (mask [.mode, .drv, .tx, .rx, .lau, .prb, .sf, .hf, .stp, .uhf, .key, .room, .cl, .nvm, .ncp, .hsp, .evr, .qs, .tim,
      .pmu]) (.pktRd a n x) s fun t =>
      t.dev.qs.rspq.items = rest ∧ t.dev.qs.evq = s.dev.qs.evq ∧ t.dev.hsp.copy = some (rspPacket i rest.length) ∧
      t.dev.hsp.out = doBytes s.dev.hspStatus (rspPacket i rest.length) n ∧
      t.dev.ncp.tags = upd s.dev.ncp.tags (Fin.ofNat 32 (byteAt (rspPacket i rest.length) 1)) fun _ => .free) ∧
  (∀ (a n x : Nat) (i : List Word) (rest : List (List Word)) (s : State), s.dev.svc = .full → a % 16 = s.dev.hsp.addr → x % 8 = 0 →
    s.dev.hsp.again = none → s.dev.qs.rspq.items = [] → s.dev.qs.evq.items = i :: rest →
    (evtPacket i rest.length s.dev.qs.loss).length ≤ n →
    Completes (mask [.mode, .drv, .tx, .rx, .lau, .prb, .sf, .hf, .stp, .uhf, .key, .room, .cl, .nvm, .ncp, .hsp, .evr, .qs, .tim,
      .pmu]) (.pktRd a n x) s fun t =>
      t.dev.qs.evq.items = rest ∧ t.dev.qs.rspq = s.dev.qs.rspq ∧ t.dev.qs.loss = 0 ∧ t.dev.ncp.tags = s.dev.ncp.tags ∧
      t.dev.hsp.copy = some (evtPacket i rest.length s.dev.qs.loss) ∧
      t.dev.hsp.out = doBytes s.dev.hspStatus (evtPacket i rest.length s.dev.qs.loss) n) ∧
  (∀ (a n x : Nat) (i : List Word) (rest : List (List Word)) (s : State), s.dev.svc = .full → a % 16 = s.dev.hsp.addr → x % 8 = 0 →
    s.dev.hsp.again = none → s.dev.qs.rspq.items = i :: rest → s.dev.qs.evq.items = [] → s.dev.qs.evq.flushOpen = false →
    n < (rspPacket i rest.length).length →
    Completes (mask [.mode, .drv, .tx, .rx, .lau, .prb, .sf, .hf, .stp, .uhf, .key, .room, .cl, .nvm, .ncp, .hsp, .evr, .qs, .tim,
      .pmu]) (.pktRd a n x) s fun t =>
      t.dev.qs.rspq.items = i :: rest ∧ t.dev.ncp.tags = s.dev.ncp.tags ∧ t.dev.hsp.again = some true ∧
      t.dev.hsp.short = satInc 255 s.dev.hsp.short ∧ t.dev.hsp.copy = s.dev.hsp.copy) ∧
  (∀ (a n x : Nat) (s : State), s.dev.svc = .full → a % 16 = s.dev.hsp.addr → x % 8 = 0 →
    s.dev.hsp.again = none → s.dev.qs.rspq.items = [] → s.dev.qs.evq.items = [] → nullPacket.length ≤ n →
    Completes (mask [.mode, .drv, .tx, .rx, .lau, .prb, .sf, .hf, .stp, .uhf, .key, .room, .cl, .nvm, .ncp, .hsp, .evr, .qs, .tim,
      .pmu]) (.pktRd a n x) s fun t =>
      t.dev.qs = s.dev.qs ∧ t.dev.ncp = { s.dev.ncp with lastRsp := false } ∧
      t.dev.hsp = { s.dev.hsp with
        rs := if s.dev.hsp.ddr then 8 * n + x else 0, frames := satInc 65535 s.dev.hsp.frames
        out := doBytes s.dev.hspStatus nullPacket n }) ∧
  (∀ (a n x : Nat) (s : State), s.dev.svc = .full → a % 16 = s.dev.hsp.addr → x % 8 = 0 →
    Completes (mask [.mode, .drv, .tx, .rx, .lau, .prb, .sf, .hf, .stp, .uhf, .key, .room, .cl, .nvm, .ncp, .hsp, .evr, .qs, .tim,
      .pmu]) (.pktReread a n x) s fun t =>
      t.dev.hsp = { s.dev.hsp with
        rs := if s.dev.hsp.ddr then 8 * n + x else 0, frames := satInc 65535 s.dev.hsp.frames
        out := doBytes s.dev.hspStatus (s.dev.hsp.copy.getD nullPacket) n })

/-- REG_RD returns words of the host window after three bytes and DUMMY more: the identity word, MODE_STAT, and TSC_L with the TSC_H of
the same cycle (R4, R73, R548, R612). REG_WR writes them: HSP_HCFG in range, and ERR cleared by a 1 (R15, R549, R554). A frame with a
wrong address or length is rejected and has no other effect (R543). -/
def Obligations.RegisterFramesAreServed : Prop :=
  (∀ (a n x : Nat) (s : State), s.dev.svc = .full → a % 16 = s.dev.hsp.addr → x % 8 = 0 → 3 ≤ n →
    Completes (mask [.mode, .drv, .tx, .rx, .lau, .prb, .sf, .hf, .stp, .uhf, .key, .room, .cl, .nvm, .ncp, .hsp, .evr, .qs, .tim, .pmu,
      .bus]) (.regRd a 0x000 0 n x) s fun t =>
      t.dev.hsp = { s.dev.hsp with
        rs := if s.dev.hsp.ddr then 8 * n + x else 0, frames := satInc 65535 s.dev.hsp.frames
        out := doBytes s.dev.hspStatus (List.replicate (3 + s.dev.hsp.dummy) (byteOf 0) ++ le 4 identity) n }) ∧
  (∀ (a n x : Nat) (s : State), s.dev.svc = .full → a % 16 = s.dev.hsp.addr → x % 8 = 0 → 3 ≤ n →
    Completes (mask [.mode, .drv, .tx, .rx, .lau, .prb, .sf, .hf, .stp, .uhf, .key, .room, .cl, .nvm, .ncp, .hsp, .evr, .qs, .tim, .pmu,
      .bus]) (.regRd a 0x010 0 n x) s fun t =>
      t.dev.hsp = { s.dev.hsp with
        rs := if s.dev.hsp.ddr then 8 * n + x else 0, frames := satInc 65535 s.dev.hsp.frames
        out := doBytes s.dev.hspStatus (List.replicate (3 + s.dev.hsp.dummy) (byteOf 0) ++ le 4 s.dev.modeStat) n }) ∧
  (∀ (a n x : Nat) (s : State), s.dev.svc = .full → a % 16 = s.dev.hsp.addr → x % 8 = 0 → 3 ≤ n →
    Completes (mask [.mode, .drv, .tx, .rx, .lau, .prb, .sf, .hf, .stp, .uhf, .key, .room, .cl, .nvm, .ncp, .hsp, .evr, .qs, .tim, .pmu,
      .bus]) (.regRd a 0x100 1 n x) s fun t =>
      t.dev.hsp.out = doBytes s.dev.hspStatus (List.replicate (3 + s.dev.hsp.dummy) (byteOf 0) ++
        le 4 (s.dev.tim.tsc.toNat % 2 ^ 32) ++ le 4 (s.dev.tim.tsc.toNat / 2 ^ 32)) n ∧
      t.dev.tim = { s.dev.tim with latch := upd s.dev.tim.latch 5 fun _ => BitVec.ofNat 32 (s.dev.tim.tsc.toNat / 2 ^ 32) }) ∧
  (∀ (a off nm1 n x : Nat) (s : State), s.dev.svc = .full → a % 16 = s.dev.hsp.addr → x % 8 = 0 → 3 ≤ n → off < 65536 → off % 4 ≠ 0 →
    Completes (mask [.mode, .drv, .tx, .rx, .lau, .prb, .sf, .hf, .stp, .uhf, .key, .room, .cl, .nvm, .ncp, .hsp, .evr, .qs, .tim, .pmu,
      .bus]) (.regRd a off nm1 n x) s fun t =>
      t.dev.hsp = { s.dev.hsp with
        err := true, rej := true, lastRej := 5, reject := satInc 255 s.dev.hsp.reject, errs := satInc 65535 s.dev.hsp.errs
        rs := if s.dev.hsp.ddr then 8 * n + x else 0, out := doBytes s.dev.hspStatus [] n }) ∧
  (∀ (a v x : Nat) (s : State), s.dev.svc = .full → a % 16 = s.dev.hsp.addr → x % 8 = 0 → v < 2 ^ 32 → 1 ≤ bits v 3 0 → bits v 3 0 ≤ 14 →
    1 ≤ bits v 7 4 →
    Completes (mask [.mode, .tb, .drv, .tx, .rx, .lau, .prb, .sf, .hf, .stp, .uhf, .key, .room, .cl, .nvm, .ncp, .hsp, .evr, .qs, .tim,
      .pmu, .cyc]) (.regWr a (le 2 0x0A0 ++ [0] ++ le 4 v) x) s fun t =>
      t.dev.hsp = { s.dev.hsp with
        addr := bits v 3 0, dummy := bits v 7 4, ddr := v.testBit 8, frames := satInc 65535 s.dev.hsp.frames
        rs := if s.dev.hsp.ddr then 56 + x else 0, out := doBytes s.dev.hspStatus (List.replicate 7 (byteOf 0)) 7 }) ∧
  (∀ (a x : Nat) (s : State), s.dev.svc = .full → a % 16 = s.dev.hsp.addr → x % 8 = 0 →
    Completes (mask [.mode, .tb, .drv, .tx, .rx, .lau, .prb, .sf, .hf, .stp, .uhf, .key, .room, .cl, .nvm, .ncp, .hsp, .evr, .qs, .tim,
      .pmu, .cyc]) (.regWr a (le 2 0x0A4 ++ [0] ++ le 4 1) x) s fun t =>
      t.dev.hsp = { s.dev.hsp with
        err := false, frames := satInc 65535 s.dev.hsp.frames
        rs := if s.dev.hsp.ddr then 56 + x else 0, out := doBytes s.dev.hspStatus (List.replicate 7 (byteOf 0)) 7 }) ∧
  (∀ (a x : Nat) (body : List Byte) (s : State), s.dev.svc = .full → a % 16 = s.dev.hsp.addr → x % 8 = 0 →
    body.length ≠ 3 + 4 * (byteAt body 2 + 1) →
    Completes (mask [.mode, .tb, .drv, .tx, .rx, .lau, .prb, .sf, .hf, .stp, .uhf, .key, .room, .cl, .nvm, .ncp, .hsp, .evr, .qs, .tim,
      .pmu, .cyc]) (.regWr a body x) s fun t =>
      t.dev.hsp = { s.dev.hsp with
        err := true, rej := true, lastRej := 4, reject := satInc 255 s.dev.hsp.reject, errs := satInc 65535 s.dev.hsp.errs
        rs := if s.dev.hsp.ddr then 8 * body.length + x else 0, out := doBytes s.dev.hspStatus [] body.length })

/-- An entry of MSP that keeps the conditions of R558 joins the queue, and a seventeenth is refused with OVF. Its end, as master or as
slave, leaves what it received at RXADDR and nothing else in memory, and removes it (R556, R558, R560); an error is recorded (R558,
R559). EN starts the queue and stops it (R558). A read of the execute-in-place window is served from the cache, or waits for its line,
or ends with a bus error while the window is off (R561, R562). The line that arrives completes the reads that wait for it. An
invalidation empties the cache, stalls the window and ends (R562, R563). -/
def Obligations.TheMemoryPortRuns : Prop :=
  (∀ (v : Nat) (e : MspEntry) (s : State),
    e = { q0 := s.dev.msp.qin[0], txAddr := s.dev.msp.qin[1].toNat, rxw := bits s.dev.msp.qin[2].toNat 15 0, rxAddr := v } → v < 2 ^ 32 →
    s.dev.msp.queue.length < 16 → 0 < e.txw + e.rxw → s.dev.msp.bufOk e.txAddr e.txw = true → s.dev.msp.bufOk e.rxAddr e.rxw = true →
    Completes (mask [.msp, .evr, .pmu, .bus]) (.mspEntryPush v) s fun t =>
      t.dev.msp.queue = s.dev.msp.queue ++ [e] ∧ t.dev.msp.ovf = s.dev.msp.ovf ∧ t.dev.msp.lastErr = s.dev.msp.lastErr) ∧
  (∀ (v : Nat) (s : State), 16 ≤ s.dev.msp.queue.length →
    Completes (mask [.msp, .evr, .pmu, .bus]) (.mspEntryPush v) s fun t => t.dev.msp.queue = s.dev.msp.queue ∧ t.dev.msp.ovf = true) ∧
  (∀ (rx : List Nat) (e : MspEntry) (rest : List MspEntry) (s : State), s.memWf = true → s.dev.msp.queue = e :: rest →
    s.dev.msp.busy = true → s.dev.mspRan = true → rx.length = e.rxw → s.dev.msp.fits e.txAddr e.txw = e.txw →
    s.dev.msp.fits e.rxAddr e.rxw = e.rxw → s.dev.msp.late = none →
    Completes (mask [.msp, .evr, .pmu, .bus] ||| sramSet) (.mspEntryEnd (.ok rx)) s fun t =>
      t.dev.msp.queue = rest ∧ t.dev.msp.rxGot = e.rxw ∧ t.dev.msp.lastErr = 0 ∧ t.dev.msp.done = satInc 255 s.dev.msp.done ∧
      t.dev.msp.frames = satInc 65535 s.dev.msp.frames ∧ t.dev.msp.errs = s.dev.msp.errs ∧
      (∀ i, i < (s.dev.msp.rxBytes rx).length → memRead sramDflt (e.rxAddr + i) t.sram = (s.dev.msp.rxBytes rx).getD i 0) ∧
      ∀ b, b < e.rxAddr ∨ e.rxAddr + (s.dev.msp.rxBytes rx).length ≤ b → memRead sramDflt b t.sram = memRead sramDflt b s.sram) ∧
  (∀ (rx : List Nat) (e : MspEntry) (rest : List MspEntry) (s : State), s.memWf = true → s.dev.msp.queue = e :: rest →
    s.dev.msp.busy = true → rx.length ≤ s.dev.msp.fits e.rxAddr e.rxw → s.dev.msp.late = none →
    Completes (mask [.msp, .evr, .pmu, .bus] ||| sramSet) (.mspEntryEnd (.bus rx)) s fun t =>
      t.dev.msp.queue = rest ∧ t.dev.msp.rxGot = rx.length ∧ t.dev.msp.lastErr = 1 ∧ t.dev.msp.errs = satInc 65535 s.dev.msp.errs ∧
      (∀ i, i < (s.dev.msp.rxBytes rx).length → memRead sramDflt (e.rxAddr + i) t.sram = (s.dev.msp.rxBytes rx).getD i 0) ∧
      ∀ b, b < e.rxAddr ∨ e.rxAddr + (s.dev.msp.rxBytes rx).length ≤ b → memRead sramDflt b t.sram = memRead sramDflt b s.sram) ∧
  (∀ (e : MspEntry) (rest : List MspEntry) (s : State), s.dev.msp.queue = e :: rest → s.dev.msp.busy = true →
    e.q0.toNat.testBit 3 = true → e.rxw ≠ 0 → s.dev.msp.late = none →
    Completes (mask [.msp, .evr, .pmu, .bus] ||| sramSet) (.mspEntryEnd .rserr) s fun t =>
      t.dev.msp.queue = rest ∧ t.dev.msp.rxGot = 0 ∧ t.dev.msp.lastErr = 2 ∧ t.dev.msp.rserr = true ∧ t.sram = s.sram) ∧
  (∀ (rx : List Nat) (x : Nat) (e : MspEntry) (rest : List MspEntry) (s : State), s.memWf = true → s.dev.msp.queue = e :: rest →
    s.dev.msp.ctl.msel = false → s.dev.msp.en = true → s.dev.msp.busy = false → x % s.dev.msp.ctl.wlen = 0 → rx.length ≤ e.rxw →
    rx.length * s.dev.msp.ctl.wlen ≤ 32768 → s.dev.msp.fits e.rxAddr rx.length = rx.length → s.dev.msp.late = none →
    Completes (mask [.msp, .evr, .pmu, .bus] ||| sramSet) (.mspSlaveFrame rx x) s fun t =>
      t.dev.msp.queue = rest ∧ t.dev.msp.rxGot = rx.length ∧ t.dev.msp.lastErr = 0 ∧ t.dev.msp.out = s.txBytes e rx.length ∧
      (∀ i, i < (s.dev.msp.rxBytes rx).length → memRead sramDflt (e.rxAddr + i) t.sram = (s.dev.msp.rxBytes rx).getD i 0) ∧
      ∀ b, b < e.rxAddr ∨ e.rxAddr + (s.dev.msp.rxBytes rx).length ≤ b → memRead sramDflt b t.sram = memRead sramDflt b s.sram) ∧
  (∀ (rx : List Nat) (x : Nat) (e : MspEntry) (rest : List MspEntry) (s : State), s.dev.msp.queue = e :: rest →
    s.dev.msp.ctl.msel = false → s.dev.msp.en = true → s.dev.msp.busy = false → x % s.dev.msp.ctl.wlen ≠ 0 →
    Completes (mask [.msp, .evr, .pmu, .bus] ||| sramSet) (.mspSlaveFrame rx x) s fun t =>
      t.dev.msp = { s.dev.msp with
        rej := true, errs := satInc 65535 s.dev.msp.errs, lastErr := 3
        out := s.txBytes e (rx.length + 1) } ∧
      t.sram = s.sram) ∧
  (∀ (e : MspEntry) (rest : List MspEntry) (s : State), s.dev.msp.ctl.msel = true → s.dev.msp.misses = [] → s.dev.msp.busy = false →
    s.dev.msp.queue = e :: rest →
    Completes (mask [.msp, .evr, .pmu, .bus]) (.mspEnWrite true) s fun t =>
      t.dev.msp = { s.dev.msp with en := true, busy := true, run := s.dev.msp.bursts e, runT := s.dev.now }) ∧
  (∀ s : State, s.dev.msp.misses = [] →
    Completes (mask [.msp, .evr, .pmu, .bus]) (.mspEnWrite false) s fun t => t.dev.msp = { s.dev.msp with en := false }) ∧
  (∀ (k : Fin 5) (off : Nat) (x : XLine) (s : State), (s.dev.msp.misses.any fun y => decide (y.core = k)) = false → off < 0x8000000 →
    s.dev.msp.xen = true → s.dev.msp.ctl.msel = true → s.dev.msp.invBusy = false →
    (s.dev.msp.cache.find? fun y => decide (y.tag = off / 32)) = some x →
    Completes (mask [.msp, .evr, .pmu, .bus]) (.xipMiss k off) s fun t =>
      t.dev.bus = { s.dev.bus with rdata := x.word off } ∧ t.dev.msp = { s.dev.msp with cache := useLine x s.dev.msp.cache }) ∧
  (∀ (k : Fin 5) (off : Nat) (s : State), (s.dev.msp.misses.any fun y => decide (y.core = k)) = false → off < 0x8000000 →
    s.dev.msp.xen = true → s.dev.msp.ctl.msel = true → (s.dev.msp.cache.find? fun y => decide (y.tag = off / 32)) = none →
    Completes (mask [.msp, .evr, .pmu, .bus]) (.xipMiss k off) s fun t =>
      t.dev.msp.miss = satInc 65535 s.dev.msp.miss ∧ t.dev.msp.cache = s.dev.msp.cache ∧ t.dev.bus = s.dev.bus ∧
      ∃ x ∈ t.dev.msp.misses, x.core = k ∧ x.off = off) ∧
  (∀ (k : Fin 5) (off : Nat) (s : State), (s.dev.msp.misses.any fun y => decide (y.core = k)) = false → off < 0x8000000 →
    s.dev.msp.xen = false ∨ s.dev.msp.ctl.msel = false →
    Completes (mask [.msp, .evr, .pmu, .bus]) (.xipMiss k off) s fun t =>
      t.dev.msp = { s.dev.msp with busErr := satInc 65535 s.dev.msp.busErr } ∧
      t.dev.bus = { s.dev.bus with err := some { master := coreMaster k, addr := 0x40000000 + off } }) ∧
  (∀ (data : List Byte) (x : XMiss) (s : State), s.dev.msp.misses.find? XMiss.issued = some x → s.dev.msp.invBusy = false →
    s.dev.mspRan = true → data.length = 32 →
    Completes (mask [.msp, .evr, .pmu, .bus]) (.xipLineFill data) s fun t =>
      t.dev.bus.rdata = leAt data (x.off % 32 / 4 * 4) 4 ∧ t.dev.msp.cache.head? = some { tag := x.off / 32, data := data } ∧
      ∀ y ∈ t.dev.msp.misses, y.off / 32 ≠ x.off / 32) ∧
  (∀ s : State, Completes (mask [.msp, .evr, .pmu, .bus]) (.xipInvalidate none) s fun t =>
      t.dev.msp = { s.dev.msp with cache := [], invBusy := true } ∧ t.dev.bus = s.dev.bus) ∧
  (∀ (v : Nat) (s : State), Completes (mask [.msp, .evr, .pmu, .bus]) (.xipInvalidate (some v)) s fun t =>
      t.dev.msp.cache = [] ∧ t.dev.msp.invBusy = true ∧ t.dev.msp.xcfg = v % 2 ^ 18) ∧
  (∀ s : State, s.dev.msp.invBusy = true →
    Completes (mask [.msp, .evr, .pmu, .bus]) .xipInvalidateDone s fun t =>
      t.dev.msp.invBusy = false ∧ t.dev.msp.cache = s.dev.msp.cache ∧ t.dev.msp.queue = s.dev.msp.queue)

/-! ## The Event Router, the queues and the timers (chapters 16 and 17) -/

/-- A read of EVR_CLAIM returns the lowest-numbered source that is enabled and pending, clears its PEND and sets its ACT; with a source
active it returns that one with AGAIN 1, and with neither 0x1FF, and changes nothing (R574). EVR_EOI completes the source named when it
is active for the target, a LEVEL source re-sampled; another number counts STRAY (R575). -/
def Obligations.SourcesAreClaimedAndCompleted : Prop :=
  (∀ (g : Fin 6) (n : Nat) (rest : List Nat) (id : SrcId) (s : State), s.dev.active g = none → s.dev.ready g = n :: rest →
    srcOf g n = some id →
    Completes (mask [.evr, .bus]) (.evrClaim g) s fun t =>
      t.dev.bus = { s.dev.bus with rdata := n } ∧ t.dev.src id = { s.dev.src id with pend := false, act := true } ∧
      ∀ j, j ≠ id → t.dev.src j = s.dev.src j) ∧
  (∀ (g : Fin 6) (n : Nat) (s : State), s.dev.active g = some n →
    Completes (mask [.evr, .bus]) (.evrClaim g) s fun t => t.dev.bus = { s.dev.bus with rdata := n + 512 } ∧ t.dev.evr = s.dev.evr) ∧
  (∀ (g : Fin 6) (s : State), s.dev.active g = none → s.dev.ready g = [] →
    Completes (mask [.evr, .bus]) (.evrClaim g) s fun t => t.dev.bus = { s.dev.bus with rdata := 0x1FF } ∧ t.dev.evr = s.dev.evr) ∧
  (∀ (g : Fin 6) (n : Nat) (id : SrcId) (s : State), n < 512 → srcOf g n = some id → s.dev.srcTarget id = g → (s.dev.src id).act = true →
    Completes (mask [.evr]) (.evrEoi g n) s fun t =>
      (t.dev.src id).act = false ∧ (t.dev.src id).en = (s.dev.src id).en ∧
      ((s.dev.src id).sense = 1 → (t.dev.src id).pend = s.dev.line id) ∧
      ((s.dev.src id).sense ≠ 1 → (t.dev.src id).pend = (s.dev.src id).pend) ∧ ∀ j, j ≠ id → t.dev.src j = s.dev.src j) ∧
  (∀ (g : Fin 6) (n : Nat) (s : State), n < 512 →
    (∀ id, srcOf g n = some id → s.dev.srcTarget id ≠ g ∨ (s.dev.src id).act = false) →
    Completes (mask [.evr]) (.evrEoi g n) s fun t =>
      t.dev.evr = { s.dev.evr with
        targets := upd s.dev.evr.targets g fun x => { x with stray := satInc 65535 x.stray } })

/-- Messages and lines make sources pending as their SENSE says, and messages coalesce (R570, R571); a doorbell messages the source
that it may ring and is otherwise counted (R572). TARGET moves a source that is not active (R583). Moderation ends after TIME (R576). A
source of SC that stays unclaimed is reported once (R601). -/
def Obligations.SourcesBecomePending : Prop :=
  (∀ (id : SrcId) (s : State), id.reserved = false → (s.dev.src id).sense = 0 → (s.dev.src id).pend = false →
    Completes (mask [.evr, .pmu]) (.sourceMessage id) s fun t =>
      t.dev.src id = { s.dev.src id with pend := true, since := s.dev.now, told := false } ∧ ∀ j, j ≠ id → t.dev.src j = s.dev.src j) ∧
  (∀ (id : SrcId) (g : Fin 6) (s : State), id.reserved = false → (s.dev.src id).sense = 0 → (s.dev.src id).pend = true →
    s.dev.srcTarget id = g →
    Completes (mask [.evr, .pmu]) (.sourceMessage id) s fun t =>
      t.dev.evr = { s.dev.evr with targets := upd s.dev.evr.targets g fun x => { x with coal := satInc 65535 x.coal } }) ∧
  (∀ (id : SrcId) (s : State), (s.dev.src id).sense ≠ 0 → Completes (mask []) (.sourceMessage id) s fun t => t = s) ∧
  (∀ (id : SrcId) (s : State),
    Completes (mask [.evr, .pmu]) (.sourceLineChange id) s fun t =>
      (t.dev.src id).line = s.dev.line id ∧ (t.dev.src id).act = (s.dev.src id).act ∧
      ((s.dev.src id).sense = 0 → (t.dev.src id).pend = (s.dev.src id).pend) ∧
      ((s.dev.src id).sense = 1 → (t.dev.src id).pend = if (s.dev.src id).act then (s.dev.src id).pend else s.dev.line id) ∧
      ((s.dev.src id).sense = 2 → (t.dev.src id).pend = ((s.dev.src id).pend || (!(s.dev.src id).line && s.dev.line id))) ∧
      ((s.dev.src id).sense = 3 → (t.dev.src id).pend = ((s.dev.src id).pend || ((s.dev.src id).line && !s.dev.line id))) ∧
      ((s.dev.src id).sense = 4 → (t.dev.src id).pend = ((s.dev.src id).pend || ((s.dev.src id).line != s.dev.line id))) ∧
      ∀ j, j ≠ id → t.dev.src j = s.dev.src j) ∧
  (∀ (w : Fin 6) (n g : Nat) (id : SrcId) (s : State), n < 512 → g < 8 → s.dev.rings w n g = some id → id.reserved = false →
    (s.dev.src id).sense = 0 →
    Completes (mask [.evr, .pmu]) (.evrDoorbell w n g) s fun t => (t.dev.src id).pend = true ∧ ∀ j, j ≠ id → t.dev.src j = s.dev.src j) ∧
  (∀ (w : Fin 6) (n g : Nat) (s : State), n < 512 → g < 8 → s.dev.rings w n g = none →
    Completes (mask [.evr, .pmu]) (.evrDoorbell w n g) s fun t =>
      t.dev.evr = { s.dev.evr with targets := upd s.dev.evr.targets w fun x => { x with dberr := satInc 65535 x.dberr } }) ∧
  (∀ (i : Fin 288) (g : Nat) (s : State), assignable i = true → g ≤ 5 → (s.dev.evr.shared[i]).act = false →
    Completes (mask [.evr, .pmu]) (.sourceTargetWrite i g) s fun t =>
      (t.dev.evr.shared[i]) = { s.dev.evr.shared[i] with target := g } ∧ (∀ j, j ≠ i → t.dev.evr.shared[j] = s.dev.evr.shared[j]) ∧
      t.dev.evr.priv = s.dev.evr.priv) ∧
  (∀ (i : Fin 288) (g : Nat) (s : State), (s.dev.evr.shared[i]).act = true → Completes (mask []) (.sourceTargetWrite i g) s fun t => t = s) ∧
  (∀ (g : Fin 6) (t0 : Nat) (s : State), (s.dev.evr.targets[g]).win = .opened t0 → t0 + usT (s.dev.evr.targets[g]).time ≤ s.dev.now →
    Completes (mask [.evr]) (.moderationTimeout g) s fun t =>
      t.dev.modWait g = false ∧ t.dev.evr.priv = s.dev.evr.priv ∧ t.dev.evr.shared = s.dev.evr.shared) ∧
  (∀ (n : Fin 32) (s : State), (s.dev.evr.priv[4][n]).pend = true → (s.dev.evr.priv[4][n]).told = false →
    (s.dev.evr.priv[4][n]).since + msT 1000 ≤ s.dev.now →
    Completes (mask [.evr, .qs, .pmu]) (.evrSourceFault n) s fun t => (t.dev.evr.priv[4][n]) = { s.dev.evr.priv[4][n] with told := true })

/-- A valid header with room reserves its item, the last word commits it, and a header that R591 does not take counts BADHDR and leaves
the queue no longer poisoned. Qx_DATA of a capture queue returns the words of its head and pops it at the last. In SAMPLES mode a queue
takes the combined words of its zone behind a header and PHC (R602). DROP_REST waits for the end of the cycle's reads, where it pops
the head (R595), and FLUSH for the end of the cycle, where it empties the queue but for an open item of EVQ, and poisons a partial item
(R597); none of them acts on RSPQ (R591, R594, R595, R597). The order within the cycle is the model's reading (log entry 70), and
flushAll is what the end of a cycle does. -/
def Obligations.QueuesCarryItems : Prop :=
  (∀ (q : QId) (w : Word) (s : State), q = .evq ∨ q = .rspq → (s.dev.queue q).drop = 0 → (s.dev.queue q).need = 0 → q.hdrOk w = true →
    4 * hdrWords w + (s.dev.queue q).used ≤ q.cap →
    Completes (mask [.evr, .qs, .pmu]) (.queuePush q w) s fun t =>
      (t.dev.queue q).part = [w] ∧ (t.dev.queue q).need = hdrWords w - 1 ∧ (t.dev.queue q).items = (s.dev.queue q).items) ∧
  (∀ (q : QId) (w : Word) (s : State), q = .evq ∨ q = .rspq → (s.dev.queue q).drop = 0 → (s.dev.queue q).need = 1 →
    Completes (mask [.evr, .qs, .pmu]) (.queuePush q w) s fun t =>
      t.dev.queue q = { s.dev.queue q with
        items := (s.dev.queue q).items ++ [(s.dev.queue q).part ++ [w]], part := [], need := 0 }) ∧
  (∀ (q : QId) (w : Word) (s : State), q = .evq ∨ q = .rspq → (s.dev.queue q).drop = 0 → (s.dev.queue q).need = 0 → q.hdrOk w = false →
    Completes (mask [.evr, .qs, .pmu]) (.queuePush q w) s fun t =>
      t.dev.queue q = { s.dev.queue q with badhdr := satInc 255 (s.dev.queue q).badhdr, poisoned := false }) ∧
  (∀ (n : Fin 24) (w : Word) (s : State), (s.dev.qs.cq[n]).drop = 0 → (s.dev.qs.cq[n]).need = 1 →
    Completes (mask [.evr, .qs, .pmu]) (.queuePush (.cq n) w) s fun t =>
      (t.dev.qs.cq[n]).items = (s.dev.qs.cq[n]).items ++ [(s.dev.qs.cq[n]).part ++ [s.dev.zoneWord n (sampleIQ w)]] ∧
      (t.dev.qs.cq[n]).need = 0 ∧ ∀ k, k ≠ n → t.dev.qs.cq[k] = s.dev.qs.cq[k]) ∧
  (∀ (n : Fin 24) (w : Word) (s : State), (s.dev.qs.cq[n]).drop = 0 → (s.dev.qs.cq[n]).need = 0 → (s.dev.qs.cfg[n]).mode = 2 →
    0 < (s.dev.qs.cfg[n]).runLeft → (s.dev.qs.cq[n]).used + 64 ≤ 2048 →
    Completes (mask [.evr, .qs, .pmu]) (.queuePush (.cq n) w) s fun t =>
      (t.dev.qs.cq[n]).part = [word (269 + 65536 * (s.dev.sf.gen.toNat % 65536)), s.dev.phcW, s.dev.zoneWord n (sampleIQ w)] ∧
      (t.dev.qs.cq[n]).need = 13 ∧ (t.dev.qs.cq[n]).items = (s.dev.qs.cq[n]).items ∧
      (t.dev.qs.cfg[n]).runLeft = (s.dev.qs.cfg[n]).runLeft - 1 ∧ ∀ k, k ≠ n → t.dev.qs.cq[k] = s.dev.qs.cq[k]) ∧
  (∀ (n : Fin 24) (i : List Word) (rest : List (List Word)) (s : State), (s.dev.qs.cq[n]).items = i :: rest →
    ((s.dev.qs.cq[n]).openAt).getD 0 + 1 < i.length →
    Completes (mask [.qs, .bus]) (.queueDataRead (.cq n)) s fun t =>
      t.dev.bus = { s.dev.bus with rdata := (i.getD (((s.dev.qs.cq[n]).openAt).getD 0) 0).toNat } ∧
      t.dev.qs.cq[n] = { s.dev.qs.cq[n] with openAt := some (((s.dev.qs.cq[n]).openAt).getD 0 + 1) } ∧
      ∀ k, k ≠ n → t.dev.qs.cq[k] = s.dev.qs.cq[k]) ∧
  (∀ (n : Fin 24) (i : List Word) (rest : List (List Word)) (s : State), (s.dev.qs.cq[n]).items = i :: rest →
    ((s.dev.qs.cq[n]).openAt).getD 0 + 1 = i.length →
    Completes (mask [.qs, .bus]) (.queueDataRead (.cq n)) s fun t =>
      t.dev.bus = { s.dev.bus with rdata := (i.getD (((s.dev.qs.cq[n]).openAt).getD 0) 0).toNat } ∧
      (t.dev.qs.cq[n]).items = rest ∧ (t.dev.qs.cq[n]).openAt = none ∧ ∀ k, k ≠ n → t.dev.qs.cq[k] = s.dev.qs.cq[k]) ∧
  (∀ (q : QId) (s : State), q = .evq ∨ q = .rspq →
    Completes (mask [.qs, .bus]) (.queueDataRead q) s fun t => t.dev.bus = { s.dev.bus with rdata := 0 } ∧ t.dev.qs = s.dev.qs) ∧
  (∀ (n : Fin 24) (s : State),
    Completes (mask [.cyc]) (.queueDropRest (.cq n)) s fun t =>
      t.dev = { s.dev with cyc := { s.dev.cyc with drops := s.dev.cyc.drops ++ [n] } }) ∧
  (∀ (q : QId) (s : State), q = .evq ∨ q = .rspq → Completes (mask []) (.queueDropRest q) s fun t => t = s) ∧
  (∀ (q : QId) (s : State), q ≠ .rspq →
    Completes (mask [.cyc]) (.queueFlush q) s fun t =>
      t.dev = { s.dev with cyc := { s.dev.cyc with flushes := s.dev.cyc.flushes ++ [q] } }) ∧
  (∀ (n : Fin 24) (d : Dev), d.cyc.flushes = [.cq n] →
      ((flushAll d).qs.cq[n]).items = [] ∧ ((flushAll d).qs.cq[n]).used = 0 ∧ ((flushAll d).qs.cq[n]).lost = (d.qs.cq[n]).lost ∧
      (0 < (d.qs.cq[n]).need → ((flushAll d).qs.cq[n]).poisoned = true ∧ ((flushAll d).qs.cq[n]).drop = (d.qs.cq[n]).need ∧
        ((flushAll d).qs.cq[n]).poison = satInc 255 (d.qs.cq[n]).poison) ∧
      (flushAll d).cyc.flushes = [] ∧ ∀ k, k ≠ n → (flushAll d).qs.cq[k] = d.qs.cq[k]) ∧
  (∀ d : Dev, d.cyc.flushes = [.evq] → d.qs.evq.openAt.isSome = true →
      (flushAll d).qs.evq.items = d.qs.evq.items.take 1 ∧ (flushAll d).cyc.flushes = []) ∧
  (∀ s : State, Completes (mask []) (.queueFlush .rspq) s fun t => t = s)

/-- A read of TSC_L gives the low word and loads the latch of the port that reads (R612). A general timer takes CNT in the following
cycle, and its controls and CMP as written, PRE only while it stands (R615, R616). Its compare, once CEN is 1 and CMP has passed, sets
FIRED, and with PER 0 clears CEN, and otherwise moves CMP past CNT (R617). A zone timer's compare clears CEN (R621). -/
def Obligations.TimersCountAndFire : Prop :=
  (∀ (m : Master) (s : State), m = .hsp ∨ (s.dev.codeRuns m = true ∧ s.dev.stalled m = false) →
    Completes (mask [.mode, .tb, .drv, .tx, .rx, .lau, .prb, .sf, .hf, .stp, .uhf, .key, .room, .cask, .cl, .nvm, .kiln, .ncp, .hsp,
      .msp, .evr, .qs, .tim, .pmu, .th, .bus, .cyc] ||| sramSet) (.tscLRead m) s fun t =>
      t.dev.bus = { s.dev.bus with rdata := s.dev.tim.tsc.toNat % 2 ^ 32 } ∧
      t.dev.tim = { s.dev.tim with latch := upd s.dev.tim.latch m.port fun _ => BitVec.ofNat 32 (s.dev.tim.tsc.toNat / 2 ^ 32) }) ∧
  (∀ (n : Fin 32) (v : Word) (s : State),
    Completes (mask [.tim]) (.gtCntWrite n v) s fun t =>
      t.dev.tim.gt[n] = { s.dev.tim.gt[n] with load := some v } ∧ ∀ k, k ≠ n → t.dev.tim.gt[k] = s.dev.tim.gt[k]) ∧
  (∀ (g : Gt) (v : Word), g.load = some v → g.tick.cnt = v ∧ g.tick.presc = 0 ∧ g.tick.load = none) ∧
  (∀ (m : Master) (n : Fin 32) (v : Nat) (s : State), s.dev.codeRuns m = true → s.dev.stalled m = false →
    s.dev.may m true .tim (0x10C + 0x20 * n.val) = true →
    Completes (mask [.mode, .tb, .drv, .tx, .rx, .lau, .prb, .sf, .hf, .stp, .uhf, .key, .room, .cask, .cl, .nvm, .kiln, .ncp, .hsp,
      .msp, .evr, .qs, .tim, .pmu, .th, .bus, .cyc] ||| sramSet) (.gtCtlWrite m n v) s fun t =>
      t.dev.tim.gt[n] = { s.dev.tim.gt[n] with
        run := v.testBit 0, cen := v.testBit 1, pre := if (s.dev.tim.gt[n]).run then (s.dev.tim.gt[n]).pre else bits v 5 2
        module := if m = .sc then bits v 11 6 else (s.dev.tim.gt[n]).module
        presc := if v.testBit 0 && !(s.dev.tim.gt[n]).run then 0 else (s.dev.tim.gt[n]).presc } ∧
      ∀ k, k ≠ n → t.dev.tim.gt[k] = s.dev.tim.gt[k]) ∧
  (∀ (n : Fin 32) (v : Word) (s : State),
    Completes (mask [.tim]) (.gtCmpWrite n v) s fun t =>
      t.dev.tim.gt[n] = { s.dev.tim.gt[n] with cmp := v, cmpSet := true } ∧ ∀ k, k ≠ n → t.dev.tim.gt[k] = s.dev.tim.gt[k]) ∧
  (∀ (n : Fin 32) (s : State), (s.dev.tim.gt[n]).shot = none → (s.dev.tim.gt[n]).cmpSet = false → (s.dev.tim.gt[n]).cen = true →
    tested (s.dev.tim.gt[n]).cnt (s.dev.tim.gt[n]).cmp = true → (s.dev.tim.gt[n]).per < 2 ^ 31 →
    Completes (mask [.evr, .tim, .pmu]) (.gtCompareFire n) s fun t =>
      (t.dev.tim.gt[n]).fired = true ∧ (t.dev.tim.gt[n]).cnt = (s.dev.tim.gt[n]).cnt ∧
      ((s.dev.tim.gt[n]).per = 0 → (t.dev.tim.gt[n]).cen = false ∧ (t.dev.tim.gt[n]).cmp = (s.dev.tim.gt[n]).cmp) ∧
      (0 < (s.dev.tim.gt[n]).per → (t.dev.tim.gt[n]).cen = true ∧ tested (t.dev.tim.gt[n]).cnt (t.dev.tim.gt[n]).cmp = false) ∧
      ((s.dev.src (.shared (Fin.ofNat 288 n.val))).sense = 0 → (t.dev.src (.shared (Fin.ofNat 288 n.val))).pend = true) ∧
      ∀ k, k ≠ n → t.dev.tim.gt[k] = s.dev.tim.gt[k]) ∧
  (∀ (n : Fin 32) (c : Word) (s : State), (s.dev.tim.gt[n]).shot = some (c, 0) →
    Completes (mask [.evr, .tim, .pmu]) (.gtCompareFire n) s fun t =>
      t.dev.tim.gt[n] = { s.dev.tim.gt[n] with fired := true, cen := false, shot := none } ∧
      ∀ k, k ≠ n → t.dev.tim.gt[k] = s.dev.tim.gt[k]) ∧
  (∀ (n : Fin 24) (k : Fin 2) (s : State), (s.dev.tim.zt[n][k]).due = true →
    Completes (mask [.evr, .tim, .pmu]) (.zoneTimerFire n k) s fun t =>
      t.dev.tim.zt[n][k] = { s.dev.tim.zt[n][k] with fired := true, cen := false, shot := false } ∧
      t.dev.tim.zt[n][1 - k] = s.dev.tim.zt[n][1 - k] ∧ ∀ m, m ≠ n → t.dev.tim.zt[m] = s.dev.tim.zt[m])

/-! ## Keys and the security island (chapter 18) -/

/-- KEY_LOAD, KEY_UNLOAD, CRYPTO and RANDOM without a parameter error, an opcode of 0xF0 to 0xFF, and a request on a port, go to the
island, which takes them up when it is free and its domain up, and decides then whether it will refuse them; a domain that is down is
woken for them (R516, R637, R639, R642, R647, R648, R650, R651, R653, R664). KEY_INFO replies with the attributes of a slot (R649). -/
def Obligations.KeyRequestsAreTakenUp : Prop :=
  (∀ (tag : Fin 32) (c : Cmd) (s : State), Ready 0x60 tag c s.dev → s.dev.islandFree → c.deadline = 0 → c.payload.length = 100 →
    byteAt c.payload 0 < 64 → grantOk (byteAt c.payload 1) = true → zeros c.payload [2, 3] = true →
    Completes (mask [.key, .ncp, .evr, .qs, .pmu]) (.keyLoad tag) s fun t =>
      TakenUp tag c { src := .ncp tag, what := .load, kslot := byteAt c.payload 0, grant := byteAt c.payload 1
                      data := nums (c.payload.drop 4) } s.dev t.dev) ∧
  (∀ (tag : Fin 32) (c : Cmd) (s : State), Ready 0x61 tag c s.dev → s.dev.islandFree → c.deadline = 0 → c.payload.length = 2 →
    byteAt c.payload 0 < 64 ∨ byteAt c.payload 0 = 0xFF → byteAt c.payload 1 = 0 →
    Completes (mask [.key, .ncp, .evr, .qs, .pmu]) (.keyUnload tag) s fun t =>
      TakenUp tag c { src := .ncp tag, what := .unload, kslot := byteAt c.payload 0 } s.dev t.dev) ∧
  (∀ (tag : Fin 32) (c : Cmd) (s : State), Ready 0x61 tag c s.dev → s.dev.key.pend[(0 : Fin 5)] = [] → c.payload.length = 2 →
    byteAt c.payload 0 < 64 ∨ byteAt c.payload 0 = 0xFF → byteAt c.payload 1 = 0 → (s.dev.pmu.dom[(14 : Fin 49)]).p = .down →
    Completes (mask [.key, .ncp, .evr, .qs, .pmu]) (.keyUnload tag) s fun t =>
      (t.dev.pmu.dom[(14 : Fin 49)]).p = .waking ∧
      t.dev.key.pend[(0 : Fin 5)] = [{ src := .ncp tag, what := .unload, kslot := byteAt c.payload 0 }] ∧
      t.dev.key.cur = s.dev.key.cur ∧ t.dev.cmd tag = some { c with phase := .island }) ∧
  (∀ (tag : Fin 32) (c : Cmd) (k : Fin 64) (s : State), Ready 0x62 tag c s.dev → c.payload = [byteOf k.val, 0] →
    Completes (mask [.ncp, .evr, .qs, .pmu]) (.keyInfo tag) s fun t => Replied tag c .ok ((s.dev.key.slot[k]).info k.val) s.dev t.dev) ∧
  (∀ (tag : Fin 32) (c : Cmd) (s : State), Ready 0x63 tag c s.dev → s.dev.islandFree → c.deadline = 0 → s.dev.key.entOk = true →
    c.payload.length = 20 + byteAt c.payload 8 + leAt c.payload 6 2 + leAt c.payload 4 2 + byteAt c.payload 9 →
    leAt c.payload 4 2 ≤ 4096 → leAt c.payload 6 2 ≤ 256 → zeros c.payload [15, 19] = true → paramOk (cryptoReq tag c.payload) = true →
    Completes (mask [.key, .ncp, .evr, .qs, .pmu]) (.crypto tag) s fun t => TakenUp tag c (cryptoReq tag c.payload) s.dev t.dev) ∧
  (∀ (tag : Fin 32) (c : Cmd) (n : Nat) (s : State), Ready 0x64 tag c s.dev → s.dev.islandFree → c.deadline = 0 → s.dev.key.entOk = true →
    1 ≤ n → n ≤ 256 → c.payload = le 2 n →
    Completes (mask [.key, .ncp, .evr, .qs, .pmu]) (.random tag) s fun t => TakenUp tag c { src := .ncp tag, what := .random, n := n } s.dev t.dev) ∧
  (∀ (tag : Fin 32) (c : Cmd) (s : State), s.dev.cmd tag = some c → 0xF0 ≤ c.opc → c.phase = .fresh → s.dev.isHeld tag = false →
    s.dev.modeCheck c.opc = none → s.dev.islandFree → c.deadline = 0 →
    Completes (mask [.key, .ncp, .evr, .qs, .pmu]) (.kwathesTest tag) s fun t =>
      TakenUp tag c { src := .ncp tag, what := .test } s.dev t.dev ∧ s.dev.refuses { src := .ncp tag, what := .test } = true) ∧
  (∀ (m : Master) (p : Fin 5) (r : KReq) (s : State), m = .sc ∨ (∃ k, m = .zc k) → s.dev.codeRuns m = true →
    s.dev.stalled m = false → s.dev.islandFree →
    mayGo p m = true → (s.dev.key.port[p]).busy = false → (s.dev.key.port[p]).src % 4 = 0 → (s.dev.key.port[p]).dst % 4 = 0 →
    r = (s.dev.key.port[p]).req p m (nums (memReads sramDflt s.sram (s.dev.key.port[p]).src
      ((s.dev.key.port[p]).nlen + (s.dev.key.port[p]).alen + (s.dev.key.port[p]).dlen + (s.dev.key.port[p]).tlen))) →
    inSram (s.dev.key.port[p]).src ((s.dev.key.port[p]).nlen + (s.dev.key.port[p]).alen + (s.dev.key.port[p]).dlen +
      (s.dev.key.port[p]).tlen) = true →
    inSram (s.dev.key.port[p]).dst (runOp r (List.replicate 256 0) s.dev).2.1.length = true → paramOk r = true →
    r.random = false ∨ s.dev.key.entOk = true →
    Completes (mask [.mode, .tb, .drv, .tx, .rx, .lau, .prb, .sf, .hf, .stp, .uhf, .key, .room, .cask, .cl, .nvm, .kiln, .ncp, .hsp,
      .msp, .evr, .qs, .tim, .pmu, .th, .bus, .cyc] ||| sramSet) (.ksGo m p) s fun t =>
      t.dev.key.cur = some { req := r, start := s.dev.now, refused := s.dev.refuses r } ∧ (t.dev.key.port[p]).busy = true ∧
      t.dev.key.slot = s.dev.key.slot)

/-- An operation on a port leaves its output at KS_DST, ends with DONE, and changes nothing else in memory (R639, R653); RANDOM replies
with the generator's bytes (R651), KEY_UNLOAD wipes its slot (R648), and KEY_LOAD fills its slot from a blob that opens (R636, R647). A
request that is refused ends with KEY_REFUSED not before 8,679 cycles and changes no slot (R638). A failed health test clears ENT_OK
and a retest that passes sets it (R641). -/
def Obligations.KeyRequestsEnd : Prop :=
  (∀ (x : KRun) (p : Fin 5) (m : Master) (rnd : List Byte) (out : List Nat) (s : State), s.memWf = true → s.dev.key.cur = some x →
    x.refused = false → x.req.src = .port p m → s.dev.key.pend = Vector.replicate 5 [] → out = (runOp x.req (nums rnd) s.dev).2.1 →
    Completes (mask [.key, .ncp, .evr, .qs, .pmu] ||| sramSet) (.ksOpComplete rnd) s fun t =>
      t.dev.key.cur = none ∧ (t.dev.key.port[p]).busy = false ∧ (t.dev.key.port[p]).done = true ∧ (t.dev.key.port[p]).err = 0 ∧
      (t.dev.key.port[p]).olen = out.length ∧ (t.dev.key.port[p]).result = (runOp x.req (nums rnd) s.dev).2.2 ∧
      (∀ i, i < out.length → memRead sramDflt (x.req.dst + i) t.sram = byteOf (out.getD i 0)) ∧
      ∀ b, b < x.req.dst ∨ x.req.dst + out.length ≤ b → memRead sramDflt b t.sram = memRead sramDflt b s.sram) ∧
  (∀ (x : KRun) (tag : Fin 32) (c : Cmd) (rnd : List Byte) (s : State), s.dev.key.cur = some x → x.refused = false →
    x.req.src = .ncp tag → x.req.what = .random → rnd.length = x.req.n → s.dev.cmd tag = some c → s.dev.key.pend = Vector.replicate 5 [] →
    Completes (mask [.key, .ncp, .evr, .qs, .pmu] ||| sramSet) (.ksOpComplete rnd) s fun t =>
      t.dev.key.cur = none ∧ t.sram = s.sram ∧ t.dev.key.slot = s.dev.key.slot ∧ Replied tag c .ok rnd s.dev t.dev) ∧
  (∀ (x : KRun) (tag : Fin 32) (c : Cmd) (k : Fin 64) (rnd : List Byte) (s : State), s.dev.key.cur = some x → x.refused = false →
    x.req.src = .ncp tag → x.req.what = .unload → x.req.kslot = k.val → s.dev.cmd tag = some c → s.dev.key.pend = Vector.replicate 5 [] →
    Completes (mask [.key, .ncp, .evr, .qs, .pmu] ||| sramSet) (.ksOpComplete rnd) s fun t =>
      t.dev.key.cur = none ∧ t.sram = s.sram ∧ (t.dev.key.slot[k]) = {} ∧ (∀ j, j ≠ k → t.dev.key.slot[j] = s.dev.key.slot[j]) ∧
      Replied tag c .ok [byteOf k.val, byteOf (b2n (decide ((s.dev.key.slot[k]).st ≠ .empty))), 0, 0] s.dev t.dev) ∧
  (∀ (x : KRun) (tag : Fin 32) (c : Cmd) (k : Fin 64) (b : KSlot) (rnd : List Byte) (s : State), s.dev.key.cur = some x →
    x.refused = false → x.req.src = .ncp tag → x.req.what = .load → x.req.kslot = k.val → openBlob x.req.data = some b →
    s.dev.cmd tag = some c → s.dev.key.pend = Vector.replicate 5 [] →
    Completes (mask [.key, .ncp, .evr, .qs, .pmu] ||| sramSet) (.ksOpComplete rnd) s fun t =>
      t.dev.key.cur = none ∧ t.sram = s.sram ∧ (t.dev.key.slot[k]) = { b with grant := x.req.grant } ∧
      (∀ j, j ≠ k → t.dev.key.slot[j] = s.dev.key.slot[j]) ∧
      Replied tag c .ok ([byteOf k.val, byteOf b.ktype] ++ le 2 b.usage ++ le 3 (b.uses.getD 0) ++ [0]) s.dev t.dev) ∧
  (∀ (x : KRun) (tag : Fin 32) (c : Cmd) (s : State), s.dev.key.cur = some x → x.refused = true → x.req.src = .ncp tag →
    s.dev.cmd tag = some c → s.dev.key.pend = Vector.replicate 5 [] → x.start + 8679 ≤ s.dev.now →
    Completes (mask [.key, .ncp, .evr, .qs, .pmu]) .ksRefusalEnd s fun t =>
      t.dev.key.cur = none ∧ t.dev.key.slot = s.dev.key.slot ∧ t.dev.key.refusals = satInc 65535 s.dev.key.refusals ∧
      Replied tag c .keyRefused [] s.dev t.dev) ∧
  (∀ (x : KRun) (s : State), s.dev.key.cur = some x → s.dev.now < x.start + 8679 → Completes (mask []) .ksRefusalEnd s fun t => t = s) ∧
  (∀ s : State, s.dev.key.entOk = true →
    Completes (mask [.key, .evr, .qs, .pmu]) .entropyFail s fun t =>
      t.dev.key = { s.dev.key with entOk := false, retestT := s.dev.now, entFail := satInc 255 s.dev.key.entFail }) ∧
  (∀ s : State, s.dev.key.entOk = false → s.dev.key.retestT + msT 100 ≤ s.dev.now →
    Completes (mask [.key, .evr, .qs, .pmu]) (.entropyRetest true) s fun t =>
      t.dev.key = { s.dev.key with entOk := true, retestT := s.dev.now, rbg := 0 })

/-! ## Power domains and temperature (chapters 19, 22 and 23) -/

/-- A domain whose idle time has passed powers down, and after that it is down unless an access has come; a wake ends with the domain
up, or fails after 1 ms with a bus error (R661, R663, R666, R668). CORE continues TSC from what AON recorded (R613). POWER_POLICY reads
and writes the policy, and replies once the power-ups that KEEP causes have ended (R670, R671). GUARD moves the rails by 5 mV at a
time, one step in 10 µs (R669). -/
def Obligations.DomainsComeAndGo : Prop :=
  (∀ (k : Fin 49) (s : State), s.dev.timerRuns k = true → idleT (s.dev.pmu.dom[k]).lim ≤ (s.dev.pmu.dom[k]).count →
    s.dev.domBusy k = false →
    Completes (mask [.drv, .rx, .key, .pmu]) (.idleTimerExpiry k) s fun t =>
      (t.dev.pmu.dom[k]) = { s.dev.pmu.dom[k] with p := .goingDown, rewake := false, redown := false } ∧
      ∀ j, j ≠ k → t.dev.pmu.dom[j] = s.dev.pmu.dom[j]) ∧
  (∀ (k : Fin 49) (s : State), (s.dev.pmu.dom[k]).p = .goingDown →
    Completes (mask [.pmu]) (.domainPowerDownDone k) s fun t =>
      (t.dev.pmu.dom[k]).p = (if (s.dev.pmu.dom[k]).rewake then .waking else .down) ∧ (t.dev.pmu.dom[k]).rewake = false ∧
      ∀ j, j ≠ k → t.dev.pmu.dom[j] = s.dev.pmu.dom[j]) ∧
  (∀ (k : Fin 49) (s : State), (s.dev.pmu.dom[k]).p = .waking → k ≠ 1 → s.dev.bus.stalls = [] → (s.dev.pmu.dom[k]).redown = false →
    s.dev.key.pend = Vector.replicate 5 [] → s.dev.pmu.keepWait = [] →
    Completes (mask [.mode, .tb, .drv, .tx, .rx, .lau, .prb, .sf, .hf, .stp, .uhf, .key, .room, .cask, .cl, .nvm, .kiln, .ncp, .hsp,
      .msp, .evr, .qs, .tim, .pmu, .th, .bus, .cyc] ||| sramSet) (.domainWakeReady k) s fun t =>
      (t.dev.pmu.dom[k]).p = .up ∧ ∀ j, j ≠ k → t.dev.pmu.dom[j] = s.dev.pmu.dom[j]) ∧
  (∀ s : State, (s.dev.pmu.dom[(1 : Fin 49)]).p = .waking →
    Completes (mask [.mode, .tb, .drv, .tx, .rx, .lau, .prb, .sf, .hf, .stp, .uhf, .key, .room, .cask, .cl, .nvm, .kiln, .ncp, .hsp,
      .msp, .evr, .qs, .tim, .pmu, .th, .bus, .cyc] ||| sramSet) (.domainWakeReady 1) s fun t =>
      t.dev.bclk = true ∧ t.dev.tim.gap = true ∧
      t.dev.tim.tsc = BitVec.ofNat 64 (s.dev.tim.aonTsc + ((s.dev.pmu.lp - s.dev.tim.aonLp) * 211875 + s.dev.tim.aonFrac) / 32)) ∧
  (∀ (k : Fin 49) (x : Stall) (s : State), (s.dev.pmu.dom[k]).p = .waking → k ≠ 1 → s.dev.bus.stalls = [x] → x.dom = k.val →
    (s.dev.pmu.dom[k]).since + msT 1 ≤ s.dev.now → mstate s.dev.mode.cur k.val ≠ .on →
    Completes (mask [.mode, .drv, .tx, .rx, .lau, .prb, .sf, .hf, .uhf, .key, .room, .ncp, .evr, .qs, .tim, .pmu,
      .bus]) (.domainWakeFail k) s fun t =>
      (t.dev.pmu.dom[k]).p ≠ .up ∧ (k.val < 16 ∨ 20 ≤ k.val → (t.dev.pmu.dom[k]).p = .down) ∧ t.dev.pmu.evWakeFail = true ∧ t.dev.pmu.cntWakeFail = satInc 255 s.dev.pmu.cntWakeFail ∧
      t.dev.bus.stalls = [] ∧ t.dev.bus.err = some { master := x.master, addr := x.addr }) ∧
  (∀ (tag : Fin 32) (c : Cmd) (s : State), Ready 0x70 tag c s.dev → c.payload.length = 16 → policyOk c.payload = true →
    byteAt c.payload 0 = 0 →
    Completes (mask [.ncp, .evr, .qs, .pmu]) (.powerPolicy tag) s fun t =>
      t.dev.pmu.keep = s.dev.pmu.keep ∧ t.dev.pmu.classIdle = s.dev.pmu.classIdle ∧ Replied tag c .ok s.dev.pmu.policyBytes s.dev t.dev) ∧
  (∀ (tag : Fin 32) (c : Cmd) (e : Dev) (s : State), Ready 0x70 tag c s.dev → c.payload.length = 16 → policyOk c.payload = true →
    byteAt c.payload 0 = 1 → s.dev.busy = false →
    e = policyTake (byteAt c.payload 1) (Vector.ofFn fun i => leAt c.payload (2 + 2 * i.val) 2) s.dev →
    Completes (mask [.ncp, .evr, .qs, .pmu]) (.powerPolicy tag) s fun t =>
      t.dev.pmu.keep = byteAt c.payload 1 ∧ (∀ i : Fin 7, (t.dev.pmu.classIdle[i]) = leAt c.payload (2 + 2 * i.val) 2) ∧
      (e.keeping = false → Replied tag c .ok t.dev.pmu.policyBytes s.dev t.dev) ∧
      (e.keeping = true → t.dev.pmu.keepWait = s.dev.pmu.keepWait ++ [tag] ∧ t.dev.cmd tag = some { c with phase := .flash })) ∧
  (∀ s : State, s.dev.pmu.railGuard ≠ s.dev.pmu.guard → s.dev.pmu.railT + usT 10 ≤ s.dev.now →
    Completes (mask [.pmu]) .guardRailStep s fun t =>
      t.dev.pmu = { s.dev.pmu with
        railT := s.dev.now
        railGuard := if s.dev.pmu.railGuard < s.dev.pmu.guard then min s.dev.pmu.guard (s.dev.pmu.railGuard + 5)
          else max s.dev.pmu.guard (s.dev.pmu.railGuard - 5) })

/-- Each measurement gives the temperature and its peak; the second in a row at 125 °C enters HOT and 115 °C leaves it; the second at
140 °C enters SHUT, with both kills and every bridge off, and 120 °C leaves it and clears the kills (R737, R739, R741). LPCLK runs from
LPX while it is stable (R757). -/
def Obligations.HeatShutsTheDeviceDown : Prop :=
  (∀ (temp : Int) (s : State), s.dev.bclk = true → s.dev.mode.cur ≠ .m0 → temp < 140 → 120 < temp ∨ s.dev.th.shut = false →
    Completes (mask [.mode, .drv, .tx, .rx, .lau, .prb, .sf, .hf, .uhf, .key, .room, .cl, .nvm, .ncp, .evr, .qs, .tim, .pmu,
      .th]) (.tempMeasure temp) s fun t =>
      t.dev.th.temp = temp ∧ t.dev.th.peak = max s.dev.th.peak temp ∧ t.dev.th.shut = s.dev.th.shut ∧
      t.dev.th.hot = (if s.dev.th.hot then decide (115 < temp) else s.dev.th.over125 && decide (125 ≤ temp)) ∧
      t.dev.th.over125 = decide (125 ≤ temp) ∧ t.dev.th.over140 = false) ∧
  (∀ (temp : Int) (s : State), s.dev.bclk = true → s.dev.mode.cur ≠ .m0 → 140 ≤ temp → s.dev.th.over140 = true → s.dev.th.shut = false →
    s.dev.drv.swkill = false →
    Completes (mask [.mode, .drv, .tx, .rx, .lau, .prb, .sf, .hf, .uhf, .key, .room, .cl, .nvm, .ncp, .evr, .qs, .tim, .pmu,
      .th]) (.tempMeasure temp) s fun t =>
      t.dev.th.shut = true ∧ t.dev.th.shutEv = true ∧ t.dev.th.temp = temp ∧ t.dev.drv.swkill = true ∧ t.dev.uhf.txkill = true ∧
      t.dev.bridgesAreOff) ∧
  (∀ (temp : Int) (s : State), s.dev.bclk = true → s.dev.mode.cur ≠ .m0 → temp ≤ 120 → s.dev.th.shut = true →
    Completes (mask [.mode, .drv, .tx, .rx, .lau, .prb, .sf, .hf, .uhf, .key, .room, .cl, .nvm, .ncp, .evr, .qs, .tim, .pmu,
      .th]) (.tempMeasure temp) s fun t =>
      t.dev.th.shut = false ∧ t.dev.th.temp = temp ∧ t.dev.drv.swkill = false ∧ t.dev.uhf.txkill = false) ∧
  (∀ s : State, s.dev.mode.cur ≠ .m0 →
    Completes (mask [.pmu]) .lpxStable s fun t => t.dev.pmu = { s.dev.pmu with lpx := true }) ∧
  (∀ s : State, Completes (mask [.pmu]) .lpxStop s fun t => t.dev.pmu = { s.dev.pmu with lpx := false })

/-! ## Kiln (chapter 20) -/

/-- Kiln measures the pairs and the references of powered domains, raises GUARD at once and lowers it after 24 h, takes the on-
resistances, closes its day and asks for surveys (R678, R679, R682, R685, R687, R689, R694). KILN_SURVEY measures the pairs and the
references; a survey of coils waits for its coil sets, then takes those measured, marks the rest of its range SKIPPED, and both reply
with the levers and margins formed (R682, R695, R696); KILN_READ replies with what it is asked for (R697). -/
def Obligations.KilnMeasuresAdjustsAndReplies : Prop :=
  (∀ (fs : Vector (Nat × Nat) 48) (s : State), s.dev.kilnOn = true → s.dev.kiln.roAt + 60 ≤ s.dev.kiln.ksec →
    Completes (mask [.kiln, .evr, .qs, .pmu]) (.kilnRoMeasure fs) s fun t =>
      t.dev.kiln.roAt = s.dev.kiln.ksec ∧
      (∀ p : Fin 48, (t.dev.kiln.pairs[p]) = if (s.dev.pmu.dom[pairDom p]).p = .up
        then { deg := degOf fs[p] s.dev.nvm.pairBase[p], valid := true, stale := false }
        else { s.dev.kiln.pairs[p] with stale := true }) ∧
      ∀ x, t.dev.kiln.dMax = some x → t.dev.pmu.guard = max s.dev.pmu.guard (guardReq x)) ∧
  (∀ (ref : Vector Nat 24) (s : State), s.dev.kilnOn = true → s.dev.kiln.refAt + 60 ≤ s.dev.kiln.ksec →
    Completes (mask [.lau, .kiln, .evr, .qs, .pmu]) (.kilnRefMeasure ref) s fun t =>
      t.dev.kiln.refAt = s.dev.kiln.ksec ∧
      (∀ g : Fin 24, (t.dev.kiln.refs[g]) =
        if (s.dev.pmu.dom[Fin.ofNat 49 (20 + g.val)]).p = .up then some (refOf ref[g] s.dev.nvm.refBase[g]) else s.dev.kiln.refs[g]) ∧
      ∀ r, t.dev.kiln.dRef = some r → t.dev.kiln.kaRef = some (2 * (r / 50))) ∧
  (∀ (ron : Vector (Option Nat) 192) (s : State), s.dev.kilnOn = true → s.dev.kiln.ronAt + 3600 ≤ s.dev.kiln.ksec →
    Completes (mask [.kiln, .evr, .qs, .pmu]) (.kilnRonAverage ron) s fun t =>
      t.dev.kiln.ronAt = s.dev.kiln.ksec ∧
      ∀ i : Fin 192, (t.dev.kiln.coil[i]).ron = (ron[i]).getD (s.dev.kiln.coil[i]).ron ∧
        ((ron[i]) = none → (t.dev.kiln.coil[i]) = s.dev.kiln.coil[i])) ∧
  (∀ (t0 x : Nat) (s : State), s.dev.kilnOn = true → s.dev.kiln.lowAt = some t0 → t0 + 86400 ≤ s.dev.kiln.ksec → s.dev.kiln.dMax = some x →
    Completes (mask [.kiln, .evr, .qs, .pmu]) .kilnGuardLower s fun t =>
      t.dev.pmu.guard = guardReq x ∧ t.dev.kiln.lowAt = none ∧ t.dev.kiln.evLever = true) ∧
  (∀ s : State, s.dev.bclk = true → s.dev.kiln.day < s.dev.kiln.ksec / 86400 → s.dev.surveying = false →
    Completes (mask [.lau, .nvm, .kiln, .ncp, .evr, .qs, .pmu]) .kilnDayBoundary s fun t =>
      t.dev.kiln.day = s.dev.kiln.ksec / 86400 ∧ t.dev.kiln.listen = 0 ∧ t.dev.kiln.false_ = 0 ∧ t.dev.kiln.kaFd = s.dev.kiln.newFd ∧
      t.dev.kiln.hist.length ≤ 60 ∧ ∃ h, t.dev.kiln.hist.getLast? = some h ∧ h.day = s.dev.kiln.ksec / 86400) ∧
  (∀ s : State, s.dev.kilnOn = true → s.dev.kiln.due = false → (∀ i : Fin 192, (s.dev.kiln.coil[i]).base = false) →
    Completes (mask [.kiln, .evr, .qs, .pmu]) .kilnSurveyDue s fun t => t.dev.kiln = { s.dev.kiln with due := true, evDue := true }) ∧
  (∀ (tag : Fin 32) (c : Cmd) (fs : Vector (Nat × Nat) 48) (ref : Vector Nat 24) (s : State),
    Ready 0x84 tag c s.dev → c.payload = [0, 0, 191, 0] → s.dev.drv.calRun = none → s.dev.uhf.calRun = none →
    Completes (mask [.lau, .hf, .nvm, .kiln, .ncp, .evr, .qs, .pmu]) (.kilnSurvey tag fs ref) s fun t =>
      t.dev.kiln.roAt = s.dev.kiln.ksec ∧ t.dev.kiln.refAt = s.dev.kiln.ksec ∧ t.dev.kiln.coil = s.dev.kiln.coil ∧
      Replied tag c .ok (surveyReply 0 0 t.dev) s.dev t.dev) ∧
  (∀ (tag : Fin 32) (c : Cmd) (fs : Vector (Nat × Nat) 48) (ref : Vector Nat 24) (s : State),
    Ready 0x84 tag c s.dev → c.payload = [1, 0, 191, 0] → s.dev.seqDone tag = false → s.dev.drv.calRun = none →
    s.dev.uhf.calRun = none →
    Completes (mask [.lau, .hf, .nvm, .kiln, .ncp, .evr, .qs, .pmu]) (.kilnSurvey tag fs ref) s fun t =>
      t.dev.kiln.roAt = s.dev.kiln.ksec ∧ t.dev.kiln.refAt = s.dev.kiln.ksec ∧ t.dev.kiln.coil = s.dev.kiln.coil ∧
      t.dev.cmd tag = some { c with phase := .coilSet }) ∧
  (∀ (tag : Fin 32) (c : Cmd) (fs : Vector (Nat × Nat) 48) (ref : Vector Nat 24) (s : State),
    s.dev.cmd tag = some c → c.opc = 0x84 → c.phase = .coilSet → c.stopReq = false → c.payload = [1, 0, 191, 0] →
    s.dev.seqDone tag = true → s.dev.drv.calRun = none → s.dev.uhf.calRun = none →
    Completes (mask [.lau, .hf, .nvm, .kiln, .ncp, .evr, .qs, .pmu]) (.kilnSurvey tag fs ref) s fun t =>
      t.dev.kiln.surveyAt = some s.dev.kiln.ksec ∧ t.dev.kiln.due = false ∧
      (∀ i : Fin 192, (s.dev.seqGot tag).contains i.val = false → (t.dev.kiln.coil[i]).skipped = true) ∧
      (∀ i : Fin 192, (s.dev.seqGot tag).contains i.val = true → t.dev.kiln.coil[i] = s.dev.kiln.coil[i]) ∧
      Replied tag c .ok (surveyReply (s.dev.seqGot tag).length (192 - (s.dev.seqGot tag).length) t.dev) s.dev t.dev) ∧
  (∀ (tag : Fin 32) (c : Cmd) (what arg : Fin 256) (r : List Byte) (s : State), Ready 0x93 tag c s.dev →
    c.payload = [byteOf what.val, byteOf arg.val] → s.dev.kilnRead what.val arg.val = some r →
    Completes (mask [.ncp, .evr, .qs, .pmu]) (.kilnRead tag) s fun t => t.dev.kiln = s.dev.kiln ∧ Replied tag c .ok r s.dev t.dev)

/-! ## Flash, images, extensions and records (chapter 21) -/

/-- IMAGE_WRITE opens a session for a module that is not running, and goes on with it where it stands; its data wait for the controller
(R716). IMAGE_COMMIT verifies the image and makes a module COMMITTED or a slot PENDING or FAILED, or confirms the slot on trial (R706,
R707, R717). CONFIG_STORE stores the layout and the integrator record and programs IH once (R652, R719). The end of an erase leaves its
sector at 0xFF and the rest of the flash as it was; a failed one maps the sector to the first spare (R709, R712, R713). The end of a
program leaves its bytes and no other, and the last one of a record completes its command (R711, R712). -/
def Obligations.FlashHoldsWhatIsWritten : Prop :=
  (∀ (tag : Fin 32) (c : Cmd) (x : Session) (data : List Byte) (s : State), Ready 0x0A tag c s.dev →
    s.dev.mode.cur = .m4 ∨ s.dev.mode.cur = .m11 → c.deadline = 0 → 8 ≤ c.payload.length → data = c.payload.drop 8 →
    s.dev.nvm.sess = some x → imageTarget (byteAt c.payload 0) (byteAt c.payload 2) = some x.module → byteAt c.payload 1 = 0 →
    byteAt c.payload 3 = 0 → leAt c.payload 4 4 = x.next → 4 ≤ data.length → data.length ≤ 4096 → data.length % 4 = 0 →
    x.next + data.length ≤ x.total →
    (x.module = none → s.dev.nvm.slot s.dev.nvm.bootedB ≠ .trial ∧ s.dev.nvm.slotBad x.slotB = false) →
    Completes (mask [.nvm, .kiln, .ncp, .evr, .qs, .pmu]) (.imageWrite tag) s fun t =>
      (∃ y, t.dev.nvm.sess = some y ∧ y.next = x.next + data.length ∧ y.module = x.module ∧ y.total = x.total ∧ y.base = x.base) ∧
      WaitsForFlash tag c (.image (some tag)) s.dev t.dev) ∧
  (∀ (tag : Fin 32) (c : Cmd) (k : Fin 63) (a : Nat) (data : List Byte) (s : State), Ready 0x0A tag c s.dev →
    s.dev.mode.cur = .m4 ∨ s.dev.mode.cur = .m11 → c.deadline = 0 → c.payload = [2, 1, byteOf k.val, 0, 0, 0, 0, 0] ++ data →
    4 ≤ data.length → data.length ≤ 4096 → data.length % 4 = 0 → formatOk 2 data = true → data.length ≤ 192 + leAt data 12 4 →
    (s.dev.nvm.mods[k]).st ≠ .running → s.dev.nvm.allocate k (sectorsFor (192 + leAt data 12 4)) = some a →
    Completes (mask [.nvm, .kiln, .ncp, .evr, .qs, .pmu]) (.imageWrite tag) s fun t =>
      (∃ y, t.dev.nvm.sess = some y ∧ y.next = data.length ∧ y.module = some k ∧ y.total = 192 + leAt data 12 4 ∧ y.base = a) ∧
      (t.dev.nvm.mods[k]) = { sect := a, nsect := sectorsFor (192 + leAt data 12 4) } ∧
      WaitsForFlash tag c (.image (some tag)) s.dev t.dev) ∧
  (∀ (tag : Fin 32) (c : Cmd) (k : Fin 63) (x : Session) (s : State), Ready 0x0B tag c s.dev →
    s.dev.mode.cur = .m4 ∨ s.dev.mode.cur = .m11 → c.payload = [2, 0, byteOf k.val, 0] → s.dev.nvm.sess = some x → x.module = some k →
    x.next = x.total → s.verifyAt 2 x.base = 0 →
    Completes (mask [.nvm, .ncp, .evr, .qs, .pmu]) (.imageCommit tag) s fun t =>
      t.dev.nvm.sess = none ∧ (t.dev.nvm.mods[k]) = { s.dev.nvm.mods[k] with st := .committed } ∧
      Replied tag c .ok (commitReply 2 0 k.val (s.header x.base) s.dev.nvm.svnMod) s.dev t.dev) ∧
  (∀ (tag : Fin 32) (c : Cmd) (x : Session) (s : State), Ready 0x0B tag c s.dev →
    s.dev.mode.cur = .m4 ∨ s.dev.mode.cur = .m11 → c.payload = [1, 0, 0xFF, 0] → s.dev.nvm.sess = some x → x.module = none →
    x.next = x.total →
    Completes (mask [.nvm, .ncp, .evr, .qs, .pmu]) (.imageCommit tag) s fun t =>
      t.dev.nvm.sess = none ∧ t.dev.nvm.slot x.slotB = (if s.verifyAt 1 x.base = 0 then .pending else .failed) ∧
      t.dev.nvm.slot (!x.slotB) = s.dev.nvm.slot (!x.slotB) ∧
      Replied tag c .ok (commitReply 1 (s.verifyAt 1 x.base) (b2n x.slotB) (s.header x.base) s.dev.nvm.svnFw) s.dev t.dev) ∧
  (∀ (tag : Fin 32) (c : Cmd) (s : State), Ready 0x0B tag c s.dev → s.dev.mode.cur = .m4 → c.payload = [1, 1, 0xFF, 0] →
    s.dev.nvm.fwRuns = true → s.dev.nvm.slot s.dev.nvm.bootedB = .trial →
    Completes (mask [.nvm, .ncp, .evr, .qs, .pmu]) (.imageCommit tag) s fun t =>
      t.dev.nvm.slot s.dev.nvm.bootedB = .active ∧
      t.dev.nvm.slot (!s.dev.nvm.bootedB) = (if s.dev.nvm.slot (!s.dev.nvm.bootedB) = .active then .standby
        else s.dev.nvm.slot (!s.dev.nvm.bootedB)) ∧
      t.dev.nvm.svnFw = min 64 (max s.dev.nvm.svnFw (byteAt (s.header (slotBase s.dev.nvm.bootedB)) 7)) ∧
      Replied tag c .ok (commitReply 1 0 (b2n s.dev.nvm.bootedB) (s.header (slotBase s.dev.nvm.bootedB)) t.dev.nvm.svnFw) s.dev t.dev) ∧
  (∀ (tag : Fin 32) (c : Cmd) (data : List Byte) (s : State), Ready 0x0E tag c s.dev → s.dev.mode.cur = .m4 ∨ s.dev.mode.cur = .m9 →
    c.payload = [1, 0, 0, 0] ++ data → layoutOk data = true →
    Completes (mask [.hf, .key, .nvm, .kiln, .ncp, .evr, .qs, .pmu]) (.configStore tag) s fun t =>
      WaitsForFlash tag c (.record 0 (.layout data) (some tag) [1, 0, 0, 0]) s.dev t.dev) ∧
  (∀ (tag : Fin 32) (c : Cmd) (f : Nat) (s : State), Ready 0x0E tag c s.dev → s.dev.mode.cur = .m4 ∨ s.dev.mode.cur = .m9 → f < 65536 →
    c.payload = [2, 0] ++ le 2 f →
    Completes (mask [.hf, .key, .nvm, .kiln, .ncp, .evr, .qs, .pmu]) (.configStore tag) s fun t =>
      t.dev.hf = { s.dev.hf with fref := f } ∧
      WaitsForFlash tag c (.record 3 (.integ t.dev.integ) (some tag) ([2, 0] ++ le 2 f)) s.dev t.dev) ∧
  (∀ (tag : Fin 32) (c : Cmd) (data : List Byte) (s : State), Ready 0x0E tag c s.dev → s.dev.mode.cur = .m4 →
    c.payload = [3, 0, 0, 0] ++ data → data.length = 32 → s.dev.key.ih = none →
    Completes (mask [.hf, .key, .nvm, .kiln, .ncp, .evr, .qs, .pmu]) (.configStore tag) s fun t =>
      t.dev.key = { s.dev.key with ih := some (nums data) } ∧ Replied tag c .ok ([3, 0, 0, 0] ++ le 4 0) s.dev t.dev) ∧
  (∀ (us sec : Nat) (o : FOp) (rest : List FOp) (w : FWho) (others : List FJob) (s : State),
    s.dev.nvm.jobs = { ops := .erase sec :: o :: rest, who := w } :: others → s.dev.bus.stalls = [] →
    us ≤ 4 * s.dev.nvm.eraseBase[Fin.ofNat 256 (s.dev.nvm.sect[sectNo sec]).phys] →
    s.dev.nvm.growthOf (s.dev.nvm.sect[sectNo sec]).phys us < 3000 →
    Completes (mask [.mode, .tb, .drv, .tx, .rx, .lau, .prb, .sf, .hf, .stp, .uhf, .key, .room, .cask, .cl, .nvm, .kiln, .ncp, .hsp,
      .msp, .evr, .qs, .tim, .pmu, .th, .bus, .cyc] ||| sramSet ||| flashSet) (.flashEraseDone true us) s fun t =>
      (∀ b, s.dev.nvm.place sec 0 ≤ b → b < s.dev.nvm.place sec 0 + 8192 → memRead flashDflt b t.flash = 0xFF) ∧
      (∀ b, b < s.dev.nvm.place sec 0 ∨ s.dev.nvm.place sec 0 + 8192 ≤ b → memRead flashDflt b t.flash = memRead flashDflt b s.flash) ∧
      t.dev.nvm.jobs = { ops := o :: rest, who := w } :: others ∧
      (t.dev.nvm.sect[sectNo sec]).growth = s.dev.nvm.growthOf (s.dev.nvm.sect[sectNo sec]).phys us ∧ t.sram = s.sram) ∧
  (∀ (us sec p : Nat) (rest : List FOp) (w : FWho) (others : List FJob) (ps : List Nat) (s : State),
    s.dev.nvm.jobs = { ops := .erase sec :: rest, who := w } :: others → s.dev.nvm.spares = p :: ps → s.dev.bus.stalls = [] →
    (s.dev.nvm.sect[sectNo sec]).bad = false →
    Completes (mask [.mode, .tb, .drv, .tx, .rx, .lau, .prb, .sf, .hf, .stp, .uhf, .key, .room, .cask, .cl, .nvm, .kiln, .ncp, .hsp,
      .msp, .evr, .qs, .tim, .pmu, .th, .bus, .cyc] ||| sramSet ||| flashSet) (.flashEraseDone false us) s fun t =>
      (t.dev.nvm.sect[sectNo sec]).phys = p ∧ t.dev.nvm.spares = ps ∧ t.dev.nvm.evRetired = true ∧
      t.dev.nvm.eraseFail = satInc 255 s.dev.nvm.eraseFail ∧ t.dev.nvm.jobs = s.dev.nvm.jobs) ∧
  (∀ (sec off : Nat) (data : List Byte) (o : FOp) (rest : List FOp) (w : FWho) (others : List FJob) (s : State), s.memWf = true →
    s.dev.nvm.jobs = { ops := .prog sec off data :: o :: rest, who := w } :: others → s.dev.bus.stalls = [] →
    Completes (mask [.mode, .tb, .drv, .tx, .rx, .lau, .prb, .sf, .hf, .stp, .uhf, .key, .room, .cask, .cl, .nvm, .kiln, .ncp, .hsp,
      .msp, .evr, .qs, .tim, .pmu, .th, .bus, .cyc] ||| sramSet ||| flashSet) (.flashProgramDone true) s fun t =>
      (∀ i, i < data.length → memRead flashDflt (s.dev.nvm.place sec off + i) t.flash = data.getD i 0) ∧
      (∀ b, b < s.dev.nvm.place sec off ∨ s.dev.nvm.place sec off + data.length ≤ b →
        memRead flashDflt b t.flash = memRead flashDflt b s.flash) ∧
      t.dev.nvm.jobs = { ops := o :: rest, who := w } :: others ∧ t.sram = s.sram) ∧
  (∀ (sec off : Nat) (data reply : List Byte) (typ : Fin 6) (x : RecData) (tag : Fin 32) (c : Cmd) (s : State),
    s.dev.nvm.jobs = [{ ops := [.prog sec off data], who := .record typ x (some tag) reply }] → s.dev.cmd tag = some c →
    c.phase = .flash → s.dev.bus.stalls = [] →
    Completes (mask [.mode, .tb, .drv, .tx, .rx, .lau, .prb, .sf, .hf, .stp, .uhf, .key, .room, .cask, .cl, .nvm, .kiln, .ncp, .hsp,
      .msp, .evr, .qs, .tim, .pmu, .th, .bus, .cyc] ||| sramSet ||| flashSet) (.flashProgramDone true) s fun t =>
      t.dev.nvm.jobs = [] ∧
      (t.dev.nvm.recs[typ]) = some { seq := s.dev.nvm.nextSeq typ, second := s.dev.nvm.recTarget typ, data := x } ∧
      Replied tag c .ok (recReply c.opc (s.dev.nvm.nextSeq typ) reply) s.dev t.dev)

/-- EXT_LOAD verifies a COMMITTED module again and makes it LOADED, or ABSENT where its image fails; EXT_CONTROL starts, stops, unloads
and reports a module, and writes the module table with its reply (R706, R711, R715, R718). -/
def Obligations.ExtensionsAreLoadedAndRun : Prop :=
  (∀ (tag : Fin 32) (c : Cmd) (k : Fin 63) (s : State), Ready 0x0C tag c s.dev → s.dev.mode.cur = .m4 → c.payload = [byteOf k.val, 0, 0, 0] →
    (s.dev.nvm.mods[k]).st = .committed → s.verifyAt 2 (s.dev.nvm.mods[k]).sect = 0 →
    Completes (mask [.nvm, .kiln, .ncp, .evr, .qs, .pmu]) (.extLoad tag) s fun t =>
      (t.dev.nvm.mods[k]) = { s.dev.nvm.mods[k] with st := .loaded, stops := 0 } ∧
      t.dev.nvm.svnMod = min 32 (max s.dev.nvm.svnMod (byteAt (s.header (s.dev.nvm.mods[k]).sect) 7)) ∧
      (∀ j, j ≠ k → t.dev.nvm.mods[j] = s.dev.nvm.mods[j]) ∧
      WaitsForFlash tag c (.record 5 (.mods t.dev.nvm.mods) (some tag)
        (loadReply k .loaded (s.header (s.dev.nvm.mods[k]).sect))) s.dev t.dev) ∧
  (∀ (tag : Fin 32) (c : Cmd) (k : Fin 63) (s : State), Ready 0x0C tag c s.dev → s.dev.mode.cur = .m4 → c.payload = [byteOf k.val, 0, 0, 0] →
    (s.dev.nvm.mods[k]).st = .committed → s.verifyAt 2 (s.dev.nvm.mods[k]).sect ≠ 0 →
    Completes (mask [.nvm, .kiln, .ncp, .evr, .qs, .pmu]) (.extLoad tag) s fun t =>
      (t.dev.nvm.mods[k]) = {} ∧ t.dev.nvm.svnMod = s.dev.nvm.svnMod ∧ (∀ j, j ≠ k → t.dev.nvm.mods[j] = s.dev.nvm.mods[j])) ∧
  (∀ (tag : Fin 32) (c : Cmd) (k : Fin 63) (cm : BitVec 4) (zm : BitVec 24) (tm : BitVec 32) (a : Fin 2)
      (ps : List (Fin 4 × Nat × Nat)) (s : State), Ready 0x0D tag c s.dev → s.dev.mode.cur = .m4 →
    c.payload = [byteOf k.val, 1, byteOf a.val, 0, byteOf cm.toNat] ++ le 3 zm.toNat ++ le 4 tm.toNat →
    (s.dev.nvm.mods[k]).st = .loaded ∨ (s.dev.nvm.mods[k]).st = .stopped ∨ (s.dev.nvm.mods[k]).st = .faulted →
    (∀ n : Fin 24, zm.getLsbD n.val = true → cm.getLsbD (n.val / 6) = true) → s.dev.granted k zm tm = false →
    s.wouldPlace k cm = some ps →
    Completes (mask [.drv, .tx, .rx, .lau, .prb, .sf, .hf, .key, .nvm, .kiln, .ncp, .evr, .qs, .tim,
      .pmu] ||| sramSet) (.extControl tag) s fun t =>
      (t.dev.nvm.mods[k]) = { s.dev.nvm.mods[k] with
        st := .running, cmask := cm, zmask := zm, tmask := tm, auto := decide (a.val = 1), parts := ps } ∧
      (∀ g : Fin 32, (t.dev.tim.gt[g]) = if tm.getLsbD g.val then { s.dev.tim.gt[g] with module := k.val } else s.dev.tim.gt[g]) ∧
      (∀ j, j ≠ k → t.dev.nvm.mods[j] = s.dev.nvm.mods[j]) ∧
      WaitsForFlash tag c (.record 5 (.mods t.dev.nvm.mods) (some tag) (t.ctlReply k)) s.dev t.dev) ∧
  (∀ (tag : Fin 32) (c : Cmd) (k : Fin 63) (s : State), Ready 0x0D tag c s.dev → s.dev.mode.cur = .m4 →
    c.payload = [byteOf k.val, 2, 0, 0, 0, 0, 0, 0, 0, 0, 0, 0] → (s.dev.nvm.mods[k]).st = .running →
    Completes (mask [.drv, .tx, .rx, .lau, .prb, .sf, .hf, .key, .nvm, .kiln, .ncp, .evr, .qs, .tim,
      .pmu] ||| sramSet) (.extControl tag) s fun t =>
      (t.dev.nvm.mods[k]).st = .stopped ∧ (t.dev.nvm.mods[k]).parts = [] ∧
      (∀ g : Fin 32, (s.dev.tim.gt[g]).module = k.val → (t.dev.tim.gt[g]).module = 0x3F ∧ (t.dev.tim.gt[g]).run = false)) ∧
  (∀ (tag : Fin 32) (c : Cmd) (k : Fin 63) (s : State), Ready 0x0D tag c s.dev → s.dev.mode.cur = .m4 →
    c.payload = [byteOf k.val, 3, 0, 0, 0, 0, 0, 0, 0, 0, 0, 0] → (s.dev.nvm.mods[k]).st ≠ .running →
    Completes (mask [.drv, .tx, .rx, .lau, .prb, .sf, .hf, .key, .nvm, .kiln, .ncp, .evr, .qs, .tim,
      .pmu] ||| sramSet) (.extControl tag) s fun t =>
      (t.dev.nvm.mods[k]) = {} ∧ (∀ j, j ≠ k → t.dev.nvm.mods[j] = s.dev.nvm.mods[j])) ∧
  (∀ (tag : Fin 32) (c : Cmd) (k : Fin 63) (s : State), Ready 0x0D tag c s.dev → s.dev.mode.cur = .m4 →
    c.payload = [byteOf k.val, 4, 0, 0, 0, 0, 0, 0, 0, 0, 0, 0] →
    Completes (mask [.drv, .tx, .rx, .lau, .prb, .sf, .hf, .key, .nvm, .kiln, .ncp, .evr, .qs, .tim,
      .pmu] ||| sramSet) (.extControl tag) s fun t =>
      t.dev.nvm = s.dev.nvm ∧ Replied tag c .ok (s.ctlReply k) s.dev t.dev)
end

