-- ==== Sys2Proof/Laws/Frame.lean ====
section
/-! SUPPORT. What a change of the device leaves alone: the parts outside a set. -/

namespace Sys2Proof.Machine
open Sys2Proof

theorem Frame.refl (m : Nat) (d : Dev) : Frame m d d := fun p _ => by cases p <;> rfl

theorem Frame.sub {f g m : Nat} (h : f ||| g = g) (hm : g ||| m = m) : f ||| m = m := by
  rw [← hm, ← Nat.or_assoc, h]

theorem Frame.step {m q : Nat} {d e f : Dev} (h : Frame m d e) (g : Frame q e f) (hs : q ||| m = m) : Frame m d f := by
  intro p hp
  have hq : q.testBit p.idx = false := by
    have := congrArg (fun x => x.testBit p.idx) hs
    simp only [Nat.testBit_or, hp, Bool.or_false] at this
    exact this
  have a := h p hp
  have b := g p hq
  cases p <;> exact Eq.trans b a

theorem Frame.le {m q : Nat} {d e : Dev} (g : Frame q d e) (hs : q ||| m = m) : Frame m d e := (Frame.refl m d).step g hs

theorem Frame.all (d e : Dev) : Frame 1342177279 d e := fun p h => by cases p <;> exact absurd h (by decide)

theorem Frame.ite {c : Prop} [Decidable c] {m : Nat} {d a b : Dev} (ha : Frame m d a) (hb : Frame m d b) : Frame m d (if c then a else b) := by
  split
  · exact ha
  · exact hb

theorem Frame.dite {c : Prop} [Decidable c] {m : Nat} {d : Dev} {a : c → Dev} {b : ¬c → Dev} (ha : ∀ h, Frame m d (a h))
    (hb : ∀ h, Frame m d (b h)) : Frame m d (if h : c then a h else b h) := by
  split
  · exact ha _
  · exact hb _

theorem Frame.foldl {α : Type} {m : Nat} {d e : Dev} {g : Dev → α → Dev} {l : List α} (he : Frame m d e)
    (hb : ∀ x a, Frame m d x → Frame m d (g x a)) : Frame m d (l.foldl g e) := by
  induction l generalizing e with
  | nil => exact he
  | cons a l ih => exact ih (hb _ _ he)

theorem Dev.onMode_frame (d : Dev) (f) : Frame 1 d (d.onMode f) := by
  intro p h; cases p <;> first | rfl | exact absurd h (by decide)

theorem Dev.onTb_frame (d : Dev) (f) : Frame 2 d (d.onTb f) := by
  intro p h; cases p <;> first | rfl | exact absurd h (by decide)

theorem Dev.onDrv_frame (d : Dev) (f) : Frame 4 d (d.onDrv f) := by
  intro p h; cases p <;> first | rfl | exact absurd h (by decide)

theorem Dev.onTx_frame (d : Dev) (f) : Frame 8 d (d.onTx f) := by
  intro p h; cases p <;> first | rfl | exact absurd h (by decide)

theorem Dev.onRx_frame (d : Dev) (f) : Frame 16 d (d.onRx f) := by
  intro p h; cases p <;> first | rfl | exact absurd h (by decide)

theorem Dev.onLau_frame (d : Dev) (f) : Frame 32 d (d.onLau f) := by
  intro p h; cases p <;> first | rfl | exact absurd h (by decide)

theorem Dev.onPrb_frame (d : Dev) (f) : Frame 64 d (d.onPrb f) := by
  intro p h; cases p <;> first | rfl | exact absurd h (by decide)

theorem Dev.onSf_frame (d : Dev) (f) : Frame 128 d (d.onSf f) := by
  intro p h; cases p <;> first | rfl | exact absurd h (by decide)

theorem Dev.onHf_frame (d : Dev) (f) : Frame 256 d (d.onHf f) := by
  intro p h; cases p <;> first | rfl | exact absurd h (by decide)

theorem Dev.onAcc_frame (d : Dev) (f) : Frame 512 d (d.onAcc f) := by
  intro p h; cases p <;> first | rfl | exact absurd h (by decide)

theorem Dev.onStp_frame (d : Dev) (f) : Frame 1024 d (d.onStp f) := by
  intro p h; cases p <;> first | rfl | exact absurd h (by decide)

theorem Dev.onUhf_frame (d : Dev) (f) : Frame 2048 d (d.onUhf f) := by
  intro p h; cases p <;> first | rfl | exact absurd h (by decide)

theorem Dev.onKey_frame (d : Dev) (f) : Frame 4096 d (d.onKey f) := by
  intro p h; cases p <;> first | rfl | exact absurd h (by decide)

theorem Dev.onRoom_frame (d : Dev) (f) : Frame 8192 d (d.onRoom f) := by
  intro p h; cases p <;> first | rfl | exact absurd h (by decide)

theorem Dev.onCask_frame (d : Dev) (f) : Frame 16384 d (d.onCask f) := by
  intro p h; cases p <;> first | rfl | exact absurd h (by decide)

theorem Dev.onCl_frame (d : Dev) (f) : Frame 32768 d (d.onCl f) := by
  intro p h; cases p <;> first | rfl | exact absurd h (by decide)

theorem Dev.onNvm_frame (d : Dev) (f) : Frame 65536 d (d.onNvm f) := by
  intro p h; cases p <;> first | rfl | exact absurd h (by decide)

theorem Dev.onKiln_frame (d : Dev) (f) : Frame 131072 d (d.onKiln f) := by
  intro p h; cases p <;> first | rfl | exact absurd h (by decide)

theorem Dev.onNcp_frame (d : Dev) (f) : Frame 262144 d (d.onNcp f) := by
  intro p h; cases p <;> first | rfl | exact absurd h (by decide)

theorem Dev.onHsp_frame (d : Dev) (f) : Frame 524288 d (d.onHsp f) := by
  intro p h; cases p <;> first | rfl | exact absurd h (by decide)

theorem Dev.onMsp_frame (d : Dev) (f) : Frame 1048576 d (d.onMsp f) := by
  intro p h; cases p <;> first | rfl | exact absurd h (by decide)

theorem Dev.onEvr_frame (d : Dev) (f) : Frame 2097152 d (d.onEvr f) := by
  intro p h; cases p <;> first | rfl | exact absurd h (by decide)

theorem Dev.onQs_frame (d : Dev) (f) : Frame 4194304 d (d.onQs f) := by
  intro p h; cases p <;> first | rfl | exact absurd h (by decide)

theorem Dev.onTim_frame (d : Dev) (f) : Frame 8388608 d (d.onTim f) := by
  intro p h; cases p <;> first | rfl | exact absurd h (by decide)

theorem Dev.onPmu_frame (d : Dev) (f) : Frame 16777216 d (d.onPmu f) := by
  intro p h; cases p <;> first | rfl | exact absurd h (by decide)

theorem Dev.onTh_frame (d : Dev) (f) : Frame 33554432 d (d.onTh f) := by
  intro p h; cases p <;> first | rfl | exact absurd h (by decide)

theorem Dev.onPin_frame (d : Dev) (f) : Frame 67108864 d (d.onPin f) := by
  intro p h; cases p <;> first | rfl | exact absurd h (by decide)

theorem Dev.onBus_frame (d : Dev) (f) : Frame 134217728 d (d.onBus f) := by
  intro p h; cases p <;> first | rfl | exact absurd h (by decide)

theorem Dev.onCyc_frame (d : Dev) (f) : Frame 1073741824 d (d.onCyc f) := by
  intro p h; cases p <;> first | rfl | exact absurd h (by decide)

end Sys2Proof.Machine
end

