-- ==== Sys2Proof/Laws/Mem.lean ====
section
/-! SUPPORT. Laws of the byte memories: reads after writes, and that every operation keeps the canonical form. -/

namespace Sys2Proof.Machine
open Sys2Proof

theorem memWfFrom_weaken {dflt : Byte} {lo : Option Nat} {m : List Host.Cell} (h : memWfFrom dflt lo m = true) :
    memWfFrom dflt none m = true := by
  cases m with
  | nil => rfl
  | cons c rest =>
    obtain ⟨a, v⟩ := c
    cases lo with
    | none => exact h
    | some b => simp only [memWfFrom, Bool.and_eq_true] at h ⊢; exact ⟨⟨trivial, h.1.2⟩, h.2⟩

theorem memWfFrom_mono {dflt : Byte} {b c : Nat} {m : List Host.Cell} (hbc : c ≤ b) (h : memWfFrom dflt (some b) m = true) :
    memWfFrom dflt (some c) m = true := by
  cases m with
  | nil => rfl
  | cons x rest =>
    obtain ⟨a, v⟩ := x
    simp only [memWfFrom, Bool.and_eq_true, decide_eq_true_eq] at h ⊢
    exact ⟨⟨by omega, h.1.2⟩, h.2⟩

/-- One write keeps the form above any bound below the written address. -/
theorem memWfFrom_write {dflt : Byte} {a : Nat} {v : Byte} {m : List Host.Cell} {lo : Option Nat}
    (hlo : ∀ b, lo = some b → b < a) (h : memWfFrom dflt lo m = true) : memWfFrom dflt lo (memWrite dflt a v m) = true := by
  induction m generalizing lo with
  | nil =>
    unfold memWrite
    split
    · rfl
    · rename_i hv
      cases lo with
      | none => simp [memWfFrom, hv]
      | some b => simp [memWfFrom, hv, hlo b rfl]
  | cons x rest ih =>
    obtain ⟨c, w⟩ := x
    have hr : memWfFrom dflt (some c) rest = true := by
      simp only [memWfFrom, Bool.and_eq_true] at h; exact h.2
    have hw : w ≠ dflt := by
      simp only [memWfFrom, Bool.and_eq_true, decide_eq_true_eq] at h; exact h.1.2
    unfold memWrite
    split
    · rename_i hac
      split
      · exact h
      · rename_i hv
        cases lo with
        | none => simp [memWfFrom, hv, hw, hac, hr]
        | some b => simp [memWfFrom, hv, hw, hac, hr, hlo b rfl]
    · split
      · rename_i hac
        subst hac
        split
        · cases lo with
          | none => exact memWfFrom_weaken hr
          | some b => exact memWfFrom_mono (Nat.le_of_lt (hlo b rfl)) hr
        · rename_i hv
          cases lo with
          | none => simp [memWfFrom, hv, hr]
          | some b => simp [memWfFrom, hv, hr, hlo b rfl]
      · have hca : c < a := by omega
        have g := ih (lo := some c) (fun b hb => by cases hb; exact hca) hr
        cases lo with
        | none => simp [memWfFrom, hw, g]
        | some b =>
          simp only [memWfFrom, Bool.and_eq_true, decide_eq_true_eq] at h ⊢
          exact ⟨h.1, g⟩

/-- One write keeps the canonical form. -/
theorem memWrite_wf {dflt : Byte} {a : Nat} {v : Byte} {m : List Host.Cell} (h : Memory.wf dflt m = true) :
    Memory.wf dflt (memWrite dflt a v m) = true := memWfFrom_write (fun _ hb => by cases hb) h

/-- Writes keep the canonical form. -/
theorem memWrites_wf {dflt : Byte} {a : Nat} {vs : List Byte} {m : List Host.Cell} (h : Memory.wf dflt m = true) :
    Memory.wf dflt (memWrites dflt a vs m) = true := by
  induction vs generalizing a m with
  | nil => exact h
  | cons v vs ih => exact ih (memWrite_wf h)

theorem memWfFrom_filter {dflt : Byte} {m : List Host.Cell} {lo : Option Nat} (p : Host.Cell → Bool) (h : memWfFrom dflt lo m = true) :
    memWfFrom dflt lo (m.filter p) = true := by
  induction m generalizing lo with
  | nil => rfl
  | cons x rest ih =>
    obtain ⟨c, w⟩ := x
    have hr : memWfFrom dflt (some c) rest = true := by
      simp only [memWfFrom, Bool.and_eq_true] at h; exact h.2
    rw [List.filter_cons]
    split
    · cases lo with
      | none =>
        simp only [memWfFrom, Bool.and_eq_true, decide_eq_true_eq] at h ⊢
        exact ⟨h.1, ih hr⟩
      | some b =>
        simp only [memWfFrom, Bool.and_eq_true, decide_eq_true_eq] at h ⊢
        exact ⟨h.1, ih hr⟩
    · cases lo with
      | none => exact memWfFrom_weaken (ih hr)
      | some b =>
        refine memWfFrom_mono ?_ (ih hr)
        simp only [memWfFrom, Bool.and_eq_true, decide_eq_true_eq] at h
        exact Nat.le_of_lt h.1.1

/-- An erase keeps the canonical form. -/
theorem memErase_wf {dflt : Byte} {lo n : Nat} {m : List Host.Cell} (h : Memory.wf dflt m = true) :
    Memory.wf dflt (memErase lo n m) = true := memWfFrom_filter _ h

theorem memRead_of_lt {dflt : Byte} {a b : Nat} {m : List Host.Cell} (hab : a ≤ b) (h : memWfFrom dflt (some b) m = true) :
    memRead dflt a m = dflt := by
  induction m generalizing b with
  | nil => rfl
  | cons x rest ih =>
    obtain ⟨c, w⟩ := x
    simp only [memWfFrom, Bool.and_eq_true, decide_eq_true_eq] at h
    unfold memRead
    rw [if_neg (by omega)]
    exact ih (by omega) h.2

/-- A read gives what was written to the same address. -/
theorem memRead_memWrite_same {dflt : Byte} {a : Nat} {v : Byte} {m : List Host.Cell} {lo : Option Nat}
    (h : memWfFrom dflt lo m = true) : memRead dflt a (memWrite dflt a v m) = v := by
  induction m generalizing lo with
  | nil => unfold memWrite; split <;> simp_all [memRead]
  | cons x rest ih =>
    obtain ⟨c, w⟩ := x
    have hr : memWfFrom dflt (some c) rest = true := by
      simp only [memWfFrom, Bool.and_eq_true] at h; exact h.2
    unfold memWrite
    split
    · rename_i hac
      split
      · rename_i hv
        subst hv
        unfold memRead
        rw [if_neg (by omega)]
        exact memRead_of_lt (Nat.le_of_lt hac) hr
      · simp [memRead]
    · split
      · rename_i hac
        subst hac
        split
        · rename_i hv
          subst hv
          exact memRead_of_lt (Nat.le_refl _) hr
        · simp [memRead]
      · rename_i h2
        rw [memRead, if_neg h2]
        exact ih hr

/-- A write leaves every other address as it was. -/
theorem memRead_memWrite_other {dflt : Byte} {a b : Nat} {v : Byte} {m : List Host.Cell} (hab : b ≠ a) :
    memRead dflt b (memWrite dflt a v m) = memRead dflt b m := by
  induction m with
  | nil => unfold memWrite; split <;> simp [memRead, hab]
  | cons x rest ih =>
    obtain ⟨c, w⟩ := x
    unfold memWrite
    split
    · split
      · rfl
      · rw [memRead, if_neg hab]
    · split
      · rename_i hac
        subst hac
        split
        · rw [memRead, if_neg hab]
        · rw [memRead, memRead, if_neg hab, if_neg hab]
      · rw [memRead, memRead, ih]

/-- Writes leave every address outside them as it was. -/
theorem memRead_memWrites_other {dflt : Byte} {a b : Nat} {vs : List Byte} {m : List Host.Cell}
    (h : b < a ∨ a + vs.length ≤ b) : memRead dflt b (memWrites dflt a vs m) = memRead dflt b m := by
  induction vs generalizing a m with
  | nil => rfl
  | cons v vs ih =>
    rw [List.length_cons] at h
    rw [memWrites, ih (by omega), memRead_memWrite_other (by omega)]

/-- A read gives the byte that the writes put there. -/
theorem memRead_memWrites_same {dflt : Byte} {a i : Nat} {vs : List Byte} {m : List Host.Cell} (hm : Memory.wf dflt m = true)
    (h : i < vs.length) : memRead dflt (a + i) (memWrites dflt a vs m) = vs[i] := by
  induction vs generalizing a i m with
  | nil => exact absurd h (Nat.not_lt_zero _)
  | cons v vs ih =>
    rw [memWrites]
    cases i with
    | zero =>
      rw [memRead_memWrites_other (Or.inl (by omega)), Nat.add_zero, memRead_memWrite_same hm]
      rfl
    | succ i =>
      have := ih (a := a + 1) (i := i) (memWrite_wf (a := a) (v := v) hm) (by simpa using h)
      rw [show a + (i + 1) = a + 1 + i by omega, this]
      rfl

/-- The canonical form holds after reset. -/
theorem State.reset_memWf : State.reset.memWf = true := rfl

end Sys2Proof.Machine
end

