-- ==== Sys2Proof/Laws/Keep.lean ====
section
/-! SUPPORT. How what a change leaves alone follows from its parts: the device, the byte memories, the whole state, and what a
command answers. -/

namespace Sys2Proof.Machine
open Sys2Proof

theorem Frame.iteP {α : Type} (π : α → Dev) {c : Prop} [Decidable c] {m : Nat} {d : Dev} {a b : α} (ha : Frame m d (π a))
    (hb : Frame m d (π b)) : Frame m d (π (if c then a else b)) := by
  split
  · exact ha
  · exact hb

theorem Frame.foldlP {α β : Type} (π : β → Dev) {m : Nat} {d : Dev} {e : β} {g : β → α → β} {l : List α} (he : Frame m d (π e))
    (hb : ∀ x a, Frame m d (π x) → Frame m d (π (g x a))) : Frame m d (π (l.foldl g e)) := by
  induction l generalizing e with
  | nil => exact he
  | cons a l ih => exact ih (hb _ _ he)

/-- What a change of the state leaves alone, and that it keeps the canonical form of the memories. -/
def SKeep (m : Nat) (s t : State) : Prop := SFrame m s t ∧ (s.memWf = true → t.memWf = true)

/-- A next state that keeps what lies outside `m`. -/
def ONext (m : Nat) (s : State) (o : Out) : Prop := ∃ t, o = .next t ∧ SKeep m s t

/-- One memory: the same unless bit `k` is set, and in its form when it was. -/
def MemOk (k m : Nat) (dflt : Byte) (x y : List Host.Cell) : Prop :=
  (m.testBit k = false → y = x) ∧ (Memory.wf dflt x = true → Memory.wf dflt y = true)

theorem MemOk.same (k m : Nat) (dflt : Byte) (x : List Host.Cell) : MemOk k m dflt x x := ⟨fun _ => rfl, id⟩

theorem MemOk.step {k m : Nat} {dflt : Byte} {x y z : List Host.Cell} (h : MemOk k m dflt x y) (g : MemOk k m dflt y z) :
    MemOk k m dflt x z := ⟨fun b => (g.1 b).trans (h.1 b), g.2 ∘ h.2⟩

theorem MemOk.any {k m : Nat} {dflt : Byte} {x y : List Host.Cell} (hm : m.testBit k = true)
    (h : Memory.wf dflt x = true → Memory.wf dflt y = true) : MemOk k m dflt x y := ⟨fun b => by simp [hm] at b, h⟩

theorem MemOk.nil {k m : Nat} {dflt : Byte} {x : List Host.Cell} (hm : m.testBit k = true) : MemOk k m dflt x [] :=
  MemOk.any hm fun _ => rfl

theorem MemOk.writes {k m : Nat} {dflt : Byte} {x : List Host.Cell} {a : Nat} {vs : List Byte} (hm : m.testBit k = true) :
    MemOk k m dflt x (memWrites dflt a vs x) := MemOk.any hm memWrites_wf

theorem MemOk.erase {k m : Nat} {dflt : Byte} {x : List Host.Cell} {a n : Nat} (hm : m.testBit k = true) :
    MemOk k m dflt x (memErase a n x) := MemOk.any hm memErase_wf

theorem MemOk.foldl {α : Type} {k m : Nat} {dflt : Byte} {x e : List Host.Cell} {g : List Host.Cell → α → List Host.Cell} {l : List α}
    (he : MemOk k m dflt x e) (hb : ∀ y a, MemOk k m dflt x y → MemOk k m dflt x (g y a)) : MemOk k m dflt x (l.foldl g e) := by
  induction l generalizing e with
  | nil => exact he
  | cons a l ih => exact ih (hb _ _ he)

theorem SKeep.refl (m : Nat) (s : State) : SKeep m s s := ⟨⟨Frame.refl _ _, fun _ => rfl, fun _ => rfl, rfl⟩, id⟩

theorem Nat.testBit_sub {q m k : Nat} (hs : q ||| m = m) (h : m.testBit k = false) : q.testBit k = false := by
  have := congrArg (fun x => x.testBit k) hs
  simpa only [Nat.testBit_or, h, Bool.or_false] using this

theorem SKeep.step {m q : Nat} {s t u : State} (h : SKeep m s t) (g : SKeep q t u) (hs : q ||| m = m) : SKeep m s u :=
  ⟨⟨h.1.1.step g.1.1 hs, fun b => (g.1.2.1 (Nat.testBit_sub hs b)).trans (h.1.2.1 b),
    fun b => (g.1.2.2.1 (Nat.testBit_sub hs b)).trans (h.1.2.2.1 b), g.1.2.2.2.trans h.1.2.2.2⟩, g.2 ∘ h.2⟩

theorem SKeep.dev {m : Nat} {s t : State} (h : SKeep m s t) : Frame m s.dev t.dev := h.1.1

theorem SKeep.mk4 {m : Nat} {s x : State} {d : Dev} {a b : List Host.Cell} (h : SKeep m s x) (hd : Frame m s.dev d)
    (ha : MemOk 28 m sramDflt x.sram a) (hb : MemOk 29 m flashDflt x.flash b) : SKeep m s ⟨d, a, b, x.pending⟩ := by
  refine ⟨⟨hd, fun c => (ha.1 c).trans (h.1.2.1 c), fun c => (hb.1 c).trans (h.1.2.2.1 c), h.1.2.2.2⟩, fun w => ?_⟩
  have := h.2 w
  simp only [State.memWf, Bool.and_eq_true] at this ⊢
  exact ⟨ha.2 this.1, hb.2 this.2⟩

theorem SKeep.ite {c : Prop} [Decidable c] {m : Nat} {s a b : State} (ha : SKeep m s a) (hb : SKeep m s b) :
    SKeep m s (if c then a else b) := by
  split
  · exact ha
  · exact hb

theorem SKeep.dite {c : Prop} [Decidable c] {m : Nat} {s : State} {a : c → State} {b : ¬c → State} (ha : ∀ h, SKeep m s (a h))
    (hb : ∀ h, SKeep m s (b h)) : SKeep m s (if h : c then a h else b h) := by
  split
  · exact ha _
  · exact hb _

theorem SKeep.iteP {α : Type} {c : Prop} [Decidable c] (π : α → State) {m : Nat} {s : State} {a b : α} (ha : SKeep m s (π a))
    (hb : SKeep m s (π b)) : SKeep m s (π (if c then a else b)) := by
  split
  · exact ha
  · exact hb

theorem SKeep.foldl {α : Type} {m : Nat} {s e : State} {g : State → α → State} {l : List α} (he : SKeep m s e)
    (hb : ∀ x a, SKeep m s x → SKeep m s (g x a)) : SKeep m s (l.foldl g e) := by
  induction l generalizing e with
  | nil => exact he
  | cons a l ih => exact ih (hb _ _ he)

theorem ONext.next {m : Nat} {s t : State} (h : SKeep m s t) : ONext m s (.next t) := ⟨t, rfl, h⟩

theorem ONext.ite {c : Prop} [Decidable c] {m : Nat} {s : State} {a b : Out} (ha : ONext m s a) (hb : ONext m s b) :
    ONext m s (if c then a else b) := by
  split
  · exact ha
  · exact hb

theorem ONext.onDev {m : Nat} {s : State} {f : Dev → Dev} (hf : ∀ d, Frame m s.ev.dev d → Frame m s.ev.dev (f d)) :
    ONext m s.ev (onDev s f) :=
  ONext.next (SKeep.mk4 (SKeep.refl _ _) (hf _ (Frame.refl _ _)) (MemOk.same _ _ _ _) (MemOk.same _ _ _ _))

end Sys2Proof.Machine
end

