-- ==== Sys2Proof/Laws/KeepOps.lean ====
section
/-! SUPPORT. What the operations of Machine/Ops.lean leave alone. -/

namespace Sys2Proof.Machine
open Sys2Proof

theorem onQueue_frame (q : QId) (f : Queue → Queue) (d : Dev) : Frame 4194304 d (onQueue q f d) := by
  unfold onQueue
  split
  · refine Frame.step ?_ (Dev.onQs_frame _ _) rfl
    exact (Frame.refl _ _)
  · refine Frame.step ?_ (Dev.onQs_frame _ _) rfl
    exact (Frame.refl _ _)
  · refine Frame.step ?_ (Dev.onQs_frame _ _) rfl
    exact (Frame.refl _ _)

theorem Dev.event_frame (d : Dev) : Frame 1077936128 d (Dev.event d) := by
  unfold Dev.event
  refine Frame.ite ?_ ?_
  · exact (Frame.refl _ _)
  · refine Frame.step ?_ (Dev.onCyc_frame _ _) rfl
    refine Frame.foldl ?_ ?_
    · exact (Frame.refl _ _)
    · intro _ _ h1000
      refine Frame.step ?_ (onQueue_frame _ _ _) rfl
      exact h1000

theorem modUpdate_frame (t : Fin 6) (d : Dev) : Frame 2097152 d (modUpdate t d) := by
  unfold modUpdate
  refine Frame.step ?_ (Dev.onEvr_frame _ _) rfl
  exact (Frame.refl _ _)

theorem modUpdateN_frame (t : Nat) (d : Dev) : Frame 2097152 d (modUpdateN t d) := by
  unfold modUpdateN
  refine Frame.dite ?_ ?_
  · intro _
    refine Frame.step ?_ (modUpdate_frame _ _) rfl
    exact (Frame.refl _ _)
  · intro _
    exact (Frame.refl _ _)

theorem onSrc_frame (id : SrcId) (f : Src → Src) (d : Dev) : Frame 2097152 d (onSrc id f d) := by
  unfold onSrc
  split
  · refine Frame.step ?_ (Dev.onEvr_frame _ _) rfl
    exact (Frame.refl _ _)
  · refine Frame.step ?_ (Dev.onEvr_frame _ _) rfl
    exact (Frame.refl _ _)

theorem wakeDom_frame (k : Fin 49) (d : Dev) : Frame 16777216 d (wakeDom k d) := by
  unfold wakeDom
  refine Frame.step ?_ (Dev.onPmu_frame _ _) rfl
  exact (Frame.refl _ _)

theorem wakeCore_frame (t : Nat) (d : Dev) : Frame 16777216 d (wakeCore t d) := by
  unfold wakeCore
  refine Frame.dite ?_ ?_
  · intro _
    refine Frame.step ?_ (wakeDom_frame _ _) rfl
    exact (Frame.refl _ _)
  · intro _
    exact (Frame.refl _ _)

theorem message_frame (id : SrcId) (d : Dev) : Frame 18874368 d (message id d) := by
  unfold message
  refine Frame.ite ?_ ?_
  · exact (Frame.refl _ _)
  · refine Frame.ite ?_ ?_
    · refine Frame.step ?_ (wakeCore_frame _ _) rfl
      refine Frame.ite ?_ ?_
      · refine Frame.dite ?_ ?_
        · intro _
          refine Frame.step ?_ (Dev.onEvr_frame _ _) rfl
          exact (Frame.refl _ _)
        · intro _
          exact (Frame.refl _ _)
      · refine Frame.step ?_ (modUpdateN_frame _ _) rfl
        refine Frame.step ?_ (onSrc_frame _ _ _) rfl
        exact (Frame.refl _ _)
    · refine Frame.ite ?_ ?_
      · refine Frame.dite ?_ ?_
        · intro _
          refine Frame.step ?_ (Dev.onEvr_frame _ _) rfl
          exact (Frame.refl _ _)
        · intro _
          exact (Frame.refl _ _)
      · refine Frame.step ?_ (modUpdateN_frame _ _) rfl
        refine Frame.step ?_ (onSrc_frame _ _ _) rfl
        exact (Frame.refl _ _)

theorem msgZone_frame (n : Fin 24) (base : Nat) (d : Dev) : Frame 18874368 d (msgZone n base d) := by
  unfold msgZone
  refine Frame.step ?_ (message_frame _ _) rfl
  exact (Frame.refl _ _)

theorem msgHost_frame (k : Nat) (d : Dev) : Frame 18874368 d (msgHost k d) := by
  unfold msgHost
  refine Frame.step ?_ (message_frame _ _) rfl
  exact (Frame.refl _ _)

theorem afterCommit_frame (q : QId) (silent : Bool) (wm0 : Bool) (d : Dev) : Frame 18874368 d (afterCommit q silent wm0 d) := by
  unfold afterCommit
  dsimp only
  split
  · refine Frame.ite ?_ ?_
    · refine Frame.step ?_ (msgHost_frame _ _) rfl
      split
      · refine Frame.step ?_ (msgHost_frame _ _) rfl
        exact (Frame.refl _ _)
      · refine Frame.ite ?_ ?_
        · exact (Frame.refl _ _)
        · refine Frame.step ?_ (msgHost_frame _ _) rfl
          exact (Frame.refl _ _)
      · refine Frame.step ?_ (msgZone_frame _ _ _) rfl
        exact (Frame.refl _ _)
    · split
      · refine Frame.step ?_ (msgHost_frame _ _) rfl
        exact (Frame.refl _ _)
      · refine Frame.ite ?_ ?_
        · exact (Frame.refl _ _)
        · refine Frame.step ?_ (msgHost_frame _ _) rfl
          exact (Frame.refl _ _)
      · refine Frame.step ?_ (msgZone_frame _ _ _) rfl
        exact (Frame.refl _ _)
  · refine Frame.ite ?_ ?_
    · refine Frame.step ?_ (msgHost_frame _ _) rfl
      split
      · refine Frame.step ?_ (msgHost_frame _ _) rfl
        exact (Frame.refl _ _)
      · refine Frame.ite ?_ ?_
        · exact (Frame.refl _ _)
        · refine Frame.step ?_ (msgHost_frame _ _) rfl
          exact (Frame.refl _ _)
      · refine Frame.step ?_ (msgZone_frame _ _ _) rfl
        exact (Frame.refl _ _)
    · split
      · refine Frame.step ?_ (msgHost_frame _ _) rfl
        exact (Frame.refl _ _)
      · refine Frame.ite ?_ ?_
        · exact (Frame.refl _ _)
        · refine Frame.step ?_ (msgHost_frame _ _) rfl
          exact (Frame.refl _ _)
      · refine Frame.step ?_ (msgZone_frame _ _ _) rfl
        exact (Frame.refl _ _)
  · split
    · refine Frame.step ?_ (msgHost_frame _ _) rfl
      exact (Frame.refl _ _)
    · refine Frame.ite ?_ ?_
      · exact (Frame.refl _ _)
      · refine Frame.step ?_ (msgHost_frame _ _) rfl
        exact (Frame.refl _ _)
    · refine Frame.step ?_ (msgZone_frame _ _ _) rfl
      exact (Frame.refl _ _)

theorem evqLost_frame (k : Nat) (d : Dev) : Frame 23068672 d (evqLost k d) := by
  unfold evqLost
  refine Frame.ite ?_ ?_
  · exact (Frame.refl _ _)
  · refine Frame.step ?_ (msgHost_frame _ _) rfl
    refine Frame.step ?_ (Dev.onQs_frame _ _) rfl
    exact (Frame.refl _ _)

theorem pushItem_frame (q : QId) (silent : Bool) (ws : List Sys2Proof.Word) (d : Dev) : Frame 23068672 d (pushItem q silent ws
    d) := by
  unfold pushItem
  split
  · refine Frame.ite ?_ ?_
    · refine Frame.step ?_ (afterCommit_frame _ _ _ _) rfl
      refine Frame.step ?_ (onQueue_frame _ _ _) rfl
      exact (Frame.refl _ _)
    · refine Frame.step ?_ (onQueue_frame _ _ _) rfl
      exact (Frame.refl _ _)
  · refine Frame.ite ?_ ?_
    · refine Frame.step ?_ (afterCommit_frame _ _ _ _) rfl
      refine Frame.step ?_ (onQueue_frame _ _ _) rfl
      refine Frame.ite ?_ ?_
      · refine Frame.step ?_ (evqLost_frame _ _) rfl
        refine Frame.step ?_ (onQueue_frame _ _ _) rfl
        exact (Frame.refl _ _)
      · refine Frame.step ?_ (onQueue_frame _ _ _) rfl
        exact (Frame.refl _ _)
    · refine Frame.ite ?_ ?_
      · refine Frame.step ?_ (evqLost_frame _ _) rfl
        refine Frame.step ?_ (onQueue_frame _ _ _) rfl
        refine Frame.ite ?_ ?_
        · refine Frame.step ?_ (evqLost_frame _ _) rfl
          refine Frame.step ?_ (onQueue_frame _ _ _) rfl
          exact (Frame.refl _ _)
        · refine Frame.step ?_ (onQueue_frame _ _ _) rfl
          exact (Frame.refl _ _)
      · refine Frame.step ?_ (onQueue_frame _ _ _) rfl
        refine Frame.ite ?_ ?_
        · refine Frame.step ?_ (evqLost_frame _ _) rfl
          refine Frame.step ?_ (onQueue_frame _ _ _) rfl
          exact (Frame.refl _ _)
        · refine Frame.step ?_ (onQueue_frame _ _ _) rfl
          exact (Frame.refl _ _)

theorem pushEvent_frame (typ : Nat) (gen : Nat) (payload : List Sys2Proof.Byte) (d : Dev) : Frame 23068672 d (pushEvent typ
    gen payload d) := by
  unfold pushEvent
  refine Frame.step ?_ (pushItem_frame _ _ _ _) rfl
  exact (Frame.refl _ _)

theorem pushPt_frame (typ : Nat) (payload : List Sys2Proof.Byte) (d : Dev) : Frame 23068672 d (pushPt typ payload d) := by
  unfold pushPt
  refine Frame.step ?_ (pushEvent_frame _ _ _ _) rfl
  exact (Frame.refl _ _)

theorem pushDiag_frame (code : Nat) (b1to11 : List Sys2Proof.Byte) (d : Dev) : Frame 23068672 d (pushDiag code b1to11 d) := by
  unfold pushDiag
  refine Frame.step ?_ (pushPt_frame _ _ _) rfl
  exact (Frame.refl _ _)

theorem completeOne_frame (tag : Fin 32) (st : Status) (payload : List Sys2Proof.Byte) (d : Dev) : Frame 23330816 d
    (completeOne tag st payload d) := by
  unfold completeOne
  split
  · exact (Frame.refl _ _)
  · refine Frame.step ?_ (Dev.onNcp_frame _ _) rfl
    refine Frame.ite ?_ ?_
    · refine Frame.step ?_ (pushDiag_frame _ _ _) rfl
      refine Frame.step ?_ (pushItem_frame _ _ _ _) rfl
      exact (Frame.refl _ _)
    · refine Frame.step ?_ (pushItem_frame _ _ _ _) rfl
      exact (Frame.refl _ _)

theorem settleAborts_frame (tag : Fin 32) (st : Status) (d : Dev) : Frame 23330816 d (settleAborts tag st d) := by
  unfold settleAborts
  refine Frame.foldl ?_ ?_
  · refine Frame.step ?_ (Dev.onNcp_frame _ _) rfl
    exact (Frame.refl _ _)
  · intro _ _ h1000
    refine Frame.step ?_ (completeOne_frame _ _ _ _) rfl
    exact h1000

theorem sweep_frame (a0 : Nat) (a1 : Dev) : Frame 23330816 a1 (sweep a0 a1) := by
  induction a0 generalizing a1 with
  | zero => exact Frame.refl _ _
  | succ k ih =>
    unfold sweep
    split
    · refine Frame.step ?_ (ih _) rfl
      refine Frame.step ?_ (settleAborts_frame _ _ _) rfl
      exact Frame.step (Frame.refl _ _) (completeOne_frame _ _ _ _) rfl
    · exact Frame.refl _ _

theorem complete_frame (tag : Fin 32) (st : Status) (payload : List Sys2Proof.Byte) (d : Dev) : Frame 23330816 d (complete tag
    st payload d) := by
  unfold complete
  refine Frame.ite ?_ ?_
  · refine Frame.step ?_ (sweep_frame _ _) rfl
    refine Frame.step ?_ (settleAborts_frame _ _ _) rfl
    refine Frame.step ?_ (completeOne_frame _ _ _ _) rfl
    exact (Frame.refl _ _)
  · exact (Frame.refl _ _)

theorem fail_frame (tag : Fin 32) (st : Status) (d : Dev) : Frame 23330816 d (fail tag st d) := by
  unfold fail
  refine Frame.step ?_ (complete_frame _ _ _ _) rfl
  exact (Frame.refl _ _)

theorem State.on_frame {m : Nat} {d0 : State} (s : State) (f : Dev → Dev) (hm : 0 ||| m = m) (h1 : ∀ x0, Frame m d0.dev x0 →
    Frame m d0.dev (f x0)) (h : SKeep m d0 s) : SKeep m d0 (State.on s f) := by
  unfold State.on
  refine SKeep.mk4 ?_ ?_ ?_ ?_
  · exact h
  · refine h1 _ ?_
    refine SKeep.dev ?_
    exact h
  · first | exact MemOk.same _ _ _ _ | exact MemOk.nil rfl | exact MemOk.writes rfl | exact MemOk.erase rfl
  · first | exact MemOk.same _ _ _ _ | exact MemOk.nil rfl | exact MemOk.writes rfl | exact MemOk.erase rfl

theorem State.ev_frame (s : State) : SKeep 1077936128 s (State.ev s) := by
  unfold State.ev
  refine State.on_frame _ _ rfl ?_ ?_
  · intro _ h1000
    refine Frame.step ?_ (Dev.event_frame _) rfl
    exact h1000
  · exact (SKeep.refl _ _)

theorem msgSc_frame (s : Fin 32) (d : Dev) : Frame 18874368 d (msgSc s d) := by
  unfold msgSc
  refine Frame.step ?_ (message_frame _ _) rfl
  exact (Frame.refl _ _)

theorem onCmd_frame (tag : Fin 32) (f : Cmd → Cmd) (d : Dev) : Frame 262144 d (onCmd tag f d) := by
  unfold onCmd
  refine Frame.step ?_ (Dev.onNcp_frame _ _) rfl
  exact (Frame.refl _ _)

theorem busError_frame (y0 : Master) (a : Nat) (d : Dev) : Frame 153092096 d (busError y0 a d) := by
  unfold busError
  refine Frame.ite ?_ ?_
  · refine Frame.step ?_ (Dev.onBus_frame _ _) rfl
    exact (Frame.refl _ _)
  · refine Frame.step ?_ (msgSc_frame _ _) rfl
    refine Frame.step ?_ (Dev.onBus_frame _ _) rfl
    exact (Frame.refl _ _)

theorem pushSystem_frame (origin : Nat) (evt : Nat) (b2to7 : List Sys2Proof.Byte) (d : Dev) : Frame 23068672 d (pushSystem
    origin evt b2to7 d) := by
  unfold pushSystem
  refine Frame.step ?_ (pushPt_frame _ _ _) rfl
  exact (Frame.refl _ _)

theorem wmMessage_frame (q : QId) (wm0 : Bool) (d : Dev) : Frame 18874368 d (wmMessage q wm0 d) := by
  unfold wmMessage
  split
  · refine Frame.ite ?_ ?_
    · refine Frame.step ?_ (msgHost_frame _ _) rfl
      exact (Frame.refl _ _)
    · exact (Frame.refl _ _)
  · refine Frame.ite ?_ ?_
    · refine Frame.step ?_ (msgHost_frame _ _) rfl
      exact (Frame.refl _ _)
    · exact (Frame.refl _ _)
  · exact (Frame.refl _ _)

end Sys2Proof.Machine
end

