-- ==== Sys2Proof/Laws/KeepDriveOps.lean ====
section
/-! SUPPORT. What the operations of Machine/DriveOps.lean leave alone. -/

namespace Sys2Proof.Machine
open Sys2Proof

theorem rewords_frame (d : Dev) : Frame 4 d (rewords d) := by
  unfold rewords
  refine Frame.step ?_ (Dev.onDrv_frame _ _) rfl
  exact (Frame.refl _ _)

theorem onTxZ_frame (n : Fin 24) (f : ZoneTx → ZoneTx) (d : Dev) : Frame 8 d (onTxZ n f d) := by
  unfold onTxZ
  refine Frame.step ?_ (Dev.onTx_frame _ _) rfl
  exact (Frame.refl _ _)

theorem takeRoles_frame (n : Fin 24) (ws : List TxW) (d : Dev) : Frame 4 d (takeRoles n ws d) := by
  unfold takeRoles
  refine Frame.step ?_ (Dev.onDrv_frame _ _) rfl
  exact (Frame.refl _ _)

theorem txMsg_frame (n : Fin 24) (d : Dev) : Frame 18874368 d (txMsg n d) := by
  unfold txMsg
  refine Frame.step ?_ (message_frame _ _) rfl
  exact (Frame.refl _ _)

theorem ruleRefuse_frame (n : Fin 24) (code : Nat) (d : Dev) : Frame 18874376 d (ruleRefuse n code d) := by
  unfold ruleRefuse
  refine Frame.step ?_ (txMsg_frame _ _) rfl
  refine Frame.step ?_ (onTxZ_frame _ _ _) rfl
  exact (Frame.refl _ _)

theorem reshadow_frame (d : Dev) : Frame 4 d (reshadow d) := by
  unfold reshadow
  refine Frame.step ?_ (Dev.onDrv_frame _ _) rfl
  exact (Frame.refl _ _)

theorem redrive_frame (d : Dev) : Frame 4 d (redrive d) := by
  unfold redrive
  refine Frame.step ?_ (rewords_frame _) rfl
  refine Frame.step ?_ (reshadow_frame _) rfl
  exact (Frame.refl _ _)

theorem applyCommit_frame (n : Fin 24) (ws : List TxW) (d : Dev) : Frame 18874380 d (applyCommit n ws d) := by
  unfold applyCommit
  refine Frame.ite ?_ ?_
  · refine Frame.step ?_ (ruleRefuse_frame _ _ _) rfl
    exact (Frame.refl _ _)
  · refine Frame.ite ?_ ?_
    · refine Frame.step ?_ (txMsg_frame _ _) rfl
      refine Frame.step ?_ (onTxZ_frame _ _ _) rfl
      exact (Frame.refl _ _)
    · refine Frame.step ?_ (redrive_frame _) rfl
      refine Frame.step ?_ (takeRoles_frame _ _ _) rfl
      refine Frame.step ?_ (Dev.onDrv_frame _ _) rfl
      refine Frame.step ?_ (onTxZ_frame _ _ _) rfl
      exact (Frame.refl _ _)

theorem startRamp_frame (n : Fin 24) (r : Ramp) (on : Bool) (d : Dev) : Frame 8 d (startRamp n r on d) := by
  unfold startRamp
  refine Frame.step ?_ (onTxZ_frame _ _ _) rfl
  exact (Frame.refl _ _)

theorem fieldStop_frame (n : Fin 24) (d : Dev) : Frame 12 d (fieldStop n d) := by
  unfold fieldStop
  refine Frame.step ?_ (redrive_frame _) rfl
  refine Frame.step ?_ (onTxZ_frame _ _ _) rfl
  exact (Frame.refl _ _)

theorem fieldOff_frame (n : Fin 24) (d : Dev) : Frame 12 d (fieldOff n d) := by
  unfold fieldOff
  refine Frame.ite ?_ ?_
  · refine Frame.step ?_ (onTxZ_frame _ _ _) rfl
    exact (Frame.refl _ _)
  · refine Frame.ite ?_ ?_
    · refine Frame.step ?_ (fieldStop_frame _ _) rfl
      exact (Frame.refl _ _)
    · refine Frame.ite ?_ ?_
      · refine Frame.step ?_ (onTxZ_frame _ _ _) rfl
        exact (Frame.refl _ _)
      · refine Frame.step ?_ (redrive_frame _) rfl
        refine Frame.step ?_ (startRamp_frame _ _ _ _) rfl
        exact (Frame.refl _ _)

theorem fieldOn_frame (n : Fin 24) (d : Dev) : Frame 18874380 d (fieldOn n d) := by
  unfold fieldOn
  refine Frame.ite ?_ ?_
  · exact (Frame.refl _ _)
  · refine Frame.ite ?_ ?_
    · refine Frame.step ?_ (onTxZ_frame _ _ _) rfl
      exact (Frame.refl _ _)
    · refine Frame.ite ?_ ?_
      · refine Frame.step ?_ (ruleRefuse_frame _ _ _) rfl
        exact (Frame.refl _ _)
      · refine Frame.step ?_ (redrive_frame _) rfl
        refine Frame.step ?_ (startRamp_frame _ _ _ _) rfl
        refine Frame.foldl ?_ ?_
        · exact (Frame.refl _ _)
        · intro _ _ h1000
          refine Frame.step ?_ (ruleRefuse_frame _ _ _) rfl
          refine Frame.step ?_ (fieldStop_frame _ _) rfl
          exact h1000

theorem bridgesOff_frame (d : Dev) : Frame 12 d (bridgesOff d) := by
  unfold bridgesOff
  refine Frame.step ?_ (Dev.onDrv_frame _ _) rfl
  refine Frame.step ?_ (redrive_frame _) rfl
  refine Frame.step ?_ (Dev.onTx_frame _ _) rfl
  exact (Frame.refl _ _)

theorem rampEnd_frame (n : Fin 24) (d : Dev) : Frame 12 d (rampEnd n d) := by
  unfold rampEnd
  split
  · exact (Frame.refl _ _)
  · refine Frame.step ?_ (onTxZ_frame _ _ _) rfl
    exact (Frame.refl _ _)
  · refine Frame.step ?_ (redrive_frame _) rfl
    refine Frame.step ?_ (onTxZ_frame _ _ _) rfl
    exact (Frame.refl _ _)

theorem setCoilFlag_frame (c : Fin 192) (f : CoilFault) (d : Dev) : Frame 4 d (setCoilFlag c f d) := by
  unfold setCoilFlag
  refine Frame.step ?_ (Dev.onDrv_frame _ _) rfl
  exact (Frame.refl _ _)

theorem pushCoilFault_frame (c : Fin 192) (f : CoilFault) (owner : Option (Fin 24)) (d : Dev) : Frame 23068672 d
    (pushCoilFault c f owner d) := by
  unfold pushCoilFault
  refine Frame.step ?_ (pushPt_frame _ _ _) rfl
  exact (Frame.refl _ _)

theorem coilFault_frame (c : Fin 192) (f : CoilFault) (d : Dev) : Frame 23068684 d (coilFault c f d) := by
  unfold coilFault
  refine Frame.step ?_ (pushCoilFault_frame _ _ _ _) rfl
  refine Frame.step ?_ (msgSc_frame _ _) rfl
  split
  · refine Frame.step ?_ (txMsg_frame _ _) rfl
    refine Frame.step ?_ (onTxZ_frame _ _ _) rfl
    refine Frame.step ?_ (redrive_frame _) rfl
    refine Frame.step ?_ (Dev.onDrv_frame _ _) rfl
    refine Frame.step ?_ (setCoilFlag_frame _ _ _) rfl
    exact (Frame.refl _ _)
  · refine Frame.step ?_ (redrive_frame _) rfl
    refine Frame.step ?_ (Dev.onDrv_frame _ _) rfl
    refine Frame.step ?_ (setCoilFlag_frame _ _ _) rfl
    exact (Frame.refl _ _)

theorem pushKetFault_frame (k : Fin 4) (f : KetFault) (set : Bool) (d : Dev) : Frame 23068672 d (pushKetFault k f set d) := by
  unfold pushKetFault
  refine Frame.step ?_ (pushPt_frame _ _ _) rfl
  exact (Frame.refl _ _)

theorem scaleBy_frame (zs : List (Fin 24)) (F : Nat) (f : ZoneTx → ZoneTx) (d : Dev) : Frame 8 d (scaleBy zs F f d) := by
  unfold scaleBy
  refine Frame.step ?_ (Dev.onTx_frame _ _) rfl
  exact (Frame.refl _ _)

theorem reevalTot_frame (d : Dev) : Frame 12 d (reevalTot d) := by
  unfold reevalTot
  refine Frame.ite ?_ ?_
  · exact (Frame.refl _ _)
  · refine Frame.step ?_ (Dev.onDrv_frame _ _) rfl
    refine Frame.step ?_ (scaleBy_frame _ _ _ _) rfl
    exact (Frame.refl _ _)

theorem reevalKet_frame (k : Fin 4) (d : Dev) : Frame 12 d (reevalKet k d) := by
  unfold reevalKet
  refine Frame.ite ?_ ?_
  · exact (Frame.refl _ _)
  · refine Frame.step ?_ (Dev.onDrv_frame _ _) rfl
    refine Frame.step ?_ (scaleBy_frame _ _ _ _) rfl
    exact (Frame.refl _ _)

theorem reevalTest_frame (d : Dev) : Frame 1 d (reevalTest d) := by
  unfold reevalTest
  split
  · exact (Frame.refl _ _)
  · refine Frame.ite ?_ ?_
    · exact (Frame.refl _ _)
    · refine Frame.step ?_ (Dev.onMode_frame _ _) rfl
      exact (Frame.refl _ _)

end Sys2Proof.Machine
end

