-- ==== Sys2Proof/Laws/KeepRxOps.lean ====
section
/-! SUPPORT. What the operations of Machine/RxOps.lean leave alone. -/

namespace Sys2Proof.Machine
open Sys2Proof

theorem markAll_frame (cs : List (Fin 192)) (words : Nat) (cause : Nat) (d : Dev) : Frame 16 d (markAll cs words cause d) := by
  unfold markAll
  refine Frame.step ?_ (Dev.onRx_frame _ _) rfl
  exact (Frame.refl _ _)

theorem onCh_frame (c : Fin 192) (f : RxCh → RxCh) (d : Dev) : Frame 16 d (onCh c f d) := by
  unfold onCh
  refine Frame.step ?_ (Dev.onRx_frame _ _) rfl
  exact (Frame.refl _ _)

theorem goBad_frame (cs : List (Fin 192)) (d : Dev) : Frame 16 d (goBad cs d) := by
  unfold goBad
  refine Frame.foldl ?_ ?_
  · exact (Frame.refl _ _)
  · intro _ _ h1000
    refine Frame.step ?_ (onCh_frame _ _ _) rfl
    exact h1000

theorem setGain_frame (cs : List (Fin 192)) (g : Nat) (d : Dev) : Frame 16 d (setGain cs g d) := by
  unfold setGain
  refine Frame.step ?_ (Dev.onRx_frame _ _) rfl
  exact (Frame.refl _ _)

theorem freedCoils_frame (b : Dev) (d : Dev) : Frame 64 d (freedCoils b d) := by
  unfold freedCoils
  refine Frame.step ?_ (Dev.onPrb_frame _ _) rfl
  exact (Frame.refl _ _)

theorem rxRoles_frame (b : Dev) (d : Dev) : Frame 80 d (rxRoles b d) := by
  unfold rxRoles
  refine Frame.step ?_ (freedCoils_frame _ _) rfl
  refine Frame.step ?_ (goBad_frame _ _) rfl
  refine Frame.step ?_ (markAll_frame _ _ _ _) rfl
  refine Frame.foldl ?_ ?_
  · exact (Frame.refl _ _)
  · intro _ _ h1000
    split
    · refine Frame.ite ?_ ?_
      · exact h1000
      · refine Frame.step ?_ (setGain_frame _ _ _) rfl
        refine Frame.step ?_ (onCh_frame _ _ _) rfl
        exact h1000
    · refine Frame.step ?_ (setGain_frame _ _ _) rfl
      exact h1000
    · exact h1000

theorem withRxRoles_frame {m : Nat} {d0 : Dev} (f : Dev → Dev) (d : Dev) (hm : 80 ||| m = m) (h0 : ∀ x0, Frame m d0 x0 → Frame
    m d0 (f x0)) (h : Frame m d0 d) : Frame m d0 (withRxRoles f d) := by
  unfold withRxRoles
  refine Frame.step ?_ (rxRoles_frame _ _) (Frame.sub rfl hm)
  refine h0 _ ?_
  exact h

theorem onZRx_frame (n : Fin 24) (f : ZoneRx → ZoneRx) (d : Dev) : Frame 16 d (onZRx n f d) := by
  unfold onZRx
  refine Frame.step ?_ (Dev.onRx_frame _ _) rfl
  exact (Frame.refl _ _)

theorem unfreeze_frame (n : Fin 24) (d : Dev) : Frame 16 d (unfreeze n d) := by
  unfold unfreeze
  refine Frame.step ?_ (onZRx_frame _ _ _) rfl
  exact (Frame.refl _ _)

theorem applyFilt_frame (n : Fin 24) (p : Nat) (d : Dev) : Frame 16 d (applyFilt n p d) := by
  unfold applyFilt
  refine Frame.ite ?_ ?_
  · refine Frame.step ?_ (onZRx_frame _ _ _) rfl
    exact (Frame.refl _ _)
  · refine Frame.step ?_ (markAll_frame _ _ _ _) rfl
    refine Frame.step ?_ (onZRx_frame _ _ _) rfl
    exact (Frame.refl _ _)

theorem heldFilt_frame (n : Fin 24) (d : Dev) : Frame 16 d (heldFilt n d) := by
  unfold heldFilt
  split
  · refine Frame.step ?_ (applyFilt_frame _ _ _) rfl
    exact (Frame.refl _ _)
  · exact (Frame.refl _ _)

theorem keepF_frame (cs : List (Fin 192)) (g : Nat) (d : Dev) : Frame 16 d (keepF cs g d) := by
  unfold keepF
  refine Frame.foldl ?_ ?_
  · exact (Frame.refl _ _)
  · intro _ _ h1000
    refine Frame.step ?_ (onCh_frame _ _ _) rfl
    exact h1000

theorem setZoneGain_frame (n : Fin 24) (g : Nat) (d : Dev) : Frame 16 d (setZoneGain n g d) := by
  unfold setZoneGain
  refine Frame.step ?_ (onZRx_frame _ _ _) rfl
  refine Frame.step ?_ (setGain_frame _ _ _) rfl
  exact (Frame.refl _ _)

theorem rxField_frame (b : Dev) (d : Dev) : Frame 16 d (rxField b d) := by
  unfold rxField
  refine Frame.step ?_ (markAll_frame _ _ _ _) rfl
  refine Frame.foldl ?_ ?_
  · refine Frame.foldl ?_ ?_
    · exact (Frame.refl _ _)
    · intro _ _ h1000
      refine Frame.ite ?_ ?_
      · refine Frame.step ?_ (keepF_frame _ _ _) rfl
        exact h1000
      · exact h1000
  · intro _ _ h1001
    refine Frame.ite ?_ ?_
    · refine Frame.step ?_ (setZoneGain_frame _ _ _) rfl
      exact h1001
    · exact h1001

theorem withRx_frame {m : Nat} {d0 : Dev} (f : Dev → Dev) (d : Dev) (hm : 80 ||| m = m) (h0 : ∀ x0, Frame m d0 x0 → Frame m d0
    (f x0)) (h : Frame m d0 d) : Frame m d0 (withRx f d) := by
  unfold withRx
  refine Frame.step ?_ (rxField_frame _ _) (Frame.sub rfl hm)
  refine Frame.step ?_ (rxRoles_frame _ _) (Frame.sub rfl hm)
  refine h0 _ ?_
  exact h

theorem probeGainWrite_frame (g : Nat) (d : Dev) : Frame 16 d (probeGainWrite g d) := by
  unfold probeGainWrite
  refine Frame.step ?_ (setGain_frame _ _ _) rfl
  refine Frame.step ?_ (Dev.onRx_frame _ _) rfl
  exact (Frame.refl _ _)

theorem openRx_frame (n : Fin 24) (d : Dev) : Frame 16 d (openRx n d) := by
  unfold openRx
  refine Frame.step ?_ (setZoneGain_frame _ _ _) rfl
  refine Frame.step ?_ (onZRx_frame _ _ _) rfl
  exact (Frame.refl _ _)

theorem probeGainOff_frame (c : Fin 192) (d : Dev) : Frame 16 d (probeGainOff c d) := by
  unfold probeGainOff
  refine Frame.foldl ?_ ?_
  · exact (Frame.refl _ _)
  · intro _ _ h1000
    split
    · refine Frame.step ?_ (onCh_frame _ _ _) rfl
      refine Frame.step ?_ (setGain_frame _ _ _) rfl
      exact h1000
    · exact h1000

theorem probeGainOn_frame (c : Fin 192) (d : Dev) : Frame 16 d (probeGainOn c d) := by
  unfold probeGainOn
  refine Frame.step ?_ (setGain_frame _ _ _) rfl
  refine Frame.foldl ?_ ?_
  · exact (Frame.refl _ _)
  · intro _ _ h1000
    refine Frame.step ?_ (onCh_frame _ _ _) rfl
    exact h1000

theorem freezeLoop_frame (n : Fin 24) (d : Dev) : Frame 16 d (freezeLoop n d) := by
  unfold freezeLoop
  dsimp only
  split
  · refine Frame.ite ?_ ?_
    · refine Frame.step ?_ (onZRx_frame _ _ _) rfl
      refine Frame.foldl ?_ ?_
      · refine Frame.step ?_ (onZRx_frame _ _ _) rfl
        exact (Frame.refl _ _)
      · intro _ _ h1000
        refine Frame.step ?_ (onCh_frame _ _ _) rfl
        exact h1000
    · refine Frame.step ?_ (onZRx_frame _ _ _) rfl
      exact (Frame.refl _ _)
  · refine Frame.step ?_ (onZRx_frame _ _ _) rfl
    exact (Frame.refl _ _)

theorem formChannel_frame (c : Fin 192) (y1 : List Int) (d : Dev) : Frame 16 d (formChannel c y1 d) := by
  unfold formChannel
  refine Frame.ite ?_ ?_
  · refine Frame.step ?_ (Dev.onRx_frame _ _) rfl
    refine Frame.step ?_ (onCh_frame _ _ _) rfl
    exact (Frame.refl _ _)
  · refine Frame.step ?_ (onCh_frame _ _ _) rfl
    exact (Frame.refl _ _)

theorem ownStep_frame (c : Fin 192) (g : Nat) (d : Dev) : Frame 16 d (ownStep c g d) := by
  unfold ownStep
  refine Frame.step ?_ (onCh_frame _ _ _) rfl
  refine Frame.step ?_ (setGain_frame _ _ _) rfl
  exact (Frame.refl _ _)

theorem stepZone_frame (n : Fin 24) (ovr : Bool) (g : Nat) (d : Dev) : Frame 16 d (stepZone n ovr g d) := by
  unfold stepZone
  refine Frame.step ?_ (onZRx_frame _ _ _) rfl
  refine Frame.step ?_ (setZoneGain_frame _ _ _) rfl
  exact (Frame.refl _ _)

end Sys2Proof.Machine
end

