-- ==== Sys2Proof/Laws/KeepLauOps.lean ====
section
/-! SUPPORT. What the operations of Machine/LauOps.lean leave alone. -/

namespace Sys2Proof.Machine
open Sys2Proof

theorem judgeWaits_frame (d : Dev) : Frame 32 d (judgeWaits d) := by
  unfold judgeWaits
  refine Frame.step ?_ (Dev.onLau_frame _ _) rfl
  exact (Frame.refl _ _)

theorem applyClass_frame (n : Fin 24) (c : LClass) (y2 : Nat) (d : Dev) : Frame 32 d (applyClass n c y2 d) := by
  unfold applyClass
  refine Frame.step ?_ (Dev.onLau_frame _ _) rfl
  exact (Frame.refl _ _)

theorem request_frame (n : Fin 24) (c : LClass) (y2 : Nat) (d : Dev) : Frame 32 d (request n c y2 d) := by
  unfold request
  refine Frame.ite ?_ ?_
  · refine Frame.step ?_ (applyClass_frame _ _ _ _) rfl
    exact (Frame.refl _ _)
  · refine Frame.step ?_ (judgeWaits_frame _) rfl
    refine Frame.step ?_ (Dev.onLau_frame _ _) rfl
    exact (Frame.refl _ _)

theorem onLz_frame (n : Fin 24) (f : LZone → LZone) (d : Dev) : Frame 32 d (onLz n f d) := by
  unfold onLz
  refine Frame.step ?_ (Dev.onLau_frame _ _) rfl
  exact (Frame.refl _ _)

theorem clearHold_frame (n : Fin 24) (d : Dev) : Frame 32 d (clearHold n d) := by
  unfold clearHold
  dsimp only
  split
  · refine Frame.ite ?_ ?_
    · refine Frame.step ?_ (request_frame _ _ _ _) rfl
      refine Frame.step ?_ (onLz_frame _ _ _) rfl
      refine Frame.step ?_ (onLz_frame _ _ _) rfl
      exact (Frame.refl _ _)
    · refine Frame.step ?_ (onLz_frame _ _ _) rfl
      exact (Frame.refl _ _)
  · refine Frame.step ?_ (onLz_frame _ _ _) rfl
    exact (Frame.refl _ _)

theorem serveProbe_frame (d : Dev) : Frame 32 d (serveProbe d) := by
  unfold serveProbe
  refine Frame.step ?_ (Dev.onLau_frame _ _) rfl
  exact (Frame.refl _ _)

theorem lauClose_frame (n : Fin 24) (d : Dev) : Frame 32 d (lauClose n d) := by
  unfold lauClose
  refine Frame.step ?_ (serveProbe_frame _) rfl
  refine Frame.step ?_ (Dev.onLau_frame _ _) rfl
  exact (Frame.refl _ _)

theorem engOff_frame (stop : Nat → Bool) (d : Dev) : Frame 32 d (engOff stop d) := by
  unfold engOff
  refine Frame.step ?_ (Dev.onLau_frame _ _) rfl
  exact (Frame.refl _ _)

theorem trimProbe_frame (d : Dev) : Frame 32 d (trimProbe d) := by
  unfold trimProbe
  refine Frame.step ?_ (Dev.onLau_frame _ _) rfl
  exact (Frame.refl _ _)

theorem engOn_frame (cs : List (Fin 192)) (d : Dev) : Frame 32 d (engOn cs d) := by
  unfold engOn
  refine Frame.step ?_ (Dev.onLau_frame _ _) rfl
  exact (Frame.refl _ _)

theorem kilnDet_frame (n : Fin 24) (d : Dev) : Frame 131072 d (kilnDet n d) := by
  unfold kilnDet
  refine Frame.step ?_ (Dev.onKiln_frame _ _) rfl
  exact (Frame.refl _ _)

theorem grantTo_frame (n : Fin 24) (r : LReq) (d : Dev) : Frame 32 d (grantTo n r d) := by
  unfold grantTo
  refine Frame.step ?_ (Dev.onLau_frame _ _) rfl
  exact (Frame.refl _ _)

theorem grantHead_frame (d : Dev) : Frame 32 d (grantHead d) := by
  unfold grantHead
  dsimp only
  split
  · refine Frame.step ?_ (serveProbe_frame _) rfl
    exact (Frame.refl _ _)
  · split
    · refine Frame.ite ?_ ?_
      · refine Frame.step ?_ (grantTo_frame _ _ _) rfl
        refine Frame.step ?_ (serveProbe_frame _) rfl
        exact (Frame.refl _ _)
      · refine Frame.step ?_ (serveProbe_frame _) rfl
        exact (Frame.refl _ _)
    · refine Frame.step ?_ (Dev.onLau_frame _ _) rfl
      refine Frame.step ?_ (serveProbe_frame _) rfl
      exact (Frame.refl _ _)

theorem kilnFrame_frame (n : Fin 24) (valid : Bool) (d : Dev) : Frame 131072 d (kilnFrame n valid d) := by
  unfold kilnFrame
  refine Frame.step ?_ (Dev.onKiln_frame _ _) rfl
  exact (Frame.refl _ _)

theorem lauOff_frame (d : Dev) : Frame 32 d (lauOff d) := by
  unfold lauOff
  refine Frame.step ?_ (Dev.onLau_frame _ _) rfl
  exact (Frame.refl _ _)

end Sys2Proof.Machine
end

