-- ==== Sys2Proof/Laws/KeepProbeOps.lean ====
section
/-! SUPPORT. What the operations of Machine/ProbeOps.lean leave alone. -/

namespace Sys2Proof.Machine
open Sys2Proof

theorem submit_frame (r : PResult) (d : Dev) : Frame 128 d (submit r d) := by
  unfold submit
  refine Frame.step ?_ (Dev.onSf_frame _ _) rfl
  exact (Frame.refl _ _)

theorem clearBaselines_frame (d : Dev) : Frame 64 d (clearBaselines d) := by
  unfold clearBaselines
  refine Frame.step ?_ (Dev.onPrb_frame _ _) rfl
  exact (Frame.refl _ _)

theorem dropBursts_frame (stop : Fin 192 → Bool) (d : Dev) : Frame 116 d (dropBursts stop d) := by
  unfold dropBursts
  refine Frame.step ?_ (Dev.onPrb_frame _ _) rfl
  refine Frame.step ?_ (Dev.onDrv_frame _ _) rfl
  refine Frame.step ?_ (markAll_frame _ _ _ _) rfl
  refine Frame.foldl ?_ ?_
  · refine Frame.step ?_ (engOff_frame _ _) rfl
    exact (Frame.refl _ _)
  · intro _ _ h1000
    refine Frame.step ?_ (probeGainOff_frame _ _) rfl
    exact h1000

theorem restartImage_frame (ok : Fin 24 → Bool) (im : Image) (v : Cplx) (d : Dev) : Frame 64 d (restartImage ok im v d) := by
  unfold restartImage
  refine Frame.step ?_ (Dev.onPrb_frame _ _) rfl
  exact (Frame.refl _ _)

theorem onPrbC_frame (c : Fin 192) (f : PrbC → PrbC) (d : Dev) : Frame 64 d (onPrbC c f d) := by
  unfold onPrbC
  refine Frame.step ?_ (Dev.onPrb_frame _ _) rfl
  exact (Frame.refl _ _)

theorem endImage_frame (t : Nat) (d : Dev) : Frame 18874432 d (endImage t d) := by
  unfold endImage
  refine Frame.step ?_ (msgSc_frame _ _) rfl
  refine Frame.step ?_ (Dev.onPrb_frame _ _) rfl
  refine Frame.foldl ?_ ?_
  · exact (Frame.refl _ _)
  · intro _ _ h1000
    refine Frame.step ?_ (onPrbC_frame _ _ _) rfl
    exact h1000

theorem falseTrigger_frame (im : Image) (d : Dev) : Frame 18874432 d (falseTrigger im d) := by
  unfold falseTrigger
  refine Frame.step ?_ (endImage_frame _ _) rfl
  refine Frame.step ?_ (Dev.onPrb_frame _ _) rfl
  exact (Frame.refl _ _)

theorem unoccupy_frame (coils : List Nat) (d : Dev) : Frame 64 d (unoccupy coils d) := by
  unfold unoccupy
  refine Frame.foldl ?_ ?_
  · exact (Frame.refl _ _)
  · intro _ _ h1000
    split
    · refine Frame.step ?_ (onPrbC_frame _ _ _) rfl
      exact h1000
    · exact h1000

theorem unholdBy_frame (i : Nat) (coils : List Nat) (d : Dev) : Frame 64 d (unholdBy i coils d) := by
  unfold unholdBy
  refine Frame.step ?_ (unoccupy_frame _ _) rfl
  exact (Frame.refl _ _)

theorem occupy_frame (coils : List Nat) (got : List (Nat × Cplx)) (d : Dev) : Frame 64 d (occupy coils got d) := by
  unfold occupy
  refine Frame.foldl ?_ ?_
  · exact (Frame.refl _ _)
  · intro _ _ h1000
    split
    · refine Frame.step ?_ (onPrbC_frame _ _ _) rfl
      exact h1000
    · exact h1000

theorem confirm_frame (im : Image) (moving : Bool) (d : Dev) : Frame 18874560 d (confirm im moving d) := by
  unfold confirm
  split
  · refine Frame.step ?_ (endImage_frame _ _) rfl
    refine Frame.step ?_ (submit_frame _ _) rfl
    refine Frame.foldl ?_ ?_
    · refine Frame.step ?_ (unholdBy_frame _ _ _) rfl
      exact (Frame.refl _ _)
    · intro _ _ h1000
      refine Frame.step ?_ (occupy_frame _ _ _) rfl
      exact h1000
  · refine Frame.step ?_ (endImage_frame _ _) rfl
    refine Frame.foldl ?_ ?_
    · exact (Frame.refl _ _)
    · intro _ _ h1001
      refine Frame.step ?_ (submit_frame _ _) rfl
      refine Frame.step ?_ (occupy_frame _ _ _) rfl
      exact h1001

theorem decideImage_frame (ok : Fin 24 → Bool) (im0 : Image) (d : Dev) : Frame 18874560 d (decideImage ok im0 d) := by
  unfold decideImage
  dsimp only
  split
  · refine Frame.step ?_ (falseTrigger_frame _ _) rfl
    exact (Frame.refl _ _)
  · split
    · refine Frame.ite ?_ ?_
      · refine Frame.step ?_ (endImage_frame _ _) rfl
        refine Frame.step ?_ (submit_frame _ _) rfl
        refine Frame.step ?_ (unholdBy_frame _ _ _) rfl
        exact (Frame.refl _ _)
      · refine Frame.ite ?_ ?_
        · refine Frame.step ?_ (restartImage_frame _ _ _ _) rfl
          exact (Frame.refl _ _)
        · refine Frame.step ?_ (confirm_frame _ _ _) rfl
          exact (Frame.refl _ _)
    · refine Frame.ite ?_ ?_
      · refine Frame.step ?_ (falseTrigger_frame _ _) rfl
        exact (Frame.refl _ _)
      · refine Frame.ite ?_ ?_
        · refine Frame.step ?_ (restartImage_frame _ _ _ _) rfl
          exact (Frame.refl _ _)
        · refine Frame.step ?_ (confirm_frame _ _ _) rfl
          exact (Frame.refl _ _)

theorem decideClose_frame (im : Image) (e : List Nat) (cause : Nat) (d : Dev) : Frame 18874560 d (decideClose im e cause d) := by
  unfold decideClose
  refine Frame.step ?_ (endImage_frame _ _) rfl
  refine Frame.step ?_ (submit_frame _ _) rfl
  refine Frame.step ?_ (occupy_frame _ _ _) rfl
  exact (Frame.refl _ _)

theorem advanceImages_frame (a0 : Fin 24 → Bool) (a1 : Nat) (a2 : List Nat) (a3 : Dev) : Frame 18874560 a3 (advanceImages a0
    a1 a2 a3) := by
  induction a1 generalizing a2 a3 with
  | zero => cases a2 <;> exact Frame.refl _ _
  | succ k ih =>
    cases a2 with
    | nil => exact Frame.refl _ _
    | cons t ts =>
      unfold advanceImages
      split
      · exact ih _ _
      · refine Frame.ite (ih _ _) ?_
        split
        · exact Frame.step (Frame.step (Frame.refl _ _) (Dev.onPrb_frame _ _) rfl) (ih _ _) rfl
        · refine Frame.step ?_ (ih _ _) rfl
          split <;> first | exact Frame.step (Frame.refl _ _) (decideClose_frame _ _ _ _) rfl | exact Frame.step (Frame.refl _ _) (decideImage_frame _ _ _) rfl

theorem retake_frame (coils : List Nat) (d : Dev) : Frame 64 d (retake coils d) := by
  unfold retake
  refine Frame.foldl ?_ ?_
  · exact (Frame.refl _ _)
  · intro _ _ h1000
    split
    · refine Frame.step ?_ (onPrbC_frame _ _ _) rfl
      exact h1000
    · exact h1000

theorem burstsOff_frame (d : Dev) : Frame 48 d (burstsOff d) := by
  unfold burstsOff
  refine Frame.step ?_ (markAll_frame _ _ _ _) rfl
  refine Frame.foldl ?_ ?_
  · refine Frame.step ?_ (engOff_frame _ _) rfl
    exact (Frame.refl _ _)
  · intro _ _ h1000
    refine Frame.step ?_ (probeGainOff_frame _ _) rfl
    exact h1000

theorem burstsOn_frame (d : Dev) : Frame 48 d (burstsOn d) := by
  unfold burstsOn
  refine Frame.step ?_ (markAll_frame _ _ _ _) rfl
  refine Frame.foldl ?_ ?_
  · refine Frame.step ?_ (engOn_frame _ _) rfl
    exact (Frame.refl _ _)
  · intro _ _ h1000
    refine Frame.step ?_ (probeGainOn_frame _ _) rfl
    exact h1000

theorem startPass_frame (d : Dev) : Frame 64 d (startPass d) := by
  unfold startPass
  refine Frame.step ?_ (Dev.onPrb_frame _ _) rfl
  exact (Frame.refl _ _)

theorem driftBase_frame (r : Reading) (d : Dev) : Frame 64 d (driftBase r d) := by
  unfold driftBase
  refine Frame.step ?_ (onPrbC_frame _ _ _) rfl
  exact (Frame.refl _ _)

theorem eligAll_frame (d : Dev) : Frame 64 d (eligAll d) := by
  unfold eligAll
  refine Frame.step ?_ (Dev.onPrb_frame _ _) rfl
  exact (Frame.refl _ _)

theorem trigger_frame (c : Fin 192) (v : Option Cplx) (k : ImgKind) (d : Dev) : Frame 18874432 d (trigger c v k d) := by
  unfold trigger
  refine Frame.step ?_ (msgSc_frame _ _) rfl
  refine Frame.step ?_ (Dev.onPrb_frame _ _) rfl
  refine Frame.step ?_ (onPrbC_frame _ _ _) rfl
  exact (Frame.refl _ _)

theorem takeHandover_frame (d : Dev) : Frame 18874432 d (takeHandover d) := by
  unfold takeHandover
  split
  · split
    · refine Frame.step ?_ (trigger_frame _ _ _ _) rfl
      refine Frame.step ?_ (Dev.onPrb_frame _ _) rfl
      exact (Frame.refl _ _)
    · refine Frame.step ?_ (Dev.onPrb_frame _ _) rfl
      exact (Frame.refl _ _)
  · exact (Frame.refl _ _)

theorem startImages_frame (ok : Fin 24 → Bool) (d : Dev) : Frame 64 d (startImages ok d) := by
  unfold startImages
  refine Frame.foldl ?_ ?_
  · exact (Frame.refl _ _)
  · intro _ _ h1000
    split
    · exact h1000
    · refine Frame.ite ?_ ?_
      · refine Frame.step ?_ (onPrbC_frame _ _ _) rfl
        refine Frame.step ?_ (Dev.onPrb_frame _ _) rfl
        exact h1000
      · refine Frame.ite ?_ ?_
        · exact h1000
        · refine Frame.ite ?_ ?_
          · refine Frame.step ?_ (Dev.onPrb_frame _ _) rfl
            exact h1000
          · exact h1000

theorem pickImages_frame (ok : Fin 24 → Bool) (d : Dev) : Frame 64 d (pickImages ok d) := by
  unfold pickImages
  refine Frame.foldl ?_ ?_
  · exact (Frame.refl _ _)
  · intro _ _ h1000
    split
    · exact h1000
    · refine Frame.ite ?_ ?_
      · refine Frame.step ?_ (Dev.onPrb_frame _ _) rfl
        exact h1000
      · refine Frame.ite ?_ ?_
        · refine Frame.step ?_ (Dev.onPrb_frame _ _) rfl
          exact h1000
        · exact h1000

theorem pickRotation_frame (ok : Fin 24 → Bool) (d : Dev) : Frame 64 d (pickRotation ok d) := by
  unfold pickRotation
  refine Frame.foldl ?_ ?_
  · exact (Frame.refl _ _)
  · intro _ _ h1000
    split
    · exact h1000
    · refine Frame.ite ?_ ?_
      · exact h1000
      · refine Frame.ite ?_ ?_
        · refine Frame.step ?_ (Dev.onPrb_frame _ _) rfl
          exact h1000
        · refine Frame.ite ?_ ?_
          · refine Frame.step ?_ (Dev.onPrb_frame _ _) rfl
            exact h1000
          · exact h1000

theorem seedBase_frame (r : Reading) (v : Cplx) (d : Dev) : Frame 64 d (seedBase r v d) := by
  unfold seedBase
  refine Frame.ite ?_ ?_
  · refine Frame.step ?_ (onPrbC_frame _ _ _) rfl
    exact (Frame.refl _ _)
  · refine Frame.step ?_ (onPrbC_frame _ _ _) rfl
    exact (Frame.refl _ _)

theorem takeReading_frame (b : Burst) (r : Reading) (d : Dev) : Frame 18874432 d (takeReading b r d) := by
  unfold takeReading
  split
  · refine Frame.ite ?_ ?_
    · refine Frame.step ?_ (driftBase_frame _ _) rfl
      refine Frame.step ?_ (Dev.onPrb_frame _ _) rfl
      exact (Frame.refl _ _)
    · refine Frame.step ?_ (Dev.onPrb_frame _ _) rfl
      exact (Frame.refl _ _)
  · split
    · refine Frame.step ?_ (driftBase_frame _ _) rfl
      refine Frame.step ?_ (Dev.onPrb_frame _ _) rfl
      refine Frame.ite ?_ ?_
      · refine Frame.step ?_ (onPrbC_frame _ _ _) rfl
        refine Frame.step ?_ (Dev.onPrb_frame _ _) rfl
        refine Frame.step ?_ (onPrbC_frame _ _ _) rfl
        refine Frame.ite ?_ ?_
        · refine Frame.step ?_ (Dev.onPrb_frame _ _) rfl
          exact (Frame.refl _ _)
        · refine Frame.step ?_ (seedBase_frame _ _ _) rfl
          refine Frame.step ?_ (Dev.onPrb_frame _ _) rfl
          exact (Frame.refl _ _)
      · refine Frame.step ?_ (Dev.onPrb_frame _ _) rfl
        refine Frame.step ?_ (onPrbC_frame _ _ _) rfl
        refine Frame.ite ?_ ?_
        · refine Frame.step ?_ (Dev.onPrb_frame _ _) rfl
          exact (Frame.refl _ _)
        · refine Frame.step ?_ (seedBase_frame _ _ _) rfl
          refine Frame.step ?_ (Dev.onPrb_frame _ _) rfl
          exact (Frame.refl _ _)
    · refine Frame.ite ?_ ?_
      · split
        · refine Frame.step ?_ (onPrbC_frame _ _ _) rfl
          refine Frame.step ?_ (Dev.onPrb_frame _ _) rfl
          refine Frame.step ?_ (onPrbC_frame _ _ _) rfl
          refine Frame.ite ?_ ?_
          · refine Frame.step ?_ (Dev.onPrb_frame _ _) rfl
            exact (Frame.refl _ _)
          · refine Frame.step ?_ (seedBase_frame _ _ _) rfl
            refine Frame.step ?_ (Dev.onPrb_frame _ _) rfl
            exact (Frame.refl _ _)
        · refine Frame.ite ?_ ?_
          · refine Frame.step ?_ (onPrbC_frame _ _ _) rfl
            refine Frame.step ?_ (Dev.onPrb_frame _ _) rfl
            refine Frame.step ?_ (onPrbC_frame _ _ _) rfl
            refine Frame.ite ?_ ?_
            · refine Frame.step ?_ (Dev.onPrb_frame _ _) rfl
              exact (Frame.refl _ _)
            · refine Frame.step ?_ (seedBase_frame _ _ _) rfl
              refine Frame.step ?_ (Dev.onPrb_frame _ _) rfl
              exact (Frame.refl _ _)
          · refine Frame.ite ?_ ?_
            · split
              · refine Frame.step ?_ (trigger_frame _ _ _ _) rfl
                refine Frame.step ?_ (Dev.onPrb_frame _ _) rfl
                refine Frame.step ?_ (onPrbC_frame _ _ _) rfl
                refine Frame.ite ?_ ?_
                · refine Frame.step ?_ (Dev.onPrb_frame _ _) rfl
                  exact (Frame.refl _ _)
                · refine Frame.step ?_ (seedBase_frame _ _ _) rfl
                  refine Frame.step ?_ (Dev.onPrb_frame _ _) rfl
                  exact (Frame.refl _ _)
              · refine Frame.step ?_ (trigger_frame _ _ _ _) rfl
                refine Frame.step ?_ (onPrbC_frame _ _ _) rfl
                refine Frame.step ?_ (Dev.onPrb_frame _ _) rfl
                refine Frame.step ?_ (onPrbC_frame _ _ _) rfl
                refine Frame.ite ?_ ?_
                · refine Frame.step ?_ (Dev.onPrb_frame _ _) rfl
                  exact (Frame.refl _ _)
                · refine Frame.step ?_ (seedBase_frame _ _ _) rfl
                  refine Frame.step ?_ (Dev.onPrb_frame _ _) rfl
                  exact (Frame.refl _ _)
            · refine Frame.step ?_ (Dev.onPrb_frame _ _) rfl
              refine Frame.step ?_ (onPrbC_frame _ _ _) rfl
              refine Frame.ite ?_ ?_
              · refine Frame.step ?_ (Dev.onPrb_frame _ _) rfl
                exact (Frame.refl _ _)
              · refine Frame.step ?_ (seedBase_frame _ _ _) rfl
                refine Frame.step ?_ (Dev.onPrb_frame _ _) rfl
                exact (Frame.refl _ _)
      · refine Frame.ite ?_ ?_
        · refine Frame.ite ?_ ?_
          · refine Frame.step ?_ (Dev.onPrb_frame _ _) rfl
            refine Frame.step ?_ (onPrbC_frame _ _ _) rfl
            refine Frame.ite ?_ ?_
            · refine Frame.step ?_ (Dev.onPrb_frame _ _) rfl
              exact (Frame.refl _ _)
            · refine Frame.step ?_ (seedBase_frame _ _ _) rfl
              refine Frame.step ?_ (Dev.onPrb_frame _ _) rfl
              exact (Frame.refl _ _)
          · refine Frame.step ?_ (trigger_frame _ _ _ _) rfl
            refine Frame.step ?_ (Dev.onPrb_frame _ _) rfl
            refine Frame.step ?_ (onPrbC_frame _ _ _) rfl
            refine Frame.ite ?_ ?_
            · refine Frame.step ?_ (Dev.onPrb_frame _ _) rfl
              exact (Frame.refl _ _)
            · refine Frame.step ?_ (seedBase_frame _ _ _) rfl
              refine Frame.step ?_ (Dev.onPrb_frame _ _) rfl
              exact (Frame.refl _ _)
        · refine Frame.step ?_ (driftBase_frame _ _) rfl
          refine Frame.step ?_ (Dev.onPrb_frame _ _) rfl
          refine Frame.step ?_ (onPrbC_frame _ _ _) rfl
          refine Frame.ite ?_ ?_
          · refine Frame.step ?_ (Dev.onPrb_frame _ _) rfl
            exact (Frame.refl _ _)
          · refine Frame.step ?_ (seedBase_frame _ _ _) rfl
            refine Frame.step ?_ (Dev.onPrb_frame _ _) rfl
            exact (Frame.refl _ _)

theorem passEnd_frame (d : Dev) : Frame 64 d (passEnd d) := by
  unfold passEnd
  refine Frame.ite ?_ ?_
  · refine Frame.step ?_ (startPass_frame _) rfl
    refine Frame.step ?_ (Dev.onPrb_frame _ _) rfl
    exact (Frame.refl _ _)
  · exact (Frame.refl _ _)

theorem slotBoundary_frame (ok : Fin 24 → Bool) (rs : List Reading) (d : Dev) : Frame 18874612 d (slotBoundary ok rs d) := by
  unfold slotBoundary
  refine Frame.step ?_ (rewords_frame _) rfl
  refine Frame.step ?_ (burstsOn_frame _) rfl
  refine Frame.ite ?_ ?_
  · refine Frame.step ?_ (pickRotation_frame _ _) rfl
    refine Frame.step ?_ (passEnd_frame _) rfl
    refine Frame.step ?_ (pickImages_frame _ _) rfl
    refine Frame.step ?_ (trimProbe_frame _) rfl
    refine Frame.step ?_ (advanceImages_frame _ _ _ _) rfl
    refine Frame.step ?_ (startImages_frame _ _) rfl
    refine Frame.step ?_ (advanceImages_frame _ _ _ _) rfl
    refine Frame.step ?_ (Dev.onPrb_frame _ _) rfl
    refine Frame.step ?_ (takeHandover_frame _) rfl
    refine Frame.step ?_ (eligAll_frame _) rfl
    refine Frame.foldl ?_ ?_
    · refine Frame.step ?_ (burstsOff_frame _) rfl
      exact (Frame.refl _ _)
    · intro _ _ h1000
      split
      · refine Frame.step ?_ (takeReading_frame _ _ _) rfl
        exact h1000
      · split
        · refine Frame.step ?_ (takeReading_frame _ _ _) rfl
          exact h1000
        · exact h1000
  · refine Frame.step ?_ (pickImages_frame _ _) rfl
    refine Frame.step ?_ (trimProbe_frame _) rfl
    refine Frame.step ?_ (advanceImages_frame _ _ _ _) rfl
    refine Frame.step ?_ (startImages_frame _ _) rfl
    refine Frame.step ?_ (advanceImages_frame _ _ _ _) rfl
    refine Frame.step ?_ (Dev.onPrb_frame _ _) rfl
    refine Frame.step ?_ (takeHandover_frame _) rfl
    refine Frame.step ?_ (eligAll_frame _) rfl
    refine Frame.foldl ?_ ?_
    · refine Frame.step ?_ (burstsOff_frame _) rfl
      exact (Frame.refl _ _)
    · intro _ _ h1001
      split
      · refine Frame.step ?_ (takeReading_frame _ _ _) rfl
        exact h1001
      · split
        · refine Frame.step ?_ (takeReading_frame _ _ _) rfl
          exact h1001
        · exact h1001

end Sys2Proof.Machine
end

