-- ==== Sys2Proof/Laws/KeepZoneOps.lean ====
section
/-! SUPPORT. What the operations of Machine/ZoneOps.lean leave alone. -/

namespace Sys2Proof.Machine
open Sys2Proof

theorem endHfTest_frame (cut : Bool) (st : Status) (d : Dev) : Frame 23330837 d (endHfTest cut st d) := by
  unfold endHfTest
  split
  · refine Frame.ite ?_ ?_
    · exact (Frame.refl _ _)
    · split
      · refine Frame.step ?_ (fail_frame _ _ _) rfl
        refine Frame.step ?_ (markAll_frame _ _ _ _) rfl
        refine Frame.step ?_ (rewords_frame _) rfl
        refine Frame.step ?_ (Dev.onMode_frame _ _) rfl
        exact (Frame.refl _ _)
      · refine Frame.step ?_ (markAll_frame _ _ _ _) rfl
        refine Frame.step ?_ (rewords_frame _) rfl
        refine Frame.step ?_ (Dev.onMode_frame _ _) rfl
        exact (Frame.refl _ _)
  · exact (Frame.refl _ _)

theorem onFr_frame (n : Fin 24) (f : Framer → Framer) (d : Dev) : Frame 256 d (onFr n f d) := by
  unfold onFr
  refine Frame.step ?_ (Dev.onHf_frame _ _) rfl
  exact (Frame.refl _ _)

theorem captureFrame_frame (n : Fin 24) (d : Dev) : Frame 23068672 d (captureFrame n d) := by
  unfold captureFrame
  refine Frame.ite ?_ ?_
  · exact (Frame.refl _ _)
  · refine Frame.step ?_ (pushItem_frame _ _ _ _) rfl
    exact (Frame.refl _ _)

theorem onZone_frame (n : Fin 24) (f : ZoneEng → ZoneEng) (d : Dev) : Frame 128 d (onZone n f d) := by
  unfold onZone
  refine Frame.step ?_ (Dev.onSf_frame _ _) rfl
  exact (Frame.refl _ _)

theorem countWrunk_frame (i : Nat) (d : Dev) : Frame 256 d (countWrunk i d) := by
  unfold countWrunk
  split
  · split
    · refine Frame.step ?_ (onFr_frame _ _ _) rfl
      exact (Frame.refl _ _)
    · exact (Frame.refl _ _)
  · exact (Frame.refl _ _)

theorem finishX_frame (tag : Fin 32) (st : Status) (detail : Nat) (d : Dev) : Frame 23331072 d (finishX tag st detail d) := by
  unfold finishX
  split
  · exact (Frame.refl _ _)
  · refine Frame.ite ?_ ?_
    · refine Frame.step ?_ (complete_frame _ _ _ _) rfl
      refine Frame.ite ?_ ?_
      · refine Frame.step ?_ (countWrunk_frame _ _) rfl
        exact (Frame.refl _ _)
      · exact (Frame.refl _ _)
    · refine Frame.ite ?_ ?_
      · refine Frame.step ?_ (complete_frame _ _ _ _) rfl
        refine Frame.ite ?_ ?_
        · refine Frame.step ?_ (countWrunk_frame _ _) rfl
          exact (Frame.refl _ _)
        · exact (Frame.refl _ _)
      · refine Frame.step ?_ (complete_frame _ _ _ _) rfl
        refine Frame.ite ?_ ?_
        · refine Frame.step ?_ (countWrunk_frame _ _) rfl
          exact (Frame.refl _ _)
        · exact (Frame.refl _ _)

theorem onEntry_frame (i : Nat) (f : Entry → Entry) (d : Dev) : Frame 128 d (onEntry i f d) := by
  unfold onEntry
  refine Frame.dite ?_ ?_
  · intro _
    refine Frame.step ?_ (Dev.onSf_frame _ _) rfl
    exact (Frame.refl _ _)
  · intro _
    exact (Frame.refl _ _)

theorem pushPower_frame (i : Nat) (st : Nat) (cause : Nat) (d : Dev) : Frame 23068672 d (pushPower i st cause d) := by
  unfold pushPower
  refine Frame.step ?_ (pushPt_frame _ _ _) rfl
  exact (Frame.refl _ _)

theorem powerStop_frame (cause : Nat) (d : Dev) (i : Nat) : Frame 23068800 d (powerStop cause d i) := by
  unfold powerStop
  split
  · refine Frame.ite ?_ ?_
    · refine Frame.step ?_ (pushPower_frame _ _ _ _) rfl
      refine Frame.step ?_ (onEntry_frame _ _ _) rfl
      exact (Frame.refl _ _)
    · exact (Frame.refl _ _)
  · exact (Frame.refl _ _)

theorem stopX_frame (st : Status) (detail : Nat) (d : Dev) (tag : Fin 32) : Frame 23331072 d (stopX st detail d tag) := by
  unfold stopX
  split
  · exact (Frame.refl _ _)
  · refine Frame.ite ?_ ?_
    · refine Frame.step ?_ (finishX_frame _ _ _ _) rfl
      exact (Frame.refl _ _)
    · refine Frame.step ?_ (finishX_frame _ _ _ _) rfl
      exact (Frame.refl _ _)

theorem freeCoils_frame (n : Fin 24) (d : Dev) : Frame 4 d (freeCoils n d) := by
  unfold freeCoils
  refine Frame.step ?_ (Dev.onDrv_frame _ _) rfl
  exact (Frame.refl _ _)

theorem returnCoils_frame (n : Fin 24) (d : Dev) : Frame 92 d (returnCoils n d) := by
  unfold returnCoils
  refine Frame.ite ?_ ?_
  · exact (Frame.refl _ _)
  · refine withRxRoles_frame _ _ rfl ?_ ?_
    · intro _ h1000
      refine Frame.step ?_ (redrive_frame _) rfl
      refine Frame.step ?_ (onTxZ_frame _ _ _) rfl
      refine Frame.step ?_ (freeCoils_frame _ _) rfl
      exact h1000
    · exact (Frame.refl _ _)

theorem cqClose_frame (n : Fin 24) (d : Dev) : Frame 4194304 d (cqClose n d) := by
  unfold cqClose
  refine Frame.step ?_ (Dev.onQs_frame _ _) rfl
  exact (Frame.refl _ _)

theorem closeZone_frame (n : Fin 24) (cause : Nat) (st : Option (Status × Nat)) (d : Dev) : Frame 31719932 d (closeZone n
    cause st d) := by
  unfold closeZone
  refine Frame.ite ?_ ?_
  · exact (Frame.refl _ _)
  · refine Frame.step ?_ (submit_frame _ _) rfl
    refine Frame.step ?_ (cqClose_frame _ _) rfl
    refine Frame.step ?_ (returnCoils_frame _ _) rfl
    refine Frame.step ?_ (Dev.onTim_frame _ _) rfl
    refine Frame.step ?_ (onZRx_frame _ _ _) rfl
    refine Frame.step ?_ (onFr_frame _ _ _) rfl
    refine Frame.step ?_ (lauClose_frame _ _) rfl
    refine withRx_frame _ _ rfl ?_ ?_
    · intro _ h1000
      refine Frame.step ?_ (fieldOff_frame _ _) rfl
      exact h1000
    · refine Frame.step ?_ (onZone_frame _ _ _) rfl
      split
      · refine Frame.foldl ?_ ?_
        · refine Frame.foldl ?_ ?_
          · exact (Frame.refl _ _)
          · intro _ _ h1001
            refine Frame.step ?_ (powerStop_frame _ _ _) rfl
            exact h1001
        · intro _ _ h1002
          refine Frame.step ?_ (stopX_frame _ _ _ _) rfl
          exact h1002
      · refine Frame.foldl ?_ ?_
        · exact (Frame.refl _ _)
        · intro _ _ h1003
          refine Frame.step ?_ (powerStop_frame _ _ _) rfl
          exact h1003

theorem cqOpen_frame (n : Fin 24) (d : Dev) : Frame 4194304 d (cqOpen n d) := by
  unfold cqOpen
  refine Frame.step ?_ (Dev.onQs_frame _ _) rfl
  exact (Frame.refl _ _)

theorem grantCoils_frame (n : Fin 24) (d : Dev) : Frame 4 d (grantCoils n d) := by
  unfold grantCoils
  refine Frame.step ?_ (Dev.onDrv_frame _ _) rfl
  exact (Frame.refl _ _)

theorem pcmpOpen_frame (n : Fin 24) (d : Dev) : Frame 2 d (pcmpOpen n d) := by
  unfold pcmpOpen
  refine Frame.step ?_ (Dev.onTb_frame _ _) rfl
  exact (Frame.refl _ _)

theorem clearZoneSrc_frame (n : Fin 24) (d : Dev) : Frame 2097152 d (clearZoneSrc n d) := by
  unfold clearZoneSrc
  refine Frame.step ?_ (Dev.onEvr_frame _ _) rfl
  exact (Frame.refl _ _)

theorem openZone_frame (n : Fin 24) (d : Dev) : Frame 14680574 d (openZone n d) := by
  unfold openZone
  refine Frame.ite ?_ ?_
  · exact (Frame.refl _ _)
  · refine Frame.ite ?_ ?_
    · refine Frame.step ?_ (onZone_frame _ _ _) rfl
      exact (Frame.refl _ _)
    · refine Frame.step ?_ (clearZoneSrc_frame _ _) rfl
      refine Frame.step ?_ (cqOpen_frame _ _) rfl
      refine Frame.step ?_ (Dev.onTim_frame _ _) rfl
      refine Frame.step ?_ (pcmpOpen_frame _ _) rfl
      refine Frame.step ?_ (onFr_frame _ _ _) rfl
      refine Frame.step ?_ (onLz_frame _ _ _) rfl
      refine Frame.step ?_ (openRx_frame _ _) rfl
      refine Frame.step ?_ (onTxZ_frame _ _ _) rfl
      refine Frame.step ?_ (onZone_frame _ _ _) rfl
      refine withRxRoles_frame _ _ rfl ?_ ?_
      · intro _ h1000
        refine Frame.step ?_ (redrive_frame _) rfl
        refine Frame.step ?_ (grantCoils_frame _ _) rfl
        exact h1000
      · exact (Frame.refl _ _)

theorem startTimers_frame (n : Fin 24) (e : Nat) (d : Dev) : Frame 8388608 d (startTimers n e d) := by
  unfold startTimers
  refine Frame.step ?_ (Dev.onTim_frame _ _) rfl
  exact (Frame.refl _ _)

theorem closeAll_frame (cause : Nat) (st : Option (Status × Nat)) (d : Dev) : Frame 31719932 d (closeAll cause st d) := by
  unfold closeAll
  refine Frame.foldl ?_ ?_
  · exact (Frame.refl _ _)
  · intro _ _ h1000
    refine Frame.step ?_ (returnCoils_frame _ _) rfl
    refine Frame.step ?_ (closeZone_frame _ _ _ _) rfl
    exact h1000

theorem closeDone_frame (n : Fin 24) (d : Dev) : Frame 220 d (closeDone n d) := by
  unfold closeDone
  refine Frame.ite ?_ ?_
  · exact (Frame.refl _ _)
  · refine Frame.step ?_ (submit_frame _ _) rfl
    refine Frame.step ?_ (onZone_frame _ _ _) rfl
    refine Frame.step ?_ (returnCoils_frame _ _) rfl
    exact (Frame.refl _ _)

end Sys2Proof.Machine
end

