-- ==== Sys2Proof/Laws/KeepTuneOps.lean ====
section
/-! SUPPORT. What the operations of Machine/TuneOps.lean leave alone. -/

namespace Sys2Proof.Machine
open Sys2Proof

theorem lzReq_frame (n : Fin 24) (cls : Nat) (y2 : Nat) (d : Dev) : Frame 32 d (lzReq n cls y2 d) := by
  unfold lzReq
  refine Frame.ite ?_ ?_
  · refine Frame.step ?_ (onLz_frame _ _ _) rfl
    exact (Frame.refl _ _)
  · refine Frame.ite ?_ ?_
    · refine Frame.step ?_ (onLz_frame _ _ _) rfl
      exact (Frame.refl _ _)
    · refine Frame.ite ?_ ?_
      · refine Frame.step ?_ (onLz_frame _ _ _) rfl
        refine Frame.step ?_ (onLz_frame _ _ _) rfl
        exact (Frame.refl _ _)
      · refine Frame.ite ?_ ?_
        · refine Frame.step ?_ (Dev.onLau_frame _ _) rfl
          refine Frame.step ?_ (onLz_frame _ _ _) rfl
          refine Frame.step ?_ (onLz_frame _ _ _) rfl
          exact (Frame.refl _ _)
        · refine Frame.step ?_ (request_frame _ _ _ _) rfl
          refine Frame.step ?_ (onLz_frame _ _ _) rfl
          exact (Frame.refl _ _)

theorem filtWrite_frame (n : Fin 24) (p : Nat) (d : Dev) : Frame 16 d (filtWrite n p d) := by
  unfold filtWrite
  refine Frame.ite ?_ ?_
  · exact (Frame.refl _ _)
  · refine Frame.ite ?_ ?_
    · refine Frame.step ?_ (onZRx_frame _ _ _) rfl
      exact (Frame.refl _ _)
    · refine Frame.step ?_ (applyFilt_frame _ _ _) rfl
      exact (Frame.refl _ _)

theorem tune_frame (n : Fin 24) (e : Entry) (d : Dev) : Frame 304 d (tune n e d) := by
  unfold tune
  refine Frame.ite ?_ ?_
  · refine Frame.ite ?_ ?_
    · refine Frame.step ?_ (onFr_frame _ _ _) rfl
      exact (Frame.refl _ _)
    · refine Frame.step ?_ (lzReq_frame _ _ _ _) rfl
      refine Frame.step ?_ (onFr_frame _ _ _) rfl
      exact (Frame.refl _ _)
  · refine Frame.step ?_ (filtWrite_frame _ _ _) rfl
    refine Frame.ite ?_ ?_
    · refine Frame.step ?_ (onFr_frame _ _ _) rfl
      exact (Frame.refl _ _)
    · refine Frame.step ?_ (lzReq_frame _ _ _ _) rfl
      refine Frame.step ?_ (onFr_frame _ _ _) rfl
      exact (Frame.refl _ _)

theorem tuneIdle_frame (n : Fin 24) (d : Dev) : Frame 304 d (tuneIdle n d) := by
  unfold tuneIdle
  split
  · refine Frame.ite ?_ ?_
    · refine Frame.step ?_ (tune_frame _ _ _) rfl
      exact (Frame.refl _ _)
    · exact (Frame.refl _ _)
  · exact (Frame.refl _ _)

theorem extendX_frame (n : Fin 24) (e : Entry) (t : Nat) (d : Dev) : Frame 256 d (extendX n e t d) := by
  unfold extendX
  refine Frame.step ?_ (onFr_frame _ _ _) rfl
  exact (Frame.refl _ _)

theorem setupX_frame (n : Fin 24) (c : Cmd) (e : Entry) (bound : Nat) (d : Dev) : Frame 304 d (setupX n c e bound d) := by
  unfold setupX
  refine Frame.step ?_ (onFr_frame _ _ _) rfl
  refine Frame.step ?_ (tune_frame _ _ _) rfl
  exact (Frame.refl _ _)

theorem takeAct_frame (i : Nat) (a : ActAns) (d : Dev) : Frame 432 d (takeAct i a d) := by
  unfold takeAct
  dsimp only
  split
  · exact (Frame.refl _ _)
  · split
    · refine Frame.step ?_ (tune_frame _ _ _) rfl
      refine Frame.step ?_ (onEntry_frame _ _ _) rfl
      exact (Frame.refl _ _)
    · refine Frame.step ?_ (onEntry_frame _ _ _) rfl
      exact (Frame.refl _ _)

end Sys2Proof.Machine
end

