-- ==== Sys2Proof/Laws/KeepPresOps.lean ====
section
/-! SUPPORT. What the operations of Machine/PresOps.lean leave alone. -/

namespace Sys2Proof.Machine
open Sys2Proof

theorem addEv_frame (evt : Nat) (i : Nat) (phc : Sys2Proof.Word) (s : PStep) : Frame 0 s.1 (addEv evt i phc s).1 := by
  unfold addEv
  exact (Frame.refl _ _)

theorem putEntry_frame (i : Nat) (e : Entry) (d : Dev) : Frame 128 d (putEntry i e d) := by
  unfold putEntry
  refine Frame.dite ?_ ?_
  · intro _
    refine Frame.step ?_ (Dev.onSf_frame _ _) rfl
    exact (Frame.refl _ _)
  · intro _
    exact (Frame.refl _ _)

theorem addObject_frame (l : Loc) (phc : Sys2Proof.Word) (s : PStep) : Frame 128 s.1 (addObject l phc s).1 := by
  unfold addObject
  split
  · refine Frame.iteP Prod.fst ?_ ?_
    · exact (Frame.refl _ _)
    · refine Frame.step ?_ (Dev.onSf_frame _ _) rfl
      exact (Frame.refl _ _)
  · refine Frame.step ?_ (addEv_frame _ _ _ _) rfl
    refine Frame.step ?_ (Dev.onSf_frame _ _) rfl
    refine Frame.step ?_ (putEntry_frame _ _ _) rfl
    exact (Frame.refl _ _)

theorem firstEntry_frame (i : Nat) (d : Dev) : Frame 128 d (firstEntry i d) := by
  unfold firstEntry
  refine Frame.foldl ?_ ?_
  · exact (Frame.refl _ _)
  · intro _ _ h1000
    refine Frame.ite ?_ ?_
    · refine Frame.step ?_ (onZone_frame _ _ _) rfl
      exact h1000
    · exact h1000

theorem dropEntry_frame (i : Nat) (detail : Nat) (phc : Sys2Proof.Word) (s : PStep) : Frame 23331200 s.1 (dropEntry i detail
    phc s).1 := by
  unfold dropEntry
  dsimp only
  refine Frame.step ?_ (firstEntry_frame _ _) rfl
  refine Frame.dite ?_ ?_
  · intro _
    refine Frame.step ?_ (Dev.onSf_frame _ _) rfl
    refine Frame.foldl ?_ ?_
    · exact (Frame.refl _ _)
    · intro _ _ h1000
      refine Frame.step ?_ (stopX_frame _ _ _ _) rfl
      exact h1000
  · intro _
    refine Frame.foldl ?_ ?_
    · exact (Frame.refl _ _)
    · intro _ _ h1001
      refine Frame.step ?_ (stopX_frame _ _ _ _) rfl
      exact h1001

theorem identEntry_frame (n : Fin 24) (proto : Nat) (uid : List Sys2Proof.Byte) (card : Card) (acc : Acc) (phc :
    Sys2Proof.Word) (s : PStep) : Frame 23331200 s.1 (identEntry n proto uid card acc phc s).1 := by
  unfold identEntry
  dsimp only
  split
  · exact (Frame.refl _ _)
  · split
    · exact (Frame.refl _ _)
    · refine Frame.iteP Prod.fst ?_ ?_
      · refine Frame.iteP Prod.fst ?_ ?_
        · split
          · refine Frame.step ?_ (addEv_frame _ _ _ _) rfl
            refine Frame.step ?_ (onZone_frame _ _ _) rfl
            refine Frame.step ?_ (onZone_frame _ _ _) rfl
            refine Frame.step ?_ (addEv_frame _ _ _ _) rfl
            refine Frame.step ?_ (putEntry_frame _ _ _) rfl
            refine Frame.step ?_ (dropEntry_frame _ _ _ _) rfl
            exact (Frame.refl _ _)
          · refine Frame.step ?_ (dropEntry_frame _ _ _ _) rfl
            exact (Frame.refl _ _)
        · refine Frame.step ?_ (addEv_frame _ _ _ _) rfl
          refine Frame.step ?_ (onZone_frame _ _ _) rfl
          refine Frame.step ?_ (onEntry_frame _ _ _) rfl
          exact (Frame.refl _ _)
      · split
        · refine Frame.iteP Prod.fst ?_ ?_
          · exact (Frame.refl _ _)
          · refine Frame.step ?_ (Dev.onSf_frame _ _) rfl
            exact (Frame.refl _ _)
        · refine Frame.step ?_ (addEv_frame _ _ _ _) rfl
          refine Frame.step ?_ (addEv_frame _ _ _ _) rfl
          refine Frame.step ?_ (onZone_frame _ _ _) rfl
          refine Frame.step ?_ (putEntry_frame _ _ _) rfl
          refine Frame.step ?_ (Dev.onSf_frame _ _) rfl
          refine Frame.foldl ?_ ?_
          · exact (Frame.refl _ _)
          · intro _ _ h1000
            refine Frame.step ?_ (onEntry_frame _ _ _) rfl
            exact h1000

theorem removeEntry_frame (i : Nat) (detail : Nat) (phc : Sys2Proof.Word) (s : PStep) : Frame 23331264 s.1 (removeEntry i
    detail phc s).1 := by
  unfold removeEntry
  split
  · exact (Frame.refl _ _)
  · refine Frame.step ?_ (dropEntry_frame _ _ _ _) rfl
    refine Frame.step ?_ (unholdBy_frame _ _ _) rfl
    exact (Frame.refl _ _)

theorem moveEntry_frame (i : Nat) (ls : List Loc) (kept : List Nat) (phc : Sys2Proof.Word) (s : PStep) : Frame 23331264 s.1
    (moveEntry i ls kept phc s).1 := by
  unfold moveEntry
  split
  · refine Frame.foldlP Prod.fst ?_ ?_
    · exact (Frame.refl _ _)
    · intro _ _ h1000
      refine Frame.step ?_ (addObject_frame _ _ _) rfl
      exact h1000
  · split
    · refine Frame.step ?_ (removeEntry_frame _ _ _ _) rfl
      exact (Frame.refl _ _)
    · refine Frame.foldlP Prod.fst ?_ ?_
      · refine Frame.iteP Prod.fst ?_ ?_
        · refine Frame.step ?_ (onEntry_frame _ _ _) rfl
          exact (Frame.refl _ _)
        · refine Frame.step ?_ (addEv_frame _ _ _ _) rfl
          refine Frame.step ?_ (onEntry_frame _ _ _) rfl
          exact (Frame.refl _ _)
      · intro _ _ h1001
        refine Frame.step ?_ (addObject_frame _ _ _) rfl
        exact h1001

theorem chState_frame (i : Nat) (st : EState) (reason : Nat) (phc : Sys2Proof.Word) (s : PStep) : Frame 192 s.1 (chState i st
    reason phc s).1 := by
  unfold chState
  split
  · exact (Frame.refl _ _)
  · refine Frame.iteP Prod.fst ?_ ?_
    · refine Frame.ite ?_ ?_
      · refine Frame.step ?_ (retake_frame _ _) rfl
        refine Frame.step ?_ (onEntry_frame _ _ _) rfl
        exact (Frame.refl _ _)
      · refine Frame.step ?_ (onEntry_frame _ _ _) rfl
        exact (Frame.refl _ _)
    · refine Frame.step ?_ (addEv_frame _ _ _ _) rfl
      refine Frame.ite ?_ ?_
      · refine Frame.step ?_ (retake_frame _ _) rfl
        refine Frame.step ?_ (onEntry_frame _ _ _) rfl
        exact (Frame.refl _ _)
      · refine Frame.step ?_ (onEntry_frame _ _ _) rfl
        exact (Frame.refl _ _)

theorem closedEntries_frame (a0 : Fin 24) (a1 : Nat) (a2 : List Nat) (a3 : Sys2Proof.Word) (a4 : PStep) : Frame 192 a4.1
    (closedEntries a0 a1 a2 a3 a4).1 := by
  have h : ∀ (is : List Nat), Frame 192 a4.1 (is.foldl (fun (s : PStep) i =>
      let s := (onEntry i (fun e => { e with zone := none, card := { e.card with act := 0 } }) s.1, s.2)
      match a1 with
      | 1 => chState i .resting 0 a3 s
      | 2 => chState i .resting 0 a3 s
      | 5 => chState i .waiting 1 a3 s
      | 7 => chState i .waiting 1 a3 s
      | _ => s) a4).1 := by
    intro is
    refine Frame.foldlP Prod.fst (Frame.refl _ _) ?_
    intro x i hx
    have h1 := Frame.step hx (onEntry_frame i (fun e => { e with zone := none, card := { e.card with act := 0 } }) x.1) rfl
    dsimp only
    split
    · exact Frame.step h1 (chState_frame _ _ _ _ _) rfl
    · exact Frame.step h1 (chState_frame _ _ _ _ _) rfl
    · exact Frame.step h1 (chState_frame _ _ _ _ _) rfl
    · exact Frame.step h1 (chState_frame _ _ _ _ _) rfl
    · exact h1
  have g := h (a4.1.sf.onZ a0)
  unfold closedEntries
  extract_lets is s
  change Frame 192 a4.1 s.1 at g
  clear_value s is
  split
  · exact Frame.step g (Dev.onPrb_frame _ _) rfl
  · exact g

theorem applyResult_frame (s : PStep) (y1 : PResult) : Frame 23331312 s.1 (applyResult s y1).1 := by
  unfold applyResult
  split
  · refine Frame.step ?_ (addObject_frame _ _ _) rfl
    exact (Frame.refl _ _)
  · refine Frame.step ?_ (moveEntry_frame _ _ _ _ _) rfl
    exact (Frame.refl _ _)
  · refine Frame.foldlP Prod.fst ?_ ?_
    · exact (Frame.refl _ _)
    · intro _ _ h1000
      refine Frame.iteP Prod.fst ?_ ?_
      · refine Frame.step ?_ (removeEntry_frame _ _ _ _) rfl
        exact h1000
      · refine Frame.step ?_ (chState_frame _ _ _ _ _) rfl
        refine Frame.step ?_ (onEntry_frame _ _ _) rfl
        exact h1000
  · split
    · refine Frame.iteP Prod.fst ?_ ?_
      · refine Frame.step ?_ (chState_frame _ _ _ _ _) rfl
        exact (Frame.refl _ _)
      · exact (Frame.refl _ _)
    · exact (Frame.refl _ _)
  · refine Frame.step ?_ (closedEntries_frame _ _ _ _ _) rfl
    exact (Frame.refl _ _)
  · refine Frame.step ?_ (tuneIdle_frame _ _) rfl
    refine Frame.step ?_ (identEntry_frame _ _ _ _ _ _ _) rfl
    exact (Frame.refl _ _)
  · refine Frame.step ?_ (removeEntry_frame _ _ _ _) rfl
    exact (Frame.refl _ _)
  · exact (Frame.refl _ _)

theorem takeMap_frame (d : Dev) : Frame 128 d (takeMap d) := by
  unfold takeMap
  refine Frame.step ?_ (Dev.onSf_frame _ _) rfl
  exact (Frame.refl _ _)

theorem clearTable_frame (d : Dev) : Frame 23068864 d (clearTable d) := by
  unfold clearTable
  refine Frame.step ?_ (pushEvent_frame _ _ _ _) rfl
  refine Frame.step ?_ (takeMap_frame _) rfl
  refine Frame.step ?_ (Dev.onPrb_frame _ _) rfl
  refine Frame.step ?_ (Dev.onSf_frame _ _) rfl
  exact (Frame.refl _ _)

theorem evict_frame (i : Nat) (d : Dev) : Frame 31719932 d (evict i d) := by
  unfold evict
  refine Frame.ite ?_ ?_
  · exact (Frame.refl _ _)
  · split
    · exact (Frame.refl _ _)
    · refine Frame.step ?_ (closeZone_frame _ _ _ _) rfl
      refine Frame.step ?_ (onEntry_frame _ _ _) rfl
      exact (Frame.refl _ _)

theorem planEntry_frame (s : PStep) (i : Nat) : Frame 31719932 s.1 (planEntry s i).1 := by
  unfold planEntry
  dsimp only
  split
  · exact (Frame.refl _ _)
  · refine Frame.iteP Prod.fst ?_ ?_
    · exact (Frame.refl _ _)
    · refine Frame.iteP Prod.fst ?_ ?_
      · refine Frame.step ?_ (onEntry_frame _ _ _) rfl
        exact (Frame.refl _ _)
      · refine Frame.iteP Prod.fst ?_ ?_
        · refine Frame.step ?_ (onEntry_frame _ _ _) rfl
          exact (Frame.refl _ _)
        · split
          · refine Frame.step ?_ (onEntry_frame _ _ _) rfl
            exact (Frame.refl _ _)
          · split
            · refine Frame.ite ?_ ?_
              · refine Frame.step ?_ (evict_frame _ _) rfl
                refine Frame.step ?_ (onEntry_frame _ _ _) rfl
                exact (Frame.refl _ _)
              · refine Frame.step ?_ (onEntry_frame _ _ _) rfl
                exact (Frame.refl _ _)
            · refine Frame.step ?_ (chState_frame _ _ _ _ _) rfl
              refine Frame.step ?_ (onEntry_frame _ _ _) rfl
              refine Frame.step ?_ (Dev.onSf_frame _ _) rfl
              refine Frame.step ?_ (onZone_frame _ _ _) rfl
              exact (Frame.refl _ _)

theorem finishStep_frame (y0 : Dev) (s : PStep) : Frame 23068800 s.1 (finishStep y0 s) := by
  unfold finishStep
  refine Frame.foldl ?_ ?_
  · refine Frame.step ?_ (takeMap_frame _) rfl
    refine Frame.ite ?_ ?_
    · exact (Frame.refl _ _)
    · refine Frame.step ?_ (Dev.onSf_frame _ _) rfl
      exact (Frame.refl _ _)
  · intro _ _ h1000
    refine Frame.step ?_ (pushEvent_frame _ _ _ _) rfl
    exact h1000

theorem updateStep_frame (d : Dev) : Frame 31719932 d (updateStep d) := by
  unfold updateStep
  refine Frame.step ?_ (finishStep_frame _ _) rfl
  refine Frame.foldlP Prod.fst ?_ ?_
  · refine Frame.foldlP Prod.fst ?_ ?_
    · refine Frame.step ?_ (Dev.onSf_frame _ _) rfl
      exact (Frame.refl _ _)
    · intro _ _ h1000
      refine Frame.step ?_ (applyResult_frame _ _) rfl
      exact h1000
  · intro _ _ h1001
    refine Frame.step ?_ (planEntry_frame _ _) rfl
    exact h1001

end Sys2Proof.Machine
end

