-- ==== Sys2Proof/Laws/KeepOperands.lean ====
section
/-! SUPPORT. What the operations of Machine/Operands.lean leave alone. -/

namespace Sys2Proof.Machine
open Sys2Proof

theorem begin__frame {m : Nat} {d0 : Dev} (opc : Nat) (tag : Fin 32) (len : Nat → Bool) (k : Cmd → Dev → Dev) (d : Dev) (hm :
    23330816 ||| m = m) (h3 : ∀ x0 x1, Frame m d0 x1 → Frame m d0 (k x0 x1)) (h : Frame m d0 d) : Frame m d0 (begin_ opc tag
    len k d) := by
  unfold begin_
  split
  · exact h
  · refine Frame.ite ?_ ?_
    · refine Frame.step ?_ (fail_frame _ _ _) (Frame.sub rfl hm)
      exact h
    · refine Frame.ite ?_ ?_
      · refine h3 _ _ ?_
        exact h
      · refine Frame.step ?_ (fail_frame _ _ _) (Frame.sub rfl hm)
        exact h

theorem inMode_frame {m : Nat} {d0 : Dev} (tag : Fin 32) (c : Cmd) (k : Dev → Dev) (d : Dev) (hm : 23330816 ||| m = m) (h2 : ∀
    x0, Frame m d0 x0 → Frame m d0 (k x0)) (h : Frame m d0 d) : Frame m d0 (inMode tag c k d) := by
  unfold inMode
  split
  · refine Frame.step ?_ (fail_frame _ _ _) (Frame.sub rfl hm)
    exact h
  · refine h2 _ ?_
    exact h

end Sys2Proof.Machine
end

