-- ==== Sys2Proof/Laws/KeepHfOps.lean ====
section
/-! SUPPORT. What the operations of Machine/HfOps.lean leave alone. -/

namespace Sys2Proof.Machine
open Sys2Proof

theorem heldCommit_frame (n : Fin 24) (d : Dev) : Frame 18874460 d (heldCommit n d) := by
  unfold heldCommit
  split
  · refine withRxRoles_frame _ _ rfl ?_ ?_
    · intro _ h1000
      refine Frame.step ?_ (applyCommit_frame _ _ _) rfl
      exact h1000
    · refine Frame.step ?_ (onTxZ_frame _ _ _) rfl
      exact (Frame.refl _ _)
  · exact (Frame.refl _ _)

theorem framerEvent_frame (n : Fin 24) (d : Dev) : Frame 23068672 d (framerEvent n d) := by
  unfold framerEvent
  refine Frame.step ?_ (captureFrame_frame _ _) rfl
  refine Frame.step ?_ (msgZone_frame _ _ _) rfl
  exact (Frame.refl _ _)

theorem frSend_frame (n : Fin 24) (d : Dev) : Frame 288 d (frSend n d) := by
  unfold frSend
  refine Frame.ite ?_ ?_
  · exact (Frame.refl _ _)
  · refine Frame.ite ?_ ?_
    · refine Frame.step ?_ (onFr_frame _ _ _) rfl
      exact (Frame.refl _ _)
    · refine Frame.step ?_ (onFr_frame _ _ _) rfl
      refine Frame.step ?_ (onLz_frame _ _ _) rfl
      exact (Frame.refl _ _)

theorem releaseHold_frame (n : Fin 24) (d : Dev) : Frame 304 d (releaseHold n d) := by
  unfold releaseHold
  refine Frame.ite ?_ ?_
  · refine Frame.step ?_ (frSend_frame _ _) rfl
    refine Frame.step ?_ (clearHold_frame _ _) rfl
    refine Frame.step ?_ (heldFilt_frame _ _) rfl
    refine Frame.step ?_ (unfreeze_frame _ _) rfl
    refine Frame.step ?_ (onFr_frame _ _ _) rfl
    exact (Frame.refl _ _)
  · refine Frame.step ?_ (clearHold_frame _ _) rfl
    refine Frame.step ?_ (heldFilt_frame _ _) rfl
    refine Frame.step ?_ (unfreeze_frame _ _) rfl
    refine Frame.step ?_ (onFr_frame _ _ _) rfl
    exact (Frame.refl _ _)

theorem abandon_frame (n : Fin 24) (d : Dev) : Frame 23069052 d (abandon n d) := by
  unfold abandon
  refine Frame.step ?_ (releaseHold_frame _ _) rfl
  refine Frame.step ?_ (framerEvent_frame _ _) rfl
  refine Frame.ite ?_ ?_
  · refine Frame.step ?_ (heldCommit_frame _ _) rfl
    refine Frame.step ?_ (onFr_frame _ _ _) rfl
    exact (Frame.refl _ _)
  · refine Frame.step ?_ (onFr_frame _ _ _) rfl
    exact (Frame.refl _ _)

theorem touchZone_frame (i : Nat) (d : Dev) : Frame 128 d (touchZone i d) := by
  unfold touchZone
  split
  · split
    · refine Frame.step ?_ (onZone_frame _ _ _) rfl
      exact (Frame.refl _ _)
    · exact (Frame.refl _ _)
  · exact (Frame.refl _ _)

theorem armPower_frame (n : Fin 24) (d : Dev) : Frame 256 d (armPower n d) := by
  unfold armPower
  refine Frame.ite ?_ ?_
  · refine Frame.step ?_ (onFr_frame _ _ _) rfl
    exact (Frame.refl _ _)
  · exact (Frame.refl _ _)

theorem armedStart_frame (n : Fin 24) (d : Dev) : Frame 256 d (armedStart n d) := by
  unfold armedStart
  refine Frame.step ?_ (onFr_frame _ _ _) rfl
  exact (Frame.refl _ _)

theorem cardGone_frame (i : Nat) (d : Dev) : Frame 31719932 d (cardGone i d) := by
  unfold cardGone
  split
  · split
    · refine Frame.ite ?_ ?_
      · refine Frame.step ?_ (submit_frame _ _) rfl
        exact (Frame.refl _ _)
      · refine Frame.step ?_ (closeZone_frame _ _ _ _) rfl
        exact (Frame.refl _ _)
    · exact (Frame.refl _ _)
  · exact (Frame.refl _ _)

theorem countFail_frame (i : Nat) (d : Dev) : Frame 384 d (countFail i d) := by
  unfold countFail
  split
  · exact (Frame.refl _ _)
  · refine Frame.ite ?_ ?_
    · exact (Frame.refl _ _)
    · refine Frame.ite ?_ ?_
      · refine Frame.step ?_ (onEntry_frame _ _ _) rfl
        split
        · refine Frame.step ?_ (onFr_frame _ _ _) rfl
          exact (Frame.refl _ _)
        · exact (Frame.refl _ _)
      · refine Frame.step ?_ (onEntry_frame _ _ _) rfl
        exact (Frame.refl _ _)

theorem deliver_frame (n : Fin 24) (x : RxFrame) (crcE : Bool) (parE : Bool) (d : Dev) : Frame 23068928 d (deliver n x crcE
    parE d) := by
  unfold deliver
  refine Frame.step ?_ (framerEvent_frame _ _) rfl
  refine Frame.step ?_ (onFr_frame _ _ _) rfl
  exact (Frame.refl _ _)

theorem easeField_frame (n : Fin 24) (d : Dev) : Frame 18874716 d (easeField n d) := by
  unfold easeField
  refine Frame.ite ?_ ?_
  · refine Frame.step ?_ (onFr_frame _ _ _) rfl
    exact (Frame.refl _ _)
  · split
    · refine Frame.ite ?_ ?_
      · refine withRxRoles_frame _ _ rfl ?_ ?_
        · intro _ h1000
          refine Frame.step ?_ (applyCommit_frame _ _ _) rfl
          exact h1000
        · refine Frame.step ?_ (onFr_frame _ _ _) rfl
          exact (Frame.refl _ _)
      · exact (Frame.refl _ _)
    · refine Frame.step ?_ (onFr_frame _ _ _) rfl
      exact (Frame.refl _ _)

theorem takeCfg_frame (n : Fin 24) (d : Dev) : Frame 256 d (takeCfg n d) := by
  unfold takeCfg
  refine Frame.step ?_ (onFr_frame _ _ _) rfl
  exact (Frame.refl _ _)

theorem startSlot_frame (n : Fin 24) (d : Dev) : Frame 288 d (startSlot n d) := by
  unfold startSlot
  dsimp only
  split
  · exact (Frame.refl _ _)
  · split
    · refine Frame.step ?_ (onFr_frame _ _ _) rfl
      split
      · refine Frame.ite ?_ ?_
        · refine Frame.step ?_ (onFr_frame _ _ _) rfl
          refine Frame.step ?_ (onFr_frame _ _ _) rfl
          refine Frame.step ?_ (onFr_frame _ _ _) rfl
          exact (Frame.refl _ _)
        · refine Frame.step ?_ (onFr_frame _ _ _) rfl
          refine Frame.step ?_ (onFr_frame _ _ _) rfl
          exact (Frame.refl _ _)
      · refine Frame.step ?_ (onFr_frame _ _ _) rfl
        refine Frame.step ?_ (onFr_frame _ _ _) rfl
        exact (Frame.refl _ _)
    · refine Frame.step ?_ (frSend_frame _ _) rfl
      split
      · refine Frame.ite ?_ ?_
        · refine Frame.step ?_ (onFr_frame _ _ _) rfl
          refine Frame.step ?_ (onFr_frame _ _ _) rfl
          refine Frame.step ?_ (onFr_frame _ _ _) rfl
          exact (Frame.refl _ _)
        · refine Frame.step ?_ (onFr_frame _ _ _) rfl
          refine Frame.step ?_ (onFr_frame _ _ _) rfl
          exact (Frame.refl _ _)
      · refine Frame.step ?_ (onFr_frame _ _ _) rfl
        refine Frame.step ?_ (onFr_frame _ _ _) rfl
        exact (Frame.refl _ _)

theorem endSlot_frame (n : Fin 24) (d : Dev) : Frame 31719932 d (endSlot n d) := by
  unfold endSlot
  split
  · exact (Frame.refl _ _)
  · refine Frame.ite ?_ ?_
    · refine Frame.step ?_ (startSlot_frame _ _) rfl
      refine Frame.step ?_ (onFr_frame _ _ _) rfl
      refine Frame.step ?_ (onFr_frame _ _ _) rfl
      exact (Frame.refl _ _)
    · refine Frame.ite ?_ ?_
      · refine Frame.step ?_ (startSlot_frame _ _) rfl
        refine Frame.step ?_ (onFr_frame _ _ _) rfl
        refine Frame.step ?_ (onFr_frame _ _ _) rfl
        exact (Frame.refl _ _)
      · refine Frame.ite ?_ ?_
        · refine Frame.step ?_ (tuneIdle_frame _ _) rfl
          refine Frame.step ?_ (onFr_frame _ _ _) rfl
          refine Frame.step ?_ (onFr_frame _ _ _) rfl
          exact (Frame.refl _ _)
        · refine Frame.ite ?_ ?_
          · refine Frame.step ?_ (closeZone_frame _ _ _ _) rfl
            refine Frame.step ?_ (onFr_frame _ _ _) rfl
            refine Frame.step ?_ (onFr_frame _ _ _) rfl
            exact (Frame.refl _ _)
          · refine Frame.ite ?_ ?_
            · refine Frame.step ?_ (closeZone_frame _ _ _ _) rfl
              refine Frame.step ?_ (onFr_frame _ _ _) rfl
              refine Frame.step ?_ (onFr_frame _ _ _) rfl
              exact (Frame.refl _ _)
            · refine Frame.step ?_ (startSlot_frame _ _) rfl
              refine Frame.step ?_ (takeCfg_frame _ _) rfl
              refine Frame.step ?_ (onFr_frame _ _ _) rfl
              refine Frame.step ?_ (onFr_frame _ _ _) rfl
              refine Frame.step ?_ (onFr_frame _ _ _) rfl
              exact (Frame.refl _ _)

theorem endX_frame (tag : Fin 32) (st : Status) (detail : Nat) (d : Dev) : Frame 23331200 d (endX tag st detail d) := by
  unfold endX
  split
  · refine Frame.step ?_ (touchZone_frame _ _) rfl
    refine Frame.step ?_ (finishX_frame _ _ _ _) rfl
    exact (Frame.refl _ _)
  · exact (Frame.refl _ _)

theorem enterT_frame {m : Nat} {d0 : Dev} (tag : Fin 32) (c : Cmd) (k : Dev → Dev) (d : Dev) (hm : 23330816 ||| m = m) (h2 : ∀
    x0, Frame m d0 x0 → Frame m d0 (k x0)) (h : Frame m d0 d) : Frame m d0 (enterT tag c k d) := by
  unfold enterT
  refine inMode_frame _ _ _ _ (Frame.sub rfl hm) ?_ ?_
  · intro _ h1000
    split
    · refine Frame.step ?_ (fail_frame _ _ _) (Frame.sub rfl hm)
      exact h1000
    · refine Frame.ite ?_ ?_
      · refine Frame.step ?_ (fail_frame _ _ _) (Frame.sub rfl hm)
        exact h1000
      · refine h2 _ ?_
        refine Frame.step ?_ (onCmd_frame _ _ _) (Frame.sub rfl hm)
        exact h1000
  · exact h

theorem validX_frame (tag : Fin 32) (data : List Sys2Proof.Byte) (lastBits : Nat) (hdr : Nat) (ecode : Nat) (d : Dev) : Frame
    23330944 d (validX tag data lastBits hdr ecode d) := by
  unfold validX
  dsimp only
  split
  · refine Frame.step ?_ (onCmd_frame _ _ _) rfl
    exact (Frame.refl _ _)
  · refine Frame.step ?_ (touchZone_frame _ _) rfl
    refine Frame.step ?_ (complete_frame _ _ _ _) rfl
    refine Frame.step ?_ (onEntry_frame _ _ _) rfl
    refine Frame.step ?_ (onCmd_frame _ _ _) rfl
    exact (Frame.refl _ _)

theorem placeX_frame (tag : Fin 32) (n : Fin 24) (x : XStep) (d : Dev) : Frame 262144 d (placeX tag n x d) := by
  unfold placeX
  split
  · refine Frame.step ?_ (onCmd_frame _ _ _) rfl
    exact (Frame.refl _ _)
  · exact (Frame.refl _ _)

theorem failX_frame (tag : Fin 32) (c : Cmd) (e : Entry) (x : XStep) (d : Dev) : Frame 31719932 d (failX tag c e x d) := by
  unfold failX
  refine Frame.ite ?_ ?_
  · refine Frame.step ?_ (endX_frame _ _ _ _) rfl
    refine Frame.step ?_ (countFail_frame _ _) rfl
    refine Frame.step ?_ (onCmd_frame _ _ _) rfl
    exact (Frame.refl _ _)
  · refine Frame.ite ?_ ?_
    · refine Frame.step ?_ (endX_frame _ _ _ _) rfl
      refine Frame.step ?_ (onCmd_frame _ _ _) rfl
      exact (Frame.refl _ _)
    · refine Frame.ite ?_ ?_
      · refine Frame.step ?_ (endX_frame _ _ _ _) rfl
        refine Frame.step ?_ (onCmd_frame _ _ _) rfl
        exact (Frame.refl _ _)
      · refine Frame.ite ?_ ?_
        · refine Frame.ite ?_ ?_
          · split
            · refine Frame.step ?_ (placeX_frame _ _ _ _) rfl
              refine Frame.step ?_ (onCmd_frame _ _ _) rfl
              refine Frame.step ?_ (onCmd_frame _ _ _) rfl
              exact (Frame.refl _ _)
            · refine Frame.step ?_ (onCmd_frame _ _ _) rfl
              refine Frame.step ?_ (onCmd_frame _ _ _) rfl
              exact (Frame.refl _ _)
          · refine Frame.step ?_ (endX_frame _ _ _ _) rfl
            refine Frame.step ?_ (onCmd_frame _ _ _) rfl
            exact (Frame.refl _ _)
        · refine Frame.ite ?_ ?_
          · refine Frame.step ?_ (endX_frame _ _ _ _) rfl
            refine Frame.step ?_ (countFail_frame _ _) rfl
            refine Frame.step ?_ (onCmd_frame _ _ _) rfl
            exact (Frame.refl _ _)
          · refine Frame.ite ?_ ?_
            · refine Frame.step ?_ (endX_frame _ _ _ _) rfl
              refine Frame.step ?_ (countFail_frame _ _) rfl
              refine Frame.step ?_ (onCmd_frame _ _ _) rfl
              exact (Frame.refl _ _)
            · refine Frame.step ?_ (cardGone_frame _ _) rfl
              refine Frame.step ?_ (endX_frame _ _ _ _) rfl
              refine Frame.step ?_ (countFail_frame _ _) rfl
              refine Frame.step ?_ (onCmd_frame _ _ _) rfl
              exact (Frame.refl _ _)

theorem stepX_frame (tag : Fin 32) (x : XStep) (d : Dev) : Frame 31719932 d (stepX tag x d) := by
  unfold stepX
  dsimp only
  split
  · exact (Frame.refl _ _)
  · refine Frame.ite ?_ ?_
    · exact (Frame.refl _ _)
    · split
      · split
        · refine Frame.step ?_ (onCmd_frame _ _ _) rfl
          refine Frame.ite ?_ ?_
          · exact (Frame.refl _ _)
          · split
            · refine Frame.ite ?_ ?_
              · refine Frame.step ?_ (frSend_frame _ _) rfl
                exact (Frame.refl _ _)
              · exact (Frame.refl _ _)
            · exact (Frame.refl _ _)
        · split
          · refine Frame.step ?_ (extendX_frame _ _ _ _) rfl
            refine Frame.step ?_ (onCmd_frame _ _ _) rfl
            refine Frame.step ?_ (onCmd_frame _ _ _) rfl
            refine Frame.ite ?_ ?_
            · exact (Frame.refl _ _)
            · split
              · refine Frame.ite ?_ ?_
                · refine Frame.step ?_ (frSend_frame _ _) rfl
                  exact (Frame.refl _ _)
                · exact (Frame.refl _ _)
              · exact (Frame.refl _ _)
          · refine Frame.step ?_ (onCmd_frame _ _ _) rfl
            refine Frame.step ?_ (onCmd_frame _ _ _) rfl
            refine Frame.ite ?_ ?_
            · exact (Frame.refl _ _)
            · split
              · refine Frame.ite ?_ ?_
                · refine Frame.step ?_ (frSend_frame _ _) rfl
                  exact (Frame.refl _ _)
                · exact (Frame.refl _ _)
              · exact (Frame.refl _ _)
        · refine Frame.step ?_ (validX_frame _ _ _ _ _ _) rfl
          refine Frame.step ?_ (onCmd_frame _ _ _) rfl
          refine Frame.ite ?_ ?_
          · exact (Frame.refl _ _)
          · split
            · refine Frame.ite ?_ ?_
              · refine Frame.step ?_ (frSend_frame _ _) rfl
                exact (Frame.refl _ _)
              · exact (Frame.refl _ _)
            · exact (Frame.refl _ _)
        · refine Frame.step ?_ (failX_frame _ _ _ _ _) rfl
          refine Frame.step ?_ (onCmd_frame _ _ _) rfl
          refine Frame.ite ?_ ?_
          · exact (Frame.refl _ _)
          · split
            · refine Frame.ite ?_ ?_
              · refine Frame.step ?_ (frSend_frame _ _) rfl
                exact (Frame.refl _ _)
              · exact (Frame.refl _ _)
            · exact (Frame.refl _ _)
      · refine Frame.step ?_ (onCmd_frame _ _ _) rfl
        refine Frame.ite ?_ ?_
        · exact (Frame.refl _ _)
        · split
          · refine Frame.ite ?_ ?_
            · refine Frame.step ?_ (frSend_frame _ _) rfl
              exact (Frame.refl _ _)
            · exact (Frame.refl _ _)
          · exact (Frame.refl _ _)

theorem raiseOnce_frame (n : Fin 24) (d : Dev) : Frame 18874460 d (raiseOnce n d) := by
  unfold raiseOnce
  refine withRxRoles_frame _ _ rfl ?_ ?_
  · intro _ h1000
    refine Frame.step ?_ (applyCommit_frame _ _ _) rfl
    exact h1000
  · exact (Frame.refl _ _)

theorem notePong_frame (i pwr : Nat) (d : Dev) : Frame 128 d (notePong i pwr d) :=
  Frame.step (Frame.refl _ _) (onEntry_frame _ _ _) rfl

theorem noPong_frame (tag : Fin 32) (c : Cmd) (x : XStep) (d : Dev) : Frame 31719932 d (noPong tag c x d) := by
  unfold noPong
  refine Frame.ite (Frame.step (Frame.refl _ _) (endX_frame _ _ _ _) rfl) ?_
  exact Frame.step (Frame.step (Frame.refl _ _) (endX_frame _ _ _ _) rfl) (cardGone_frame _ _) rfl

theorem pwrCheck_frame {d0 : Dev} (tag : Fin 32) (c : Cmd) (n : Fin 24) (x : XStep) (k : Dev → Dev) (d : Dev)
    (hk : ∀ x0, Frame 31719932 d0 x0 → Frame 31719932 d0 (k x0)) (h : Frame 31719932 d0 d) :
    Frame 31719932 d0 (pwrCheck tag c n x k d) := by
  have hp : ∀ (p : Nat) (e : Dev), Frame 31719932 d0 e → Frame 31719932 d0 (notePong c.entry p e) :=
    fun _ _ h => Frame.step h (notePong_frame _ _ _) rfl
  have hr : ∀ e : Dev, Frame 31719932 d0 e → Frame 31719932 d0 (raiseOnce n e) := fun _ h => Frame.step h (raiseOnce_frame _ _) rfl
  have hn : ∀ e : Dev, Frame 31719932 d0 e → Frame 31719932 d0 (noPong tag c x e) := fun _ h => Frame.step h (noPong_frame _ _ _ _) rfl
  unfold pwrCheck
  split
  · exact hk _ h
  · refine Frame.ite (hk _ h) ?_
    split
    · exact hn _ h
    · refine Frame.ite (hk _ (hp _ _ h)) ?_
      split
      · exact hn _ (hr _ (hp _ _ h))
      · exact Frame.ite (Frame.step (hp _ _ (hr _ (hp _ _ h))) (endX_frame _ _ _ _) rfl) (hk _ (hp _ _ (hr _ (hp _ _ h))))

theorem startX_frame (tag : Fin 32) (c : Cmd) (e : Entry) (n : Fin 24) (x : XStep) (d : Dev) : Frame 31719932 d (startX tag c
    e n x d) := by
  unfold startX
  refine Frame.ite ?_ ?_
  · refine Frame.step ?_ (endX_frame _ _ _ _) rfl
    exact (Frame.refl _ _)
  · refine Frame.ite ?_ ?_
    · refine Frame.step ?_ (endX_frame _ _ _ _) rfl
      exact (Frame.refl _ _)
    · refine Frame.ite ?_ ?_
      · refine Frame.step ?_ (endX_frame _ _ _ _) rfl
        refine Frame.step ?_ (raiseOnce_frame _ _) rfl
        exact (Frame.refl _ _)
      · refine Frame.ite ?_ ?_
        · refine Frame.step ?_ (endX_frame _ _ _ _) rfl
          exact (Frame.refl _ _)
        · refine pwrCheck_frame _ _ _ _ _ _ (fun _ h => Frame.step (Frame.step (Frame.step h (setupX_frame _ _ _ _ _) rfl)
            (onCmd_frame _ _ _) rfl) (placeX_frame _ _ _ _) rfl) ?_
          split
          · refine Frame.ite ?_ ?_
            · refine Frame.step ?_ (takeAct_frame _ _ _) rfl
              refine Frame.ite ?_ ?_
              · exact (Frame.refl _ _)
              · refine Frame.step ?_ (raiseOnce_frame _ _) rfl
                exact (Frame.refl _ _)
            · refine Frame.ite ?_ ?_
              · exact (Frame.refl _ _)
              · refine Frame.step ?_ (raiseOnce_frame _ _) rfl
                exact (Frame.refl _ _)
          · refine Frame.ite ?_ ?_
            · exact (Frame.refl _ _)
            · refine Frame.step ?_ (raiseOnce_frame _ _) rfl
              exact (Frame.refl _ _)

theorem waitZone_frame (tag : Fin 32) (d : Dev) : Frame 262144 d (waitZone tag d) := by
  unfold waitZone
  refine Frame.step ?_ (onCmd_frame _ _ _) rfl
  exact (Frame.refl _ _)

theorem onTurn_frame {m : Nat} {d0 : Dev} (tag : Fin 32) (k : Cmd → Entry → Dev → Dev) (d : Dev) (hm : 23331200 ||| m = m) (h1
    : ∀ x0 x1 x2, Frame m d0 x2 → Frame m d0 (k x0 x1 x2)) (h : Frame m d0 d) : Frame m d0 (onTurn tag k d) := by
  unfold onTurn
  split
  · exact h
  · split
    · refine Frame.step ?_ (endX_frame _ _ _ _) (Frame.sub rfl hm)
      exact h
    · refine Frame.ite ?_ ?_
      · refine Frame.step ?_ (onCmd_frame _ _ _) (Frame.sub rfl hm)
        exact h
      · refine h1 _ _ _ ?_
        exact h

theorem turnX_frame {m : Nat} {d0 : Dev} (tag : Fin 32) (k : Cmd → Entry → Fin 24 → Dev → Dev) (d : Dev) (hm : 23331200 ||| m
    = m) (h1 : ∀ x0 x1 x2 x3, Frame m d0 x3 → Frame m d0 (k x0 x1 x2 x3)) (h : Frame m d0 d) : Frame m d0 (turnX tag k d) :=
    by
  unfold turnX
  refine onTurn_frame _ _ _ (Frame.sub rfl hm) ?_ ?_
  · intro _ _ _ h1000
    split
    · refine h1 _ _ _ _ ?_
      exact h1000
    · refine Frame.step ?_ (submit_frame _ _) (Frame.sub rfl hm)
      refine Frame.step ?_ (waitZone_frame _ _) (Frame.sub rfl hm)
      exact h1000
    · refine Frame.step ?_ (submit_frame _ _) (Frame.sub rfl hm)
      refine Frame.step ?_ (waitZone_frame _ _) (Frame.sub rfl hm)
      exact h1000
    · refine Frame.step ?_ (submit_frame _ _) (Frame.sub rfl hm)
      refine Frame.step ?_ (waitZone_frame _ _) (Frame.sub rfl hm)
      exact h1000
  · exact h

theorem goX_frame (tag : Fin 32) (x : XStep) (d : Dev) : Frame 31719932 d (goX tag x d) := by
  unfold goX
  split
  · exact (Frame.refl _ _)
  · refine Frame.ite ?_ ?_
    · refine Frame.step ?_ (stepX_frame _ _ _) rfl
      exact (Frame.refl _ _)
    · refine turnX_frame _ _ _ rfl ?_ ?_
      · intro _ _ _ _ h1000
        refine Frame.step ?_ (stepX_frame _ _ _) rfl
        refine Frame.step ?_ (startX_frame _ _ _ _ _ _) rfl
        exact h1000
      · exact (Frame.refl _ _)

theorem enterX_frame (tag : Fin 32) (c : Cmd) (x : XStep) (d : Dev) : Frame 31719932 d (enterX tag c x d) := by
  unfold enterX
  refine enterT_frame _ _ _ _ rfl ?_ ?_
  · intro _ h1000
    refine Frame.step ?_ (goX_frame _ _ _) rfl
    exact h1000
  · exact (Frame.refl _ _)

theorem onSeek_frame (n : Fin 24) (k : Seek) (d : Dev) : Frame 256 d (onSeek n k d) := by
  unfold onSeek
  refine Frame.step ?_ (onFr_frame _ _ _) rfl
  exact (Frame.refl _ _)

theorem setFld_frame (n : Fin 24) (cur : List (Fin 192 × Nat)) (d : Dev) : Frame 256 d (setFld n cur d) := by
  unfold setFld
  refine Frame.step ?_ (onFr_frame _ _ _) rfl
  exact (Frame.refl _ _)

theorem seekEnd_frame (n : Fin 24) (k : Seek) (d : Dev) : Frame 31719932 d (seekEnd n k d) := by
  unfold seekEnd
  refine Frame.ite ?_ ?_
  · refine Frame.step ?_ (onFr_frame _ _ _) rfl
    exact (Frame.refl _ _)
  · refine Frame.step ?_ (endSlot_frame _ _) rfl
    exact (Frame.refl _ _)

theorem mbSend_frame (n : Fin 24) (b : List Sys2Proof.Byte) (d : Dev) : Frame 288 d (mbSend n b d) := by
  unfold mbSend
  refine Frame.step ?_ (frSend_frame _ _) rfl
  refine Frame.step ?_ (onFr_frame _ _ _) rfl
  exact (Frame.refl _ _)

theorem seekSelect_frame (n : Fin 24) (k : Seek) (d : Dev) (y3 : List Nat) : Frame 31719932 d (seekSelect n k d y3) := by
  unfold seekSelect
  split
  · refine Frame.step ?_ (mbSend_frame _ _ _) rfl
    refine Frame.step ?_ (onSeek_frame _ _ _) rfl
    exact (Frame.refl _ _)
  · refine Frame.ite ?_ ?_
    · refine Frame.step ?_ (seekEnd_frame _ _ _) rfl
      exact (Frame.refl _ _)
    · refine Frame.step ?_ (mbSend_frame _ _ _) rfl
      refine Frame.step ?_ (onSeek_frame _ _ _) rfl
      exact (Frame.refl _ _)

theorem seekNext_frame (n : Fin 24) (k : Seek) (d : Dev) : Frame 31719932 d (seekNext n k d) := by
  unfold seekNext
  refine Frame.ite ?_ ?_
  · refine Frame.step ?_ (seekEnd_frame _ _ _) rfl
    exact (Frame.refl _ _)
  · refine Frame.ite ?_ ?_
    · refine Frame.step ?_ (mbSend_frame _ _ _) rfl
      refine Frame.step ?_ (onSeek_frame _ _ _) rfl
      exact (Frame.refl _ _)
    · refine Frame.ite ?_ ?_
      · refine Frame.step ?_ (seekSelect_frame _ _ _ _) rfl
        refine Frame.step ?_ (onFr_frame _ _ _) rfl
        exact (Frame.refl _ _)
      · refine Frame.ite ?_ ?_
        · refine Frame.step ?_ (seekSelect_frame _ _ _ _) rfl
          refine Frame.step ?_ (onFr_frame _ _ _) rfl
          exact (Frame.refl _ _)
        · refine Frame.step ?_ (seekSelect_frame _ _ _ _) rfl
          refine Frame.step ?_ (onFr_frame _ _ _) rfl
          exact (Frame.refl _ _)

theorem raiseF_frame (n : Fin 24) (i : Nat) (proto : Nat) (d : Dev) : Frame 432 d (raiseF n i proto d) := by
  unfold raiseF
  dsimp only
  split
  · refine Frame.ite ?_ ?_
    · split
      · refine Frame.step ?_ (tune_frame _ _ _) rfl
        refine Frame.step ?_ (onEntry_frame _ _ _) rfl
        exact (Frame.refl _ _)
      · refine Frame.step ?_ (onEntry_frame _ _ _) rfl
        exact (Frame.refl _ _)
    · exact (Frame.refl _ _)
  · exact (Frame.refl _ _)

theorem laterHandle_frame (n : Fin 24) (uid : List Sys2Proof.Byte) (acc : Acc) (d : Dev) : Frame 128 d (laterHandle n uid acc
    d) := by
  unfold laterHandle
  refine Frame.step ?_ (Dev.onSf_frame _ _) rfl
  exact (Frame.refl _ _)

theorem takeIdent_frame (n : Fin 24) (proto : Nat) (uid : List Sys2Proof.Byte) (card : Card) (acc : Acc) (d : Dev) : Frame 432
    d (takeIdent n proto uid card acc d) := by
  unfold takeIdent
  dsimp only
  have h1 : ∀ b : Bool, Frame 432 d (if b then onFr n (fun f => f.unmask proto) d else d) :=
    fun _ => Frame.ite (Frame.step (Frame.refl _ _) (onFr_frame _ _ _) rfl) (Frame.refl _ _)
  split
  · refine Frame.ite ?_ ?_
    · exact Frame.step (h1 _) (onEntry_frame _ _ _) rfl
    · exact Frame.step (h1 _) (raiseF_frame _ _ _ _) rfl
  · refine Frame.ite (h1 _) ?_
    refine Frame.ite (Frame.step (h1 _) (laterHandle_frame _ _ _ _) rfl) ?_
    refine Frame.ite (Frame.step (h1 _) (onFr_frame _ _ _) rfl) ?_
    exact Frame.step (Frame.step (h1 _) (onZone_frame _ _ _) rfl) (submit_frame _ _) rfl

theorem seekFrame_frame (n : Fin 24) (k : Seek) (data : List Sys2Proof.Byte) (bad : Bool) (d : Dev) : Frame 31719932 d
    (seekFrame n k data bad d) := by
  unfold seekFrame
  split
  · refine Frame.ite ?_ ?_
    · refine Frame.step ?_ (mbSend_frame _ _ _) rfl
      refine Frame.step ?_ (onSeek_frame _ _ _) rfl
      exact (Frame.refl _ _)
    · refine Frame.step ?_ (seekNext_frame _ _ _) rfl
      exact (Frame.refl _ _)
  · refine Frame.ite ?_ ?_
    · refine Frame.step ?_ (seekNext_frame _ _ _) rfl
      refine Frame.step ?_ (takeIdent_frame _ _ _ _ _ _) rfl
      split
      · refine Frame.ite ?_ ?_
        · exact (Frame.refl _ _)
        · refine Frame.step ?_ (onCmd_frame _ _ _) rfl
          exact (Frame.refl _ _)
      · exact (Frame.refl _ _)
    · refine Frame.step ?_ (seekNext_frame _ _ _) rfl
      exact (Frame.refl _ _)
  · refine Frame.ite ?_ ?_
    · refine Frame.step ?_ (mbSend_frame _ _ _) rfl
      refine Frame.step ?_ (onSeek_frame _ _ _) rfl
      exact (Frame.refl _ _)
    · refine Frame.step ?_ (seekSelect_frame _ _ _ _) rfl
      exact (Frame.refl _ _)
  · refine Frame.step ?_ (seekSelect_frame _ _ _ _) rfl
    exact (Frame.refl _ _)

theorem pushLate_frame (i : Nat) (result : Nat) (data : List Sys2Proof.Byte) (d : Dev) : Frame 23068800 d (pushLate i result
    data d) := by
  unfold pushLate
  split
  · split
    · refine Frame.step ?_ (pushPt_frame _ _ _) rfl
      refine Frame.step ?_ (onEntry_frame _ _ _) rfl
      exact (Frame.refl _ _)
    · exact (Frame.refl _ _)
  · exact (Frame.refl _ _)

theorem takeFw_frame (n : Fin 24) (r : FwResult) (d : Dev) : Frame 432 d (takeFw n r d) := by
  unfold takeFw
  split
  · exact (Frame.refl _ _)
  · refine Frame.step ?_ (takeIdent_frame _ _ _ _ _ _) rfl
    exact (Frame.refl _ _)
  · split
    · split
      · refine Frame.ite ?_ ?_
        · refine Frame.step ?_ (takeAct_frame _ _ _) rfl
          exact (Frame.refl _ _)
        · exact (Frame.refl _ _)
      · exact (Frame.refl _ _)
    · exact (Frame.refl _ _)

theorem firmwareFrame_frame (n : Fin 24) (tid : Nat) (x : RxFrame) (r : FwResult) (bad : Bool) (d : Dev) : Frame 23069104 d
    (firmwareFrame n tid x r bad d) := by
  unfold firmwareFrame
  refine Frame.ite ?_ ?_
  · exact (Frame.refl _ _)
  · refine Frame.ite ?_ ?_
    · refine Frame.step ?_ (onFr_frame _ _ _) rfl
      exact (Frame.refl _ _)
    · refine Frame.ite ?_ ?_
      · split
        · refine Frame.step ?_ (pushLate_frame _ _ _ _) rfl
          exact (Frame.refl _ _)
        · exact (Frame.refl _ _)
      · refine Frame.step ?_ (takeFw_frame _ _ _) rfl
        split
        · refine Frame.step ?_ (pushLate_frame _ _ _ _) rfl
          exact (Frame.refl _ _)
        · exact (Frame.refl _ _)

theorem rxEnd_frame (n : Fin 24) (x : RxFrame) (r : FwResult) (slotEnds : Bool) (d : Dev) : Frame 31851004 d (rxEnd n x r
    slotEnds d) := by
  unfold rxEnd
  dsimp only
  refine Frame.ite ?_ ?_
  · exact (Frame.refl _ _)
  · refine Frame.ite ?_ ?_
    · refine Frame.step ?_ (releaseHold_frame _ _) rfl
      refine Frame.step ?_ (onFr_frame _ _ _) rfl
      refine Frame.step ?_ (kilnFrame_frame _ _ _) rfl
      exact (Frame.refl _ _)
    · split
      · refine Frame.step ?_ (seekFrame_frame _ _ _ _ _) rfl
        refine Frame.step ?_ (releaseHold_frame _ _) rfl
        refine Frame.ite ?_ ?_
        · refine Frame.step ?_ (onFr_frame _ _ _) rfl
          refine Frame.step ?_ (deliver_frame _ _ _ _ _) rfl
          refine Frame.step ?_ (kilnFrame_frame _ _ _) rfl
          exact (Frame.refl _ _)
        · refine Frame.step ?_ (deliver_frame _ _ _ _ _) rfl
          refine Frame.step ?_ (kilnFrame_frame _ _ _) rfl
          exact (Frame.refl _ _)
      · refine Frame.ite ?_ ?_
        · refine Frame.step ?_ (endSlot_frame _ _) rfl
          refine Frame.step ?_ (releaseHold_frame _ _) rfl
          refine Frame.step ?_ (firmwareFrame_frame _ _ _ _ _ _) rfl
          refine Frame.ite ?_ ?_
          · refine Frame.step ?_ (onFr_frame _ _ _) rfl
            refine Frame.step ?_ (deliver_frame _ _ _ _ _) rfl
            refine Frame.step ?_ (kilnFrame_frame _ _ _) rfl
            exact (Frame.refl _ _)
          · refine Frame.step ?_ (deliver_frame _ _ _ _ _) rfl
            refine Frame.step ?_ (kilnFrame_frame _ _ _) rfl
            exact (Frame.refl _ _)
        · refine Frame.step ?_ (releaseHold_frame _ _) rfl
          refine Frame.step ?_ (firmwareFrame_frame _ _ _ _ _ _) rfl
          refine Frame.ite ?_ ?_
          · refine Frame.step ?_ (onFr_frame _ _ _) rfl
            refine Frame.step ?_ (deliver_frame _ _ _ _ _) rfl
            refine Frame.step ?_ (kilnFrame_frame _ _ _) rfl
            exact (Frame.refl _ _)
          · refine Frame.step ?_ (deliver_frame _ _ _ _ _) rfl
            refine Frame.step ?_ (kilnFrame_frame _ _ _) rfl
            exact (Frame.refl _ _)

theorem txEnd_frame (n : Fin 24) (d : Dev) : Frame 31457628 d (txEnd n d) := by
  unfold txEnd
  refine Frame.ite ?_ ?_
  · exact (Frame.refl _ _)
  · refine Frame.step ?_ (heldCommit_frame _ _) rfl
    refine Frame.step ?_ (framerEvent_frame _ _) rfl
    refine Frame.step ?_ (startTimers_frame _ _ _) rfl
    refine Frame.step ?_ (onFr_frame _ _ _) rfl
    exact (Frame.refl _ _)

theorem sensfSent_frame (n : Fin 24) (d : Dev) : Frame 31719932 d (sensfSent n d) := by
  unfold sensfSent
  split
  · refine Frame.step ?_ (endSlot_frame _ _) rfl
    refine Frame.step ?_ (onFr_frame _ _ _) rfl
    exact (Frame.refl _ _)
  · exact (Frame.refl _ _)

theorem frameEnd_frame (n : Fin 24) (d : Dev) : Frame 31719932 d (frameEnd n d) := by
  unfold frameEnd
  refine Frame.ite ?_ ?_
  · refine Frame.step ?_ (sensfSent_frame _ _) rfl
    refine Frame.step ?_ (txEnd_frame _ _) rfl
    exact (Frame.refl _ _)
  · exact (Frame.refl _ _)

theorem seekQuiet_frame (n : Fin 24) (k : Seek) (d : Dev) : Frame 31719932 d (seekQuiet n k d) := by
  unfold seekQuiet
  split
  · refine Frame.step ?_ (seekNext_frame _ _ _) rfl
    exact (Frame.refl _ _)
  · refine Frame.step ?_ (seekNext_frame _ _ _) rfl
    exact (Frame.refl _ _)
  · refine Frame.step ?_ (seekSelect_frame _ _ _ _) rfl
    exact (Frame.refl _ _)
  · refine Frame.step ?_ (seekSelect_frame _ _ _ _) rfl
    exact (Frame.refl _ _)

theorem slotQuiet_frame (n : Fin 24) (d : Dev) : Frame 31719932 d (slotQuiet n d) := by
  unfold slotQuiet
  split
  · refine Frame.step ?_ (seekQuiet_frame _ _ _) rfl
    exact (Frame.refl _ _)
  · refine Frame.step ?_ (endSlot_frame _ _) rfl
    exact (Frame.refl _ _)

theorem windowClose_frame (n : Fin 24) (d : Dev) : Frame 31719932 d (windowClose n d) := by
  unfold windowClose
  split
  · refine Frame.ite ?_ ?_
    · refine Frame.ite ?_ ?_
      · refine Frame.step ?_ (slotQuiet_frame _ _) rfl
        refine Frame.step ?_ (framerEvent_frame _ _) rfl
        refine Frame.step ?_ (unfreeze_frame _ _) rfl
        refine Frame.step ?_ (onFr_frame _ _ _) rfl
        refine Frame.step ?_ (onLz_frame _ _ _) rfl
        exact (Frame.refl _ _)
      · refine Frame.ite ?_ ?_
        · refine Frame.step ?_ (slotQuiet_frame _ _) rfl
          refine Frame.step ?_ (unfreeze_frame _ _) rfl
          refine Frame.step ?_ (onFr_frame _ _ _) rfl
          refine Frame.step ?_ (onLz_frame _ _ _) rfl
          exact (Frame.refl _ _)
        · refine Frame.step ?_ (unfreeze_frame _ _) rfl
          refine Frame.step ?_ (onFr_frame _ _ _) rfl
          refine Frame.step ?_ (onLz_frame _ _ _) rfl
          exact (Frame.refl _ _)
    · exact (Frame.refl _ _)
  · exact (Frame.refl _ _)

theorem maskSlot_frame (n : Fin 24) (d : Dev) : Frame 256 d (maskSlot n d) := by
  unfold maskSlot
  refine Frame.ite ?_ ?_
  · refine Frame.step ?_ (onFr_frame _ _ _) rfl
    exact (Frame.refl _ _)
  · exact (Frame.refl _ _)

theorem windowOpen_frame (n : Fin 24) (d : Dev) : Frame 288 d (windowOpen n d) := by
  unfold windowOpen
  split
  · refine Frame.ite ?_ ?_
    · refine Frame.step ?_ (maskSlot_frame _ _) rfl
      refine Frame.step ?_ (onLz_frame _ _ _) rfl
      exact (Frame.refl _ _)
    · exact (Frame.refl _ _)
  · exact (Frame.refl _ _)

theorem powerOnEnd_frame (n : Fin 24) (d : Dev) : Frame 288 d (powerOnEnd n d) := by
  unfold powerOnEnd
  split
  · refine Frame.ite ?_ ?_
    · refine Frame.step ?_ (startSlot_frame _ _) rfl
      refine Frame.step ?_ (takeCfg_frame _ _) rfl
      refine Frame.step ?_ (onFr_frame _ _ _) rfl
      exact (Frame.refl _ _)
    · exact (Frame.refl _ _)
  · exact (Frame.refl _ _)

end Sys2Proof.Machine
end

