-- ==== Sys2Proof/Laws/KeepLinkOps.lean ====
section
/-! SUPPORT. What the operations of Machine/LinkOps.lean leave alone. -/

namespace Sys2Proof.Machine
open Sys2Proof

theorem dropRead_frame (tag : Fin 32) (d : Dev) : Frame 32768 d (dropRead tag d) := by
  unfold dropRead
  refine Frame.ite ?_ ?_
  · refine Frame.step ?_ (Dev.onCl_frame _ _) rfl
    exact (Frame.refl _ _)
  · exact (Frame.refl _ _)

theorem sendQuery_frame (o : QOwner) (q : Nat) (arg : Nat) (d : Dev) : Frame 49152 d (sendQuery o q arg d) := by
  unfold sendQuery
  refine Frame.ite ?_ ?_
  · refine Frame.step ?_ (Dev.onCask_frame _ _) rfl
    refine Frame.step ?_ (Dev.onCl_frame _ _) rfl
    exact (Frame.refl _ _)
  · refine Frame.step ?_ (Dev.onCl_frame _ _) rfl
    exact (Frame.refl _ _)

theorem linkDown_frame (d : Dev) : Frame 32768 d (linkDown d) := by
  unfold linkDown
  refine Frame.step ?_ (Dev.onCl_frame _ _) rfl
  exact (Frame.refl _ _)

theorem gotIdent_frame (data : List Sys2Proof.Byte) (d : Dev) : Frame 32768 d (gotIdent data d) := by
  unfold gotIdent
  refine Frame.step ?_ (Dev.onCl_frame _ _) rfl
  exact (Frame.refl _ _)

theorem forward_frame (e : List Sys2Proof.Byte) (d : Dev) : Frame 23101440 d (forward e d) := by
  unfold forward
  refine Frame.step ?_ (Dev.onCl_frame _ _) rfl
  refine Frame.step ?_ (pushPt_frame _ _ _) rfl
  exact (Frame.refl _ _)

theorem gotLog_frame (data : List Sys2Proof.Byte) (d : Dev) : Frame 23101440 d (gotLog data d) := by
  unfold gotLog
  split
  · refine Frame.step ?_ (Dev.onCl_frame _ _) rfl
    refine Frame.foldl ?_ ?_
    · exact (Frame.refl _ _)
    · intro _ _ h1000
      refine Frame.step ?_ (forward_frame _ _) rfl
      exact h1000
  · exact (Frame.refl _ _)

theorem queryDone_frame (data : List Sys2Proof.Byte) (b : BitVec 8) (d : Dev) : Frame 23363584 d (queryDone data b d) := by
  unfold queryDone
  dsimp only
  split
  · refine Frame.step ?_ (gotIdent_frame _ _) rfl
    refine Frame.step ?_ (Dev.onCl_frame _ _) rfl
    exact (Frame.refl _ _)
  · refine Frame.step ?_ (gotLog_frame _ _) rfl
    refine Frame.step ?_ (Dev.onCl_frame _ _) rfl
    exact (Frame.refl _ _)
  · split
    · refine Frame.step ?_ (complete_frame _ _ _ _) rfl
      refine Frame.step ?_ (Dev.onCl_frame _ _) rfl
      exact (Frame.refl _ _)
    · refine Frame.step ?_ (Dev.onCl_frame _ _) rfl
      exact (Frame.refl _ _)
  · refine Frame.step ?_ (Dev.onCl_frame _ _) rfl
    exact (Frame.refl _ _)

theorem linkNext_frame (d : Dev) : Frame 23117824 d (linkNext d) := by
  unfold linkNext
  dsimp only
  refine Frame.ite ?_ ?_
  · exact (Frame.refl _ _)
  · split
    · split
      · split
        · refine Frame.step ?_ (sendQuery_frame _ _ _ _) rfl
          refine Frame.step ?_ (Dev.onCl_frame _ _) rfl
          exact (Frame.refl _ _)
        · exact (Frame.refl _ _)
      · exact (Frame.refl _ _)
    · refine Frame.ite ?_ ?_
      · split
        · split
          · refine Frame.step ?_ (sendQuery_frame _ _ _ _) rfl
            refine Frame.step ?_ (Dev.onCl_frame _ _) rfl
            refine Frame.step ?_ (Dev.onCl_frame _ _) rfl
            exact (Frame.refl _ _)
          · refine Frame.step ?_ (Dev.onCl_frame _ _) rfl
            exact (Frame.refl _ _)
        · refine Frame.step ?_ (Dev.onCl_frame _ _) rfl
          exact (Frame.refl _ _)
      · split
        · refine Frame.step ?_ (sendQuery_frame _ _ _ _) rfl
          exact (Frame.refl _ _)
        · refine Frame.ite ?_ ?_
          · refine Frame.step ?_ (sendQuery_frame _ _ _ _) rfl
            exact (Frame.refl _ _)
          · split
            · split
              · refine Frame.step ?_ (sendQuery_frame _ _ _ _) rfl
                refine Frame.step ?_ (Dev.onCl_frame _ _) rfl
                refine Frame.foldl ?_ ?_
                · refine Frame.step ?_ (Dev.onCl_frame _ _) rfl
                  exact (Frame.refl _ _)
                · intro _ _ h1000
                  split
                  · refine Frame.ite ?_ ?_
                    · exact h1000
                    · refine Frame.step ?_ (forward_frame _ _) rfl
                      exact h1000
                  · refine Frame.step ?_ (forward_frame _ _) rfl
                    exact h1000
              · refine Frame.foldl ?_ ?_
                · refine Frame.step ?_ (Dev.onCl_frame _ _) rfl
                  exact (Frame.refl _ _)
                · intro _ _ h1001
                  split
                  · refine Frame.ite ?_ ?_
                    · exact h1001
                    · refine Frame.step ?_ (forward_frame _ _) rfl
                      exact h1001
                  · refine Frame.step ?_ (forward_frame _ _) rfl
                    exact h1001
            · refine Frame.foldl ?_ ?_
              · refine Frame.step ?_ (Dev.onCl_frame _ _) rfl
                exact (Frame.refl _ _)
              · intro _ _ h1002
                split
                · refine Frame.ite ?_ ?_
                  · exact h1002
                  · refine Frame.step ?_ (forward_frame _ _) rfl
                    exact h1002
                · refine Frame.step ?_ (forward_frame _ _) rfl
                  exact h1002

theorem linkFrame_frame (f : CFrame) (d : Dev) : Frame 23379968 d (linkFrame f d) := by
  unfold linkFrame
  dsimp only
  split
  · refine Frame.ite ?_ ?_
    · refine Frame.step ?_ (linkNext_frame _) rfl
      refine Frame.step ?_ (Dev.onCl_frame _ _) rfl
      refine Frame.step ?_ (Dev.onCl_frame _ _) rfl
      refine Frame.step ?_ (msgSc_frame _ _) rfl
      refine Frame.step ?_ (Dev.onCl_frame _ _) rfl
      exact (Frame.refl _ _)
    · refine Frame.step ?_ (Dev.onCl_frame _ _) rfl
      refine Frame.step ?_ (msgSc_frame _ _) rfl
      refine Frame.step ?_ (Dev.onCl_frame _ _) rfl
      exact (Frame.refl _ _)
  · refine Frame.step ?_ (Dev.onCl_frame _ _) rfl
    refine Frame.step ?_ (msgSc_frame _ _) rfl
    refine Frame.step ?_ (Dev.onCl_frame _ _) rfl
    exact (Frame.refl _ _)
  · split
    · refine Frame.step ?_ (Dev.onCl_frame _ _) rfl
      refine Frame.step ?_ (msgSc_frame _ _) rfl
      refine Frame.step ?_ (Dev.onCl_frame _ _) rfl
      exact (Frame.refl _ _)
    · refine Frame.step ?_ (forward_frame _ _) rfl
      refine Frame.step ?_ (msgSc_frame _ _) rfl
      refine Frame.step ?_ (Dev.onCl_frame _ _) rfl
      exact (Frame.refl _ _)
  · refine Frame.ite ?_ ?_
    · refine Frame.step ?_ (linkNext_frame _) rfl
      refine Frame.step ?_ (queryDone_frame _ _ _) rfl
      refine Frame.step ?_ (msgSc_frame _ _) rfl
      refine Frame.step ?_ (Dev.onCl_frame _ _) rfl
      refine Frame.step ?_ (msgSc_frame _ _) rfl
      refine Frame.step ?_ (Dev.onCl_frame _ _) rfl
      exact (Frame.refl _ _)
    · refine Frame.step ?_ (msgSc_frame _ _) rfl
      refine Frame.step ?_ (Dev.onCl_frame _ _) rfl
      exact (Frame.refl _ _)
  · refine Frame.step ?_ (msgSc_frame _ _) rfl
    refine Frame.step ?_ (Dev.onCl_frame _ _) rfl
    exact (Frame.refl _ _)

theorem queryLost_frame (d : Dev) : Frame 23379968 d (queryLost d) := by
  unfold queryLost
  split
  · refine Frame.ite ?_ ?_
    · refine Frame.step ?_ (fail_frame _ _ _) rfl
      refine Frame.step ?_ (Dev.onCl_frame _ _) rfl
      exact (Frame.refl _ _)
    · refine Frame.step ?_ (sendQuery_frame _ _ _ _) rfl
      refine Frame.step ?_ (Dev.onCl_frame _ _) rfl
      exact (Frame.refl _ _)
  · refine Frame.step ?_ (Dev.onCl_frame _ _) rfl
    exact (Frame.refl _ _)

end Sys2Proof.Machine
end

