-- ==== Sys2Proof/Laws/KeepTimeBase.lean ====
section
/-! SUPPORT. What the operations of Machine/TimeBase.lean leave alone. -/

namespace Sys2Proof.Machine
open Sys2Proof

theorem tbCapGo_frame (d : Dev) : Frame 2 d (tbCapGo d) := by
  unfold tbCapGo
  refine Frame.step ?_ (Dev.onTb_frame _ _) rfl
  exact (Frame.refl _ _)

theorem tbCfgWrite_frame (zc : Bool) (v : Nat) (d : Dev) : Frame 2 d (tbCfgWrite zc v d) := by
  unfold tbCfgWrite
  refine Frame.step ?_ (Dev.onTb_frame _ _) rfl
  exact (Frame.refl _ _)

theorem pcmpFire_frame (n : Fin 32) (d : Dev) : Frame 27263234 d (pcmpFire n d) := by
  unfold pcmpFire
  refine Frame.dite ?_ ?_
  · intro _
    refine Frame.ite ?_ ?_
    · refine Frame.step ?_ (armedStart_frame _ _) rfl
      refine Frame.step ?_ (startTimers_frame _ _ _) rfl
      refine Frame.ite ?_ ?_
      · refine Frame.step ?_ (message_frame _ _) rfl
        refine Frame.step ?_ (Dev.onTb_frame _ _) rfl
        exact (Frame.refl _ _)
      · refine Frame.step ?_ (Dev.onTb_frame _ _) rfl
        exact (Frame.refl _ _)
    · refine Frame.step ?_ (startTimers_frame _ _ _) rfl
      refine Frame.ite ?_ ?_
      · refine Frame.step ?_ (message_frame _ _) rfl
        refine Frame.step ?_ (Dev.onTb_frame _ _) rfl
        exact (Frame.refl _ _)
      · refine Frame.step ?_ (Dev.onTb_frame _ _) rfl
        exact (Frame.refl _ _)
  · intro _
    refine Frame.ite ?_ ?_
    · refine Frame.step ?_ (message_frame _ _) rfl
      refine Frame.step ?_ (Dev.onTb_frame _ _) rfl
      exact (Frame.refl _ _)
    · refine Frame.step ?_ (Dev.onTb_frame _ _) rfl
      exact (Frame.refl _ _)

theorem pcmpTgtWrite_frame (n : Fin 32) (v : Nat) (d : Dev) : Frame 27263234 d (pcmpTgtWrite n v d) := by
  unfold pcmpTgtWrite
  refine Frame.ite ?_ ?_
  · refine Frame.step ?_ (pcmpFire_frame _ _) rfl
    refine Frame.step ?_ (Dev.onTb_frame _ _) rfl
    exact (Frame.refl _ _)
  · refine Frame.step ?_ (Dev.onTb_frame _ _) rfl
    exact (Frame.refl _ _)

theorem binBegins_frame (d : Dev) : Frame 4 d (binBegins d) := by
  unfold binBegins
  refine Frame.step ?_ (Dev.onDrv_frame _ _) rfl
  exact (Frame.refl _ _)

theorem binBoundary_frame (ms : List BinMeas) (d : Dev) : Frame 6 d (binBoundary ms d) := by
  unfold binBoundary
  refine Frame.ite ?_ ?_
  · exact (Frame.refl _ _)
  · refine Frame.step ?_ (binBegins_frame _) rfl
    refine Frame.step ?_ (Dev.onTb_frame _ _) rfl
    refine Frame.foldl ?_ ?_
    · exact (Frame.refl _ _)
    · intro _ _ h1000
      split
      · refine Frame.step ?_ (Dev.onTb_frame _ _) rfl
        exact h1000
      · exact h1000

theorem execHoldoverExpiry_frame (s : State) : ONext 2 s.ev (execHoldoverExpiry s) := by
  unfold execHoldoverExpiry
  refine ONext.onDev ?_
  intro d h
  refine Frame.step ?_ (Dev.onTb_frame _ _) rfl
  exact h

theorem execPcmpFire_frame (n : Fin 32) (s : State) : ONext 27263234 s.ev (execPcmpFire n s) := by
  unfold execPcmpFire
  refine ONext.onDev ?_
  intro d h
  refine Frame.ite ?_ ?_
  · refine Frame.step ?_ (pcmpFire_frame _ _) rfl
    exact h
  · exact h

theorem execQmapRead_frame (tag : Fin 32) (s : State) : ONext 23330816 s.ev (execQmapRead tag s) := by
  unfold execQmapRead
  refine ONext.onDev ?_
  intro d h
  refine begin__frame _ _ _ _ _ rfl ?_ ?_
  · intro _ _ h1000
    refine inMode_frame _ _ _ _ rfl ?_ ?_
    · intro _ h1001
      refine Frame.ite ?_ ?_
      · refine Frame.step ?_ (fail_frame _ _ _) rfl
        exact h1001
      · refine Frame.step ?_ (complete_frame _ _ _ _) rfl
        exact h1001
    · exact h1000
  · exact h

theorem execSourceEdge_frame (zc : Bool) (rise : Bool) (stable : Nat) (width : Nat) (s : State) : ONext 2 s.ev (execSourceEdge
    zc rise stable width s) := by
  unfold execSourceEdge
  refine ONext.onDev ?_
  intro d h
  refine Frame.ite ?_ ?_
  · refine Frame.step ?_ (Dev.onTb_frame _ _) rfl
    exact h
  · exact h

theorem execSourceQualLoss_frame (zc : Bool) (s : State) : ONext 2 s.ev (execSourceQualLoss zc s) := by
  unfold execSourceQualLoss
  refine ONext.onDev ?_
  intro d h
  refine Frame.step ?_ (Dev.onTb_frame _ _) rfl
  exact h

theorem execTimebaseCfg_frame (tag : Fin 32) (s : State) : ONext 23330818 s.ev (execTimebaseCfg tag s) := by
  unfold execTimebaseCfg
  refine ONext.onDev ?_
  intro d h
  refine begin__frame _ _ _ _ _ rfl ?_ ?_
  · intro _ _ h1000
    refine Frame.ite ?_ ?_
    · refine Frame.step ?_ (fail_frame _ _ _) rfl
      exact h1000
    · refine inMode_frame _ _ _ _ rfl ?_ ?_
      · intro _ h1001
        refine Frame.ite ?_ ?_
        · refine Frame.step ?_ (fail_frame _ _ _) rfl
          exact h1001
        · refine Frame.step ?_ (complete_frame _ _ _ _) rfl
          refine Frame.step ?_ (Dev.onTb_frame _ _) rfl
          exact h1001
      · exact h1000
  · exact h

end Sys2Proof.Machine
end

