-- ==== Sys2Proof/Laws/KeepDrive.lean ====
section
/-! SUPPORT. What the operations of Machine/Drive.lean leave alone. -/

namespace Sys2Proof.Machine
open Sys2Proof

theorem Dev.testBackstop_frame (d : Dev) (y1 : PowerMeas) : Frame 23330837 d (Dev.testBackstop d y1) := by
  unfold Dev.testBackstop
  split
  · refine Frame.ite ?_ ?_
    · exact (Frame.refl _ _)
    · refine Frame.ite ?_ ?_
      · refine Frame.step ?_ (endHfTest_frame _ _ _) rfl
        refine Frame.step ?_ (Dev.onDrv_frame _ _) rfl
        exact (Frame.refl _ _)
      · refine Frame.step ?_ (rewords_frame _) rfl
        refine Frame.step ?_ (Dev.onMode_frame _ _) rfl
        refine Frame.step ?_ (Dev.onDrv_frame _ _) rfl
        exact (Frame.refl _ _)
  · exact (Frame.refl _ _)

theorem txCommit_frame (n : Fin 24) (d : Dev) : Frame 8 d (txCommit n d) := by
  unfold txCommit
  refine Frame.step ?_ (onTxZ_frame _ _ _) rfl
  exact (Frame.refl _ _)

theorem openRefused_frame (n : Fin 24) (d : Dev) : Frame 31719932 d (openRefused n d) := by
  unfold openRefused
  split
  · split
    · refine Frame.ite ?_ ?_
      · refine Frame.step ?_ (closeZone_frame _ _ _ _) rfl
        exact (Frame.refl _ _)
      · exact (Frame.refl _ _)
    · exact (Frame.refl _ _)
  · exact (Frame.refl _ _)

theorem fieldWrite_frame (n : Fin 24) (on : Bool) (d : Dev) : Frame 31719932 d (fieldWrite n on d) := by
  unfold fieldWrite
  refine Frame.ite ?_ ?_
  · refine Frame.ite ?_ ?_
    · refine withRx_frame _ _ rfl ?_ ?_
      · intro _ h1000
        refine Frame.step ?_ (fieldOn_frame _ _) rfl
        exact h1000
      · exact (Frame.refl _ _)
    · refine Frame.ite ?_ ?_
      · refine Frame.step ?_ (armPower_frame _ _) rfl
        refine withRx_frame _ _ rfl ?_ ?_
        · intro _ h1001
          refine Frame.step ?_ (fieldOn_frame _ _) rfl
          exact h1001
        · exact (Frame.refl _ _)
      · refine Frame.step ?_ (openRefused_frame _ _) rfl
        refine withRx_frame _ _ rfl ?_ ?_
        · intro _ h1002
          refine Frame.step ?_ (fieldOn_frame _ _) rfl
          exact h1002
        · exact (Frame.refl _ _)
  · refine withRx_frame _ _ rfl ?_ ?_
    · intro _ h1003
      refine Frame.step ?_ (fieldOff_frame _ _) rfl
      exact h1003
    · exact (Frame.refl _ _)

theorem killZones_frame (d : Dev) : Frame 31719933 d (killZones d) := by
  unfold killZones
  refine Frame.step ?_ (endHfTest_frame _ _ _) rfl
  refine Frame.step ?_ (closeAll_frame _ _ _) rfl
  exact (Frame.refl _ _)

theorem swkillWrite_frame (on : Bool) (d : Dev) : Frame 31719933 d (swkillWrite on d) := by
  unfold swkillWrite
  refine Frame.ite ?_ ?_
  · refine Frame.ite ?_ ?_
    · exact (Frame.refl _ _)
    · refine Frame.step ?_ (killZones_frame _) rfl
      refine Frame.step ?_ (msgSc_frame _ _) rfl
      refine Frame.step ?_ (dropBursts_frame _ _) rfl
      refine withRx_frame _ _ rfl ?_ ?_
      · intro _ h1000
        refine Frame.step ?_ (bridgesOff_frame _) rfl
        exact h1000
      · refine Frame.step ?_ (Dev.onDrv_frame _ _) rfl
        exact (Frame.refl _ _)
  · refine withRx_frame _ _ rfl ?_ ?_
    · intro _ h1001
      refine Frame.step ?_ (rewords_frame _) rfl
      exact h1001
    · refine Frame.step ?_ (Dev.onDrv_frame _ _) rfl
      exact (Frame.refl _ _)

theorem rearmRun_frame (c : Fin 192) (d : Dev) : Frame 16 d (rearmRun c d) := by
  unfold rearmRun
  refine Frame.step ?_ (markAll_frame _ _ _ _) rfl
  exact (Frame.refl _ _)

theorem rearm_frame (c : Fin 192) (d : Dev) : Frame 20 d (rearm c d) := by
  unfold rearm
  refine Frame.ite ?_ ?_
  · refine Frame.step ?_ (rearmRun_frame _ _) rfl
    refine Frame.step ?_ (rewords_frame _) rfl
    refine Frame.step ?_ (Dev.onDrv_frame _ _) rfl
    exact (Frame.refl _ _)
  · exact (Frame.refl _ _)

theorem applyDue_frame (n : Fin 24) (d : Dev) : Frame 31719932 d (applyDue n d) := by
  unfold applyDue
  split
  · refine Frame.ite ?_ ?_
    · refine Frame.step ?_ (openRefused_frame _ _) rfl
      refine withRxRoles_frame _ _ rfl ?_ ?_
      · intro _ h1000
        refine Frame.step ?_ (applyCommit_frame _ _ _) rfl
        exact h1000
      · refine Frame.step ?_ (onTxZ_frame _ _ _) rfl
        exact (Frame.refl _ _)
    · refine withRxRoles_frame _ _ rfl ?_ ?_
      · intro _ h1001
        refine Frame.step ?_ (applyCommit_frame _ _ _) rfl
        exact h1001
      · refine Frame.step ?_ (onTxZ_frame _ _ _) rfl
        exact (Frame.refl _ _)
  · exact (Frame.refl _ _)

theorem fieldLost_frame (n : Fin 24) (d : Dev) : Frame 31719932 d (fieldLost n d) := by
  unfold fieldLost
  refine Frame.step ?_ (closeZone_frame _ _ _ _) rfl
  refine withRx_frame _ _ rfl ?_ ?_
  · intro _ h1000
    refine Frame.step ?_ (fieldStop_frame _ _) rfl
    exact h1000
  · exact (Frame.refl _ _)

theorem backstop_frame (y0 : PowerMeas) (d : Dev) : Frame 31719933 d (backstop y0 d) := by
  unfold backstop
  refine Frame.ite ?_ ?_
  · refine Frame.step ?_ (Dev.testBackstop_frame _ _) rfl
    refine Frame.step ?_ (Dev.onDrv_frame _ _) rfl
    exact (Frame.refl _ _)
  · refine Frame.foldl ?_ ?_
    · refine withRx_frame _ _ rfl ?_ ?_
      · intro _ h1000
        refine Frame.step ?_ (rewords_frame _) rfl
        refine Frame.foldl ?_ ?_
        · exact h1000
        · intro _ _ h1001
          refine Frame.step ?_ (txMsg_frame _ _) rfl
          refine Frame.step ?_ (onTxZ_frame _ _ _) rfl
          exact h1001
      · refine Frame.step ?_ (Dev.onDrv_frame _ _) rfl
        refine Frame.step ?_ (Dev.testBackstop_frame _ _) rfl
        refine Frame.step ?_ (Dev.onDrv_frame _ _) rfl
        exact (Frame.refl _ _)
    · intro _ _ h1002
      refine Frame.step ?_ (fieldLost_frame _ _) rfl
      exact h1002

theorem commitApply_frame (n : Fin 24) (d : Dev) : Frame 31719932 d (commitApply n d) := by
  unfold commitApply
  refine Frame.step ?_ (applyDue_frame _ _) rfl
  refine Frame.foldl ?_ ?_
  · exact (Frame.refl _ _)
  · intro _ _ h1000
    refine Frame.step ?_ (onTxZ_frame _ _ _) rfl
    refine Frame.step ?_ (applyDue_frame _ _) rfl
    exact h1000

theorem execBackstopMeasure_frame (y0 : PowerMeas) (s : State) : ONext 31719933 s.ev (execBackstopMeasure y0 s) := by
  unfold execBackstopMeasure
  refine ONext.onDev ?_
  intro d h
  refine Frame.step ?_ (backstop_frame _ _) rfl
  exact h

theorem execCommitApply_frame (n : Fin 24) (cur : List (Fin 192 × Nat)) (s : State) : ONext 31719932 s.ev (execCommitApply n
    cur s) := by
  unfold execCommitApply
  refine ONext.onDev ?_
  intro d h
  refine Frame.ite ?_ ?_
  · refine Frame.ite ?_ ?_
    · exact h
    · refine Frame.step ?_ (setFld_frame _ _ _) rfl
      refine Frame.step ?_ (commitApply_frame _ _) rfl
      exact h
  · refine Frame.ite ?_ ?_
    · refine Frame.step ?_ (setFld_frame _ _ _) rfl
      refine Frame.step ?_ (onTxZ_frame _ _ _) rfl
      exact h
    · exact h

theorem kettleClear_frame (k : Fin 4) (f : KetFault) (d : Dev) : Frame 23068756 d (kettleClear k f d) := by
  unfold kettleClear
  refine Frame.step ?_ (pushKetFault_frame _ _ _ _) rfl
  refine withRx_frame _ _ rfl ?_ ?_
  · intro _ h1000
    refine Frame.step ?_ (rewords_frame _) rfl
    refine Frame.step ?_ (Dev.onDrv_frame _ _) rfl
    exact h1000
  · exact (Frame.refl _ _)

theorem execDriveLinkRefresh_frame (k : Fin 4) (s : State) : ONext 23068756 s.ev (execDriveLinkRefresh k s) := by
  unfold execDriveLinkRefresh
  refine ONext.onDev ?_
  intro d h
  refine Frame.ite ?_ ?_
  · refine Frame.ite ?_ ?_
    · refine Frame.step ?_ (kettleClear_frame _ _ _) rfl
      refine Frame.step ?_ (Dev.onDrv_frame _ _) rfl
      exact h
    · refine Frame.step ?_ (Dev.onDrv_frame _ _) rfl
      exact h
  · exact h

theorem testCheck_frame (d : Dev) : Frame 23330837 d (testCheck d) := by
  unfold testCheck
  refine Frame.ite ?_ ?_
  · refine Frame.step ?_ (endHfTest_frame _ _ _) rfl
    exact (Frame.refl _ _)
  · exact (Frame.refl _ _)

theorem kettleFault_frame (k : Fin 4) (f : KetFault) (d : Dev) : Frame 31719932 d (kettleFault k f d) := by
  unfold kettleFault
  refine Frame.foldl ?_ ?_
  · refine Frame.ite ?_ ?_
    · refine Frame.step ?_ (dropBursts_frame _ _) rfl
      refine withRx_frame _ _ rfl ?_ ?_
      · intro _ h1000
        refine Frame.step ?_ (rewords_frame _) rfl
        exact h1000
      · refine Frame.step ?_ (pushKetFault_frame _ _ _ _) rfl
        refine Frame.step ?_ (msgSc_frame _ _) rfl
        refine Frame.step ?_ (Dev.onDrv_frame _ _) rfl
        exact (Frame.refl _ _)
    · refine withRx_frame _ _ rfl ?_ ?_
      · intro _ h1001
        refine Frame.step ?_ (rewords_frame _) rfl
        exact h1001
      · refine Frame.step ?_ (pushKetFault_frame _ _ _ _) rfl
        refine Frame.step ?_ (msgSc_frame _ _) rfl
        refine Frame.step ?_ (Dev.onDrv_frame _ _) rfl
        exact (Frame.refl _ _)
  · intro _ _ h1002
    refine Frame.step ?_ (fieldLost_frame _ _) rfl
    exact h1002

theorem execDriverFault_frame (x : DrvFault) (s : State) : ONext 31719933 s.ev (execDriverFault x s) := by
  unfold execDriverFault
  refine ONext.onDev ?_
  intro d h
  split
  · refine Frame.ite ?_ ?_
    · exact h
    · refine Frame.ite ?_ ?_
      · exact h
      · refine Frame.step ?_ (testCheck_frame _) rfl
        refine withRx_frame _ _ rfl ?_ ?_
        · intro _ h1000
          refine Frame.step ?_ (coilFault_frame _ _ _) rfl
          exact h1000
        · exact h
  · refine Frame.ite ?_ ?_
    · refine Frame.step ?_ (Dev.onDrv_frame _ _) rfl
      exact h
    · refine Frame.step ?_ (testCheck_frame _) rfl
      refine Frame.step ?_ (kettleFault_frame _ _ _) rfl
      refine Frame.step ?_ (Dev.onDrv_frame _ _) rfl
      exact h

theorem execFieldRampEnd_frame (n : Fin 24) (s : State) : ONext 92 s.ev (execFieldRampEnd n s) := by
  unfold execFieldRampEnd
  refine ONext.onDev ?_
  intro d h
  refine Frame.ite ?_ ?_
  · refine Frame.step ?_ (returnCoils_frame _ _) rfl
    refine withRx_frame _ _ rfl ?_ ?_
    · intro _ h1000
      refine Frame.step ?_ (rampEnd_frame _ _) rfl
      exact h1000
    · exact h
  · exact h

theorem execFkillAssert_frame (s : State) : ONext 98828797 s.ev (execFkillAssert s) := by
  unfold execFkillAssert
  refine ONext.onDev ?_
  intro d h
  refine Frame.ite ?_ ?_
  · exact h
  · refine Frame.step ?_ (killZones_frame _) rfl
    refine Frame.step ?_ (msgSc_frame _ _) rfl
    refine Frame.step ?_ (msgHost_frame _ _) rfl
    refine Frame.ite ?_ ?_
    · refine Frame.step ?_ (wakeDom_frame _ _) rfl
      refine Frame.step ?_ (dropBursts_frame _ _) rfl
      refine withRx_frame _ _ rfl ?_ ?_
      · intro _ h1000
        refine Frame.step ?_ (bridgesOff_frame _) rfl
        exact h1000
      · refine Frame.step ?_ (Dev.onPin_frame _ _) rfl
        exact h
    · refine Frame.step ?_ (dropBursts_frame _ _) rfl
      refine withRx_frame _ _ rfl ?_ ?_
      · intro _ h1001
        refine Frame.step ?_ (bridgesOff_frame _) rfl
        exact h1001
      · refine Frame.step ?_ (Dev.onPin_frame _ _) rfl
        exact h

theorem execFkillDeassert_frame (s : State) : ONext 67108864 s.ev (execFkillDeassert s) := by
  unfold execFkillDeassert
  refine ONext.onDev ?_
  intro d h
  refine Frame.ite ?_ ?_
  · refine Frame.step ?_ (Dev.onPin_frame _ _) rfl
    exact h
  · exact h

theorem execKettleFaultClear_frame (k : Fin 4) (f : KetFault) (vdrv : Nat) (temp : Int) (s : State) : ONext 23068756 s.ev
    (execKettleFaultClear k f vdrv temp s) := by
  unfold execKettleFaultClear
  refine ONext.onDev ?_
  intro d h
  refine Frame.ite ?_ ?_
  · refine Frame.step ?_ (kettleClear_frame _ _ _) rfl
    refine Frame.step ?_ (Dev.onDrv_frame _ _) rfl
    exact h
  · refine Frame.step ?_ (Dev.onDrv_frame _ _) rfl
    exact h

theorem execLimiterReeval_frame (ks : Vector (Nat × Int) 4) (cur : List (Fin 192 × Nat)) (s : State) : ONext 18874717 s.ev
    (execLimiterReeval ks cur s) := by
  unfold execLimiterReeval
  refine ONext.onDev ?_
  intro d h
  refine Frame.foldl ?_ ?_
  · refine withRx_frame _ _ rfl ?_ ?_
    · intro _ h1000
      refine Frame.step ?_ (rewords_frame _) rfl
      refine Frame.step ?_ (reevalTest_frame _) rfl
      refine Frame.step ?_ (reevalTot_frame _) rfl
      refine Frame.foldl ?_ ?_
      · exact h1000
      · intro _ _ h1001
        refine Frame.step ?_ (reevalKet_frame _ _) rfl
        exact h1001
    · refine Frame.step ?_ (Dev.onDrv_frame _ _) rfl
      exact h
  · intro _ _ h1002
    refine Frame.ite ?_ ?_
    · refine Frame.step ?_ (easeField_frame _ _) rfl
      refine Frame.step ?_ (setFld_frame _ _ _) rfl
      exact h1002
    · exact h1002

theorem execProbeResume_frame (s : State) : ONext 67108948 s.ev (execProbeResume s) := by
  unfold execProbeResume
  refine ONext.onDev ?_
  intro d h
  split
  · refine Frame.ite ?_ ?_
    · refine withRx_frame _ _ rfl ?_ ?_
      · intro _ h1000
        refine Frame.step ?_ (rewords_frame _) rfl
        exact h1000
      · refine Frame.step ?_ (Dev.onPin_frame _ _) rfl
        exact h
    · exact h
  · exact h

theorem execRearmTestEnd_frame (c : Fin 192) (oc : Bool) (opn : Bool) (ron : Bool) (s : State) : ONext 23068764 s.ev
    (execRearmTestEnd c oc opn ron s) := by
  unfold execRearmTestEnd
  refine ONext.onDev ?_
  intro d h
  refine Frame.ite ?_ ?_
  · exact h
  · refine Frame.ite ?_ ?_
    · refine Frame.ite ?_ ?_
      · refine withRx_frame _ _ rfl ?_ ?_
        · intro _ h1000
          refine Frame.step ?_ (coilFault_frame _ _ _) rfl
          exact h1000
        · refine Frame.ite ?_ ?_
          · refine withRx_frame _ _ rfl ?_ ?_
            · intro _ h1001
              refine Frame.step ?_ (coilFault_frame _ _ _) rfl
              exact h1001
            · refine Frame.ite ?_ ?_
              · refine withRx_frame _ _ rfl ?_ ?_
                · intro _ h1002
                  refine Frame.step ?_ (coilFault_frame _ _ _) rfl
                  exact h1002
                · refine Frame.step ?_ (rearmRun_frame _ _) rfl
                  exact h
              · refine Frame.step ?_ (rearmRun_frame _ _) rfl
                exact h
          · refine Frame.ite ?_ ?_
            · refine withRx_frame _ _ rfl ?_ ?_
              · intro _ h1003
                refine Frame.step ?_ (coilFault_frame _ _ _) rfl
                exact h1003
              · refine Frame.step ?_ (rearmRun_frame _ _) rfl
                exact h
            · refine Frame.step ?_ (rearmRun_frame _ _) rfl
              exact h
      · refine Frame.ite ?_ ?_
        · refine withRx_frame _ _ rfl ?_ ?_
          · intro _ h1004
            refine Frame.step ?_ (coilFault_frame _ _ _) rfl
            exact h1004
          · refine Frame.ite ?_ ?_
            · refine withRx_frame _ _ rfl ?_ ?_
              · intro _ h1005
                refine Frame.step ?_ (coilFault_frame _ _ _) rfl
                exact h1005
              · refine Frame.step ?_ (rearmRun_frame _ _) rfl
                exact h
            · refine Frame.step ?_ (rearmRun_frame _ _) rfl
              exact h
        · refine Frame.ite ?_ ?_
          · refine withRx_frame _ _ rfl ?_ ?_
            · intro _ h1006
              refine Frame.step ?_ (coilFault_frame _ _ _) rfl
              exact h1006
            · refine Frame.step ?_ (rearmRun_frame _ _) rfl
              exact h
          · refine Frame.step ?_ (rearmRun_frame _ _) rfl
            exact h
    · refine withRxRoles_frame _ _ rfl ?_ ?_
      · intro _ h1007
        refine Frame.step ?_ (redrive_frame _) rfl
        refine Frame.step ?_ (Dev.onDrv_frame _ _) rfl
        exact h1007
      · refine Frame.step ?_ (rearmRun_frame _ _) rfl
        exact h

theorem execRonMonitorScan_frame (cs : List (Fin 192)) (s : State) : ONext 23330909 s.ev (execRonMonitorScan cs s) := by
  unfold execRonMonitorScan
  refine ONext.onDev ?_
  intro d h
  refine Frame.step ?_ (testCheck_frame _) rfl
  refine Frame.foldl ?_ ?_
  · exact h
  · intro _ _ h1000
    refine Frame.ite ?_ ?_
    · exact h1000
    · refine withRx_frame _ _ rfl ?_ ?_
      · intro _ h1001
        refine Frame.step ?_ (coilFault_frame _ _ _) rfl
        exact h1001
      · exact h1000

end Sys2Proof.Machine
end

