-- ==== Sys2Proof/Laws/KeepReceive.lean ====
section
/-! SUPPORT. What the operations of Machine/Receive.lean leave alone. -/

namespace Sys2Proof.Machine
open Sys2Proof

theorem hclr_frame (d : Dev) : Frame 16 d (hclr d) := by
  unfold hclr
  refine Frame.step ?_ (Dev.onRx_frame _ _) rfl
  exact (Frame.refl _ _)

theorem agcWrite_frame (n : Fin 24) (agc : Nat) (gfix : Nat) (d : Dev) : Frame 16 d (agcWrite n agc gfix d) := by
  unfold agcWrite
  refine Frame.ite ?_ ?_
  · refine Frame.step ?_ (setZoneGain_frame _ _ _) rfl
    refine Frame.step ?_ (onZRx_frame _ _ _) rfl
    exact (Frame.refl _ _)
  · refine Frame.step ?_ (onZRx_frame _ _ _) rfl
    exact (Frame.refl _ _)

theorem formWords_frame (c : Fin 192) (ws : AdcWords) (d : Dev) : Frame 16 d (formWords c ws d) := by
  unfold formWords
  refine Frame.foldl ?_ ?_
  · exact (Frame.refl _ _)
  · intro _ _ h1000
    refine Frame.step ?_ (formChannel_frame _ _ _) rfl
    exact h1000

theorem overrange_frame (c : Fin 192) (d : Dev) : Frame 16 d (overrange c d) := by
  unfold overrange
  dsimp only
  split
  · refine Frame.ite ?_ ?_
    · refine Frame.step ?_ (onZRx_frame _ _ _) rfl
      refine Frame.step ?_ (markAll_frame _ _ _ _) rfl
      refine Frame.step ?_ (onCh_frame _ _ _) rfl
      refine Frame.step ?_ (Dev.onRx_frame _ _) rfl
      exact (Frame.refl _ _)
    · refine Frame.ite ?_ ?_
      · refine Frame.step ?_ (stepZone_frame _ _ _ _) rfl
        refine Frame.step ?_ (markAll_frame _ _ _ _) rfl
        refine Frame.step ?_ (onCh_frame _ _ _) rfl
        refine Frame.step ?_ (Dev.onRx_frame _ _) rfl
        exact (Frame.refl _ _)
      · refine Frame.step ?_ (markAll_frame _ _ _ _) rfl
        refine Frame.step ?_ (onCh_frame _ _ _) rfl
        refine Frame.step ?_ (Dev.onRx_frame _ _) rfl
        exact (Frame.refl _ _)
  · refine Frame.ite ?_ ?_
    · refine Frame.step ?_ (ownStep_frame _ _ _) rfl
      refine Frame.step ?_ (markAll_frame _ _ _ _) rfl
      refine Frame.step ?_ (onCh_frame _ _ _) rfl
      refine Frame.step ?_ (Dev.onRx_frame _ _) rfl
      exact (Frame.refl _ _)
    · refine Frame.step ?_ (markAll_frame _ _ _ _) rfl
      refine Frame.step ?_ (onCh_frame _ _ _) rfl
      refine Frame.step ?_ (Dev.onRx_frame _ _) rfl
      exact (Frame.refl _ _)

theorem execAdcOverrange_frame (c : Fin 192) (x : Int) (ws : AdcWords) (s : State) : ONext 16 s.ev (execAdcOverrange c x ws s)
    := by
  unfold execAdcOverrange
  refine ONext.onDev ?_
  intro d h
  refine Frame.ite ?_ ?_
  · refine Frame.ite ?_ ?_
    · refine Frame.step ?_ (overrange_frame _ _) rfl
      refine Frame.step ?_ (formWords_frame _ _ _) rfl
      exact h
    · refine Frame.step ?_ (formWords_frame _ _ _) rfl
      exact h
  · exact h

theorem windowEnd_frame (c : Fin 192) (peak : Nat) (d : Dev) : Frame 16 d (windowEnd c peak d) := by
  unfold windowEnd
  split
  · refine Frame.ite ?_ ?_
    · exact (Frame.refl _ _)
    · refine Frame.ite ?_ ?_
      · refine Frame.step ?_ (stepZone_frame _ _ _ _) rfl
        exact (Frame.refl _ _)
      · refine Frame.step ?_ (onZRx_frame _ _ _) rfl
        exact (Frame.refl _ _)
  · refine Frame.ite ?_ ?_
    · exact (Frame.refl _ _)
    · refine Frame.step ?_ (ownStep_frame _ _ _) rfl
      exact (Frame.refl _ _)

theorem execAgcWindowEnd_frame (c : Fin 192) (ws : List (Fin 192 × AdcWords)) (s : State) : ONext 16 s.ev (execAgcWindowEnd c
    ws s) := by
  unfold execAgcWindowEnd
  refine ONext.onDev ?_
  intro d h
  refine Frame.ite ?_ ?_
  · exact h
  · refine Frame.step ?_ (windowEnd_frame _ _ _) rfl
    refine Frame.foldl ?_ ?_
    · exact h
    · intro _ _ h1000
      refine Frame.step ?_ (formWords_frame _ _ _) rfl
      exact h1000

end Sys2Proof.Machine
end

