-- ==== Sys2Proof/Laws/KeepLauter.lean ====
section
/-! SUPPORT. What the operations of Machine/Lauter.lean leave alone. -/

namespace Sys2Proof.Machine
open Sys2Proof

theorem dpop_frame (n : Fin 24) (d : Dev) : Frame 32 d (dpop n d) := by
  unfold dpop
  refine Frame.step ?_ (onLz_frame _ _ _) rfl
  exact (Frame.refl _ _)

theorem probeEngWrite_frame (v : Nat) (d : Dev) : Frame 32 d (probeEngWrite v d) := by
  unfold probeEngWrite
  refine Frame.ite ?_ ?_
  · refine Frame.step ?_ (judgeWaits_frame _) rfl
    refine Frame.step ?_ (trimProbe_frame _) rfl
    refine Frame.step ?_ (serveProbe_frame _) rfl
    refine Frame.step ?_ (Dev.onLau_frame _ _) rfl
    exact (Frame.refl _ _)
  · exact (Frame.refl _ _)

theorem crossing_frame (n : Fin 24) (tid : Nat) (var : Nat) (y3 : List Cplx) (d : Dev) : Frame 32 d (crossing n tid var y3 d)
    := by
  unfold crossing
  split
  · exact (Frame.refl _ _)
  · refine Frame.ite ?_ ?_
    · exact (Frame.refl _ _)
    · refine Frame.ite ?_ ?_
      · exact (Frame.refl _ _)
      · refine Frame.ite ?_ ?_
        · refine Frame.ite ?_ ?_
          · refine Frame.step ?_ (onLz_frame _ _ _) rfl
            exact (Frame.refl _ _)
          · exact (Frame.refl _ _)
        · refine Frame.step ?_ (onLz_frame _ _ _) rfl
          exact (Frame.refl _ _)

theorem declare__frame (n : Fin 24) (mag : Nat) (phase : Nat) (frac : Nat) (d : Dev) : Frame 31588656 d (declare_ n mag phase
    frac d) := by
  unfold declare_
  split
  · exact (Frame.refl _ _)
  · refine Frame.ite ?_ ?_
    · refine Frame.step ?_ (releaseHold_frame _ _) rfl
      refine Frame.step ?_ (msgZone_frame _ _ _) rfl
      refine Frame.step ?_ (startTimers_frame _ _ _) rfl
      refine Frame.step ?_ (Dev.onQs_frame _ _) rfl
      refine Frame.step ?_ (kilnDet_frame _ _) rfl
      refine Frame.step ?_ (onFr_frame _ _ _) rfl
      refine Frame.step ?_ (onLz_frame _ _ _) rfl
      refine Frame.step ?_ (freezeLoop_frame _ _) rfl
      exact (Frame.refl _ _)
    · refine Frame.step ?_ (msgZone_frame _ _ _) rfl
      refine Frame.step ?_ (startTimers_frame _ _ _) rfl
      refine Frame.step ?_ (Dev.onQs_frame _ _) rfl
      refine Frame.step ?_ (kilnDet_frame _ _) rfl
      refine Frame.step ?_ (onFr_frame _ _ _) rfl
      refine Frame.step ?_ (onLz_frame _ _ _) rfl
      refine Frame.step ?_ (freezeLoop_frame _ _) rfl
      exact (Frame.refl _ _)

theorem execDetectionDeclare_frame (n : Fin 24) (mag : Nat) (phase : Nat) (frac : Nat) (s : State) : ONext 31588656 s.ev
    (execDetectionDeclare n mag phase frac s) := by
  unfold execDetectionDeclare
  refine ONext.onDev ?_
  intro d h
  split
  · refine Frame.ite ?_ ?_
    · refine Frame.step ?_ (declare__frame _ _ _ _ _) rfl
      exact h
    · exact h
  · exact h

theorem execEngineGrant_frame (s : State) : ONext 32 s.ev (execEngineGrant s) := by
  unfold execEngineGrant
  refine ONext.onDev ?_
  intro d h
  refine Frame.step ?_ (grantHead_frame _) rfl
  exact h

theorem execPeakSearchEnd_frame (n : Fin 24) (s : State) : ONext 32 s.ev (execPeakSearchEnd n s) := by
  unfold execPeakSearchEnd
  refine ONext.onDev ?_
  intro d h
  refine Frame.ite ?_ ?_
  · refine Frame.step ?_ (onLz_frame _ _ _) rfl
    exact h
  · exact h

theorem execTemplateCrossing_frame (n : Fin 24) (tid : Nat) (var : Nat) (y3 : List Cplx) (s : State) : ONext 32 s.ev
    (execTemplateCrossing n tid var y3 s) := by
  unfold execTemplateCrossing
  refine ONext.onDev ?_
  intro d h
  refine Frame.step ?_ (crossing_frame _ _ _ _ _) rfl
  exact h

end Sys2Proof.Machine
end

