-- ==== Sys2Proof/Laws/KeepNvmOps.lean ====
section
/-! SUPPORT. What the operations of Machine/NvmOps.lean leave alone. -/

namespace Sys2Proof.Machine
open Sys2Proof

theorem jWrite_frame (r : JRec) (d : Dev) : Frame 65536 d (jWrite r d) := by
  unfold jWrite
  refine Frame.step ?_ (Dev.onNvm_frame _ _) rfl
  exact (Frame.refl _ _)

theorem onModule_frame (y0 : Fin 63) (f : Module → Module) (d : Dev) : Frame 65536 d (onModule y0 f d) := by
  unfold onModule
  refine Frame.step ?_ (Dev.onNvm_frame _ _) rfl
  exact (Frame.refl _ _)

theorem putModule_frame (y0 : Fin 63) (f : Module → Module) (d : Dev) : Frame 65536 d (putModule y0 f d) := by
  unfold putModule
  refine Frame.step ?_ (jWrite_frame _ _) rfl
  refine Frame.step ?_ (onModule_frame _ _ _) rfl
  exact (Frame.refl _ _)

theorem detach_frame (tag : Fin 32) (d : Dev) : Frame 65536 d (detach tag d) := by
  unfold detach
  refine Frame.step ?_ (Dev.onNvm_frame _ _) rfl
  exact (Frame.refl _ _)

theorem flMsg_frame (d : Dev) : Frame 18874368 d (flMsg d) := by
  unfold flMsg
  refine Frame.step ?_ (msgSc_frame _ _) rfl
  exact (Frame.refl _ _)

theorem pushFlash_frame (evt : Nat) (a : Nat) (b : Nat) (d : Dev) : Frame 23068672 d (pushFlash evt a b d) := by
  unfold pushFlash
  refine Frame.step ?_ (pushSystem_frame _ _ _ _) rfl
  exact (Frame.refl _ _)

theorem setModule_frame (y0 : Fin 63) (st : ModSt) (d : Dev) : Frame 65536 d (setModule y0 st d) := by
  unfold setModule
  refine Frame.step ?_ (putModule_frame _ _ _) rfl
  exact (Frame.refl _ _)

theorem setSlot_frame (b : Bool) (st : FwSlot) (d : Dev) : Frame 65536 d (setSlot b st d) := by
  unfold setSlot
  refine Frame.step ?_ (jWrite_frame _ _) rfl
  refine Frame.step ?_ (Dev.onNvm_frame _ _) rfl
  exact (Frame.refl _ _)

theorem flComplete_frame (tag : Fin 32) (st : Status) (payload : List Sys2Proof.Byte) (d : Dev) : Frame 23330816 d (flComplete
    tag st payload d) := by
  unfold flComplete
  split
  · refine Frame.ite ?_ ?_
    · refine Frame.step ?_ (complete_frame _ _ _ _) rfl
      exact (Frame.refl _ _)
    · exact (Frame.refl _ _)
  · exact (Frame.refl _ _)

theorem flCompleteO_frame (tag : Option (Fin 32)) (st : Status) (payload : List Sys2Proof.Byte) (d : Dev) : Frame 23330816 d
    (flCompleteO tag st payload d) := by
  unfold flCompleteO
  split
  · refine Frame.step ?_ (flComplete_frame _ _ _ _) rfl
    exact (Frame.refl _ _)
  · exact (Frame.refl _ _)

theorem flEnd_frame (w : FWho) (d : Dev) : Frame 23527424 d (flEnd w d) := by
  unfold flEnd
  dsimp only
  split
  · split
    · refine Frame.step ?_ (flCompleteO_frame _ _ _ _) rfl
      exact (Frame.refl _ _)
    · exact (Frame.refl _ _)
  · split
    · split
      · refine Frame.step ?_ (flComplete_frame _ _ _ _) rfl
        refine Frame.ite ?_ ?_
        · refine Frame.step ?_ (Dev.onKiln_frame _ _) rfl
          refine Frame.step ?_ (Dev.onNvm_frame _ _) rfl
          exact (Frame.refl _ _)
        · refine Frame.step ?_ (Dev.onNvm_frame _ _) rfl
          exact (Frame.refl _ _)
      · refine Frame.ite ?_ ?_
        · refine Frame.step ?_ (Dev.onKiln_frame _ _) rfl
          refine Frame.step ?_ (Dev.onNvm_frame _ _) rfl
          exact (Frame.refl _ _)
        · refine Frame.step ?_ (Dev.onNvm_frame _ _) rfl
          exact (Frame.refl _ _)
    · refine Frame.ite ?_ ?_
      · refine Frame.step ?_ (Dev.onKiln_frame _ _) rfl
        refine Frame.step ?_ (Dev.onNvm_frame _ _) rfl
        exact (Frame.refl _ _)
      · refine Frame.step ?_ (Dev.onNvm_frame _ _) rfl
        exact (Frame.refl _ _)
  · exact (Frame.refl _ _)

theorem flStart_frame (d : Dev) : Frame 65536 d (flStart d) := by
  unfold flStart
  split
  · refine Frame.step ?_ (jWrite_frame _ _) rfl
    refine Frame.step ?_ (Dev.onNvm_frame _ _) rfl
    exact (Frame.refl _ _)
  · exact (Frame.refl _ _)

theorem flNext_frame (a0 : Nat) (a1 : Dev) : Frame 23527424 a1 (flNext a0 a1) := by
  induction a0 generalizing a1 with
  | zero => exact Frame.refl _ _
  | succ k ih =>
    unfold flNext
    split
    · exact Frame.step (Frame.step (Frame.step (Frame.refl _ _) (Dev.onNvm_frame _ _) rfl) (flEnd_frame _ _) rfl) (ih _) rfl
    · exact Frame.step (Frame.refl _ _) (flStart_frame _) rfl

theorem flPush_frame (j : FJob) (d : Dev) : Frame 23527424 d (flPush j d) := by
  unfold flPush
  refine Frame.ite ?_ ?_
  · refine Frame.step ?_ (flNext_frame _ _) rfl
    refine Frame.step ?_ (Dev.onNvm_frame _ _) rfl
    exact (Frame.refl _ _)
  · refine Frame.step ?_ (Dev.onNvm_frame _ _) rfl
    exact (Frame.refl _ _)

theorem writeRec_frame (typ : Fin 6) (data : RecData) (tag : Option (Fin 32)) (reply : List Sys2Proof.Byte) (d : Dev) : Frame
    23527424 d (writeRec typ data tag reply d) := by
  unfold writeRec
  refine Frame.step ?_ (flPush_frame _ _) rfl
  split
  · refine Frame.step ?_ (onCmd_frame _ _ _) rfl
    exact (Frame.refl _ _)
  · exact (Frame.refl _ _)

theorem imagePartial_frame (tag : Option (Fin 32)) (s : Nat) (d : Dev) : Frame 23396352 d (imagePartial tag s d) := by
  unfold imagePartial
  split
  · refine Frame.step ?_ (flCompleteO_frame _ _ _ _) rfl
    refine Frame.step ?_ (Dev.onNvm_frame _ _) rfl
    exact (Frame.refl _ _)
  · exact (Frame.refl _ _)

theorem flFail_frame (s : Nat) (w : FWho) (d : Dev) : Frame 23527424 d (flFail s w d) := by
  unfold flFail
  split
  · refine Frame.step ?_ (flNext_frame _ _) rfl
    refine Frame.step ?_ (imagePartial_frame _ _ _) rfl
    refine Frame.step ?_ (Dev.onNvm_frame _ _) rfl
    refine Frame.step ?_ (Dev.onNvm_frame _ _) rfl
    exact (Frame.refl _ _)
  · refine Frame.ite ?_ ?_
    · refine Frame.step ?_ (flNext_frame _ _) rfl
      split
      · refine Frame.step ?_ (flComplete_frame _ _ _ _) rfl
        refine Frame.step ?_ (Dev.onNvm_frame _ _) rfl
        exact (Frame.refl _ _)
      · refine Frame.step ?_ (Dev.onNvm_frame _ _) rfl
        exact (Frame.refl _ _)
    · refine Frame.step ?_ (flNext_frame _ _) rfl
      refine Frame.step ?_ (Dev.onNvm_frame _ _) rfl
      refine Frame.step ?_ (Dev.onNvm_frame _ _) rfl
      exact (Frame.refl _ _)
  · refine Frame.step ?_ (flNext_frame _ _) rfl
    refine Frame.step ?_ (Dev.onNvm_frame _ _) rfl
    refine Frame.step ?_ (Dev.onNvm_frame _ _) rfl
    exact (Frame.refl _ _)

theorem retire_frame (s : Nat) (d : Dev) : Frame 23134208 d (retire s d) := by
  unfold retire
  split
  · refine Frame.step ?_ (pushFlash_frame _ _ _ _) rfl
    refine Frame.step ?_ (flMsg_frame _) rfl
    refine Frame.step ?_ (jWrite_frame _ _) rfl
    refine Frame.step ?_ (Dev.onNvm_frame _ _) rfl
    exact (Frame.refl _ _)
  · refine Frame.step ?_ (pushFlash_frame _ _ _ _) rfl
    refine Frame.step ?_ (flMsg_frame _) rfl
    refine Frame.step ?_ (Dev.onNvm_frame _ _) rfl
    exact (Frame.refl _ _)

theorem eraseDone_frame (ok : Bool) (us : Nat) (s : State) : SKeep 560398336 s (eraseDone ok us s) := by
  unfold eraseDone
  split
  · refine SKeep.mk4 ?_ ?_ ?_ ?_
    · exact (SKeep.refl _ _)
    · refine Frame.ite ?_ ?_
      · refine Frame.step ?_ (flNext_frame _ _) rfl
        refine Frame.step ?_ (Dev.onNvm_frame _ _) rfl
        refine Frame.ite ?_ ?_
        · refine Frame.step ?_ (Dev.onNvm_frame _ _) rfl
          refine Frame.step ?_ (jWrite_frame _ _) rfl
          refine Frame.step ?_ (Dev.onNvm_frame _ _) rfl
          refine SKeep.dev ?_
          exact (SKeep.refl _ _)
        · refine Frame.step ?_ (Dev.onNvm_frame _ _) rfl
          refine Frame.step ?_ (Dev.onNvm_frame _ _) rfl
          refine SKeep.dev ?_
          exact (SKeep.refl _ _)
      · refine Frame.ite ?_ ?_
        · refine Frame.step ?_ (flFail_frame _ _ _) rfl
          refine Frame.step ?_ (retire_frame _ _) rfl
          refine Frame.ite ?_ ?_
          · refine Frame.step ?_ (Dev.onNvm_frame _ _) rfl
            refine Frame.step ?_ (jWrite_frame _ _) rfl
            refine Frame.step ?_ (Dev.onNvm_frame _ _) rfl
            refine SKeep.dev ?_
            exact (SKeep.refl _ _)
          · refine Frame.step ?_ (Dev.onNvm_frame _ _) rfl
            refine Frame.step ?_ (Dev.onNvm_frame _ _) rfl
            refine SKeep.dev ?_
            exact (SKeep.refl _ _)
        · refine Frame.step ?_ (flStart_frame _) rfl
          refine Frame.step ?_ (retire_frame _ _) rfl
          refine Frame.ite ?_ ?_
          · refine Frame.step ?_ (Dev.onNvm_frame _ _) rfl
            refine Frame.step ?_ (jWrite_frame _ _) rfl
            refine Frame.step ?_ (Dev.onNvm_frame _ _) rfl
            refine SKeep.dev ?_
            exact (SKeep.refl _ _)
          · refine Frame.step ?_ (Dev.onNvm_frame _ _) rfl
            refine Frame.step ?_ (Dev.onNvm_frame _ _) rfl
            refine SKeep.dev ?_
            exact (SKeep.refl _ _)
    · first | exact MemOk.same _ _ _ _ | exact MemOk.nil rfl | exact MemOk.writes rfl | exact MemOk.erase rfl
    · first | exact MemOk.same _ _ _ _ | exact MemOk.nil rfl | exact MemOk.writes rfl | exact MemOk.erase rfl
  · exact (SKeep.refl _ _)

theorem programDone_frame (ok : Bool) (s : State) : SKeep 560398336 s (programDone ok s) := by
  unfold programDone
  split
  · refine SKeep.ite ?_ ?_
    · refine SKeep.mk4 ?_ ?_ ?_ ?_
      · exact (SKeep.refl _ _)
      · refine Frame.step ?_ (flNext_frame _ _) rfl
        refine Frame.step ?_ (Dev.onNvm_frame _ _) rfl
        refine SKeep.dev ?_
        exact (SKeep.refl _ _)
      · first | exact MemOk.same _ _ _ _ | exact MemOk.nil rfl | exact MemOk.writes rfl | exact MemOk.erase rfl
      · first | exact MemOk.same _ _ _ _ | exact MemOk.nil rfl | exact MemOk.writes rfl | exact MemOk.erase rfl
    · refine SKeep.mk4 ?_ ?_ ?_ ?_
      · exact (SKeep.refl _ _)
      · refine Frame.step ?_ (flFail_frame _ _ _) rfl
        refine Frame.step ?_ (retire_frame _ _) rfl
        refine Frame.step ?_ (Dev.onNvm_frame _ _) rfl
        refine SKeep.dev ?_
        exact (SKeep.refl _ _)
      · first | exact MemOk.same _ _ _ _ | exact MemOk.nil rfl | exact MemOk.writes rfl | exact MemOk.erase rfl
      · first | exact MemOk.same _ _ _ _ | exact MemOk.nil rfl | exact MemOk.writes rfl | exact MemOk.erase rfl
  · exact (SKeep.refl _ _)

end Sys2Proof.Machine
end

