-- ==== Sys2Proof/Laws/KeepKilnOps.lean ====
section
/-! SUPPORT. What the operations of Machine/KilnOps.lean leave alone. -/

namespace Sys2Proof.Machine
open Sys2Proof

theorem takePairs_frame (fs : Vector (Nat × Nat) 48) (d : Dev) : Frame 131072 d (takePairs fs d) := by
  unfold takePairs
  refine Frame.step ?_ (Dev.onKiln_frame _ _) rfl
  exact (Frame.refl _ _)

theorem pushKiln_frame (evt : Nat) (y1 : Nat) (d : Dev) : Frame 23068672 d (pushKiln evt y1 d) := by
  unfold pushKiln
  refine Frame.step ?_ (pushPt_frame _ _ _) rfl
  exact (Frame.refl _ _)

theorem kilnMsg_frame (d : Dev) : Frame 18874368 d (kilnMsg d) := by
  unfold kilnMsg
  refine Frame.step ?_ (msgSc_frame _ _) rfl
  exact (Frame.refl _ _)

theorem leverWritten_frame (y0 : Nat) (d : Dev) : Frame 23199744 d (leverWritten y0 d) := by
  unfold leverWritten
  refine Frame.step ?_ (pushKiln_frame _ _ _) rfl
  refine Frame.step ?_ (kilnMsg_frame _) rfl
  refine Frame.step ?_ (Dev.onKiln_frame _ _) rfl
  exact (Frame.refl _ _)

theorem setGuard_frame (floor : Nat) (d : Dev) : Frame 23199744 d (setGuard floor d) := by
  unfold setGuard
  split
  · exact (Frame.refl _ _)
  · refine Frame.step ?_ (Dev.onKiln_frame _ _) rfl
    refine Frame.ite ?_ ?_
    · refine Frame.step ?_ (leverWritten_frame _ _) rfl
      refine Frame.step ?_ (Dev.onPmu_frame _ _) rfl
      exact (Frame.refl _ _)
    · exact (Frame.refl _ _)

theorem evalState_frame (d : Dev) (y1 : Fin 7) : Frame 23199744 d (evalState d y1) := by
  unfold evalState
  refine Frame.ite ?_ ?_
  · exact (Frame.refl _ _)
  · refine Frame.step ?_ (pushKiln_frame _ _ _) rfl
    refine Frame.step ?_ (kilnMsg_frame _) rfl
    refine Frame.step ?_ (Dev.onKiln_frame _ _) rfl
    exact (Frame.refl _ _)

theorem formMargins_frame (days : Bool) (d : Dev) : Frame 23199744 d (formMargins days d) := by
  unfold formMargins
  refine Frame.foldl ?_ ?_
  · refine Frame.step ?_ (Dev.onKiln_frame _ _) rfl
    exact (Frame.refl _ _)
  · intro _ _ h1000
    refine Frame.step ?_ (evalState_frame _ _) rfl
    exact h1000

theorem setKadj_frame (d : Dev) : Frame 23199776 d (setKadj d) := by
  unfold setKadj
  split
  · exact (Frame.refl _ _)
  · refine Frame.ite ?_ ?_
    · exact (Frame.refl _ _)
    · refine Frame.step ?_ (leverWritten_frame _ _) rfl
      refine Frame.step ?_ (Dev.onKiln_frame _ _) rfl
      refine Frame.step ?_ (Dev.onLau_frame _ _) rfl
      exact (Frame.refl _ _)

theorem dayBoundary_frame (d : Dev) : Frame 23527456 d (dayBoundary d) := by
  unfold dayBoundary
  refine Frame.step ?_ (writeRec_frame _ _ _ _ _) rfl
  refine Frame.step ?_ (formMargins_frame _ _) rfl
  refine Frame.step ?_ (setKadj_frame _) rfl
  refine Frame.step ?_ (Dev.onKiln_frame _ _) rfl
  refine Frame.step ?_ (Dev.onKiln_frame _ _) rfl
  exact (Frame.refl _ _)

theorem setKwadj_frame (d : Dev) : Frame 23200000 d (setKwadj d) := by
  unfold setKwadj
  refine Frame.ite ?_ ?_
  · exact (Frame.refl _ _)
  · refine Frame.step ?_ (leverWritten_frame _ _) rfl
    refine Frame.step ?_ (Dev.onHf_frame _ _) rfl
    exact (Frame.refl _ _)

theorem kilnUncal_frame (cs : List (Fin 192)) (d : Dev) : Frame 23200000 d (kilnUncal cs d) := by
  unfold kilnUncal
  refine Frame.step ?_ (formMargins_frame _ _) rfl
  refine Frame.step ?_ (setKwadj_frame _) rfl
  refine Frame.step ?_ (Dev.onKiln_frame _ _) rfl
  exact (Frame.refl _ _)

theorem takeRefs_frame (ms : Vector Nat 24) (d : Dev) : Frame 131072 d (takeRefs ms d) := by
  unfold takeRefs
  refine Frame.step ?_ (Dev.onKiln_frame _ _) rfl
  refine Frame.step ?_ (Dev.onKiln_frame _ _) rfl
  exact (Frame.refl _ _)

end Sys2Proof.Machine
end

