-- ==== Sys2Proof/Laws/KeepSurveyOps.lean ====
section
/-! SUPPORT. What the operations of Machine/SurveyOps.lean leave alone. -/

namespace Sys2Proof.Machine
open Sys2Proof

theorem seqOff_frame (d : Dev) : Frame 52 d (seqOff d) := by
  unfold seqOff
  refine Frame.ite ?_ ?_
  · exact (Frame.refl _ _)
  · refine Frame.step ?_ (trimProbe_frame _) rfl
    refine Frame.step ?_ (engOff_frame _ _) rfl
    refine Frame.step ?_ (markAll_frame _ _ _ _) rfl
    refine Frame.step ?_ (rewords_frame _) rfl
    refine Frame.step ?_ (Dev.onDrv_frame _ _) rfl
    exact (Frame.refl _ _)

theorem dropSeq_frame (d : Dev) : Frame 52 d (dropSeq d) := by
  unfold dropSeq
  refine Frame.ite ?_ ?_
  · exact (Frame.refl _ _)
  · refine Frame.step ?_ (Dev.onDrv_frame _ _) rfl
    refine Frame.step ?_ (seqOff_frame _) rfl
    exact (Frame.refl _ _)

theorem takeCal_frame (rs : List (Fin 192 × Option CoilCal)) (d : Dev) : Frame 23200020 d (takeCal rs d) := by
  unfold takeCal
  refine Frame.step ?_ (kilnUncal_frame _ _) rfl
  refine Frame.step ?_ (markAll_frame _ _ _ _) rfl
  refine Frame.step ?_ (rewords_frame _) rfl
  refine Frame.step ?_ (Dev.onDrv_frame _ _) rfl
  exact (Frame.refl _ _)

theorem surveyTake_frame (r : Reading) (d : Dev) : Frame 131076 d (surveyTake r d) := by
  unfold surveyTake
  refine Frame.ite ?_ ?_
  · exact (Frame.refl _ _)
  · refine Frame.step ?_ (Dev.onDrv_frame _ _) rfl
    refine Frame.step ?_ (Dev.onKiln_frame _ _) rfl
    exact (Frame.refl _ _)

theorem seqTake_frame (rs : List Reading) (d : Dev) : Frame 23200020 d (seqTake rs d) := by
  unfold seqTake
  split
  · exact (Frame.refl _ _)
  · refine Frame.ite ?_ ?_
    · refine Frame.foldl ?_ ?_
      · exact (Frame.refl _ _)
      · intro _ _ h1000
        refine Frame.step ?_ (surveyTake_frame _ _) rfl
        exact h1000
    · refine Frame.ite ?_ ?_
      · refine Frame.step ?_ (Dev.onDrv_frame _ _) rfl
        exact (Frame.refl _ _)
      · refine Frame.step ?_ (takeCal_frame _ _) rfl
        refine Frame.step ?_ (Dev.onDrv_frame _ _) rfl
        exact (Frame.refl _ _)

theorem seqSlot_frame (rs : List Reading) (y1 : Dev) : Frame 23200052 y1 (seqSlot rs y1) := by
  unfold seqSlot
  dsimp only
  split
  · refine Frame.step ?_ (Dev.onDrv_frame _ _) rfl
    refine Frame.step ?_ (seqOff_frame _) rfl
    refine Frame.step ?_ (seqTake_frame _ _) rfl
    exact (Frame.refl _ _)
  · refine Frame.ite ?_ ?_
    · refine Frame.step ?_ (Dev.onDrv_frame _ _) rfl
      refine Frame.step ?_ (seqOff_frame _) rfl
      refine Frame.step ?_ (seqTake_frame _ _) rfl
      exact (Frame.refl _ _)
    · refine Frame.ite ?_ ?_
      · refine Frame.step ?_ (engOn_frame _ _) rfl
        refine Frame.step ?_ (markAll_frame _ _ _ _) rfl
        refine Frame.step ?_ (rewords_frame _) rfl
        refine Frame.step ?_ (Dev.onDrv_frame _ _) rfl
        refine Frame.step ?_ (seqOff_frame _) rfl
        refine Frame.step ?_ (seqTake_frame _ _) rfl
        exact (Frame.refl _ _)
      · refine Frame.step ?_ (Dev.onDrv_frame _ _) rfl
        refine Frame.step ?_ (seqOff_frame _) rfl
        refine Frame.step ?_ (seqTake_frame _ _) rfl
        exact (Frame.refl _ _)

end Sys2Proof.Machine
end

