-- ==== Sys2Proof/Laws/KeepZones.lean ====
section
/-! SUPPORT. What the operations of Machine/Zones.lean leave alone. -/

namespace Sys2Proof.Machine
open Sys2Proof

theorem openUndo_frame (n : Fin 24) (d : Dev) : Frame 128 d (openUndo n d) := by
  unfold openUndo
  refine Frame.ite ?_ ?_
  · refine Frame.step ?_ (submit_frame _ _) rfl
    refine Frame.step ?_ (onZone_frame _ _ _) rfl
    exact (Frame.refl _ _)
  · exact (Frame.refl _ _)

theorem zoneOpen_frame (n : Fin 24) (d : Dev) : Frame 31457790 d (zoneOpen n d) := by
  unfold zoneOpen
  refine Frame.ite ?_ ?_
  · exact (Frame.refl _ _)
  · refine Frame.ite ?_ ?_
    · refine Frame.step ?_ (lzReq_frame _ _ _ _) rfl
      refine Frame.step ?_ (openUndo_frame _ _) rfl
      refine Frame.step ?_ (openZone_frame _ _) rfl
      refine Frame.step ?_ (wakeDom_frame _ _) rfl
      exact (Frame.refl _ _)
    · refine Frame.step ?_ (openUndo_frame _ _) rfl
      refine Frame.step ?_ (openZone_frame _ _) rfl
      refine Frame.step ?_ (wakeDom_frame _ _) rfl
      exact (Frame.refl _ _)

theorem execHoldTimeExpiry_frame (n : Fin 24) (s : State) : ONext 31719932 s.ev (execHoldTimeExpiry n s) := by
  unfold execHoldTimeExpiry
  refine ONext.onDev ?_
  intro d h
  refine Frame.ite ?_ ?_
  · refine Frame.step ?_ (closeZone_frame _ _ _ _) rfl
    exact h
  · exact h

theorem execProbeSlotBoundary_frame (rs : List Reading) (s : State) : ONext 23200244 s.ev (execProbeSlotBoundary rs s) := by
  unfold execProbeSlotBoundary
  refine ONext.onDev ?_
  intro d h
  refine Frame.ite ?_ ?_
  · refine Frame.step ?_ (slotBoundary_frame _ _ _) rfl
    exact h
  · refine Frame.step ?_ (seqSlot_frame _ _) rfl
    exact h

theorem execSurfaceStart_frame (tag : Fin 32) (s : State) : ONext 23330944 s.ev (execSurfaceStart tag s) := by
  unfold execSurfaceStart
  refine ONext.onDev ?_
  intro d h
  refine begin__frame _ _ _ _ _ rfl ?_ ?_
  · intro _ _ h1000
    refine inMode_frame _ _ _ _ rfl ?_ ?_
    · intro _ h1001
      refine Frame.ite ?_ ?_
      · refine Frame.step ?_ (fail_frame _ _ _) rfl
        exact h1001
      · refine Frame.step ?_ (complete_frame _ _ _ _) rfl
        refine Frame.step ?_ (Dev.onSf_frame _ _) rfl
        exact h1001
    · exact h1000
  · exact h

theorem execZoneClose_frame (n : Fin 24) (cause : Nat) (s : State) : ONext 31719932 s.ev (execZoneClose n cause s) := by
  unfold execZoneClose
  refine ONext.onDev ?_
  intro d h
  refine Frame.step ?_ (closeZone_frame _ _ _ _) rfl
  exact h

theorem execZoneCloseDone_frame (n : Fin 24) (s : State) : ONext 220 s.ev (execZoneCloseDone n s) := by
  unfold execZoneCloseDone
  refine ONext.onDev ?_
  intro d h
  refine Frame.step ?_ (closeDone_frame _ _) rfl
  exact h

theorem execZoneWaitTimeout_frame (tag : Fin 32) (s : State) : ONext 23331072 s.ev (execZoneWaitTimeout tag s) := by
  unfold execZoneWaitTimeout
  refine ONext.onDev ?_
  intro d h
  split
  · refine Frame.ite ?_ ?_
    · refine Frame.step ?_ (finishX_frame _ _ _ _) rfl
      exact h
    · exact h
  · exact h

end Sys2Proof.Machine
end

