-- ==== Sys2Proof/Laws/KeepHfCards.lean ====
section
/-! SUPPORT. What the operations of Machine/HfCards.lean leave alone. -/

namespace Sys2Proof.Machine
open Sys2Proof

theorem stopFrames_frame (tag : Fin 32) (st : Status) (detail : Nat) (d : Dev) : Frame 23331072 d (stopFrames tag st detail d)
    := by
  unfold stopFrames
  split
  · refine Frame.ite ?_ ?_
    · refine Frame.step ?_ (finishX_frame _ _ _ _) rfl
      exact (Frame.refl _ _)
    · refine Frame.step ?_ (finishX_frame _ _ _ _) rfl
      exact (Frame.refl _ _)
  · exact (Frame.refl _ _)

theorem rxAck_frame (n : Fin 24) (ack : Nat) (d : Dev) : Frame 256 d (rxAck n ack d) := by
  unfold rxAck
  refine Frame.step ?_ (onFr_frame _ _ _) rfl
  exact (Frame.refl _ _)

theorem cardInfo_frame (tag : Fin 32) (c : Cmd) (e : Entry) (d : Dev) : Frame 23330816 d (cardInfo tag c e d) := by
  unfold cardInfo
  refine Frame.ite ?_ ?_
  · refine Frame.step ?_ (fail_frame _ _ _) rfl
    exact (Frame.refl _ _)
  · refine Frame.step ?_ (complete_frame _ _ _ _) rfl
    exact (Frame.refl _ _)

theorem checkCard_frame (missing : List Nat) (d : Dev) (i : Nat) : Frame 31719932 d (checkCard missing d i) := by
  unfold checkCard
  split
  · exact (Frame.refl _ _)
  · refine Frame.ite ?_ ?_
    · refine Frame.step ?_ (onEntry_frame _ _ _) rfl
      exact (Frame.refl _ _)
    · refine Frame.ite ?_ ?_
      · refine Frame.step ?_ (cardGone_frame _ _) rfl
        refine Frame.step ?_ (onEntry_frame _ _ _) rfl
        exact (Frame.refl _ _)
      · refine Frame.step ?_ (onEntry_frame _ _ _) rfl
        exact (Frame.refl _ _)

theorem stopAtFrame_frame (tag : Fin 32) (d : Dev) : Frame 23331072 d (stopAtFrame tag d) := by
  unfold stopAtFrame
  split
  · refine Frame.ite ?_ ?_
    · refine Frame.step ?_ (stopFrames_frame _ _ _ _) rfl
      exact (Frame.refl _ _)
    · exact (Frame.refl _ _)
  · exact (Frame.refl _ _)

theorem execCardInfo_frame (tag : Fin 32) (s : State) : ONext 23331200 s.ev (execCardInfo tag s) := by
  unfold execCardInfo
  refine ONext.onDev ?_
  intro d h
  refine Frame.ite ?_ ?_
  · refine onTurn_frame _ _ _ rfl ?_ ?_
    · intro _ _ _ h1000
      refine Frame.step ?_ (cardInfo_frame _ _ _ _) rfl
      exact h1000
    · exact h
  · refine begin__frame _ _ _ _ _ rfl ?_ ?_
    · intro _ _ h1001
      refine enterT_frame _ _ _ _ rfl ?_ ?_
      · intro _ h1002
        refine onTurn_frame _ _ _ rfl ?_ ?_
        · intro _ _ _ h1003
          refine Frame.step ?_ (cardInfo_frame _ _ _ _) rfl
          exact h1003
        · exact h1002
      · exact h1001
    · exact h

theorem execFrameRxEnd_frame (n : Fin 24) (x : RxFrame) (r : FwResult) (slotEnds : Bool) (s : State) : ONext 31851004 s.ev
    (execFrameRxEnd n x r slotEnds s) := by
  unfold execFrameRxEnd
  refine ONext.onDev ?_
  intro d h
  refine Frame.step ?_ (rxEnd_frame _ _ _ _ _) rfl
  exact h

theorem execFrameTxEnd_frame (n : Fin 24) (s : State) : ONext 31719932 s.ev (execFrameTxEnd n s) := by
  unfold execFrameTxEnd
  refine ONext.onDev ?_
  intro d h
  refine Frame.step ?_ (frameEnd_frame _ _) rfl
  exact h

theorem execHfConfig_frame (tag : Fin 32) (s : State) : ONext 23331072 s.ev (execHfConfig tag s) := by
  unfold execHfConfig
  refine ONext.onDev ?_
  intro d h
  refine begin__frame _ _ _ _ _ rfl ?_ ?_
  · intro _ _ h1000
    refine inMode_frame _ _ _ _ rfl ?_ ?_
    · intro _ h1001
      refine Frame.ite ?_ ?_
      · refine Frame.step ?_ (fail_frame _ _ _) rfl
        exact h1001
      · refine Frame.step ?_ (complete_frame _ _ _ _) rfl
        refine Frame.step ?_ (Dev.onHf_frame _ _) rfl
        exact h1001
    · exact h1000
  · exact h

theorem lateEnd_frame (i : Nat) (d : Dev) : Frame 23068800 d (lateEnd i d) := by
  unfold lateEnd
  split
  · refine Frame.ite ?_ ?_
    · refine Frame.step ?_ (onEntry_frame _ _ _) rfl
      refine Frame.step ?_ (pushLate_frame _ _ _ _) rfl
      exact (Frame.refl _ _)
    · exact (Frame.refl _ _)
  · exact (Frame.refl _ _)

theorem execLateReplyWaitEnd_frame (i : Fin 512) (s : State) : ONext 23068800 s.ev (execLateReplyWaitEnd i s) := by
  unfold execLateReplyWaitEnd
  refine ONext.onDev ?_
  intro d h
  refine Frame.step ?_ (lateEnd_frame _ _) rfl
  exact h

theorem execListenWindowClose_frame (n : Fin 24) (s : State) : ONext 31719932 s.ev (execListenWindowClose n s) := by
  unfold execListenWindowClose
  refine ONext.onDev ?_
  intro d h
  refine Frame.step ?_ (windowClose_frame _ _) rfl
  exact h

theorem execListenWindowOpen_frame (n : Fin 24) (s : State) : ONext 288 s.ev (execListenWindowOpen n s) := by
  unfold execListenWindowOpen
  refine ONext.onDev ?_
  intro d h
  refine Frame.step ?_ (windowOpen_frame _ _) rfl
  exact h

theorem execPowerOnWaitEnd_frame (n : Fin 24) (s : State) : ONext 288 s.ev (execPowerOnWaitEnd n s) := by
  unfold execPowerOnWaitEnd
  refine ONext.onDev ?_
  intro d h
  refine Frame.step ?_ (powerOnEnd_frame _ _) rfl
  exact h

theorem execPresenceCheck_frame (n : Fin 24) (missing : List Nat) (s : State) : ONext 31719932 s.ev (execPresenceCheck n
    missing s) := by
  unfold execPresenceCheck
  refine ONext.onDev ?_
  intro d h
  refine Frame.ite ?_ ?_
  · refine Frame.foldl ?_ ?_
    · refine Frame.step ?_ (onFr_frame _ _ _) rfl
      exact h
    · intro _ _ h1000
      refine Frame.step ?_ (checkCard_frame _ _ _) rfl
      exact h1000
  · exact h

theorem execZoneExchange_frame (tag : Fin 32) (x : XStep) (s : State) : ONext 31719932 s.ev (execZoneExchange tag x s) := by
  unfold execZoneExchange
  refine ONext.onDev ?_
  intro d h
  refine Frame.ite ?_ ?_
  · refine Frame.step ?_ (stopAtFrame_frame _ _) rfl
    refine Frame.step ?_ (goX_frame _ _ _) rfl
    exact h
  · refine begin__frame _ _ _ _ _ rfl ?_ ?_
    · intro _ _ h1000
      refine Frame.ite ?_ ?_
      · refine Frame.step ?_ (enterX_frame _ _ _ _) rfl
        exact h1000
      · refine Frame.step ?_ (fail_frame _ _ _) rfl
        exact h1000
    · exact h

end Sys2Proof.Machine
end

