-- ==== Sys2Proof/Laws/KeepAccessory.lean ====
section
/-! SUPPORT. What the operations of Machine/Accessory.lean leave alone. -/

namespace Sys2Proof.Machine
open Sys2Proof

theorem readPlan_frame (n : Fin 24) (d : Dev) : Frame 18874588 d (readPlan n d) := by
  unfold readPlan
  refine Frame.ite ?_ ?_
  · exact (Frame.refl _ _)
  · refine Frame.step ?_ (onZone_frame _ _ _) rfl
    refine withRxRoles_frame _ _ rfl ?_ ?_
    · intro _ h1000
      refine Frame.step ?_ (applyCommit_frame _ _ _) rfl
      exact h1000
    · exact (Frame.refl _ _)

theorem rampFail_frame (cause : Nat) (tag : Fin 32) (st : Status) (detail : Nat) (d : Dev) : Frame 23331292 d (rampFail cause
    tag st detail d) := by
  unfold rampFail
  dsimp only
  split
  · exact (Frame.refl _ _)
  · split
    · refine Frame.ite ?_ ?_
      · refine Frame.step ?_ (finishX_frame _ _ _ _) rfl
        exact (Frame.refl _ _)
      · split
        · refine Frame.step ?_ (readPlan_frame _ _) rfl
          refine Frame.step ?_ (powerStop_frame _ _ _) rfl
          refine Frame.step ?_ (finishX_frame _ _ _ _) rfl
          exact (Frame.refl _ _)
        · refine Frame.step ?_ (powerStop_frame _ _ _) rfl
          refine Frame.step ?_ (finishX_frame _ _ _ _) rfl
          exact (Frame.refl _ _)
    · refine Frame.step ?_ (finishX_frame _ _ _ _) rfl
      exact (Frame.refl _ _)

theorem accInfo_frame (tag : Fin 32) (c : Cmd) (e : Entry) (d : Dev) : Frame 23330816 d (accInfo tag c e d) := by
  unfold accInfo
  refine Frame.ite ?_ ?_
  · refine Frame.step ?_ (fail_frame _ _ _) rfl
    exact (Frame.refl _ _)
  · refine Frame.ite ?_ ?_
    · refine Frame.step ?_ (fail_frame _ _ _) rfl
      exact (Frame.refl _ _)
    · refine Frame.step ?_ (complete_frame _ _ _ _) rfl
      exact (Frame.refl _ _)

theorem checkAcc_frame (missing : List Nat) (d : Dev) (i : Nat) : Frame 31719932 d (checkAcc missing d i) := by
  unfold checkAcc
  split
  · exact (Frame.refl _ _)
  · refine Frame.ite ?_ ?_
    · refine Frame.step ?_ (onEntry_frame _ _ _) rfl
      exact (Frame.refl _ _)
    · refine Frame.ite ?_ ?_
      · refine Frame.step ?_ (cardGone_frame _ _) rfl
        refine Frame.step ?_ (onEntry_frame _ _ _) rfl
        exact (Frame.refl _ _)
      · refine Frame.step ?_ (onEntry_frame _ _ _) rfl
        exact (Frame.refl _ _)

theorem endRound_frame (tag : Fin 32) (c : Cmd) (d : Dev) : Frame 23330944 d (endRound tag c d) := by
  unfold endRound
  refine Frame.ite ?_ ?_
  · exact (Frame.refl _ _)
  · refine Frame.step ?_ (touchZone_frame _ _) rfl
    refine Frame.step ?_ (complete_frame _ _ _ _) rfl
    exact (Frame.refl _ _)

theorem execAccConfig_frame (tag : Fin 32) (s : State) : ONext 23331328 s.ev (execAccConfig tag s) := by
  unfold execAccConfig
  refine ONext.onDev ?_
  intro d h
  refine begin__frame _ _ _ _ _ rfl ?_ ?_
  · intro _ _ h1000
    refine inMode_frame _ _ _ _ rfl ?_ ?_
    · intro _ h1001
      refine Frame.ite ?_ ?_
      · refine Frame.step ?_ (fail_frame _ _ _) rfl
        exact h1001
      · refine Frame.step ?_ (complete_frame _ _ _ _) rfl
        refine Frame.step ?_ (Dev.onAcc_frame _ _) rfl
        exact h1001
    · exact h1000
  · exact h

theorem execAccExchange_frame (tag : Fin 32) (x : XStep) (s : State) : ONext 31719932 s.ev (execAccExchange tag x s) := by
  unfold execAccExchange
  refine ONext.onDev ?_
  intro d h
  refine Frame.ite ?_ ?_
  · refine Frame.step ?_ (stopAtFrame_frame _ _) rfl
    refine Frame.step ?_ (goX_frame _ _ _) rfl
    exact h
  · refine begin__frame _ _ _ _ _ rfl ?_ ?_
    · intro _ _ h1000
      refine Frame.ite ?_ ?_
      · refine Frame.step ?_ (enterX_frame _ _ _ _) rfl
        exact h1000
      · refine Frame.step ?_ (fail_frame _ _ _) rfl
        exact h1000
    · exact h

theorem execAccInfo_frame (tag : Fin 32) (s : State) : ONext 23331200 s.ev (execAccInfo tag s) := by
  unfold execAccInfo
  refine ONext.onDev ?_
  intro d h
  refine Frame.ite ?_ ?_
  · refine onTurn_frame _ _ _ rfl ?_ ?_
    · intro _ _ _ h1000
      refine Frame.step ?_ (accInfo_frame _ _ _ _) rfl
      exact h1000
    · exact h
  · refine begin__frame _ _ _ _ _ rfl ?_ ?_
    · intro _ _ h1001
      refine enterT_frame _ _ _ _ rfl ?_ ?_
      · intro _ h1002
        refine onTurn_frame _ _ _ rfl ?_ ?_
        · intro _ _ _ h1003
          refine Frame.step ?_ (accInfo_frame _ _ _ _) rfl
          exact h1003
        · exact h1002
      · exact h1001
    · exact h

theorem raiseField_frame (n : Fin 24) (d : Dev) : Frame 18874460 d (raiseField n d) := by
  unfold raiseField
  refine Frame.ite ?_ ?_
  · exact (Frame.refl _ _)
  · refine withRxRoles_frame _ _ rfl ?_ ?_
    · intro _ h1000
      refine Frame.step ?_ (applyCommit_frame _ _ _) rfl
      exact h1000
    · exact (Frame.refl _ _)

theorem takePing_frame (d : Dev) (x : Nat × Option Nat) : Frame 31719932 d (takePing d x) := by
  unfold takePing
  split
  · refine Frame.step ?_ (onEntry_frame _ _ _) rfl
    exact (Frame.refl _ _)
  · refine Frame.ite ?_ ?_
    · refine Frame.step ?_ (cardGone_frame _ _) rfl
      refine Frame.step ?_ (powerStop_frame _ _ _) rfl
      refine Frame.step ?_ (onEntry_frame _ _ _) rfl
      exact (Frame.refl _ _)
    · refine Frame.step ?_ (onEntry_frame _ _ _) rfl
      exact (Frame.refl _ _)
  · exact (Frame.refl _ _)

theorem keepPing_frame (n : Fin 24) (pings : List (Nat × Option Nat)) (d : Dev) : Frame 31719932 d (keepPing n pings d) := by
  unfold keepPing
  refine Frame.ite ?_ ?_
  · refine Frame.step ?_ (raiseField_frame _ _) rfl
    refine Frame.foldl ?_ ?_
    · refine Frame.foldl ?_ ?_
      · refine Frame.step ?_ (onFr_frame _ _ _) rfl
        exact (Frame.refl _ _)
      · intro _ _ h1000
        refine Frame.step ?_ (takePing_frame _ _) rfl
        exact h1000
    · intro _ _ h1001
      refine Frame.step ?_ (onEntry_frame _ _ _) rfl
      exact h1001
  · refine Frame.ite ?_ ?_
    · refine Frame.foldl ?_ ?_
      · refine withRxRoles_frame _ _ rfl ?_ ?_
        · intro _ h1002
          refine Frame.step ?_ (applyCommit_frame _ _ _) rfl
          exact h1002
        · refine Frame.foldl ?_ ?_
          · refine Frame.foldl ?_ ?_
            · refine Frame.step ?_ (onFr_frame _ _ _) rfl
              exact (Frame.refl _ _)
            · intro _ _ h1003
              refine Frame.step ?_ (takePing_frame _ _) rfl
              exact h1003
          · intro _ _ h1004
            refine Frame.step ?_ (onEntry_frame _ _ _) rfl
            exact h1004
      · intro _ _ h1005
        refine Frame.step ?_ (onEntry_frame _ _ _) rfl
        exact h1005
    · refine Frame.foldl ?_ ?_
      · refine Frame.foldl ?_ ?_
        · refine Frame.step ?_ (onFr_frame _ _ _) rfl
          exact (Frame.refl _ _)
        · intro _ _ h1006
          refine Frame.step ?_ (takePing_frame _ _) rfl
          exact h1006
      · intro _ _ h1007
        refine Frame.step ?_ (onEntry_frame _ _ _) rfl
        exact h1007

theorem execAccKeepPing_frame (n : Fin 24) (pings : List (Nat × Option Nat)) (s : State) : ONext 31719932 s.ev
    (execAccKeepPing n pings s) := by
  unfold execAccKeepPing
  refine ONext.onDev ?_
  intro d h
  refine Frame.ite ?_ ?_
  · refine Frame.step ?_ (keepPing_frame _ _ _) rfl
    exact h
  · exact h

theorem planIfNone_frame (n : Fin 24) (d : Dev) : Frame 18874588 d (planIfNone n d) := by
  unfold planIfNone
  refine Frame.ite ?_ ?_
  · refine Frame.step ?_ (readPlan_frame _ _) rfl
    exact (Frame.refl _ _)
  · exact (Frame.refl _ _)

theorem execAccLostBudget_frame (i : Fin 512) (s : State) : ONext 23068892 s.ev (execAccLostBudget i s) := by
  unfold execAccLostBudget
  refine ONext.onDev ?_
  intro d h
  split
  · split
    · refine Frame.ite ?_ ?_
      · refine Frame.step ?_ (planIfNone_frame _ _) rfl
        refine Frame.step ?_ (powerStop_frame _ _ _) rfl
        exact h
      · exact h
    · exact h
  · exact h

theorem execAccPing_frame (n : Fin 24) (missing : List Nat) (s : State) : ONext 31719932 s.ev (execAccPing n missing s) := by
  unfold execAccPing
  refine ONext.onDev ?_
  intro d h
  refine Frame.ite ?_ ?_
  · refine Frame.foldl ?_ ?_
    · refine Frame.step ?_ (onFr_frame _ _ _) rfl
      exact h
    · intro _ _ h1000
      refine Frame.step ?_ (checkAcc_frame _ _ _) rfl
      exact h1000
  · exact h

theorem feedFrom_frame (i : Nat) (d : Dev) : Frame 256 d (feedFrom i d) := by
  unfold feedFrom
  split
  · exact Frame.ite (Frame.step (Frame.refl _ _) (onFr_frame _ _ _) rfl) (Frame.refl _ _)
  · exact Frame.refl _ _

theorem powerDone_frame (tag : Fin 32) (c : Cmd) (d : Dev) : Frame 23331200 d (powerDone tag c d) := by
  unfold powerDone
  refine Frame.step ?_ (touchZone_frame _ _) rfl
  refine Frame.step ?_ (complete_frame _ _ _ _) rfl
  refine Frame.step ?_ (pushPower_frame _ _ _ _) rfl
  refine Frame.step ?_ (onEntry_frame _ _ _) rfl
  exact Frame.step (Frame.refl _ _) (feedFrom_frame _ _) rfl

theorem rampStep_frame (tag : Fin 32) (c : Cmd) (n : Fin 24) (a : AccStep) (d : Dev) : Frame 31719932 d (rampStep tag c n a d)
    := by
  unfold rampStep
  dsimp only
  split
  · refine Frame.foldl ?_ ?_
    · exact (Frame.refl _ _)
    · intro _ _ h1000
      refine Frame.step ?_ (takePing_frame _ _) rfl
      exact h1000
  · refine Frame.ite ?_ ?_
    · refine Frame.step ?_ (rampFail_frame _ _ _ _ _) rfl
      refine Frame.foldl ?_ ?_
      · exact (Frame.refl _ _)
      · intro _ _ h1001
        refine Frame.step ?_ (takePing_frame _ _) rfl
        exact h1001
    · refine Frame.ite ?_ ?_
      · refine Frame.step ?_ (raiseField_frame _ _) rfl
        refine Frame.foldl ?_ ?_
        · exact (Frame.refl _ _)
        · intro _ _ h1002
          refine Frame.step ?_ (takePing_frame _ _) rfl
          exact h1002
      · refine Frame.ite ?_ ?_
        · refine Frame.step ?_ (powerDone_frame _ _ _) rfl
          refine Frame.foldl ?_ ?_
          · exact (Frame.refl _ _)
          · intro _ _ h1003
            refine Frame.step ?_ (takePing_frame _ _) rfl
            exact h1003
        · refine Frame.foldl ?_ ?_
          · exact (Frame.refl _ _)
          · intro _ _ h1004
            refine Frame.step ?_ (takePing_frame _ _) rfl
            exact h1004

theorem startPower_frame (tag : Fin 32) (a : AccStep) (c : Cmd) (e0 : Entry) (n : Fin 24) (d : Dev) : Frame 31719932 d
    (startPower tag a c e0 n d) := by
  unfold startPower
  refine Frame.ite ?_ ?_
  · refine Frame.step ?_ (fail_frame _ _ _) rfl
    split
    · refine Frame.ite ?_ ?_
      · refine Frame.step ?_ (takeAct_frame _ _ _) rfl
        exact (Frame.refl _ _)
      · exact (Frame.refl _ _)
    · exact (Frame.refl _ _)
  · refine Frame.ite ?_ ?_
    · refine Frame.step ?_ (touchZone_frame _ _) rfl
      refine Frame.step ?_ (complete_frame _ _ _ _) rfl
      refine Frame.step ?_ (planIfNone_frame _ _) rfl
      refine Frame.step ?_ (powerStop_frame _ _ _) rfl
      split
      · refine Frame.ite ?_ ?_
        · refine Frame.step ?_ (takeAct_frame _ _ _) rfl
          exact (Frame.refl _ _)
        · exact (Frame.refl _ _)
      · exact (Frame.refl _ _)
    · refine Frame.ite ?_ ?_
      · refine Frame.ite ?_ ?_
        · refine Frame.step ?_ (powerDone_frame _ _ _) rfl
          refine Frame.step ?_ (onCmd_frame _ _ _) rfl
          split
          · refine Frame.ite ?_ ?_
            · refine Frame.step ?_ (takeAct_frame _ _ _) rfl
              exact (Frame.refl _ _)
            · exact (Frame.refl _ _)
          · exact (Frame.refl _ _)
        · refine Frame.step ?_ (onCmd_frame _ _ _) rfl
          split
          · refine Frame.ite ?_ ?_
            · refine Frame.step ?_ (takeAct_frame _ _ _) rfl
              exact (Frame.refl _ _)
            · exact (Frame.refl _ _)
          · exact (Frame.refl _ _)
      · refine Frame.step ?_ (rampStep_frame _ _ _ _ _) rfl
        refine Frame.step ?_ (onCmd_frame _ _ _) rfl
        refine Frame.step ?_ (pushPower_frame _ _ _ _) rfl
        refine Frame.step ?_ (onEntry_frame _ _ _) rfl
        refine Frame.step ?_ (onZone_frame _ _ _) rfl
        split
        · refine Frame.ite ?_ ?_
          · refine Frame.step ?_ (takeAct_frame _ _ _) rfl
            exact (Frame.refl _ _)
          · exact (Frame.refl _ _)
        · exact (Frame.refl _ _)

theorem stepPower_frame (tag : Fin 32) (a : AccStep) (d : Dev) : Frame 31719932 d (stepPower tag a d) := by
  unfold stepPower
  split
  · exact (Frame.refl _ _)
  · refine Frame.ite ?_ ?_
    · refine turnX_frame _ _ _ rfl ?_ ?_
      · intro _ _ _ _ h1000
        refine Frame.step ?_ (startPower_frame _ _ _ _ _ _) rfl
        exact h1000
      · exact (Frame.refl _ _)
    · split
      · split
        · refine Frame.ite ?_ ?_
          · refine Frame.ite ?_ ?_
            · refine Frame.step ?_ (powerDone_frame _ _ _) rfl
              exact (Frame.refl _ _)
            · exact (Frame.refl _ _)
          · refine Frame.step ?_ (rampStep_frame _ _ _ _ _) rfl
            exact (Frame.refl _ _)
        · exact (Frame.refl _ _)
      · exact (Frame.refl _ _)

theorem execAccPower_frame (tag : Fin 32) (a : AccStep) (s : State) : ONext 31719932 s.ev (execAccPower tag a s) := by
  unfold execAccPower
  refine ONext.onDev ?_
  intro d h
  refine Frame.ite ?_ ?_
  · refine Frame.step ?_ (stepPower_frame _ _ _) rfl
    exact h
  · refine begin__frame _ _ _ _ _ rfl ?_ ?_
    · intro _ _ h1000
      refine Frame.ite ?_ ?_
      · refine Frame.step ?_ (fail_frame _ _ _) rfl
        exact h1000
      · refine Frame.ite ?_ ?_
        · refine Frame.step ?_ (fail_frame _ _ _) rfl
          exact h1000
        · refine enterT_frame _ _ _ _ rfl ?_ ?_
          · intro _ h1001
            refine Frame.step ?_ (stepPower_frame _ _ _) rfl
            exact h1001
          · exact h1000
    · exact h

theorem execAccRampLimit_frame (tag : Fin 32) (s : State) : ONext 23331292 s.ev (execAccRampLimit tag s) := by
  unfold execAccRampLimit
  refine ONext.onDev ?_
  intro d h
  split
  · split
    · refine Frame.ite ?_ ?_
      · refine Frame.step ?_ (rampFail_frame _ _ _ _ _) rfl
        exact h
      · exact h
    · exact h
  · exact h

theorem startRound_frame (tag : Fin 32) (c : Cmd) (e : Entry) (n : Fin 24) (d : Dev) : Frame 23331104 d (startRound tag c e n
    d) := by
  unfold startRound
  refine Frame.ite ?_ ?_
  · refine Frame.step ?_ (fail_frame _ _ _) rfl
    exact (Frame.refl _ _)
  · refine Frame.step ?_ (frSend_frame _ _) rfl
    refine Frame.step ?_ (onCmd_frame _ _ _) rfl
    refine Frame.step ?_ (onFr_frame _ _ _) rfl
    refine Frame.step ?_ (onSeek_frame _ _ _) rfl
    exact (Frame.refl _ _)

theorem execAccRound_frame (tag : Fin 32) (s : State) : ONext 23331232 s.ev (execAccRound tag s) := by
  unfold execAccRound
  refine ONext.onDev ?_
  intro d h
  refine Frame.ite ?_ ?_
  · split
    · refine Frame.ite ?_ ?_
      · refine Frame.ite ?_ ?_
        · exact h
        · refine Frame.ite ?_ ?_
          · refine Frame.step ?_ (stopX_frame _ _ _ _) rfl
            exact h
          · refine Frame.step ?_ (endRound_frame _ _ _) rfl
            exact h
      · refine turnX_frame _ _ _ rfl ?_ ?_
        · intro _ _ _ _ h1000
          refine Frame.step ?_ (startRound_frame _ _ _ _ _) rfl
          exact h1000
        · exact h
    · exact h
  · refine begin__frame _ _ _ _ _ rfl ?_ ?_
    · intro _ _ h1001
      refine Frame.ite ?_ ?_
      · refine Frame.step ?_ (fail_frame _ _ _) rfl
        exact h1001
      · refine inMode_frame _ _ _ _ rfl ?_ ?_
        · intro _ h1002
          split
          · refine Frame.step ?_ (fail_frame _ _ _) rfl
            exact h1002
          · refine Frame.ite ?_ ?_
            · refine enterT_frame _ _ _ _ rfl ?_ ?_
              · intro _ h1003
                refine turnX_frame _ _ _ rfl ?_ ?_
                · intro _ _ _ _ h1004
                  refine Frame.step ?_ (startRound_frame _ _ _ _ _) rfl
                  exact h1004
                · exact h1003
              · exact h1002
            · refine Frame.step ?_ (fail_frame _ _ _) rfl
              exact h1002
        · exact h1001
    · exact h

end Sys2Proof.Machine
end

