-- ==== Sys2Proof/Laws/KeepSteepOps.lean ====
section
/-! SUPPORT. What the operations of Machine/SteepOps.lean leave alone. -/

namespace Sys2Proof.Machine
open Sys2Proof

theorem steepLeave_frame (d : Dev) : Frame 1024 d (steepLeave d) := by
  unfold steepLeave
  refine Frame.step ?_ (Dev.onStp_frame _ _) rfl
  exact (Frame.refl _ _)

theorem steepEnter_frame (d : Dev) : Frame 1024 d (steepEnter d) := by
  unfold steepEnter
  refine Frame.step ?_ (Dev.onStp_frame _ _) rfl
  exact (Frame.refl _ _)

end Sys2Proof.Machine
end

