-- ==== Sys2Proof/Laws/KeepRadioOps.lean ====
section
/-! SUPPORT. What the operations of Machine/RadioOps.lean leave alone. -/

namespace Sys2Proof.Machine
open Sys2Proof

theorem nextQuery_frame (d : Dev) : Frame 1 d (nextQuery d) := by
  unfold nextQuery
  refine Frame.ite ?_ ?_
  · refine Frame.step ?_ (Dev.onMode_frame _ _) rfl
    exact (Frame.refl _ _)
  · exact (Frame.refl _ _)

theorem carrierOn_frame (t : Nat) (d : Dev) : Frame 2049 d (carrierOn t d) := by
  unfold carrierOn
  refine Frame.step ?_ (nextQuery_frame _) rfl
  refine Frame.step ?_ (Dev.onUhf_frame _ _) rfl
  exact (Frame.refl _ _)

theorem uhfChanged_frame (d : Dev) : Frame 18874368 d (uhfChanged d) := by
  unfold uhfChanged
  refine Frame.step ?_ (msgSc_frame _ _) rfl
  exact (Frame.refl _ _)

theorem giveAerial_frame (d : Dev) : Frame 18876416 d (giveAerial d) := by
  unfold giveAerial
  refine Frame.step ?_ (uhfChanged_frame _) rfl
  refine Frame.step ?_ (Dev.onUhf_frame _ _) rfl
  exact (Frame.refl _ _)

theorem onRfCh_frame (c : Fin 64) (f : UhfCh → UhfCh) (d : Dev) : Frame 2048 d (onRfCh c f d) := by
  unfold onRfCh
  refine Frame.step ?_ (Dev.onUhf_frame _ _) rfl
  exact (Frame.refl _ _)

theorem rampDown_frame (cut : Bool) (d : Dev) : Frame 18876416 d (rampDown cut d) := by
  unfold rampDown
  refine Frame.ite ?_ ?_
  · refine Frame.ite ?_ ?_
    · refine Frame.step ?_ (Dev.onUhf_frame _ _) rfl
      exact (Frame.refl _ _)
    · exact (Frame.refl _ _)
  · refine Frame.ite ?_ ?_
    · refine Frame.step ?_ (giveAerial_frame _) rfl
      refine Frame.step ?_ (Dev.onUhf_frame _ _) rfl
      refine Frame.step ?_ (onRfCh_frame _ _ _) rfl
      exact (Frame.refl _ _)
    · refine Frame.step ?_ (Dev.onUhf_frame _ _) rfl
      refine Frame.step ?_ (onRfCh_frame _ _ _) rfl
      exact (Frame.refl _ _)

theorem dwellStop_frame (d : Dev) : Frame 18876416 d (dwellStop d) := by
  unfold dwellStop
  refine Frame.ite ?_ ?_
  · refine Frame.step ?_ (msgSc_frame _ _) rfl
    refine Frame.step ?_ (rampDown_frame _ _) rfl
    exact (Frame.refl _ _)
  · exact (Frame.refl _ _)

theorem askSelect_frame (d : Dev) : Frame 8192 d (askSelect d) := by
  unfold askSelect
  refine Frame.step ?_ (Dev.onRoom_frame _ _) rfl
  exact (Frame.refl _ _)

theorem uhfInv_frame (words : Nat) (cause : Nat) (start : Nat) (d : Dev) : Frame 2048 d (uhfInv words cause start d) := by
  unfold uhfInv
  refine Frame.step ?_ (Dev.onUhf_frame _ _) rfl
  exact (Frame.refl _ _)

theorem startRun_frame (k : RfRun) (origin : Nat) (d : Dev) : Frame 2048 d (startRun k origin d) := by
  unfold startRun
  split
  · refine Frame.step ?_ (uhfInv_frame _ _ _ _) rfl
    refine Frame.step ?_ (Dev.onUhf_frame _ _) rfl
    refine Frame.step ?_ (Dev.onUhf_frame _ _) rfl
    exact (Frame.refl _ _)
  · refine Frame.step ?_ (uhfInv_frame _ _ _ _) rfl
    refine Frame.step ?_ (Dev.onUhf_frame _ _) rfl
    refine Frame.step ?_ (Dev.onUhf_frame _ _) rfl
    exact (Frame.refl _ _)
  · refine Frame.step ?_ (uhfInv_frame _ _ _ _) rfl
    refine Frame.step ?_ (Dev.onUhf_frame _ _) rfl
    exact (Frame.refl _ _)
  · refine Frame.step ?_ (uhfInv_frame _ _ _ _) rfl
    refine Frame.step ?_ (Dev.onUhf_frame _ _) rfl
    exact (Frame.refl _ _)
  · refine Frame.step ?_ (Dev.onUhf_frame _ _) rfl
    exact (Frame.refl _ _)

theorem doHop_frame (c : Fin 64) (d : Dev) : Frame 18884608 d (doHop c d) := by
  unfold doHop
  refine Frame.ite ?_ ?_
  · exact (Frame.refl _ _)
  · refine Frame.ite ?_ ?_
    · refine Frame.step ?_ (Dev.onUhf_frame _ _) rfl
      refine Frame.step ?_ (rampDown_frame _ _) rfl
      refine Frame.step ?_ (dwellStop_frame _) rfl
      refine Frame.step ?_ (askSelect_frame _) rfl
      exact (Frame.refl _ _)
    · refine Frame.step ?_ (startRun_frame _ _ _) rfl
      refine Frame.step ?_ (Dev.onUhf_frame _ _) rfl
      refine Frame.step ?_ (rampDown_frame _ _) rfl
      refine Frame.step ?_ (dwellStop_frame _) rfl
      refine Frame.step ?_ (askSelect_frame _) rfl
      exact (Frame.refl _ _)

theorem startNext_frame (d : Dev) : Frame 2048 d (startNext d) := by
  unfold startNext
  split
  · exact (Frame.refl _ _)
  · split
    · refine Frame.step ?_ (startRun_frame _ _ _) rfl
      exact (Frame.refl _ _)
    · refine Frame.step ?_ (startRun_frame _ _ _) rfl
      refine Frame.step ?_ (Dev.onUhf_frame _ _) rfl
      exact (Frame.refl _ _)

theorem startOn_frame (d : Dev) : Frame 2049 d (startOn d) := by
  unfold startOn
  dsimp only
  refine Frame.ite ?_ ?_
  · refine Frame.step ?_ (startNext_frame _) rfl
    exact (Frame.refl _ _)
  · refine Frame.ite ?_ ?_
    · exact (Frame.refl _ _)
    · split
      · refine Frame.step ?_ (startRun_frame _ _ _) rfl
        exact (Frame.refl _ _)
      · refine Frame.step ?_ (startRun_frame _ _ _) rfl
        exact (Frame.refl _ _)
      · refine Frame.step ?_ (uhfInv_frame _ _ _ _) rfl
        refine Frame.step ?_ (carrierOn_frame _ _) rfl
        refine Frame.step ?_ (Dev.onUhf_frame _ _) rfl
        exact (Frame.refl _ _)

theorem gained_frame (d : Dev) : Frame 19138561 d (gained d) := by
  unfold gained
  refine Frame.ite ?_ ?_
  · refine Frame.step ?_ (startOn_frame _) rfl
    refine Frame.step ?_ (Dev.onNcp_frame _ _) rfl
    refine Frame.step ?_ (uhfChanged_frame _) rfl
    refine Frame.step ?_ (Dev.onUhf_frame _ _) rfl
    exact (Frame.refl _ _)
  · refine Frame.step ?_ (Dev.onNcp_frame _ _) rfl
    refine Frame.step ?_ (uhfChanged_frame _) rfl
    refine Frame.step ?_ (Dev.onUhf_frame _ _) rfl
    exact (Frame.refl _ _)

theorem requestAerial_frame (d : Dev) : Frame 19138561 d (requestAerial d) := by
  unfold requestAerial
  refine Frame.ite ?_ ?_
  · exact (Frame.refl _ _)
  · split
    · refine Frame.step ?_ (gained_frame _) rfl
      exact (Frame.refl _ _)
    · refine Frame.ite ?_ ?_
      · refine Frame.step ?_ (Dev.onUhf_frame _ _) rfl
        exact (Frame.refl _ _)
      · refine Frame.ite ?_ ?_
        · refine Frame.step ?_ (gained_frame _) rfl
          refine Frame.step ?_ (Dev.onUhf_frame _ _) rfl
          exact (Frame.refl _ _)
        · refine Frame.step ?_ (Dev.onUhf_frame _ _) rfl
          exact (Frame.refl _ _)
    · refine Frame.step ?_ (Dev.onUhf_frame _ _) rfl
      exact (Frame.refl _ _)

theorem doAcfg_frame (d : Dev) : Frame 18884608 d (doAcfg d) := by
  unfold doAcfg
  refine Frame.step ?_ (startRun_frame _ _ _) rfl
  refine Frame.step ?_ (Dev.onUhf_frame _ _) rfl
  refine Frame.step ?_ (rampDown_frame _ _) rfl
  refine Frame.step ?_ (askSelect_frame _) rfl
  exact (Frame.refl _ _)

theorem pushRadio_frame (evt : Nat) (chan : Nat) (cause : Nat) (fstep : Nat) (d : Dev) : Frame 23068672 d (pushRadio evt chan
    cause fstep d) := by
  unfold pushRadio
  refine Frame.step ?_ (pushEvent_frame _ _ _ _) rfl
  exact (Frame.refl _ _)

theorem evalNochan_frame (d : Dev) : Frame 23070720 d (evalNochan d) := by
  unfold evalNochan
  refine Frame.ite ?_ ?_
  · refine Frame.step ?_ (pushRadio_frame _ _ _ _ _) rfl
    refine Frame.step ?_ (rampDown_frame _ _) rfl
    refine Frame.step ?_ (Dev.onUhf_frame _ _) rfl
    exact (Frame.refl _ _)
  · refine Frame.ite ?_ ?_
    · refine Frame.step ?_ (pushRadio_frame _ _ _ _ _) rfl
      refine Frame.step ?_ (Dev.onUhf_frame _ _) rfl
      exact (Frame.refl _ _)
    · exact (Frame.refl _ _)

theorem afterRun_frame (d : Dev) : Frame 23341057 d (afterRun d) := by
  unfold afterRun
  dsimp only
  split
  · refine Frame.ite ?_ ?_
    · refine Frame.step ?_ (Dev.onUhf_frame _ _) rfl
      refine Frame.step ?_ (uhfChanged_frame _) rfl
      exact (Frame.refl _ _)
    · refine Frame.step ?_ (doHop_frame _ _) rfl
      refine Frame.step ?_ (Dev.onUhf_frame _ _) rfl
      refine Frame.step ?_ (uhfChanged_frame _) rfl
      exact (Frame.refl _ _)
  · refine Frame.ite ?_ ?_
    · refine Frame.step ?_ (evalNochan_frame _) rfl
      refine Frame.step ?_ (doAcfg_frame _) rfl
      refine Frame.step ?_ (uhfChanged_frame _) rfl
      exact (Frame.refl _ _)
    · refine Frame.ite ?_ ?_
      · refine Frame.ite ?_ ?_
        · refine Frame.step ?_ (startOn_frame _) rfl
          refine Frame.step ?_ (uhfChanged_frame _) rfl
          exact (Frame.refl _ _)
        · refine Frame.step ?_ (requestAerial_frame _) rfl
          refine Frame.step ?_ (uhfChanged_frame _) rfl
          exact (Frame.refl _ _)
      · refine Frame.step ?_ (uhfChanged_frame _) rfl
        exact (Frame.refl _ _)

theorem rampStart_frame (d : Dev) : Frame 23341057 d (rampStart d) := by
  unfold rampStart
  split
  · refine Frame.ite ?_ ?_
    · exact (Frame.refl _ _)
    · refine Frame.ite ?_ ?_
      · refine Frame.ite ?_ ?_
        · refine Frame.step ?_ (carrierOn_frame _ _) rfl
          exact (Frame.refl _ _)
        · refine Frame.step ?_ (afterRun_frame _) rfl
          refine Frame.step ?_ (Dev.onUhf_frame _ _) rfl
          exact (Frame.refl _ _)
      · refine Frame.ite ?_ ?_
        · refine Frame.step ?_ (carrierOn_frame _ _) rfl
          exact (Frame.refl _ _)
        · exact (Frame.refl _ _)
  · exact (Frame.refl _ _)

theorem releaseAerial_frame (d : Dev) : Frame 18876416 d (releaseAerial d) := by
  unfold releaseAerial
  refine Frame.ite ?_ ?_
  · refine Frame.step ?_ (uhfChanged_frame _) rfl
    refine Frame.step ?_ (Dev.onUhf_frame _ _) rfl
    exact (Frame.refl _ _)
  · refine Frame.step ?_ (Dev.onUhf_frame _ _) rfl
    exact (Frame.refl _ _)

theorem carrierWrite_frame (v : Bool) (d : Dev) : Frame 19138561 d (carrierWrite v d) := by
  unfold carrierWrite
  refine Frame.ite ?_ ?_
  · refine Frame.step ?_ (Dev.onUhf_frame _ _) rfl
    exact (Frame.refl _ _)
  · refine Frame.ite ?_ ?_
    · refine Frame.ite ?_ ?_
      · refine Frame.step ?_ (Dev.onUhf_frame _ _) rfl
        exact (Frame.refl _ _)
      · refine Frame.ite ?_ ?_
        · refine Frame.step ?_ (startOn_frame _) rfl
          refine Frame.step ?_ (Dev.onUhf_frame _ _) rfl
          exact (Frame.refl _ _)
        · refine Frame.step ?_ (requestAerial_frame _) rfl
          refine Frame.step ?_ (Dev.onUhf_frame _ _) rfl
          exact (Frame.refl _ _)
    · refine Frame.step ?_ (releaseAerial_frame _) rfl
      refine Frame.step ?_ (Dev.onUhf_frame _ _) rfl
      refine Frame.ite ?_ ?_
      · refine Frame.step ?_ (Dev.onUhf_frame _ _) rfl
        refine Frame.step ?_ (rampDown_frame _ _) rfl
        refine Frame.step ?_ (Dev.onUhf_frame _ _) rfl
        exact (Frame.refl _ _)
      · refine Frame.step ?_ (rampDown_frame _ _) rfl
        refine Frame.step ?_ (Dev.onUhf_frame _ _) rfl
        exact (Frame.refl _ _)

theorem radioOff_frame (cut : Bool) (d : Dev) : Frame 18876416 d (radioOff cut d) := by
  unfold radioOff
  refine Frame.step ?_ (releaseAerial_frame _) rfl
  refine Frame.step ?_ (Dev.onUhf_frame _ _) rfl
  refine Frame.step ?_ (rampDown_frame _ _) rfl
  exact (Frame.refl _ _)

theorem acfgTo_frame (a : Fin 8) (d : Dev) : Frame 23078912 d (acfgTo a d) := by
  unfold acfgTo
  refine Frame.ite ?_ ?_
  · refine Frame.step ?_ (Dev.onUhf_frame _ _) rfl
    exact (Frame.refl _ _)
  · refine Frame.ite ?_ ?_
    · refine Frame.step ?_ (evalNochan_frame _) rfl
      refine Frame.step ?_ (Dev.onUhf_frame _ _) rfl
      refine Frame.step ?_ (Dev.onUhf_frame _ _) rfl
      exact (Frame.refl _ _)
    · refine Frame.step ?_ (evalNochan_frame _) rfl
      refine Frame.step ?_ (doAcfg_frame _) rfl
      refine Frame.step ?_ (Dev.onUhf_frame _ _) rfl
      exact (Frame.refl _ _)

theorem hopTo_frame (c : Fin 64) (d : Dev) : Frame 18884608 d (hopTo c d) := by
  unfold hopTo
  refine Frame.ite ?_ ?_
  · refine Frame.step ?_ (Dev.onUhf_frame _ _) rfl
    exact (Frame.refl _ _)
  · refine Frame.ite ?_ ?_
    · refine Frame.step ?_ (Dev.onUhf_frame _ _) rfl
      refine Frame.step ?_ (Dev.onUhf_frame _ _) rfl
      exact (Frame.refl _ _)
    · refine Frame.step ?_ (doHop_frame _ _) rfl
      refine Frame.step ?_ (Dev.onUhf_frame _ _) rfl
      exact (Frame.refl _ _)

theorem txkillWrite_frame (v : Bool) (d : Dev) : Frame 18876416 d (txkillWrite v d) := by
  unfold txkillWrite
  refine Frame.ite ?_ ?_
  · refine Frame.step ?_ (Dev.onUhf_frame _ _) rfl
    refine Frame.step ?_ (rampDown_frame _ _) rfl
    exact (Frame.refl _ _)
  · refine Frame.step ?_ (Dev.onUhf_frame _ _) rfl
    exact (Frame.refl _ _)

theorem payGrant_frame (d : Dev) : Frame 2048 d (payGrant d) := by
  unfold payGrant
  refine Frame.ite ?_ ?_
  · refine Frame.step ?_ (Dev.onUhf_frame _ _) rfl
    exact (Frame.refl _ _)
  · exact (Frame.refl _ _)

theorem yieldAerial_frame (draw : Nat) (d : Dev) : Frame 18876416 d (yieldAerial draw d) := by
  unfold yieldAerial
  refine Frame.step ?_ (uhfChanged_frame _) rfl
  refine Frame.step ?_ (Dev.onUhf_frame _ _) rfl
  exact (Frame.refl _ _)

theorem loseAerial_frame (d : Dev) : Frame 18876416 d (loseAerial d) := by
  unfold loseAerial
  refine Frame.step ?_ (uhfChanged_frame _) rfl
  refine Frame.step ?_ (Dev.onUhf_frame _ _) rfl
  refine Frame.step ?_ (rampDown_frame _ _) rfl
  exact (Frame.refl _ _)

theorem arbitrate_frame (draw : Nat) (d : Dev) : Frame 19138561 d (arbitrate draw d) := by
  unfold arbitrate
  refine Frame.ite ?_ ?_
  · refine Frame.ite ?_ ?_
    · refine Frame.step ?_ (gained_frame _) rfl
      refine Frame.step ?_ (Dev.onUhf_frame _ _) rfl
      refine Frame.step ?_ (Dev.onUhf_frame _ _) rfl
      exact (Frame.refl _ _)
    · refine Frame.step ?_ (Dev.onUhf_frame _ _) rfl
      refine Frame.step ?_ (Dev.onUhf_frame _ _) rfl
      exact (Frame.refl _ _)
  · refine Frame.ite ?_ ?_
    · refine Frame.step ?_ (Dev.onUhf_frame _ _) rfl
      exact (Frame.refl _ _)
    · refine Frame.ite ?_ ?_
      · refine Frame.step ?_ (payGrant_frame _) rfl
        refine Frame.step ?_ (Dev.onUhf_frame _ _) rfl
        exact (Frame.refl _ _)
      · refine Frame.ite ?_ ?_
        · refine Frame.step ?_ (Dev.onUhf_frame _ _) rfl
          exact (Frame.refl _ _)
        · refine Frame.ite ?_ ?_
          · refine Frame.step ?_ (Dev.onUhf_frame _ _) rfl
            refine Frame.step ?_ (Dev.onUhf_frame _ _) rfl
            exact (Frame.refl _ _)
          · refine Frame.ite ?_ ?_
            · refine Frame.ite ?_ ?_
              · refine Frame.step ?_ (gained_frame _) rfl
                refine Frame.step ?_ (Dev.onUhf_frame _ _) rfl
                exact (Frame.refl _ _)
              · refine Frame.ite ?_ ?_
                · refine Frame.step ?_ (Dev.onUhf_frame _ _) rfl
                  refine Frame.step ?_ (Dev.onUhf_frame _ _) rfl
                  exact (Frame.refl _ _)
                · refine Frame.step ?_ (yieldAerial_frame _ _) rfl
                  refine Frame.step ?_ (Dev.onUhf_frame _ _) rfl
                  exact (Frame.refl _ _)
            · refine Frame.ite ?_ ?_
              · refine Frame.step ?_ (payGrant_frame _) rfl
                refine Frame.step ?_ (giveAerial_frame _) rfl
                refine Frame.ite ?_ ?_
                · refine Frame.step ?_ (Dev.onUhf_frame _ _) rfl
                  refine Frame.step ?_ (Dev.onUhf_frame _ _) rfl
                  exact (Frame.refl _ _)
                · refine Frame.step ?_ (Dev.onUhf_frame _ _) rfl
                  exact (Frame.refl _ _)
              · refine Frame.ite ?_ ?_
                · refine Frame.step ?_ (Dev.onUhf_frame _ _) rfl
                  refine Frame.step ?_ (loseAerial_frame _) rfl
                  refine Frame.ite ?_ ?_
                  · refine Frame.step ?_ (Dev.onUhf_frame _ _) rfl
                    refine Frame.step ?_ (Dev.onUhf_frame _ _) rfl
                    exact (Frame.refl _ _)
                  · refine Frame.step ?_ (Dev.onUhf_frame _ _) rfl
                    exact (Frame.refl _ _)
                · refine Frame.ite ?_ ?_
                  · refine Frame.step ?_ (Dev.onUhf_frame _ _) rfl
                    refine Frame.step ?_ (Dev.onUhf_frame _ _) rfl
                    exact (Frame.refl _ _)
                  · refine Frame.step ?_ (Dev.onUhf_frame _ _) rfl
                    exact (Frame.refl _ _)

theorem calFailed_frame (full : Bool) (f : Nat) (x : CalRes) (d : Dev) : Frame 23070720 d (calFailed full f x d) := by
  unfold calFailed
  refine Frame.step ?_ (evalNochan_frame _) rfl
  refine Frame.step ?_ (pushRadio_frame _ _ _ _ _) rfl
  refine Frame.step ?_ (Dev.onUhf_frame _ _) rfl
  refine Frame.step ?_ (onRfCh_frame _ _ _) rfl
  refine Frame.step ?_ (rampDown_frame _ _) rfl
  exact (Frame.refl _ _)

theorem calPass_frame (full : Bool) (x : CalRes) (d : Dev) : Frame 23070720 d (calPass full x d) := by
  unfold calPass
  refine Frame.ite ?_ ?_
  · refine Frame.step ?_ (pushRadio_frame _ _ _ _ _) rfl
    refine Frame.step ?_ (Dev.onUhf_frame _ _) rfl
    refine Frame.step ?_ (onRfCh_frame _ _ _) rfl
    exact (Frame.refl _ _)
  · refine Frame.step ?_ (Dev.onUhf_frame _ _) rfl
    refine Frame.step ?_ (onRfCh_frame _ _ _) rfl
    exact (Frame.refl _ _)

theorem selectHop_frame (draw : Nat) (d : Dev) : Frame 23078912 d (selectHop draw d) := by
  unfold selectHop
  split
  · refine Frame.step ?_ (hopTo_frame _ _) rfl
    refine Frame.step ?_ (Dev.onUhf_frame _ _) rfl
    exact (Frame.refl _ _)
  · refine Frame.ite ?_ ?_
    · refine Frame.step ?_ (evalNochan_frame _) rfl
      exact (Frame.refl _ _)
    · refine Frame.step ?_ (rampDown_frame _ _) rfl
      refine Frame.step ?_ (Dev.onUhf_frame _ _) rfl
      exact (Frame.refl _ _)

theorem takeCoex_frame (d : Dev) : Frame 19138561 d (takeCoex d) := by
  unfold takeCoex
  split
  · exact (Frame.refl _ _)
  · refine Frame.ite ?_ ?_
    · refine Frame.step ?_ (requestAerial_frame _) rfl
      refine Frame.step ?_ (Dev.onUhf_frame _ _) rfl
      exact (Frame.refl _ _)
    · refine Frame.step ?_ (Dev.onUhf_frame _ _) rfl
      exact (Frame.refl _ _)

theorem nextCh_frame (draw : Nat) (d : Dev) : Frame 23078912 d (nextCh draw d) := by
  unfold nextCh
  refine Frame.ite ?_ ?_
  · refine Frame.ite ?_ ?_
    · refine Frame.step ?_ (Dev.onUhf_frame _ _) rfl
      refine Frame.step ?_ (rampDown_frame _ _) rfl
      exact (Frame.refl _ _)
    · refine Frame.step ?_ (hopTo_frame _ _) rfl
      refine Frame.step ?_ (Dev.onUhf_frame _ _) rfl
      exact (Frame.refl _ _)
  · refine Frame.step ?_ (selectHop_frame _ _) rfl
    exact (Frame.refl _ _)

theorem hopDone_frame (d : Dev) : Frame 23341057 d (hopDone d) := by
  unfold hopDone
  refine Frame.ite ?_ ?_
  · exact (Frame.refl _ _)
  · refine Frame.ite ?_ ?_
    · refine Frame.step ?_ (uhfChanged_frame _) rfl
      refine Frame.step ?_ (Dev.onUhf_frame _ _) rfl
      exact (Frame.refl _ _)
    · refine Frame.step ?_ (afterRun_frame _) rfl
      refine Frame.step ?_ (Dev.onUhf_frame _ _) rfl
      exact (Frame.refl _ _)

end Sys2Proof.Machine
end

