-- ==== Sys2Proof/Laws/KeepRadio.lean ====
section
/-! SUPPORT. What the operations of Machine/Radio.lean leave alone. -/

namespace Sys2Proof.Machine
open Sys2Proof

theorem aerialDenied_frame (tag : Fin 32) (payload : List Sys2Proof.Byte) (d : Dev) : Frame 23332864 d (aerialDenied tag
    payload d) := by
  unfold aerialDenied
  refine Frame.step ?_ (complete_frame _ _ _ _) rfl
  refine Frame.step ?_ (Dev.onUhf_frame _ _) rfl
  exact (Frame.refl _ _)

theorem calNext_frame (d : Dev) : Frame 23529473 d (calNext d) := by
  unfold calNext
  split
  · exact (Frame.refl _ _)
  · split
    · refine Frame.ite ?_ ?_
      · refine Frame.step ?_ (writeRec_frame _ _ _ _ _) rfl
        refine Frame.step ?_ (Dev.onUhf_frame _ _) rfl
        refine Frame.step ?_ (radioOff_frame _ _) rfl
        exact (Frame.refl _ _)
      · refine Frame.step ?_ (complete_frame _ _ _ _) rfl
        refine Frame.step ?_ (Dev.onUhf_frame _ _) rfl
        refine Frame.step ?_ (radioOff_frame _ _) rfl
        exact (Frame.refl _ _)
    · refine Frame.ite ?_ ?_
      · refine Frame.step ?_ (requestAerial_frame _) rfl
        refine Frame.step ?_ (onCmd_frame _ _ _) rfl
        refine Frame.step ?_ (Dev.onUhf_frame _ _) rfl
        exact (Frame.refl _ _)
      · refine Frame.step ?_ (startNext_frame _) rfl
        refine Frame.step ?_ (Dev.onUhf_frame _ _) rfl
        exact (Frame.refl _ _)

theorem calAdvance_frame (failed : Bool) (d : Dev) : Frame 23529473 d (calAdvance failed d) := by
  unfold calAdvance
  split
  · exact (Frame.refl _ _)
  · refine Frame.ite ?_ ?_
    · refine Frame.step ?_ (fail_frame _ _ _) rfl
      refine Frame.step ?_ (radioOff_frame _ _) rfl
      refine Frame.step ?_ (Dev.onUhf_frame _ _) rfl
      refine Frame.step ?_ (rampDown_frame _ _) rfl
      exact (Frame.refl _ _)
    · split
      · refine Frame.step ?_ (calNext_frame _) rfl
        refine Frame.step ?_ (Dev.onUhf_frame _ _) rfl
        refine Frame.step ?_ (rampDown_frame _ _) rfl
        exact (Frame.refl _ _)
      · refine Frame.step ?_ (calNext_frame _) rfl
        refine Frame.step ?_ (Dev.onUhf_frame _ _) rfl
        refine Frame.step ?_ (rampDown_frame _ _) rfl
        exact (Frame.refl _ _)

theorem execCalibrateUhf_frame (tag : Fin 32) (s : State) : ONext 23529473 s.ev (execCalibrateUhf tag s) := by
  unfold execCalibrateUhf
  refine ONext.onDev ?_
  intro d h
  split
  · exact h
  · refine Frame.ite ?_ ?_
    · exact h
    · refine Frame.ite ?_ ?_
      · refine Frame.step ?_ (fail_frame _ _ _) rfl
        exact h
      · refine inMode_frame _ _ _ _ rfl ?_ ?_
        · intro _ h1000
          refine Frame.ite ?_ ?_
          · exact h1000
          · refine Frame.step ?_ (calNext_frame _) rfl
            refine Frame.step ?_ (Dev.onUhf_frame _ _) rfl
            refine Frame.step ?_ (onCmd_frame _ _ _) rfl
            exact h1000
        · exact h

theorem execCancellerTrack_frame (dir : Vector TrackDir 4) (s : State) : ONext 2048 s.ev (execCancellerTrack dir s) := by
  unfold execCancellerTrack
  refine ONext.onDev ?_
  intro d h
  refine Frame.ite ?_ ?_
  · exact h
  · refine Frame.step ?_ (Dev.onUhf_frame _ _) rfl
    exact h

theorem execCoexBackoffEnd_frame (s : State) : ONext 19138561 s.ev (execCoexBackoffEnd s) := by
  unfold execCoexBackoffEnd
  refine ONext.onDev ?_
  intro d h
  split
  · refine Frame.ite ?_ ?_
    · refine Frame.ite ?_ ?_
      · refine Frame.step ?_ (requestAerial_frame _) rfl
        refine Frame.step ?_ (Dev.onUhf_frame _ _) rfl
        exact h
      · refine Frame.step ?_ (Dev.onUhf_frame _ _) rfl
        exact h
    · exact h
  · exact h

theorem execCoexDecision_frame (draw : Nat) (s : State) : ONext 19138561 s.ev (execCoexDecision draw s) := by
  unfold execCoexDecision
  refine ONext.onDev ?_
  intro d h
  refine Frame.ite ?_ ?_
  · exact h
  · refine Frame.ite ?_ ?_
    · refine Frame.step ?_ (arbitrate_frame _ _) rfl
      refine Frame.step ?_ (takeCoex_frame _) rfl
      exact h
    · refine Frame.step ?_ (takeCoex_frame _) rfl
      exact h

theorem execCoexGntChange_frame (level : Bool) (s : State) : ONext 19138561 s.ev (execCoexGntChange level s) := by
  unfold execCoexGntChange
  refine ONext.onDev ?_
  intro d h
  refine Frame.ite ?_ ?_
  · exact h
  · refine Frame.ite ?_ ?_
    · refine Frame.ite ?_ ?_
      · refine Frame.step ?_ (gained_frame _) rfl
        refine Frame.step ?_ (Dev.onUhf_frame _ _) rfl
        exact h
      · refine Frame.step ?_ (Dev.onUhf_frame _ _) rfl
        exact h
    · refine Frame.ite ?_ ?_
      · refine Frame.step ?_ (loseAerial_frame _) rfl
        refine Frame.step ?_ (Dev.onUhf_frame _ _) rfl
        exact h
      · refine Frame.step ?_ (Dev.onUhf_frame _ _) rfl
        exact h

theorem execCoexGntTimeout_frame (draw : Nat) (s : State) : ONext 2048 s.ev (execCoexGntTimeout draw s) := by
  unfold execCoexGntTimeout
  refine ONext.onDev ?_
  intro d h
  split
  · refine Frame.ite ?_ ?_
    · refine Frame.step ?_ (Dev.onUhf_frame _ _) rfl
      exact h
    · exact h
  · exact h

theorem execCoexHoldMax_frame (s : State) : ONext 18876416 s.ev (execCoexHoldMax s) := by
  unfold execCoexHoldMax
  refine ONext.onDev ?_
  intro d h
  refine Frame.ite ?_ ?_
  · refine Frame.step ?_ (Dev.onUhf_frame _ _) rfl
    refine Frame.step ?_ (loseAerial_frame _) rfl
    exact h
  · exact h

theorem execCoexReqChange_frame (req : Bool) (pri : Bool) (s : State) : ONext 2048 s.ev (execCoexReqChange req pri s) := by
  unfold execCoexReqChange
  refine ONext.onDev ?_
  intro d h
  refine Frame.ite ?_ ?_
  · exact h
  · refine Frame.step ?_ (Dev.onUhf_frame _ _) rfl
    exact h

theorem execFailedChannelRetry_frame (draw : Nat) (s : State) : ONext 23078912 s.ev (execFailedChannelRetry draw s) := by
  unfold execFailedChannelRetry
  refine ONext.onDev ?_
  intro d h
  refine Frame.ite ?_ ?_
  · refine Frame.ite ?_ ?_
    · refine Frame.step ?_ (nextCh_frame _ _) rfl
      refine Frame.step ?_ (evalNochan_frame _) rfl
      exact h
    · refine Frame.step ?_ (evalNochan_frame _) rfl
      exact h
  · exact h

theorem secWrite_frame (sec : Nat) (index : Nat) (count : Nat) (p : List Sys2Proof.Byte) (d : Dev) : Frame 23078912 d
    (secWrite sec index count p d) := by
  unfold secWrite
  split
  · refine Frame.step ?_ (evalNochan_frame _) rfl
    refine Frame.step ?_ (Dev.onUhf_frame _ _) rfl
    exact (Frame.refl _ _)
  · refine Frame.step ?_ (Dev.onUhf_frame _ _) rfl
    exact (Frame.refl _ _)
  · refine Frame.step ?_ (acfgTo_frame _ _) rfl
    refine Frame.step ?_ (Dev.onUhf_frame _ _) rfl
    exact (Frame.refl _ _)
  · refine Frame.step ?_ (Dev.onUhf_frame _ _) rfl
    exact (Frame.refl _ _)

theorem execRadioConfig_frame (tag : Fin 32) (s : State) : ONext 23341056 s.ev (execRadioConfig tag s) := by
  unfold execRadioConfig
  dsimp only
  refine ONext.onDev ?_
  intro d h
  refine begin__frame _ _ _ _ _ rfl ?_ ?_
  · intro _ _ h1000
    split
    · refine Frame.step ?_ (fail_frame _ _ _) rfl
      exact h1000
    · refine Frame.ite ?_ ?_
      · refine Frame.step ?_ (fail_frame _ _ _) rfl
        exact h1000
      · refine inMode_frame _ _ _ _ rfl ?_ ?_
        · intro _ h1001
          refine Frame.ite ?_ ?_
          · refine Frame.step ?_ (fail_frame _ _ _) rfl
            exact h1001
          · refine Frame.step ?_ (complete_frame _ _ _ _) rfl
            refine Frame.ite ?_ ?_
            · refine Frame.step ?_ (secWrite_frame _ _ _ _ _) rfl
              exact h1001
            · exact h1001
        · exact h1000
  · exact h

theorem execResidualExcursion_frame (i : Fin 4) (above : Bool) (s : State) : ONext 2048 s.ev (execResidualExcursion i above s)
    := by
  unfold execResidualExcursion
  refine ONext.onDev ?_
  intro d h
  refine Frame.ite ?_ ?_
  · exact h
  · refine Frame.ite ?_ ?_
    · refine Frame.ite ?_ ?_
      · exact h
      · refine Frame.step ?_ (Dev.onUhf_frame _ _) rfl
        exact h
    · refine Frame.step ?_ (Dev.onUhf_frame _ _) rfl
      exact h

theorem execResidualPersist_frame (i : Fin 4) (s : State) : ONext 2048 s.ev (execResidualPersist i s) := by
  unfold execResidualPersist
  refine ONext.onDev ?_
  intro d h
  split
  · refine Frame.ite ?_ ?_
    · refine Frame.step ?_ (onRfCh_frame _ _ _) rfl
      exact h
    · exact h
  · exact h

theorem execRevisitExpiry_frame (draw : Nat) (s : State) : ONext 23078912 s.ev (execRevisitExpiry draw s) := by
  unfold execRevisitExpiry
  refine ONext.onDev ?_
  intro d h
  refine Frame.ite ?_ ?_
  · refine Frame.step ?_ (nextCh_frame _ _) rfl
    exact h
  · exact h

theorem uhfCalEnd_frame (x : CalRes) (d : Dev) : Frame 23537665 d (uhfCalEnd x d) := by
  unfold uhfCalEnd
  refine Frame.ite ?_ ?_
  · refine Frame.step ?_ (uhfChanged_frame _) rfl
    refine Frame.step ?_ (calAdvance_frame _ _) rfl
    exact (Frame.refl _ _)
  · refine Frame.ite ?_ ?_
    · exact (Frame.refl _ _)
    · refine Frame.ite ?_ ?_
      · exact (Frame.refl _ _)
      · refine Frame.ite ?_ ?_
        · refine Frame.step ?_ (uhfChanged_frame _) rfl
          refine Frame.step ?_ (calAdvance_frame _ _) rfl
          refine Frame.ite ?_ ?_
          · refine Frame.step ?_ (calPass_frame _ _ _) rfl
            refine Frame.step ?_ (Dev.onUhf_frame _ _) rfl
            exact (Frame.refl _ _)
          · refine Frame.step ?_ (calFailed_frame _ _ _ _) rfl
            refine Frame.step ?_ (Dev.onUhf_frame _ _) rfl
            exact (Frame.refl _ _)
        · refine Frame.step ?_ (afterRun_frame _) rfl
          refine Frame.ite ?_ ?_
          · refine Frame.step ?_ (calPass_frame _ _ _) rfl
            refine Frame.step ?_ (Dev.onUhf_frame _ _) rfl
            exact (Frame.refl _ _)
          · refine Frame.step ?_ (calFailed_frame _ _ _ _) rfl
            refine Frame.step ?_ (Dev.onUhf_frame _ _) rfl
            exact (Frame.refl _ _)

theorem execUhfDwellExpiry_frame (draw : Nat) (s : State) : ONext 23078912 s.ev (execUhfDwellExpiry draw s) := by
  unfold execUhfDwellExpiry
  refine ONext.onDev ?_
  intro d h
  refine Frame.ite ?_ ?_
  · exact h
  · refine Frame.ite ?_ ?_
    · refine Frame.step ?_ (nextCh_frame _ _) rfl
      refine Frame.step ?_ (dwellStop_frame _) rfl
      exact h
    · refine Frame.step ?_ (dwellStop_frame _) rfl
      exact h

theorem execUhfHopDone_frame (s : State) : ONext 23341057 s.ev (execUhfHopDone s) := by
  unfold execUhfHopDone
  refine ONext.onDev ?_
  intro d h
  refine Frame.step ?_ (hopDone_frame _) rfl
  exact h

end Sys2Proof.Machine
end

