-- ==== Sys2Proof/Laws/KeepKeyOps.lean ====
section
/-! SUPPORT. What the operations of Machine/KeyOps.lean leave alone. -/

namespace Sys2Proof.Machine
open Sys2Proof

theorem islandMsg_frame (d : Dev) : Frame 18874368 d (islandMsg d) := by
  unfold islandMsg
  refine Frame.step ?_ (msgSc_frame _ _) rfl
  exact (Frame.refl _ _)

theorem onPort_frame (p : Fin 5) (f : KsPort → KsPort) (d : Dev) : Frame 4096 d (onPort p f d) := by
  unfold onPort
  refine Frame.step ?_ (Dev.onKey_frame _ _) rfl
  exact (Frame.refl _ _)

theorem dropReq_frame (r : KReq) (st : Status) (err : Nat) (d : Dev) : Frame 23334912 d (dropReq r st err d) := by
  unfold dropReq
  split
  · refine Frame.step ?_ (islandMsg_frame _) rfl
    refine Frame.step ?_ (fail_frame _ _ _) rfl
    exact (Frame.refl _ _)
  · refine Frame.ite ?_ ?_
    · refine Frame.step ?_ (islandMsg_frame _) rfl
      refine Frame.step ?_ (onPort_frame _ _ _) rfl
      exact (Frame.refl _ _)
    · refine Frame.step ?_ (onPort_frame _ _ _) rfl
      exact (Frame.refl _ _)

theorem takeUp_frame (a0 : Nat) (a1 : Dev) : Frame 23334912 a1 (takeUp a0 a1) := by
  induction a0 generalizing a1 with
  | zero => exact Frame.refl _ _
  | succ k ih =>
    unfold takeUp
    refine Frame.ite (Frame.refl _ _) ?_
    split
    · exact Frame.refl _ _
    · split
      · exact Frame.refl _ _
      · dsimp only
        refine Frame.ite ?_ (Frame.ite ?_ ?_)
        · exact Frame.step (Frame.step (Frame.step (Frame.refl _ _) (Dev.onKey_frame _ _) rfl) (dropReq_frame _ _ _ _) rfl) (ih _) rfl
        · exact Frame.step (Frame.step (Frame.step (Frame.refl _ _) (Dev.onKey_frame _ _) rfl) (dropReq_frame _ _ _ _) rfl) (ih _) rfl
        · exact Frame.step (Frame.step (Frame.refl _ _) (Dev.onKey_frame _ _) rfl) (Dev.onKey_frame _ _) rfl

theorem islandNext_frame (d : Dev) : Frame 23334912 d (islandNext d) := by
  unfold islandNext
  refine Frame.step ?_ (takeUp_frame _ _) rfl
  exact (Frame.refl _ _)

theorem refusalEnd_frame (d : Dev) : Frame 23334912 d (refusalEnd d) := by
  unfold refusalEnd
  split
  · exact (Frame.refl _ _)
  · refine Frame.ite ?_ ?_
    · exact (Frame.refl _ _)
    · split
      · refine Frame.step ?_ (islandNext_frame _) rfl
        refine Frame.step ?_ (islandMsg_frame _) rfl
        refine Frame.step ?_ (fail_frame _ _ _) rfl
        refine Frame.step ?_ (Dev.onKey_frame _ _) rfl
        exact (Frame.refl _ _)
      · refine Frame.step ?_ (islandNext_frame _) rfl
        refine Frame.ite ?_ ?_
        · refine Frame.step ?_ (islandMsg_frame _) rfl
          refine Frame.step ?_ (onPort_frame _ _ _) rfl
          refine Frame.step ?_ (Dev.onKey_frame _ _) rfl
          exact (Frame.refl _ _)
        · refine Frame.step ?_ (onPort_frame _ _ _) rfl
          refine Frame.step ?_ (Dev.onKey_frame _ _) rfl
          exact (Frame.refl _ _)

theorem abandonIsland_frame (d : Dev) : Frame 4096 d (abandonIsland d) := by
  unfold abandonIsland
  refine Frame.foldl ?_ ?_
  · refine Frame.step ?_ (Dev.onKey_frame _ _) rfl
    exact (Frame.refl _ _)
  · intro _ _ h1000
    split
    · refine Frame.step ?_ (onPort_frame _ _ _) rfl
      exact h1000
    · exact h1000

theorem withdraw_frame (tag : Fin 32) (d : Dev) : Frame 4096 d (withdraw tag d) := by
  unfold withdraw
  refine Frame.step ?_ (Dev.onKey_frame _ _) rfl
  exact (Frame.refl _ _)

theorem wipe_frame (p : KSlot → Bool) (d : Dev) : Frame 4096 d (wipe p d) := by
  unfold wipe
  refine Frame.step ?_ (Dev.onKey_frame _ _) rfl
  exact (Frame.refl _ _)

theorem pushIsland_frame (evt : Nat) (slot : Nat) (count : Nat) (label : Nat) (d : Dev) : Frame 23068672 d (pushIsland evt
    slot count label d) := by
  unfold pushIsland
  refine Frame.step ?_ (islandMsg_frame _) rfl
  refine Frame.step ?_ (pushSystem_frame _ _ _ _) rfl
  exact (Frame.refl _ _)

theorem autoWipe_frame (p : KSlot → Bool) (d : Dev) : Frame 23072768 d (autoWipe p d) := by
  unfold autoWipe
  dsimp only
  split
  · refine Frame.step ?_ (wipe_frame _ _) rfl
    exact (Frame.refl _ _)
  · refine Frame.step ?_ (pushIsland_frame _ _ _ _ _) rfl
    refine Frame.step ?_ (wipe_frame _ _) rfl
    exact (Frame.refl _ _)
  · refine Frame.step ?_ (pushIsland_frame _ _ _ _ _) rfl
    refine Frame.step ?_ (wipe_frame _ _) rfl
    exact (Frame.refl _ _)

theorem onSlot_frame (s : Fin 64) (f : KSlot → KSlot) (d : Dev) : Frame 4096 d (onSlot s f d) := by
  unfold onSlot
  refine Frame.step ?_ (Dev.onKey_frame _ _) rfl
  exact (Frame.refl _ _)

theorem fillSlot_frame (n : Nat) (k : KSlot) (d : Dev) : Frame 4096 d (fillSlot n k d) := by
  unfold fillSlot
  split
  · refine Frame.step ?_ (onSlot_frame _ _ _) rfl
    exact (Frame.refl _ _)
  · exact (Frame.refl _ _)

theorem useSlot_frame (s : Fin 64) (d : Dev) : Frame 23072768 d (useSlot s d) := by
  unfold useSlot
  split
  · refine Frame.ite ?_ ?_
    · refine Frame.step ?_ (pushIsland_frame _ _ _ _ _) rfl
      refine Frame.step ?_ (onSlot_frame _ _ _) rfl
      exact (Frame.refl _ _)
    · refine Frame.step ?_ (onSlot_frame _ _ _) rfl
      exact (Frame.refl _ _)
  · exact (Frame.refl _ _)

theorem runOp_frame (r : KReq) (rnd : List Nat) (d : Dev) : Frame 23072768 d (runOp r rnd d).1 := by
  unfold runOp
  dsimp only
  split
  · refine Frame.step ?_ (fillSlot_frame _ _ _) rfl
    split
    · refine Frame.step ?_ (useSlot_frame _ _) rfl
      exact (Frame.refl _ _)
    · exact (Frame.refl _ _)
  · split
    · refine Frame.step ?_ (useSlot_frame _ _) rfl
      exact (Frame.refl _ _)
    · exact (Frame.refl _ _)

theorem keySubmit_frame (p : Fin 5) (r : KReq) (d : Dev) : Frame 23334912 d (keySubmit p r d) := by
  unfold keySubmit
  refine Frame.step ?_ (islandNext_frame _) rfl
  refine Frame.step ?_ (wakeDom_frame _ _) rfl
  refine Frame.step ?_ (Dev.onKey_frame _ _) rfl
  exact (Frame.refl _ _)

theorem dropWaiting_frame (d : Dev) : Frame 23334912 d (dropWaiting d) := by
  unfold dropWaiting
  refine Frame.foldl ?_ ?_
  · refine Frame.step ?_ (Dev.onKey_frame _ _) rfl
    exact (Frame.refl _ _)
  · intro _ _ h1000
    refine Frame.step ?_ (dropReq_frame _ _ _ _) rfl
    exact h1000

theorem endNcp_frame (tag : Fin 32) (r : KReq) (rnd : List Nat) (d : Dev) : Frame 23334912 d (endNcp tag r rnd d) := by
  unfold endNcp
  split
  · refine Frame.step ?_ (complete_frame _ _ _ _) rfl
    refine Frame.step ?_ (runOp_frame _ _ _) rfl
    exact (Frame.refl _ _)
  · split
    · refine Frame.step ?_ (complete_frame _ _ _ _) rfl
      refine Frame.step ?_ (fillSlot_frame _ _ _) rfl
      exact (Frame.refl _ _)
    · refine Frame.step ?_ (fail_frame _ _ _) rfl
      exact (Frame.refl _ _)
  · refine Frame.step ?_ (complete_frame _ _ _ _) rfl
    refine Frame.ite ?_ ?_
    · refine Frame.step ?_ (wipe_frame _ _) rfl
      exact (Frame.refl _ _)
    · split
      · refine Frame.step ?_ (onSlot_frame _ _ _) rfl
        exact (Frame.refl _ _)
      · exact (Frame.refl _ _)
  · refine Frame.step ?_ (complete_frame _ _ _ _) rfl
    exact (Frame.refl _ _)
  · refine Frame.step ?_ (onCmd_frame _ _ _) rfl
    exact (Frame.refl _ _)

theorem endPort_frame (p : Fin 5) (r : KReq) (out : List Nat) (bad : Bool) (d : Dev) : Frame 18878464 d (endPort p r out bad
    d) := by
  unfold endPort
  refine Frame.ite ?_ ?_
  · refine Frame.step ?_ (islandMsg_frame _) rfl
    refine Frame.step ?_ (onPort_frame _ _ _) rfl
    exact (Frame.refl _ _)
  · refine Frame.step ?_ (onPort_frame _ _ _) rfl
    exact (Frame.refl _ _)

theorem submitNcp_frame (tag : Fin 32) (r : KReq) (d : Dev) : Frame 23334912 d (submitNcp tag r d) := by
  unfold submitNcp
  refine Frame.step ?_ (keySubmit_frame _ _ _) rfl
  refine Frame.step ?_ (onCmd_frame _ _ _) rfl
  exact (Frame.refl _ _)

theorem opComplete_frame (rnd : List Nat) (d : Dev) : Frame 23334912 d (opComplete rnd d).1 := by
  unfold opComplete
  split
  · exact (Frame.refl _ _)
  · refine Frame.iteP Prod.fst ?_ ?_
    · exact (Frame.refl _ _)
    · split
      · refine Frame.step ?_ (islandNext_frame _) rfl
        refine Frame.step ?_ (islandMsg_frame _) rfl
        refine Frame.step ?_ (endNcp_frame _ _ _ _) rfl
        refine Frame.step ?_ (Dev.onKey_frame _ _) rfl
        exact (Frame.refl _ _)
      · refine Frame.step ?_ (islandNext_frame _) rfl
        refine Frame.step ?_ (endPort_frame _ _ _ _ _) rfl
        refine Frame.step ?_ (runOp_frame _ _ _) rfl
        refine Frame.step ?_ (Dev.onKey_frame _ _) rfl
        exact (Frame.refl _ _)

end Sys2Proof.Machine
end

