-- ==== Sys2Proof/Laws/KeepKeys.lean ====
section
/-! SUPPORT. What the operations of Machine/Keys.lean leave alone. -/

namespace Sys2Proof.Machine
open Sys2Proof

theorem execCrypto_frame (tag : Fin 32) (s : State) : ONext 23334912 s.ev (execCrypto tag s) := by
  unfold execCrypto
  refine ONext.onDev ?_
  intro d h
  refine begin__frame _ _ _ _ _ rfl ?_ ?_
  · intro _ _ h1000
    refine Frame.ite ?_ ?_
    · refine Frame.step ?_ (fail_frame _ _ _) rfl
      exact h1000
    · refine inMode_frame _ _ _ _ rfl ?_ ?_
      · intro _ h1001
        refine Frame.step ?_ (submitNcp_frame _ _ _) rfl
        exact h1001
      · exact h1000
  · exact h

theorem execEntropyFail_frame (s : State) : ONext 23072768 s.ev (execEntropyFail s) := by
  unfold execEntropyFail
  refine ONext.onDev ?_
  intro d h
  refine Frame.ite ?_ ?_
  · refine Frame.step ?_ (pushIsland_frame _ _ _ _ _) rfl
    refine Frame.step ?_ (Dev.onKey_frame _ _) rfl
    exact h
  · refine Frame.step ?_ (Dev.onKey_frame _ _) rfl
    exact h

theorem execEntropyRetest_frame (pass : Bool) (s : State) : ONext 23072768 s.ev (execEntropyRetest pass s) := by
  unfold execEntropyRetest
  refine ONext.onDev ?_
  intro d h
  refine Frame.ite ?_ ?_
  · exact h
  · refine Frame.ite ?_ ?_
    · refine Frame.step ?_ (pushIsland_frame _ _ _ _ _) rfl
      refine Frame.step ?_ (Dev.onKey_frame _ _) rfl
      exact h
    · refine Frame.step ?_ (Dev.onKey_frame _ _) rfl
      exact h

theorem execKeyInfo_frame (tag : Fin 32) (s : State) : ONext 23330816 s.ev (execKeyInfo tag s) := by
  unfold execKeyInfo
  refine ONext.onDev ?_
  intro d h
  refine begin__frame _ _ _ _ _ rfl ?_ ?_
  · intro _ _ h1000
    refine Frame.ite ?_ ?_
    · refine Frame.step ?_ (fail_frame _ _ _) rfl
      exact h1000
    · refine inMode_frame _ _ _ _ rfl ?_ ?_
      · intro _ h1001
        refine Frame.step ?_ (complete_frame _ _ _ _) rfl
        exact h1001
      · exact h1000
  · exact h

theorem execKeyLoad_frame (tag : Fin 32) (s : State) : ONext 23334912 s.ev (execKeyLoad tag s) := by
  unfold execKeyLoad
  refine ONext.onDev ?_
  intro d h
  refine begin__frame _ _ _ _ _ rfl ?_ ?_
  · intro _ _ h1000
    refine Frame.ite ?_ ?_
    · refine Frame.step ?_ (fail_frame _ _ _) rfl
      exact h1000
    · refine inMode_frame _ _ _ _ rfl ?_ ?_
      · intro _ h1001
        refine Frame.step ?_ (submitNcp_frame _ _ _) rfl
        exact h1001
      · exact h1000
  · exact h

theorem execKeyUnload_frame (tag : Fin 32) (s : State) : ONext 23334912 s.ev (execKeyUnload tag s) := by
  unfold execKeyUnload
  refine ONext.onDev ?_
  intro d h
  refine begin__frame _ _ _ _ _ rfl ?_ ?_
  · intro _ _ h1000
    refine Frame.ite ?_ ?_
    · refine Frame.step ?_ (fail_frame _ _ _) rfl
      exact h1000
    · refine inMode_frame _ _ _ _ rfl ?_ ?_
      · intro _ h1001
        refine Frame.step ?_ (submitNcp_frame _ _ _) rfl
        exact h1001
      · exact h1000
  · exact h

theorem execKsOpComplete_frame (a0 : List Sys2Proof.Byte) (a1 : State) : ONext 291770368 a1.ev (execKsOpComplete a0 a1) := by
  unfold execKsOpComplete
  refine ONext.next (SKeep.mk4 (SKeep.refl _ _) (Frame.le (opComplete_frame _ _) rfl) ?_ (MemOk.same _ _ _ _))
  split
  · exact MemOk.writes rfl
  · exact MemOk.same _ _ _ _

theorem execKsRefusalEnd_frame (s : State) : ONext 23334912 s.ev (execKsRefusalEnd s) := by
  unfold execKsRefusalEnd
  refine ONext.onDev ?_
  intro d h
  refine Frame.step ?_ (refusalEnd_frame _) rfl
  exact h

theorem execKwathesTest_frame (tag : Fin 32) (s : State) : ONext 23334912 s.ev (execKwathesTest tag s) := by
  unfold execKwathesTest
  refine ONext.onDev ?_
  intro d h
  split
  · refine Frame.ite ?_ ?_
    · exact h
    · refine inMode_frame _ _ _ _ rfl ?_ ?_
      · intro _ h1000
        refine Frame.step ?_ (submitNcp_frame _ _ _) rfl
        exact h1000
      · exact h
  · exact h

theorem execRandom_frame (tag : Fin 32) (s : State) : ONext 23334912 s.ev (execRandom tag s) := by
  unfold execRandom
  refine ONext.onDev ?_
  intro d h
  refine begin__frame _ _ _ _ _ rfl ?_ ?_
  · intro _ _ h1000
    refine Frame.ite ?_ ?_
    · refine Frame.step ?_ (fail_frame _ _ _) rfl
      exact h1000
    · refine inMode_frame _ _ _ _ rfl ?_ ?_
      · intro _ h1001
        refine Frame.step ?_ (submitNcp_frame _ _ _) rfl
        exact h1001
      · exact h1000
  · exact h

end Sys2Proof.Machine
end

