-- ==== Sys2Proof/Laws/KeepLayoutOps.lean ====
section
/-! SUPPORT. What the operations of Machine/LayoutOps.lean leave alone. -/

namespace Sys2Proof.Machine
open Sys2Proof

theorem startModule_frame (a0 : Fin 63) (a1 : BitVec 4) (a2 : BitVec 24) (a3 : BitVec 32) (a4 : Bool) (a5 : List (Fin 4 × Nat
    × Nat)) (a6 : State) : SKeep 276889600 a6 (startModule a0 a1 a2 a3 a4 a5 a6) := by
  unfold startModule
  refine SKeep.mk4 (SKeep.refl _ _) ?_ (MemOk.foldl (MemOk.same _ _ _ _) fun x p h => h.step (MemOk.writes rfl)) (MemOk.same _ _ _ _)
  exact Frame.step (Frame.step (Frame.refl _ _) (putModule_frame _ _ _) rfl) (Dev.onTim_frame _ _) rfl

theorem stopModule_frame (y0 : Fin 63) (st : ModSt) (status : Status) (d : Dev) : Frame 31789564 d (stopModule y0 st status d)
    := by
  unfold stopModule
  refine Frame.step ?_ (putModule_frame _ _ _) rfl
  refine Frame.step ?_ (Dev.onTim_frame _ _) rfl
  refine Frame.step ?_ (autoWipe_frame _ _) rfl
  refine Frame.foldl ?_ ?_
  · exact (Frame.refl _ _)
  · intro _ _ h1000
    refine Frame.step ?_ (closeZone_frame _ _ _ _) rfl
    exact h1000

theorem moduleFault_frame (y0 : Fin 63) (addr : Nat) (access : Nat) (d : Dev) : Frame 31789564 d (moduleFault y0 addr access
    d) := by
  unfold moduleFault
  refine Frame.ite ?_ ?_
  · exact (Frame.refl _ _)
  · refine Frame.step ?_ (msgSc_frame _ _) rfl
    refine Frame.step ?_ (pushDiag_frame _ _ _) rfl
    refine Frame.step ?_ (onModule_frame _ _ _) rfl
    refine Frame.step ?_ (stopModule_frame _ _ _ _) rfl
    exact (Frame.refl _ _)

theorem ksGo.submit__frame (p : Fin 5) (r : KReq) (d : Dev) : Frame 23334912 d (ksGo.submit_ p r d) := by
  unfold ksGo.submit_
  refine Frame.step ?_ (keySubmit_frame _ _ _) rfl
  refine Frame.step ?_ (onPort_frame _ _ _) rfl
  exact (Frame.refl _ _)

theorem ksGo_frame (y0 : Master) (p : Fin 5) (s : State) : Frame 31789564 s.dev (ksGo y0 p s) := by
  unfold ksGo
  dsimp only
  refine Frame.ite ?_ ?_
  · refine SKeep.dev ?_
    exact (SKeep.refl _ _)
  · split
    · refine Frame.ite ?_ ?_
      · refine Frame.step ?_ (moduleFault_frame _ _ _ _) rfl
        refine SKeep.dev ?_
        exact (SKeep.refl _ _)
      · refine Frame.ite ?_ ?_
        · refine Frame.ite ?_ ?_
          · refine Frame.step ?_ (islandMsg_frame _) rfl
            refine Frame.step ?_ (onPort_frame _ _ _) rfl
            refine SKeep.dev ?_
            exact (SKeep.refl _ _)
          · refine Frame.step ?_ (onPort_frame _ _ _) rfl
            refine SKeep.dev ?_
            exact (SKeep.refl _ _)
        · refine Frame.step ?_ (ksGo.submit__frame _ _ _) rfl
          refine SKeep.dev ?_
          exact (SKeep.refl _ _)
    · refine Frame.ite ?_ ?_
      · refine Frame.ite ?_ ?_
        · refine Frame.step ?_ (islandMsg_frame _) rfl
          refine Frame.step ?_ (onPort_frame _ _ _) rfl
          refine SKeep.dev ?_
          exact (SKeep.refl _ _)
        · refine Frame.step ?_ (onPort_frame _ _ _) rfl
          refine SKeep.dev ?_
          exact (SKeep.refl _ _)
      · refine Frame.step ?_ (ksGo.submit__frame _ _ _) rfl
        refine SKeep.dev ?_
        exact (SKeep.refl _ _)

theorem takeLayout.noLayout_frame (d : Dev) : Frame 4 d (takeLayout.noLayout d) := by
  unfold takeLayout.noLayout
  refine Frame.step ?_ (Dev.onDrv_frame _ _) rfl
  exact (Frame.refl _ _)

theorem takeLayout_frame (b : Option (List Sys2Proof.Byte)) (d : Dev) : Frame 4 d (takeLayout b d) := by
  unfold takeLayout
  split
  · refine Frame.ite ?_ ?_
    · refine Frame.step ?_ (Dev.onDrv_frame _ _) rfl
      exact (Frame.refl _ _)
    · refine Frame.step ?_ (takeLayout.noLayout_frame _) rfl
      exact (Frame.refl _ _)
  · refine Frame.step ?_ (takeLayout.noLayout_frame _) rfl
    exact (Frame.refl _ _)

end Sys2Proof.Machine
end

