-- ==== Sys2Proof/Laws/KeepImages.lean ====
section
/-! SUPPORT. What the operations of Machine/Images.lean leave alone. -/

namespace Sys2Proof.Machine
open Sys2Proof

theorem startExt_frame {s t : State} {k cm zm tm au} (h : s.startExt k cm zm tm au = some t) : SKeep 276889600 s t := by
  unfold State.startExt at h
  split at h
  · cases h
  · rw [Option.map_eq_some_iff] at h
    obtain ⟨ps, -, rfl⟩ := h
    exact startModule_frame _ _ _ _ _ _ _

theorem beginS_frame {m : Nat} {d0 : State} (opc : Nat) (tag : Fin 32) (len : Nat → Bool) (k : Cmd → State → State) (s :
    State) (hm : 23330816 ||| m = m) (h3 : ∀ x0 x1, SKeep m d0 x1 → SKeep m d0 (k x0 x1)) (h : SKeep m d0 s.ev) : ONext m d0
    (beginS opc tag len k s) := by
  unfold beginS
  dsimp only
  split
  · refine ONext.next ?_
    exact h
  · refine ONext.ite ?_ ?_
    · refine ONext.next ?_
      refine State.on_frame _ _ (Frame.sub rfl hm) ?_ ?_
      · intro _ h1000
        refine Frame.step ?_ (fail_frame _ _ _) (Frame.sub rfl hm)
        exact h1000
      · exact h
    · refine ONext.ite ?_ ?_
      · refine ONext.next ?_
        refine h3 _ _ ?_
        exact h
      · refine ONext.next ?_
        refine State.on_frame _ _ (Frame.sub rfl hm) ?_ ?_
        · intro _ h1001
          refine Frame.step ?_ (fail_frame _ _ _) (Frame.sub rfl hm)
          exact h1001
        · exact h

theorem inModes_frame {m : Nat} {d0 : State} (tag : Fin 32) (c : Cmd) (ms : List Mode) (k : State → State) (s : State) (hm :
    23330816 ||| m = m) (h3 : ∀ x0, SKeep m d0 x0 → SKeep m d0 (k x0)) (h : SKeep m d0 s) : SKeep m d0 (inModes tag c ms k s)
    := by
  unfold inModes
  split
  · refine SKeep.mk4 ?_ ?_ ?_ ?_
    · exact h
    · refine Frame.step ?_ (fail_frame _ _ _) (Frame.sub rfl hm)
      refine SKeep.dev ?_
      exact h
    · first | exact MemOk.same _ _ _ _ | exact MemOk.nil rfl | exact MemOk.writes rfl | exact MemOk.erase rfl
    · first | exact MemOk.same _ _ _ _ | exact MemOk.nil rfl | exact MemOk.writes rfl | exact MemOk.erase rfl
  · refine SKeep.ite ?_ ?_
    · refine h3 _ ?_
      exact h
    · refine SKeep.mk4 ?_ ?_ ?_ ?_
      · exact h
      · refine Frame.step ?_ (fail_frame _ _ _) (Frame.sub rfl hm)
        refine SKeep.dev ?_
        exact h
      · first | exact MemOk.same _ _ _ _ | exact MemOk.nil rfl | exact MemOk.writes rfl | exact MemOk.erase rfl
      · first | exact MemOk.same _ _ _ _ | exact MemOk.nil rfl | exact MemOk.writes rfl | exact MemOk.erase rfl

theorem execConfigStore_frame (tag : Fin 32) (s : State) : ONext 23531776 s.ev (execConfigStore tag s) := by
  unfold execConfigStore
  refine beginS_frame _ _ _ _ _ rfl ?_ ?_
  · intro _ _ h1000
    refine inModes_frame _ _ _ _ _ rfl ?_ ?_
    · intro _ h1001
      refine State.on_frame _ _ rfl ?_ ?_
      · intro _ h1002
        refine Frame.ite ?_ ?_
        · refine Frame.step ?_ (fail_frame _ _ _) rfl
          exact h1002
        · refine Frame.ite ?_ ?_
          · refine Frame.ite ?_ ?_
            · refine Frame.step ?_ (writeRec_frame _ _ _ _ _) rfl
              exact h1002
            · refine Frame.step ?_ (fail_frame _ _ _) rfl
              exact h1002
          · refine Frame.ite ?_ ?_
            · refine Frame.ite ?_ ?_
              · refine Frame.step ?_ (fail_frame _ _ _) rfl
                exact h1002
              · refine Frame.step ?_ (writeRec_frame _ _ _ _ _) rfl
                refine Frame.step ?_ (Dev.onHf_frame _ _) rfl
                exact h1002
            · refine Frame.ite ?_ ?_
              · refine Frame.ite ?_ ?_
                · refine Frame.step ?_ (fail_frame _ _ _) rfl
                  exact h1002
                · refine Frame.step ?_ (complete_frame _ _ _ _) rfl
                  refine Frame.step ?_ (Dev.onKey_frame _ _) rfl
                  exact h1002
              · refine Frame.step ?_ (fail_frame _ _ _) rfl
                exact h1002
      · exact h1001
    · exact h1000
  · exact (SKeep.refl _ _)

theorem saveModules_frame (tag : Fin 32) (reply : List Sys2Proof.Byte) (d : Dev) : Frame 23527424 d (saveModules tag reply d)
    := by
  unfold saveModules
  refine Frame.step ?_ (writeRec_frame _ _ _ _ _) rfl
  exact (Frame.refl _ _)

theorem execExtControl_frame (tag : Fin 32) (s : State) : ONext 300356092 s.ev (execExtControl tag s) := by
  unfold execExtControl
  refine beginS_frame _ _ _ _ _ rfl ?_ ?_
  · intro _ _ h1000
    refine inModes_frame _ _ _ _ _ rfl ?_ ?_
    · intro _ h1001
      refine SKeep.dite ?_ ?_
      · intro _
        refine SKeep.ite ?_ ?_
        · refine State.on_frame _ _ rfl ?_ ?_
          · intro _ h1002
            refine Frame.step ?_ (fail_frame _ _ _) rfl
            exact h1002
          · exact h1001
        · refine SKeep.ite ?_ ?_
          · refine SKeep.ite ?_ ?_
            · refine State.on_frame _ _ rfl ?_ ?_
              · intro _ h1003
                refine Frame.step ?_ (fail_frame _ _ _) rfl
                exact h1003
              · exact h1001
            · split
              · refine State.on_frame _ _ rfl ?_ ?_
                · intro _ h1004
                  refine Frame.step ?_ (saveModules_frame _ _ _) rfl
                  exact h1004
                · refine SKeep.step ?_ (startExt_frame (by assumption)) rfl
                  exact h1001
              · refine State.on_frame _ _ rfl ?_ ?_
                · intro _ h1005
                  refine Frame.step ?_ (fail_frame _ _ _) rfl
                  exact h1005
                · exact h1001
          · refine SKeep.ite ?_ ?_
            · refine SKeep.ite ?_ ?_
              · refine State.on_frame _ _ rfl ?_ ?_
                · intro _ h1006
                  refine Frame.step ?_ (saveModules_frame _ _ _) rfl
                  exact h1006
                · refine State.on_frame _ _ rfl ?_ ?_
                  · intro _ h1007
                    refine Frame.step ?_ (stopModule_frame _ _ _ _) rfl
                    exact h1007
                  · exact h1001
              · refine State.on_frame _ _ rfl ?_ ?_
                · intro _ h1008
                  refine Frame.step ?_ (fail_frame _ _ _) rfl
                  exact h1008
                · exact h1001
            · refine SKeep.ite ?_ ?_
              · refine SKeep.ite ?_ ?_
                · refine State.on_frame _ _ rfl ?_ ?_
                  · intro _ h1009
                    refine Frame.step ?_ (fail_frame _ _ _) rfl
                    exact h1009
                  · exact h1001
                · refine State.on_frame _ _ rfl ?_ ?_
                  · intro _ h1010
                    refine Frame.step ?_ (saveModules_frame _ _ _) rfl
                    exact h1010
                  · refine State.on_frame _ _ rfl ?_ ?_
                    · intro _ h1011
                      refine Frame.step ?_ (putModule_frame _ _ _) rfl
                      exact h1011
                    · exact h1001
              · refine State.on_frame _ _ rfl ?_ ?_
                · intro _ h1012
                  refine Frame.step ?_ (complete_frame _ _ _ _) rfl
                  exact h1012
                · exact h1001
      · intro _
        refine State.on_frame _ _ rfl ?_ ?_
        · intro _ h1013
          refine Frame.step ?_ (fail_frame _ _ _) rfl
          exact h1013
        · exact h1001
    · exact h1000
  · exact (SKeep.refl _ _)

theorem execExtLoad_frame (tag : Fin 32) (s : State) : ONext 23527424 s.ev (execExtLoad tag s) := by
  unfold execExtLoad
  refine beginS_frame _ _ _ _ _ rfl ?_ ?_
  · intro _ _ h1000
    refine inModes_frame _ _ _ _ _ rfl ?_ ?_
    · intro _ h1001
      refine SKeep.dite ?_ ?_
      · intro _
        refine SKeep.ite ?_ ?_
        · refine State.on_frame _ _ rfl ?_ ?_
          · intro _ h1002
            refine Frame.step ?_ (fail_frame _ _ _) rfl
            exact h1002
          · exact h1001
        · refine SKeep.ite ?_ ?_
          · refine State.on_frame _ _ rfl ?_ ?_
            · intro _ h1003
              refine Frame.step ?_ (saveModules_frame _ _ _) rfl
              refine Frame.step ?_ (onModule_frame _ _ _) rfl
              refine Frame.step ?_ (setModule_frame _ _ _) rfl
              refine Frame.step ?_ (Dev.onNvm_frame _ _) rfl
              exact h1003
            · exact h1001
          · refine State.on_frame _ _ rfl ?_ ?_
            · intro _ h1004
              refine Frame.step ?_ (saveModules_frame _ _ _) rfl
              refine Frame.step ?_ (putModule_frame _ _ _) rfl
              exact h1004
            · exact h1001
      · intro _
        refine State.on_frame _ _ rfl ?_ ?_
        · intro _ h1005
          refine Frame.step ?_ (fail_frame _ _ _) rfl
          exact h1005
        · exact h1001
    · exact h1000
  · exact (SKeep.refl _ _)

theorem flashErased_frame (ok : Bool) (us : Nat) (s : State) : SKeep 560398336 s (flashErased ok us s) := by
  unfold flashErased
  refine SKeep.ite ?_ ?_
  · exact (SKeep.refl _ _)
  · refine State.on_frame _ _ rfl ?_ ?_
    · intro _ h1000
      refine Frame.step ?_ (formMargins_frame _ _) rfl
      exact h1000
    · refine SKeep.step ?_ (eraseDone_frame _ _ _) rfl
      exact (SKeep.refl _ _)

theorem imageVerify_frame (tag : Fin 32) (t : Nat) (y2 : Option (Fin 63)) (s : State) : SKeep 23396352 s (imageVerify tag t y2
    s) := by
  unfold imageVerify
  dsimp only
  split
  · refine State.on_frame _ _ rfl ?_ ?_
    · intro _ h1000
      refine Frame.step ?_ (complete_frame _ _ _ _) rfl
      exact h1000
    · exact (SKeep.refl _ _)
  · refine SKeep.mk4 ?_ ?_ ?_ ?_
    · exact (SKeep.refl _ _)
    · refine Frame.step ?_ (complete_frame _ _ _ _) rfl
      split
      · refine Frame.ite ?_ ?_
        · refine Frame.step ?_ (setModule_frame _ _ _) rfl
          refine Frame.step ?_ (Dev.onNvm_frame _ _) rfl
          refine SKeep.dev ?_
          exact (SKeep.refl _ _)
        · refine Frame.step ?_ (putModule_frame _ _ _) rfl
          refine Frame.step ?_ (Dev.onNvm_frame _ _) rfl
          refine SKeep.dev ?_
          exact (SKeep.refl _ _)
      · refine Frame.ite ?_ ?_
        · refine Frame.step ?_ (setSlot_frame _ _ _) rfl
          refine Frame.step ?_ (Dev.onNvm_frame _ _) rfl
          refine SKeep.dev ?_
          exact (SKeep.refl _ _)
        · refine Frame.step ?_ (Dev.onNvm_frame _ _) rfl
          refine Frame.step ?_ (setSlot_frame _ _ _) rfl
          refine Frame.step ?_ (Dev.onNvm_frame _ _) rfl
          refine SKeep.dev ?_
          exact (SKeep.refl _ _)
    · first | exact MemOk.same _ _ _ _ | exact MemOk.nil rfl | exact MemOk.writes rfl | exact MemOk.erase rfl
    · first | exact MemOk.same _ _ _ _ | exact MemOk.nil rfl | exact MemOk.writes rfl | exact MemOk.erase rfl

theorem imageConfirm_frame (tag : Fin 32) (s : State) : SKeep 23396352 s (imageConfirm tag s) := by
  unfold imageConfirm
  refine SKeep.ite ?_ ?_
  · refine State.on_frame _ _ rfl ?_ ?_
    · intro _ h1000
      refine Frame.step ?_ (complete_frame _ _ _ _) rfl
      exact h1000
    · exact (SKeep.refl _ _)
  · refine SKeep.mk4 ?_ ?_ ?_ ?_
    · exact (SKeep.refl _ _)
    · refine Frame.step ?_ (complete_frame _ _ _ _) rfl
      refine Frame.step ?_ (Dev.onNvm_frame _ _) rfl
      refine Frame.ite ?_ ?_
      · refine Frame.step ?_ (setSlot_frame _ _ _) rfl
        refine Frame.step ?_ (setSlot_frame _ _ _) rfl
        refine SKeep.dev ?_
        exact (SKeep.refl _ _)
      · refine Frame.step ?_ (setSlot_frame _ _ _) rfl
        refine SKeep.dev ?_
        exact (SKeep.refl _ _)
    · first | exact MemOk.same _ _ _ _ | exact MemOk.nil rfl | exact MemOk.writes rfl | exact MemOk.erase rfl
    · first | exact MemOk.same _ _ _ _ | exact MemOk.nil rfl | exact MemOk.writes rfl | exact MemOk.erase rfl

theorem execImageCommit_frame (tag : Fin 32) (s : State) : ONext 23396352 s.ev (execImageCommit tag s) := by
  unfold execImageCommit
  dsimp only
  refine beginS_frame _ _ _ _ _ rfl ?_ ?_
  · intro _ _ h1000
    refine inModes_frame _ _ _ _ _ rfl ?_ ?_
    · intro _ h1001
      split
      · refine State.on_frame _ _ rfl ?_ ?_
        · intro _ h1002
          refine Frame.step ?_ (fail_frame _ _ _) rfl
          exact h1002
        · exact h1001
      · refine SKeep.ite ?_ ?_
        · refine State.on_frame _ _ rfl ?_ ?_
          · intro _ h1003
            refine Frame.step ?_ (fail_frame _ _ _) rfl
            exact h1003
          · exact h1001
        · refine SKeep.ite ?_ ?_
          · refine SKeep.step ?_ (imageConfirm_frame _ _) rfl
            exact h1001
          · refine SKeep.step ?_ (imageVerify_frame _ _ _ _) rfl
            exact h1001
    · exact h1000
  · exact (SKeep.refl _ _)

theorem imageData_frame (tag : Fin 32) (c : Cmd) (x : Session) (data : List Sys2Proof.Byte) (d : Dev) : Frame 23527424 d
    (imageData tag c x data d) := by
  unfold imageData
  refine Frame.ite ?_ ?_
  · refine Frame.step ?_ (fail_frame _ _ _) rfl
    exact (Frame.refl _ _)
  · refine Frame.step ?_ (flPush_frame _ _) rfl
    refine Frame.step ?_ (onCmd_frame _ _ _) rfl
    refine Frame.step ?_ (Dev.onNvm_frame _ _) rfl
    exact (Frame.refl _ _)

theorem imageStart_frame (tag : Fin 32) (c : Cmd) (y2 : Option (Fin 63)) (data : List Sys2Proof.Byte) (d : Dev) : Frame
    23527424 d (imageStart tag c y2 data d) := by
  unfold imageStart
  split
  · refine Frame.ite ?_ ?_
    · refine Frame.step ?_ (fail_frame _ _ _) rfl
      exact (Frame.refl _ _)
    · refine Frame.ite ?_ ?_
      · refine Frame.step ?_ (fail_frame _ _ _) rfl
        exact (Frame.refl _ _)
      · refine Frame.step ?_ (imageData_frame _ _ _ _ _) rfl
        refine Frame.step ?_ (setSlot_frame _ _ _) rfl
        exact (Frame.refl _ _)
  · refine Frame.ite ?_ ?_
    · refine Frame.step ?_ (fail_frame _ _ _) rfl
      exact (Frame.refl _ _)
    · split
      · refine Frame.step ?_ (fail_frame _ _ _) rfl
        exact (Frame.refl _ _)
      · refine Frame.ite ?_ ?_
        · refine Frame.step ?_ (fail_frame _ _ _) rfl
          exact (Frame.refl _ _)
        · refine Frame.step ?_ (imageData_frame _ _ _ _ _) rfl
          refine Frame.step ?_ (putModule_frame _ _ _) rfl
          exact (Frame.refl _ _)

theorem execImageWrite_frame (tag : Fin 32) (s : State) : ONext 23527424 s.ev (execImageWrite tag s) := by
  unfold execImageWrite
  dsimp only
  refine beginS_frame _ _ _ _ _ rfl ?_ ?_
  · intro _ _ h1000
    refine inModes_frame _ _ _ _ _ rfl ?_ ?_
    · intro _ h1001
      refine State.on_frame _ _ rfl ?_ ?_
      · intro _ h1002
        split
        · refine Frame.step ?_ (fail_frame _ _ _) rfl
          exact h1002
        · refine Frame.ite ?_ ?_
          · refine Frame.step ?_ (fail_frame _ _ _) rfl
            exact h1002
          · refine Frame.ite ?_ ?_
            · refine Frame.ite ?_ ?_
              · refine Frame.step ?_ (fail_frame _ _ _) rfl
                exact h1002
              · refine Frame.ite ?_ ?_
                · refine Frame.step ?_ (fail_frame _ _ _) rfl
                  exact h1002
                · refine Frame.step ?_ (imageStart_frame _ _ _ _ _) rfl
                  exact h1002
            · split
              · refine Frame.step ?_ (fail_frame _ _ _) rfl
                exact h1002
              · refine Frame.ite ?_ ?_
                · refine Frame.step ?_ (fail_frame _ _ _) rfl
                  exact h1002
                · refine Frame.ite ?_ ?_
                  · refine Frame.step ?_ (fail_frame _ _ _) rfl
                    exact h1002
                  · refine Frame.step ?_ (imageData_frame _ _ _ _ _) rfl
                    exact h1002
      · exact h1001
    · exact h1000
  · exact (SKeep.refl _ _)

end Sys2Proof.Machine
end

