-- ==== Sys2Proof/Laws/KeepKilnCmds.lean ====
section
/-! SUPPORT. What the operations of Machine/KilnCmds.lean leave alone. -/

namespace Sys2Proof.Machine
open Sys2Proof

theorem execKilnDayBoundary_frame (s : State) : ONext 23527456 s.ev (execKilnDayBoundary s) := by
  unfold execKilnDayBoundary
  refine ONext.onDev ?_
  intro d h
  refine Frame.ite ?_ ?_
  · refine Frame.step ?_ (dayBoundary_frame _) rfl
    exact h
  · exact h

theorem execKilnGuardLower_frame (s : State) : ONext 23199744 s.ev (execKilnGuardLower s) := by
  unfold execKilnGuardLower
  refine ONext.onDev ?_
  intro d h
  split
  · refine Frame.ite ?_ ?_
    · refine Frame.step ?_ (leverWritten_frame _ _) rfl
      refine Frame.step ?_ (Dev.onKiln_frame _ _) rfl
      refine Frame.step ?_ (Dev.onPmu_frame _ _) rfl
      exact h
    · exact h
  · exact h

theorem execKilnRead_frame (tag : Fin 32) (s : State) : ONext 23330816 s.ev (execKilnRead tag s) := by
  unfold execKilnRead
  refine ONext.onDev ?_
  intro d h
  refine begin__frame _ _ _ _ _ rfl ?_ ?_
  · intro _ _ h1000
    split
    · refine inMode_frame _ _ _ _ rfl ?_ ?_
      · intro _ h1001
        refine Frame.step ?_ (complete_frame _ _ _ _) rfl
        exact h1001
      · exact h1000
    · refine Frame.step ?_ (fail_frame _ _ _) rfl
      exact h1000
  · exact h

theorem execKilnRefMeasure_frame (ref : Vector Nat 24) (s : State) : ONext 23199776 s.ev (execKilnRefMeasure ref s) := by
  unfold execKilnRefMeasure
  refine ONext.onDev ?_
  intro d h
  refine Frame.ite ?_ ?_
  · refine Frame.step ?_ (formMargins_frame _ _) rfl
    refine Frame.step ?_ (setKadj_frame _) rfl
    refine Frame.step ?_ (takeRefs_frame _ _) rfl
    exact h
  · exact h

theorem execKilnRoMeasure_frame (fs : Vector (Nat × Nat) 48) (s : State) : ONext 23199744 s.ev (execKilnRoMeasure fs s) := by
  unfold execKilnRoMeasure
  refine ONext.onDev ?_
  intro d h
  refine Frame.ite ?_ ?_
  · refine Frame.step ?_ (formMargins_frame _ _) rfl
    refine Frame.step ?_ (setGuard_frame _ _) rfl
    refine Frame.step ?_ (takePairs_frame _ _) rfl
    exact h
  · exact h

theorem execKilnRonAverage_frame (ron : Vector (Option Nat) 192) (s : State) : ONext 23199744 s.ev (execKilnRonAverage ron s)
    := by
  unfold execKilnRonAverage
  refine ONext.onDev ?_
  intro d h
  refine Frame.ite ?_ ?_
  · refine Frame.step ?_ (formMargins_frame _ _) rfl
    refine Frame.step ?_ (Dev.onKiln_frame _ _) rfl
    exact h
  · exact h

theorem surveyEnd_frame (first : Nat) (last : Nat) (got : List Nat) (d : Dev) : Frame 23200000 d (surveyEnd first last got d)
    := by
  unfold surveyEnd
  refine Frame.step ?_ (setKwadj_frame _) rfl
  refine Frame.step ?_ (Dev.onKiln_frame _ _) rfl
  exact (Frame.refl _ _)

theorem lateDay_frame (d : Dev) : Frame 23527456 d (lateDay d) := by
  unfold lateDay
  refine Frame.ite ?_ ?_
  · refine Frame.step ?_ (dayBoundary_frame _) rfl
    exact (Frame.refl _ _)
  · exact (Frame.refl _ _)

theorem surveyMeasure_frame (tag : Fin 32) (fs : Vector (Nat × Nat) 48) (ref : Vector Nat 24) (d : Dev) :
    Frame 23527712 d (surveyMeasure tag fs ref d) := by
  unfold surveyMeasure
  refine Frame.ite (Frame.refl _ _) ?_
  exact Frame.step (Frame.step (Frame.step (Frame.refl _ _) (takePairs_frame _ _) rfl) (takeRefs_frame _ _) rfl) (Dev.onKiln_frame _ _) rfl

theorem runSurvey_frame (tag : Fin 32) (p : List Sys2Proof.Byte) (d : Dev) : Frame 23527712 d (runSurvey tag p d) := by
  unfold runSurvey
  refine Frame.ite ?_ ?_
  · refine Frame.step ?_ (writeRec_frame _ _ _ _ _) rfl
    refine Frame.step ?_ (lateDay_frame _) rfl
    refine Frame.step ?_ (formMargins_frame _ _) rfl
    refine Frame.step ?_ (setKadj_frame _) rfl
    refine Frame.step ?_ (setGuard_frame _ _) rfl
    refine Frame.step ?_ (Dev.onKiln_frame _ _) rfl
    refine Frame.ite ?_ ?_
    · refine Frame.step ?_ (surveyEnd_frame _ _ _ _) rfl
      exact (Frame.refl _ _)
    · exact (Frame.refl _ _)
  · refine Frame.step ?_ (complete_frame _ _ _ _) rfl
    refine Frame.step ?_ (lateDay_frame _) rfl
    refine Frame.step ?_ (formMargins_frame _ _) rfl
    refine Frame.step ?_ (setKadj_frame _) rfl
    refine Frame.step ?_ (setGuard_frame _ _) rfl
    refine Frame.step ?_ (Dev.onKiln_frame _ _) rfl
    refine Frame.ite ?_ ?_
    · refine Frame.step ?_ (surveyEnd_frame _ _ _ _) rfl
      exact (Frame.refl _ _)
    · exact (Frame.refl _ _)

theorem execKilnSurvey_frame (tag : Fin 32) (fs : Vector (Nat × Nat) 48) (ref : Vector Nat 24) (s : State) : ONext 23527712
    s.ev (execKilnSurvey tag fs ref s) := by
  unfold execKilnSurvey
  refine ONext.onDev ?_
  intro d h
  have hgo : ∀ (c : Cmd) (e : Dev), Frame 23527712 s.ev.dev e →
      Frame 23527712 s.ev.dev (if e.drv.calRun.isSome || e.uhf.calRun.isSome then onCmd tag (fun c => { c with phase := .coilSet }) e
        else if (byteAt c.payload 0).testBit 0 && !(surveyMeasure tag fs ref e).seqDone tag then
          onCmd tag (fun c => { c with phase := .coilSet }) (surveyMeasure tag fs ref e)
        else runSurvey tag c.payload (surveyMeasure tag fs ref e)) := by
    intro c e h
    refine Frame.ite (Frame.step h (onCmd_frame _ _ _) rfl) ?_
    refine Frame.ite (Frame.step (Frame.step h (surveyMeasure_frame _ _ _ _) rfl) (onCmd_frame _ _ _) rfl) ?_
    exact Frame.step (Frame.step h (surveyMeasure_frame _ _ _ _) rfl) (runSurvey_frame _ _ _) rfl
  split
  · refine Frame.ite ?_ ?_
    · refine Frame.ite ?_ (hgo _ _ h)
      refine Frame.ite ?_ h
      refine Frame.step ?_ (fail_frame _ _ _) rfl
      refine Frame.step ?_ (lateDay_frame _) rfl
      refine Frame.step ?_ (formMargins_frame _ _) rfl
      refine Frame.step ?_ (setKadj_frame _) rfl
      refine Frame.step ?_ (setGuard_frame _ _) rfl
      refine Frame.step ?_ (setKwadj_frame _) rfl
      exact h
    · refine begin__frame _ _ _ _ _ rfl ?_ h
      intro _ _ h1000
      refine Frame.ite (Frame.step h1000 (fail_frame _ _ _) rfl) ?_
      refine inMode_frame _ _ _ _ rfl ?_ h1000
      intro _ h1001
      exact hgo _ _ (Frame.step h1001 (Dev.onKiln_frame _ _) rfl)
  · exact h

theorem execKilnSurveyDue_frame (s : State) : ONext 23199744 s.ev (execKilnSurveyDue s) := by
  unfold execKilnSurveyDue
  refine ONext.onDev ?_
  intro d h
  refine Frame.ite ?_ ?_
  · refine Frame.step ?_ (pushKiln_frame _ _ _) rfl
    refine Frame.step ?_ (kilnMsg_frame _) rfl
    refine Frame.step ?_ (Dev.onKiln_frame _ _) rfl
    exact h
  · exact h

end Sys2Proof.Machine
end

