-- ==== Sys2Proof/Laws/KeepRoomOps.lean ====
section
/-! SUPPORT. What the operations of Machine/RoomOps.lean leave alone. -/

namespace Sys2Proof.Machine
open Sys2Proof

theorem RSt.noteRead_frame (s : RSt) (i : Nat) (phc : Sys2Proof.Word) : Frame 0 s.d (RSt.noteRead s i phc).d := by
  unfold RSt.noteRead
  exact (Frame.refl _ _)

theorem shutSlot_frame (d : Dev) : Frame 10240 d (shutSlot d) := by
  unfold shutSlot
  refine Frame.step ?_ (Dev.onUhf_frame _ _) rfl
  refine Frame.step ?_ (Dev.onRoom_frame _ _) rfl
  exact (Frame.refl _ _)

theorem stopInv_frame (d : Dev) : Frame 23341057 d (stopInv d) := by
  unfold stopInv
  refine Frame.ite ?_ ?_
  · refine Frame.step ?_ (carrierWrite_frame _ _) rfl
    refine Frame.foldl ?_ ?_
    · refine Frame.step ?_ (Dev.onRoom_frame _ _) rfl
      refine Frame.step ?_ (shutSlot_frame _) rfl
      refine Frame.step ?_ (Dev.onRoom_frame _ _) rfl
      exact (Frame.refl _ _)
    · intro _ _ h1000
      refine Frame.step ?_ (complete_frame _ _ _ _) rfl
      exact h1000
  · refine Frame.foldl ?_ ?_
    · refine Frame.step ?_ (Dev.onRoom_frame _ _) rfl
      refine Frame.step ?_ (shutSlot_frame _) rfl
      refine Frame.step ?_ (Dev.onRoom_frame _ _) rfl
      exact (Frame.refl _ _)
    · intro _ _ h1001
      refine Frame.step ?_ (complete_frame _ _ _ _) rfl
      exact h1001

theorem onREntry_frame (i : Nat) (f : REntry → REntry) (d : Dev) : Frame 8192 d (onREntry i f d) := by
  unfold onREntry
  refine Frame.step ?_ (Dev.onRoom_frame _ _) rfl
  exact (Frame.refl _ _)

theorem settle_frame (s : RSt) (x : Nat × Sys2Proof.Word) : Frame 8192 s.d (settle s x).d := by
  unfold settle
  split
  · exact (Frame.refl _ _)
  · split
    · refine Frame.step ?_ (onREntry_frame _ _ _) rfl
      exact (Frame.refl _ _)
    · refine Frame.iteP RSt.d ?_ ?_
      · refine Frame.step ?_ (onREntry_frame _ _ _) rfl
        exact (Frame.refl _ _)
      · refine Frame.iteP RSt.d ?_ ?_
        · refine Frame.step ?_ (onREntry_frame _ _ _) rfl
          exact (Frame.refl _ _)
        · exact (Frame.refl _ _)

theorem takeOut_frame (i : Nat) (phc : Sys2Proof.Word) (s : RSt) : Frame 8192 s.d (takeOut i phc s).d := by
  unfold takeOut
  refine Frame.step ?_ (Dev.onRoom_frame _ _) rfl
  exact (Frame.refl _ _)

theorem takeClear_frame (s : RSt) (phc : Sys2Proof.Word) : Frame 8192 s.d (takeClear s phc).d := by
  unfold takeClear
  refine Frame.step ?_ (Dev.onRoom_frame _ _) rfl
  exact (Frame.refl _ _)

theorem takeAuth_frame (s : RSt) (i : Nat) (reuse : Nat) (pass : Bool) (phc : Sys2Proof.Word) : Frame 8192 s.d (takeAuth s i
    reuse pass phc).d := by
  unfold takeAuth
  split
  · refine Frame.iteP RSt.d ?_ ?_
    · exact (Frame.refl _ _)
    · refine Frame.step ?_ (onREntry_frame _ _ _) rfl
      exact (Frame.refl _ _)
  · exact (Frame.refl _ _)

theorem takeRead_frame (s : RSt) (r : RRead) : Frame 8192 s.d (takeRead s r).d := by
  unfold takeRead
  dsimp only
  split
  · refine Frame.step ?_ (RSt.noteRead_frame _ _ _) rfl
    refine Frame.step ?_ (onREntry_frame _ _ _) rfl
    exact (Frame.refl _ _)
  · refine Frame.iteP RSt.d ?_ ?_
    · refine Frame.iteP RSt.d ?_ ?_
      · exact (Frame.refl _ _)
      · refine Frame.step ?_ (Dev.onRoom_frame _ _) rfl
        exact (Frame.refl _ _)
    · refine Frame.step ?_ (RSt.noteRead_frame _ _ _) rfl
      refine Frame.ite ?_ ?_
      · refine Frame.step ?_ (Dev.onRoom_frame _ _) rfl
        exact (Frame.refl _ _)
      · refine Frame.step ?_ (Dev.onRoom_frame _ _) rfl
        refine Frame.step ?_ (Dev.onRoom_frame _ _) rfl
        exact (Frame.refl _ _)

theorem takePend_frame (s : RSt) (y1 : RPend) : Frame 8192 s.d (takePend s y1).d := by
  unfold takePend
  split
  · refine Frame.step ?_ (takeRead_frame _ _) rfl
    exact (Frame.refl _ _)
  · refine Frame.step ?_ (takeAuth_frame _ _ _ _ _) rfl
    exact (Frame.refl _ _)
  · refine Frame.step ?_ (takeClear_frame _ _) rfl
    exact (Frame.refl _ _)

theorem roomStep_frame (d : Dev) : Frame 23339008 d (roomStep d) := by
  unfold roomStep
  refine Frame.foldl ?_ ?_
  · refine Frame.foldl ?_ ?_
    · refine Frame.ite ?_ ?_
      · refine Frame.foldlP RSt.d ?_ ?_
        · refine Frame.foldlP RSt.d ?_ ?_
          · refine Frame.foldlP RSt.d ?_ ?_
            · refine Frame.step ?_ (Dev.onRoom_frame _ _) rfl
              exact (Frame.refl _ _)
            · intro _ _ h1000
              refine Frame.step ?_ (takePend_frame _ _) rfl
              exact h1000
          · intro _ _ h1001
            refine Frame.step ?_ (settle_frame _ _) rfl
            exact h1001
        · intro _ _ h1002
          refine Frame.step ?_ (takeOut_frame _ _ _) rfl
          exact h1002
      · refine Frame.step ?_ (Dev.onRoom_frame _ _) rfl
        refine Frame.foldlP RSt.d ?_ ?_
        · refine Frame.foldlP RSt.d ?_ ?_
          · refine Frame.foldlP RSt.d ?_ ?_
            · refine Frame.step ?_ (Dev.onRoom_frame _ _) rfl
              exact (Frame.refl _ _)
            · intro _ _ h1003
              refine Frame.step ?_ (takePend_frame _ _) rfl
              exact h1003
          · intro _ _ h1004
            refine Frame.step ?_ (settle_frame _ _) rfl
            exact h1004
        · intro _ _ h1005
          refine Frame.step ?_ (takeOut_frame _ _ _) rfl
          exact h1005
    · intro _ _ h1006
      refine Frame.step ?_ (pushEvent_frame _ _ _ _) rfl
      exact h1006
  · intro _ _ h1007
    split
    · refine Frame.step ?_ (complete_frame _ _ _ _) rfl
      exact h1007
    · exact h1007

theorem endOnce_frame (st : Status) (d : Dev) : Frame 23341057 d (endOnce st d) := by
  unfold endOnce
  dsimp only
  split
  · refine Frame.step ?_ (stopInv_frame _) rfl
    refine Frame.step ?_ (complete_frame _ _ _ _) rfl
    refine Frame.ite ?_ ?_
    · exact (Frame.refl _ _)
    · refine Frame.step ?_ (roomStep_frame _) rfl
      exact (Frame.refl _ _)
  · refine Frame.ite ?_ ?_
    · exact (Frame.refl _ _)
    · refine Frame.step ?_ (roomStep_frame _) rfl
      exact (Frame.refl _ _)

theorem beginSlot_frame (t : Nat) (x : Nat) (l : List AirCmd) (d : Dev) : Frame 8192 d (beginSlot t x l d) := by
  unfold beginSlot
  refine Frame.step ?_ (Dev.onRoom_frame _ _) rfl
  exact (Frame.refl _ _)

theorem clearRoom_frame (d : Dev) : Frame 23339008 d (clearRoom d) := by
  unfold clearRoom
  refine Frame.step ?_ (roomStep_frame _) rfl
  refine Frame.step ?_ (Dev.onRoom_frame _ _) rfl
  exact (Frame.refl _ _)

theorem startRadio_frame (draw : Nat) (d : Dev) : Frame 23341057 d (startRadio draw d) := by
  unfold startRadio
  refine Frame.ite ?_ ?_
  · refine Frame.step ?_ (carrierWrite_frame _ _) rfl
    exact (Frame.refl _ _)
  · refine Frame.ite ?_ ?_
    · refine Frame.step ?_ (carrierWrite_frame _ _) rfl
      refine Frame.step ?_ (evalNochan_frame _) rfl
      exact (Frame.refl _ _)
    · refine Frame.step ?_ (carrierWrite_frame _ _) rfl
      refine Frame.step ?_ (selectHop_frame _ _) rfl
      exact (Frame.refl _ _)

theorem newPass_frame (d : Dev) : Frame 8192 d (newPass d) := by
  unfold newPass
  refine Frame.step ?_ (Dev.onRoom_frame _ _) rfl
  exact (Frame.refl _ _)

theorem roomBoundary_frame (d : Dev) : Frame 23341056 d (roomBoundary d) := by
  unfold roomBoundary
  dsimp only
  split
  · refine Frame.ite ?_ ?_
    · refine Frame.step ?_ (askSelect_frame _) rfl
      refine Frame.step ?_ (shutSlot_frame _) rfl
      exact (Frame.refl _ _)
    · exact (Frame.refl _ _)
  · refine Frame.ite ?_ ?_
    · refine Frame.ite ?_ ?_
      · refine Frame.step ?_ (askSelect_frame _) rfl
        refine Frame.step ?_ (shutSlot_frame _) rfl
        exact (Frame.refl _ _)
      · exact (Frame.refl _ _)
    · split
      · refine Frame.ite ?_ ?_
        · refine Frame.step ?_ (newPass_frame _) rfl
          refine Frame.ite ?_ ?_
          · refine Frame.step ?_ (askSelect_frame _) rfl
            refine Frame.step ?_ (shutSlot_frame _) rfl
            exact (Frame.refl _ _)
          · exact (Frame.refl _ _)
        · refine Frame.ite ?_ ?_
          · refine Frame.step ?_ (askSelect_frame _) rfl
            refine Frame.step ?_ (shutSlot_frame _) rfl
            exact (Frame.refl _ _)
          · exact (Frame.refl _ _)
      · refine Frame.ite ?_ ?_
        · refine Frame.ite ?_ ?_
          · refine Frame.step ?_ (newPass_frame _) rfl
            refine Frame.ite ?_ ?_
            · refine Frame.step ?_ (askSelect_frame _) rfl
              refine Frame.step ?_ (shutSlot_frame _) rfl
              exact (Frame.refl _ _)
            · exact (Frame.refl _ _)
          · refine Frame.ite ?_ ?_
            · refine Frame.step ?_ (askSelect_frame _) rfl
              refine Frame.step ?_ (shutSlot_frame _) rfl
              exact (Frame.refl _ _)
            · exact (Frame.refl _ _)
        · refine Frame.foldl ?_ ?_
          · refine Frame.step ?_ (Dev.onUhf_frame _ _) rfl
            refine Frame.step ?_ (Dev.onRoom_frame _ _) rfl
            refine Frame.step ?_ (beginSlot_frame _ _ _ _) rfl
            refine Frame.ite ?_ ?_
            · refine Frame.step ?_ (newPass_frame _) rfl
              refine Frame.ite ?_ ?_
              · refine Frame.step ?_ (askSelect_frame _) rfl
                refine Frame.step ?_ (shutSlot_frame _) rfl
                exact (Frame.refl _ _)
              · exact (Frame.refl _ _)
            · refine Frame.ite ?_ ?_
              · refine Frame.step ?_ (askSelect_frame _) rfl
                refine Frame.step ?_ (shutSlot_frame _) rfl
                exact (Frame.refl _ _)
              · exact (Frame.refl _ _)
          · intro _ _ h1000
            refine Frame.step ?_ (complete_frame _ _ _ _) rfl
            exact h1000

theorem slotBoundary__frame (d : Dev) : Frame 23341057 d (slotBoundary_ d) := by
  unfold slotBoundary_
  refine Frame.ite ?_ ?_
  · refine Frame.ite ?_ ?_
    · refine Frame.step ?_ (endOnce_frame _ _) rfl
      exact (Frame.refl _ _)
    · refine Frame.step ?_ (stopInv_frame _) rfl
      exact (Frame.refl _ _)
  · split
    · split
      · refine Frame.ite ?_ ?_
        · refine Frame.step ?_ (endOnce_frame _ _) rfl
          exact (Frame.refl _ _)
        · exact (Frame.refl _ _)
      · exact (Frame.refl _ _)
    · exact (Frame.refl _ _)

theorem roundEnd_frame (d : Dev) : Frame 23341057 d (roundEnd d) := by
  unfold roundEnd
  dsimp only
  split
  · exact (Frame.refl _ _)
  · refine Frame.ite ?_ ?_
    · refine Frame.step ?_ (newPass_frame _) rfl
      refine Frame.step ?_ (shutSlot_frame _) rfl
      refine Frame.step ?_ (Dev.onRoom_frame _ _) rfl
      exact (Frame.refl _ _)
    · refine Frame.ite ?_ ?_
      · refine Frame.step ?_ (endOnce_frame _ _) rfl
        refine Frame.step ?_ (shutSlot_frame _) rfl
        refine Frame.step ?_ (Dev.onRoom_frame _ _) rfl
        exact (Frame.refl _ _)
      · refine Frame.ite ?_ ?_
        · refine Frame.step ?_ (newPass_frame _) rfl
          refine Frame.step ?_ (shutSlot_frame _) rfl
          refine Frame.step ?_ (Dev.onRoom_frame _ _) rfl
          exact (Frame.refl _ _)
        · refine Frame.step ?_ (Dev.onRoom_frame _ _) rfl
          refine Frame.step ?_ (shutSlot_frame _) rfl
          refine Frame.step ?_ (Dev.onRoom_frame _ _) rfl
          exact (Frame.refl _ _)

theorem slotDone_frame (empty : Bool) (collided : Bool) (acks : List AirCmd) (d : Dev) : Frame 23341057 d (slotDone empty
    collided acks d) := by
  unfold slotDone
  split
  · refine Frame.step ?_ (shutSlot_frame _) rfl
    exact (Frame.refl _ _)
  · refine Frame.ite ?_ ?_
    · refine Frame.step ?_ (slotBoundary__frame _) rfl
      refine Frame.step ?_ (Dev.onRoom_frame _ _) rfl
      exact (Frame.refl _ _)
    · refine Frame.ite ?_ ?_
      · refine Frame.step ?_ (roundEnd_frame _) rfl
        refine Frame.step ?_ (slotBoundary__frame _) rfl
        refine Frame.step ?_ (Dev.onRoom_frame _ _) rfl
        exact (Frame.refl _ _)
      · refine Frame.ite ?_ ?_
        · refine Frame.step ?_ (shutSlot_frame _) rfl
          refine Frame.step ?_ (slotBoundary__frame _) rfl
          refine Frame.step ?_ (Dev.onRoom_frame _ _) rfl
          exact (Frame.refl _ _)
        · refine Frame.ite ?_ ?_
          · refine Frame.step ?_ (beginSlot_frame _ _ _ _) rfl
            refine Frame.step ?_ (slotBoundary__frame _) rfl
            refine Frame.step ?_ (Dev.onRoom_frame _ _) rfl
            exact (Frame.refl _ _)
          · refine Frame.step ?_ (beginSlot_frame _ _ _ _) rfl
            refine Frame.step ?_ (slotBoundary__frame _) rfl
            refine Frame.step ?_ (Dev.onRoom_frame _ _) rfl
            exact (Frame.refl _ _)

theorem pushRead_frame (pc : Nat) (epc : List Sys2Proof.Byte) (power : Vector Int 4) (phase : Vector Int 4) (d : Dev) : Frame
    8192 d (pushRead pc epc power phase d) := by
  unfold pushRead
  refine Frame.step ?_ (Dev.onRoom_frame _ _) rfl
  exact (Frame.refl _ _)

end Sys2Proof.Machine
end

