-- ==== Sys2Proof/Laws/KeepRoomInv.lean ====
section
/-! SUPPORT. What the operations of Machine/RoomInv.lean leave alone. -/

namespace Sys2Proof.Machine
open Sys2Proof

theorem freeRadio_frame (tag : Fin 32) (d : Dev) : Frame 19146753 d (freeRadio tag d) := by
  unfold freeRadio
  refine Frame.ite ?_ ?_
  · exact (Frame.refl _ _)
  · refine Frame.ite ?_ ?_
    · refine Frame.step ?_ (carrierWrite_frame _ _) rfl
      refine Frame.step ?_ (askSelect_frame _) rfl
      refine Frame.step ?_ (Dev.onRoom_frame _ _) rfl
      refine Frame.step ?_ (onCmd_frame _ _ _) rfl
      exact (Frame.refl _ _)
    · refine Frame.step ?_ (askSelect_frame _) rfl
      refine Frame.step ?_ (Dev.onRoom_frame _ _) rfl
      refine Frame.step ?_ (onCmd_frame _ _ _) rfl
      exact (Frame.refl _ _)

theorem closeAcc_frame (tag : Fin 32) (st : Status) (detail : Nat) (tagErr : Nat) (result : Nat) (data : List Sys2Proof.Byte)
    (d : Dev) : Frame 23341057 d (closeAcc tag st detail tagErr result data d) := by
  unfold closeAcc
  dsimp only
  split
  · refine Frame.step ?_ (freeRadio_frame _ _) rfl
    exact (Frame.refl _ _)
  · refine Frame.step ?_ (complete_frame _ _ _ _) rfl
    refine Frame.step ?_ (freeRadio_frame _ _) rfl
    exact (Frame.refl _ _)

theorem endAcc_frame (tag : Fin 32) (st : Status) (detail : Nat) (d : Dev) : Frame 23341057 d (endAcc tag st detail d) := by
  unfold endAcc
  split
  · exact (Frame.refl _ _)
  · refine Frame.step ?_ (closeAcc_frame _ _ _ _ _ _ _) rfl
    exact (Frame.refl _ _)

theorem stopAcc_frame (tag : Fin 32) (st : Status) (detail : Nat) (d : Dev) : Frame 23341057 d (stopAcc tag st detail d) := by
  unfold stopAcc
  split
  · exact (Frame.refl _ _)
  · refine Frame.ite ?_ ?_
    · refine Frame.step ?_ (endAcc_frame _ _ _ _) rfl
      exact (Frame.refl _ _)
    · refine Frame.step ?_ (endAcc_frame _ _ _ _) rfl
      exact (Frame.refl _ _)

theorem aerialLimit_frame (tag : Fin 32) (d : Dev) : Frame 23341057 d (aerialLimit tag d) := by
  unfold aerialLimit
  split
  · exact (Frame.refl _ _)
  · refine Frame.ite ?_ ?_
    · refine Frame.ite ?_ ?_
      · refine Frame.step ?_ (stopInv_frame _) rfl
        refine Frame.step ?_ (aerialDenied_frame _ _ _) rfl
        refine Frame.step ?_ (Dev.onRoom_frame _ _) rfl
        exact (Frame.refl _ _)
      · refine Frame.step ?_ (aerialDenied_frame _ _ _) rfl
        refine Frame.step ?_ (Dev.onRoom_frame _ _) rfl
        exact (Frame.refl _ _)
    · refine Frame.ite ?_ ?_
      · refine Frame.step ?_ (aerialDenied_frame _ _ _) rfl
        refine Frame.step ?_ (radioOff_frame _ _) rfl
        refine Frame.step ?_ (Dev.onUhf_frame _ _) rfl
        exact (Frame.refl _ _)
      · refine Frame.ite ?_ ?_
        · refine Frame.step ?_ (aerialDenied_frame _ _ _) rfl
          refine Frame.step ?_ (radioOff_frame _ _) rfl
          refine Frame.step ?_ (Dev.onMode_frame _ _) rfl
          exact (Frame.refl _ _)
        · refine Frame.step ?_ (aerialDenied_frame _ _ _) rfl
          refine Frame.step ?_ (freeRadio_frame _ _) rfl
          exact (Frame.refl _ _)

theorem endAuth_frame (tag : Fin 32) (c : Cmd) (resp : List Sys2Proof.Byte) (d : Dev) : Frame 23345153 d (endAuth tag c resp
    d) := by
  unfold endAuth
  refine Frame.step ?_ (closeAcc_frame _ _ _ _ _ _ _) rfl
  refine Frame.step ?_ (roomStep_frame _) rfl
  refine Frame.step ?_ (Dev.onRoom_frame _ _) rfl
  split
  · refine Frame.step ?_ (useSlot_frame _ _) rfl
    exact (Frame.refl _ _)
  · exact (Frame.refl _ _)

theorem sendAir_frame (tag : Fin 32) (l : List AirCmd) (st : AccStage) (d : Dev) : Frame 270336 d (sendAir tag l st d) := by
  unfold sendAir
  refine Frame.step ?_ (onCmd_frame _ _ _) rfl
  refine Frame.step ?_ (Dev.onRoom_frame _ _) rfl
  exact (Frame.refl _ _)

theorem singulate_frame (tag : Fin 32) (d : Dev) : Frame 270336 d (singulate tag d) := by
  unfold singulate
  refine Frame.step ?_ (sendAir_frame _ _ _ _) rfl
  exact (Frame.refl _ _)

theorem sendOp_frame (tag : Fin 32) (x : RStep) (c : Cmd) (d : Dev) : Frame 270336 d (sendOp tag x c d) := by
  unfold sendOp
  refine Frame.ite ?_ ?_
  · refine Frame.step ?_ (sendAir_frame _ _ _ _) rfl
    refine Frame.step ?_ (Dev.onRoom_frame _ _) rfl
    exact (Frame.refl _ _)
  · split
    · refine Frame.step ?_ (sendAir_frame _ _ _ _) rfl
      exact (Frame.refl _ _)
    · refine Frame.step ?_ (sendAir_frame _ _ _ _) rfl
      exact (Frame.refl _ _)
    · refine Frame.step ?_ (sendAir_frame _ _ _ _) rfl
      refine Frame.step ?_ (onCmd_frame _ _ _) rfl
      exact (Frame.refl _ _)

theorem singAgain_frame (tag : Fin 32) (c : Cmd) (d : Dev) : Frame 23341057 d (singAgain tag c d) := by
  unfold singAgain
  refine Frame.ite ?_ ?_
  · refine Frame.step ?_ (endAcc_frame _ _ _ _) rfl
    exact (Frame.refl _ _)
  · refine Frame.step ?_ (singulate_frame _ _) rfl
    refine Frame.step ?_ (onCmd_frame _ _ _) rfl
    exact (Frame.refl _ _)

theorem takeAns_frame (tag : Fin 32) (x : RStep) (d : Dev) : Frame 23345153 d (takeAns tag x d) := by
  unfold takeAns
  dsimp only
  split
  · refine Frame.ite ?_ ?_
    · exact (Frame.refl _ _)
    · refine Frame.step ?_ (onCmd_frame _ _ _) rfl
      exact (Frame.refl _ _)
  · split
    · refine Frame.step ?_ (singulate_frame _ _) rfl
      refine Frame.ite ?_ ?_
      · exact (Frame.refl _ _)
      · refine Frame.step ?_ (onCmd_frame _ _ _) rfl
        exact (Frame.refl _ _)
    · refine Frame.step ?_ (sendAir_frame _ _ _ _) rfl
      refine Frame.step ?_ (Dev.onRoom_frame _ _) rfl
      refine Frame.ite ?_ ?_
      · exact (Frame.refl _ _)
      · refine Frame.step ?_ (onCmd_frame _ _ _) rfl
        exact (Frame.refl _ _)
    · refine Frame.ite ?_ ?_
      · refine Frame.step ?_ (sendAir_frame _ _ _ _) rfl
        refine Frame.ite ?_ ?_
        · exact (Frame.refl _ _)
        · refine Frame.step ?_ (onCmd_frame _ _ _) rfl
          exact (Frame.refl _ _)
      · refine Frame.step ?_ (singAgain_frame _ _ _) rfl
        refine Frame.ite ?_ ?_
        · exact (Frame.refl _ _)
        · refine Frame.step ?_ (onCmd_frame _ _ _) rfl
          exact (Frame.refl _ _)
    · refine Frame.ite ?_ ?_
      · refine Frame.step ?_ (sendAir_frame _ _ _ _) rfl
        refine Frame.step ?_ (Dev.onRoom_frame _ _) rfl
        refine Frame.ite ?_ ?_
        · exact (Frame.refl _ _)
        · refine Frame.step ?_ (onCmd_frame _ _ _) rfl
          exact (Frame.refl _ _)
      · refine Frame.step ?_ (sendOp_frame _ _ _ _) rfl
        refine Frame.step ?_ (Dev.onRoom_frame _ _) rfl
        refine Frame.ite ?_ ?_
        · exact (Frame.refl _ _)
        · refine Frame.step ?_ (onCmd_frame _ _ _) rfl
          exact (Frame.refl _ _)
    · refine Frame.step ?_ (sendAir_frame _ _ _ _) rfl
      refine Frame.ite ?_ ?_
      · exact (Frame.refl _ _)
      · refine Frame.step ?_ (onCmd_frame _ _ _) rfl
        exact (Frame.refl _ _)
    · refine Frame.ite ?_ ?_
      · refine Frame.step ?_ (sendOp_frame _ _ _ _) rfl
        refine Frame.ite ?_ ?_
        · exact (Frame.refl _ _)
        · refine Frame.step ?_ (onCmd_frame _ _ _) rfl
          exact (Frame.refl _ _)
      · refine Frame.step ?_ (sendAir_frame _ _ _ _) rfl
        refine Frame.ite ?_ ?_
        · exact (Frame.refl _ _)
        · refine Frame.step ?_ (onCmd_frame _ _ _) rfl
          exact (Frame.refl _ _)
    · refine Frame.step ?_ (sendAir_frame _ _ _ _) rfl
      refine Frame.step ?_ (onCmd_frame _ _ _) rfl
      refine Frame.ite ?_ ?_
      · exact (Frame.refl _ _)
      · refine Frame.step ?_ (onCmd_frame _ _ _) rfl
        exact (Frame.refl _ _)
    · refine Frame.ite ?_ ?_
      · refine Frame.step ?_ (singAgain_frame _ _ _) rfl
        refine Frame.ite ?_ ?_
        · exact (Frame.refl _ _)
        · refine Frame.step ?_ (onCmd_frame _ _ _) rfl
          exact (Frame.refl _ _)
      · refine Frame.ite ?_ ?_
        · refine Frame.step ?_ (sendOp_frame _ _ _ _) rfl
          refine Frame.step ?_ (onCmd_frame _ _ _) rfl
          refine Frame.ite ?_ ?_
          · exact (Frame.refl _ _)
          · refine Frame.step ?_ (onCmd_frame _ _ _) rfl
            exact (Frame.refl _ _)
        · refine Frame.step ?_ (closeAcc_frame _ _ _ _ _ _ _) rfl
          refine Frame.step ?_ (onCmd_frame _ _ _) rfl
          refine Frame.ite ?_ ?_
          · exact (Frame.refl _ _)
          · refine Frame.step ?_ (onCmd_frame _ _ _) rfl
            exact (Frame.refl _ _)
    · refine Frame.ite ?_ ?_
      · refine Frame.ite ?_ ?_
        · refine Frame.step ?_ (endAuth_frame _ _ _ _) rfl
          refine Frame.ite ?_ ?_
          · exact (Frame.refl _ _)
          · refine Frame.step ?_ (onCmd_frame _ _ _) rfl
            exact (Frame.refl _ _)
        · refine Frame.step ?_ (singAgain_frame _ _ _) rfl
          refine Frame.ite ?_ ?_
          · exact (Frame.refl _ _)
          · refine Frame.step ?_ (onCmd_frame _ _ _) rfl
            exact (Frame.refl _ _)
      · refine Frame.ite ?_ ?_
        · refine Frame.step ?_ (closeAcc_frame _ _ _ _ _ _ _) rfl
          refine Frame.ite ?_ ?_
          · exact (Frame.refl _ _)
          · refine Frame.step ?_ (onCmd_frame _ _ _) rfl
            exact (Frame.refl _ _)
        · refine Frame.ite ?_ ?_
          · refine Frame.step ?_ (endAcc_frame _ _ _ _) rfl
            refine Frame.ite ?_ ?_
            · exact (Frame.refl _ _)
            · refine Frame.step ?_ (onCmd_frame _ _ _) rfl
              exact (Frame.refl _ _)
          · refine Frame.step ?_ (singAgain_frame _ _ _) rfl
            refine Frame.ite ?_ ?_
            · exact (Frame.refl _ _)
            · refine Frame.step ?_ (onCmd_frame _ _ _) rfl
              exact (Frame.refl _ _)
    · refine Frame.step ?_ (singAgain_frame _ _ _) rfl
      refine Frame.ite ?_ ?_
      · exact (Frame.refl _ _)
      · refine Frame.step ?_ (onCmd_frame _ _ _) rfl
        exact (Frame.refl _ _)
    · refine Frame.step ?_ (singAgain_frame _ _ _) rfl
      refine Frame.ite ?_ ?_
      · exact (Frame.refl _ _)
      · refine Frame.step ?_ (onCmd_frame _ _ _) rfl
        exact (Frame.refl _ _)
    · refine Frame.step ?_ (singAgain_frame _ _ _) rfl
      refine Frame.ite ?_ ?_
      · exact (Frame.refl _ _)
      · refine Frame.step ?_ (onCmd_frame _ _ _) rfl
        exact (Frame.refl _ _)
    · refine Frame.step ?_ (closeAcc_frame _ _ _ _ _ _ _) rfl
      refine Frame.ite ?_ ?_
      · exact (Frame.refl _ _)
      · refine Frame.step ?_ (onCmd_frame _ _ _) rfl
        exact (Frame.refl _ _)
    · refine Frame.ite ?_ ?_
      · refine Frame.step ?_ (endAcc_frame _ _ _ _) rfl
        refine Frame.ite ?_ ?_
        · exact (Frame.refl _ _)
        · refine Frame.step ?_ (onCmd_frame _ _ _) rfl
          exact (Frame.refl _ _)
      · refine Frame.step ?_ (singAgain_frame _ _ _) rfl
        refine Frame.ite ?_ ?_
        · exact (Frame.refl _ _)
        · refine Frame.step ?_ (onCmd_frame _ _ _) rfl
          exact (Frame.refl _ _)
    · refine Frame.ite ?_ ?_
      · refine Frame.step ?_ (endAcc_frame _ _ _ _) rfl
        refine Frame.ite ?_ ?_
        · exact (Frame.refl _ _)
        · refine Frame.step ?_ (onCmd_frame _ _ _) rfl
          exact (Frame.refl _ _)
      · refine Frame.step ?_ (singAgain_frame _ _ _) rfl
        refine Frame.ite ?_ ?_
        · exact (Frame.refl _ _)
        · refine Frame.step ?_ (onCmd_frame _ _ _) rfl
          exact (Frame.refl _ _)

theorem waitRadio_frame (tag : Fin 32) (ph : Phase) (d : Dev) : Frame 262144 d (waitRadio tag ph d) := by
  unfold waitRadio
  refine Frame.ite ?_ ?_
  · refine Frame.step ?_ (onCmd_frame _ _ _) rfl
    exact (Frame.refl _ _)
  · refine Frame.step ?_ (onCmd_frame _ _ _) rfl
    exact (Frame.refl _ _)

theorem startAcc_frame (tag : Fin 32) (x : RStep) (c : Cmd) (d : Dev) : Frame 23341057 d (startAcc tag x c d) := by
  unfold startAcc
  refine Frame.ite ?_ ?_
  · refine Frame.step ?_ (onCmd_frame _ _ _) rfl
    exact (Frame.refl _ _)
  · refine Frame.ite ?_ ?_
    · refine Frame.step ?_ (endAcc_frame _ _ _ _) rfl
      exact (Frame.refl _ _)
    · refine Frame.ite ?_ ?_
      · refine Frame.step ?_ (endAcc_frame _ _ _ _) rfl
        refine Frame.step ?_ (evalNochan_frame _) rfl
        exact (Frame.refl _ _)
      · refine Frame.ite ?_ ?_
        · refine Frame.step ?_ (endAcc_frame _ _ _ _) rfl
          exact (Frame.refl _ _)
        · refine Frame.ite ?_ ?_
          · refine Frame.step ?_ (endAcc_frame _ _ _ _) rfl
            exact (Frame.refl _ _)
          · refine Frame.step ?_ (waitRadio_frame _ _ _) rfl
            refine Frame.step ?_ (startRadio_frame _ _) rfl
            refine Frame.ite ?_ ?_
            · refine Frame.step ?_ (selectHop_frame _ _) rfl
              refine Frame.step ?_ (rampDown_frame _ _) rfl
              refine Frame.step ?_ (onCmd_frame _ _ _) rfl
              refine Frame.step ?_ (shutSlot_frame _) rfl
              refine Frame.step ?_ (Dev.onRoom_frame _ _) rfl
              exact (Frame.refl _ _)
            · refine Frame.step ?_ (onCmd_frame _ _ _) rfl
              refine Frame.step ?_ (shutSlot_frame _) rfl
              refine Frame.step ?_ (Dev.onRoom_frame _ _) rfl
              exact (Frame.refl _ _)

theorem goAcc_frame (tag : Fin 32) (x : RStep) (d : Dev) : Frame 23345153 d (goAcc tag x d) := by
  unfold goAcc
  split
  · exact (Frame.refl _ _)
  · refine Frame.ite ?_ ?_
    · exact (Frame.refl _ _)
    · refine Frame.ite ?_ ?_
      · refine Frame.ite ?_ ?_
        · exact (Frame.refl _ _)
        · refine Frame.ite ?_ ?_
          · refine Frame.step ?_ (endAcc_frame _ _ _ _) rfl
            exact (Frame.refl _ _)
          · refine Frame.step ?_ (takeAns_frame _ _ _) rfl
            exact (Frame.refl _ _)
      · refine Frame.ite ?_ ?_
        · refine Frame.step ?_ (endAcc_frame _ _ _ _) rfl
          exact (Frame.refl _ _)
        · refine Frame.ite ?_ ?_
          · refine Frame.step ?_ (onCmd_frame _ _ _) rfl
            exact (Frame.refl _ _)
          · refine Frame.ite ?_ ?_
            · refine Frame.ite ?_ ?_
              · refine Frame.step ?_ (onCmd_frame _ _ _) rfl
                refine Frame.step ?_ (onCmd_frame _ _ _) rfl
                exact (Frame.refl _ _)
              · refine Frame.step ?_ (submitNcp_frame _ _ _) rfl
                refine Frame.step ?_ (onCmd_frame _ _ _) rfl
                exact (Frame.refl _ _)
            · refine Frame.ite ?_ ?_
              · refine Frame.step ?_ (onCmd_frame _ _ _) rfl
                exact (Frame.refl _ _)
              · refine Frame.step ?_ (startAcc_frame _ _ _ _) rfl
                exact (Frame.refl _ _)

theorem enterAcc_frame (tag : Fin 32) (c : Cmd) (x : RStep) (d : Dev) : Frame 23345153 d (enterAcc tag c x d) := by
  unfold enterAcc
  refine inMode_frame _ _ _ _ rfl ?_ ?_
  · intro _ h1000
    split
    · refine Frame.step ?_ (fail_frame _ _ _) rfl
      exact h1000
    · refine Frame.ite ?_ ?_
      · refine Frame.step ?_ (fail_frame _ _ _) rfl
        exact h1000
      · refine Frame.step ?_ (goAcc_frame _ _ _) rfl
        refine Frame.step ?_ (goAcc_frame _ _ _) rfl
        refine Frame.step ?_ (onCmd_frame _ _ _) rfl
        exact h1000
  · exact (Frame.refl _ _)

theorem execAerialWaitLimit_frame (tag : Fin 32) (s : State) : ONext 23341057 s.ev (execAerialWaitLimit tag s) := by
  unfold execAerialWaitLimit
  refine ONext.onDev ?_
  intro d h
  split
  · refine Frame.ite ?_ ?_
    · refine Frame.step ?_ (aerialLimit_frame _ _) rfl
      exact h
    · exact h
  · exact h

theorem execBinBoundary_frame (ms : List BinMeas) (s : State) : ONext 23341062 s.ev (execBinBoundary ms s) := by
  unfold execBinBoundary
  refine ONext.onDev ?_
  intro d h
  refine Frame.ite ?_ ?_
  · exact h
  · refine Frame.step ?_ (roomBoundary_frame _) rfl
    refine Frame.step ?_ (binBoundary_frame _ _) rfl
    exact h

theorem execOnceMaxMs_frame (tag : Fin 32) (s : State) : ONext 23341057 s.ev (execOnceMaxMs tag s) := by
  unfold execOnceMaxMs
  refine ONext.onDev ?_
  intro d h
  split
  · refine Frame.ite ?_ ?_
    · refine Frame.step ?_ (endOnce_frame _ _) rfl
      exact h
    · exact h
  · exact h

theorem execPresenceUpdateStep_frame (s : State) : ONext 31728124 s.ev (execPresenceUpdateStep s) := by
  unfold execPresenceUpdateStep
  refine ONext.onDev ?_
  intro d h
  refine Frame.ite ?_ ?_
  · exact h
  · refine Frame.step ?_ (updateStep_frame _) rfl
    refine Frame.step ?_ (Dev.onRoom_frame _ _) rfl
    exact h

theorem stopAtReply_frame (tag : Fin 32) (d : Dev) : Frame 23341057 d (stopAtReply tag d) := by
  unfold stopAtReply
  split
  · refine Frame.ite ?_ ?_
    · refine Frame.step ?_ (stopAcc_frame _ _ _ _) rfl
      exact (Frame.refl _ _)
    · exact (Frame.refl _ _)
  · exact (Frame.refl _ _)

theorem execRoomAccess_frame (tag : Fin 32) (x : RStep) (s : State) : ONext 23345153 s.ev (execRoomAccess tag x s) := by
  unfold execRoomAccess
  refine ONext.onDev ?_
  intro d h
  refine Frame.ite ?_ ?_
  · refine Frame.step ?_ (stopAtReply_frame _ _) rfl
    refine Frame.step ?_ (goAcc_frame _ _ _) rfl
    exact h
  · refine begin__frame _ _ _ _ _ rfl ?_ ?_
    · intro _ _ h1000
      refine Frame.ite ?_ ?_
      · refine Frame.step ?_ (enterAcc_frame _ _ _ _) rfl
        exact h1000
      · refine Frame.step ?_ (fail_frame _ _ _) rfl
        exact h1000
    · exact h

theorem execRoomAuth_frame (tag : Fin 32) (x : RStep) (s : State) : ONext 23345153 s.ev (execRoomAuth tag x s) := by
  unfold execRoomAuth
  refine ONext.onDev ?_
  intro d h
  refine Frame.ite ?_ ?_
  · refine Frame.step ?_ (stopAtReply_frame _ _) rfl
    refine Frame.step ?_ (goAcc_frame _ _ _) rfl
    exact h
  · refine begin__frame _ _ _ _ _ rfl ?_ ?_
    · intro _ _ h1000
      refine Frame.ite ?_ ?_
      · refine Frame.step ?_ (fail_frame _ _ _) rfl
        exact h1000
      · refine Frame.step ?_ (enterAcc_frame _ _ _ _) rfl
        exact h1000
    · exact h

theorem execRoomConfig_frame (tag : Fin 32) (s : State) : ONext 23339008 s.ev (execRoomConfig tag s) := by
  unfold execRoomConfig
  refine ONext.onDev ?_
  intro d h
  refine begin__frame _ _ _ _ _ rfl ?_ ?_
  · intro _ _ h1000
    refine Frame.ite ?_ ?_
    · refine Frame.step ?_ (fail_frame _ _ _) rfl
      exact h1000
    · refine inMode_frame _ _ _ _ rfl ?_ ?_
      · intro _ h1001
        refine Frame.step ?_ (complete_frame _ _ _ _) rfl
        refine Frame.ite ?_ ?_
        · refine Frame.step ?_ (Dev.onRoom_frame _ _) rfl
          exact h1001
        · exact h1001
      · exact h1000
  · exact h

theorem startInv_frame (tag : Fin 32) (c : Cmd) (draw : Nat) (d : Dev) : Frame 23341057 d (startInv tag c draw d) := by
  unfold startInv
  refine Frame.ite ?_ ?_
  · refine Frame.step ?_ (complete_frame _ _ _ _) rfl
    exact (Frame.refl _ _)
  · refine Frame.ite ?_ ?_
    · refine Frame.step ?_ (complete_frame _ _ _ _) rfl
      refine Frame.ite ?_ ?_
      · refine Frame.step ?_ (stopInv_frame _) rfl
        refine Frame.ite ?_ ?_
        · refine Frame.step ?_ (Dev.onRoom_frame _ _) rfl
          exact (Frame.refl _ _)
        · refine Frame.step ?_ (startRadio_frame _ _) rfl
          refine Frame.step ?_ (newPass_frame _) rfl
          refine Frame.step ?_ (Dev.onRoom_frame _ _) rfl
          exact (Frame.refl _ _)
      · refine Frame.ite ?_ ?_
        · refine Frame.step ?_ (Dev.onRoom_frame _ _) rfl
          exact (Frame.refl _ _)
        · refine Frame.step ?_ (startRadio_frame _ _) rfl
          refine Frame.step ?_ (newPass_frame _) rfl
          refine Frame.step ?_ (Dev.onRoom_frame _ _) rfl
          exact (Frame.refl _ _)
    · refine Frame.step ?_ (waitRadio_frame _ _ _) rfl
      refine Frame.ite ?_ ?_
      · refine Frame.step ?_ (Dev.onRoom_frame _ _) rfl
        refine Frame.step ?_ (onCmd_frame _ _ _) rfl
        refine Frame.ite ?_ ?_
        · refine Frame.step ?_ (Dev.onRoom_frame _ _) rfl
          exact (Frame.refl _ _)
        · refine Frame.step ?_ (startRadio_frame _ _) rfl
          refine Frame.step ?_ (newPass_frame _) rfl
          refine Frame.step ?_ (Dev.onRoom_frame _ _) rfl
          exact (Frame.refl _ _)
      · refine Frame.step ?_ (Dev.onRoom_frame _ _) rfl
        refine Frame.step ?_ (onCmd_frame _ _ _) rfl
        refine Frame.ite ?_ ?_
        · refine Frame.step ?_ (Dev.onRoom_frame _ _) rfl
          exact (Frame.refl _ _)
        · refine Frame.step ?_ (startRadio_frame _ _) rfl
          refine Frame.step ?_ (newPass_frame _) rfl
          refine Frame.step ?_ (Dev.onRoom_frame _ _) rfl
          exact (Frame.refl _ _)

theorem stopCmd_frame (tag : Fin 32) (d : Dev) : Frame 23341057 d (stopCmd tag d) := by
  unfold stopCmd
  refine Frame.ite ?_ ?_
  · refine Frame.step ?_ (complete_frame _ _ _ _) rfl
    exact (Frame.refl _ _)
  · refine Frame.ite ?_ ?_
    · refine Frame.step ?_ (onCmd_frame _ _ _) rfl
      refine Frame.step ?_ (Dev.onRoom_frame _ _) rfl
      refine Frame.foldl ?_ ?_
      · refine Frame.step ?_ (Dev.onRoom_frame _ _) rfl
        exact (Frame.refl _ _)
      · intro _ _ h1000
        refine Frame.step ?_ (complete_frame _ _ _ _) rfl
        exact h1000
    · refine Frame.step ?_ (slotBoundary__frame _) rfl
      refine Frame.step ?_ (onCmd_frame _ _ _) rfl
      refine Frame.step ?_ (Dev.onRoom_frame _ _) rfl
      refine Frame.foldl ?_ ?_
      · refine Frame.step ?_ (Dev.onRoom_frame _ _) rfl
        exact (Frame.refl _ _)
      · intro _ _ h1001
        refine Frame.step ?_ (complete_frame _ _ _ _) rfl
        exact h1001

theorem execRoomInventory_frame (tag : Fin 32) (draw : Nat) (s : State) : ONext 23341057 s.ev (execRoomInventory tag draw s) := by
  unfold execRoomInventory
  refine ONext.onDev ?_
  intro d h
  refine begin__frame _ _ _ _ _ rfl ?_ ?_
  · intro _ _ h1000
    refine Frame.ite ?_ ?_
    · refine Frame.step ?_ (fail_frame _ _ _) rfl
      exact h1000
    · refine inMode_frame _ _ _ _ rfl ?_ ?_
      · intro _ h1001
        split
        · refine Frame.step ?_ (startInv_frame _ _ _ _) rfl
          exact h1001
        · refine Frame.step ?_ (startInv_frame _ _ _ _) rfl
          exact h1001
        · refine Frame.step ?_ (stopCmd_frame _ _) rfl
          exact h1001
        · refine Frame.step ?_ (onCmd_frame _ _ _) rfl
          refine Frame.step ?_ (Dev.onRoom_frame _ _) rfl
          exact h1001
        · refine Frame.step ?_ (complete_frame _ _ _ _) rfl
          exact h1001
      · exact h1000
  · exact h

theorem execRoomUpdateStep_frame (s : State) : ONext 23339008 s.ev (execRoomUpdateStep s) := by
  unfold execRoomUpdateStep
  refine ONext.onDev ?_
  intro d h
  refine Frame.ite ?_ ?_
  · exact h
  · refine Frame.step ?_ (roomStep_frame _) rfl
    exact h

theorem roomNochan_frame (d : Dev) : Frame 23341057 d (roomNochan d) := by
  unfold roomNochan
  refine Frame.ite ?_ ?_
  · exact (Frame.refl _ _)
  · refine Frame.ite ?_ ?_
    · refine Frame.step ?_ (endOnce_frame _ _) rfl
      split
      · refine Frame.step ?_ (stopAcc_frame _ _ _ _) rfl
        refine Frame.foldl ?_ ?_
        · refine Frame.step ?_ (Dev.onRoom_frame _ _) rfl
          exact (Frame.refl _ _)
        · intro _ _ h1000
          refine Frame.step ?_ (complete_frame _ _ _ _) rfl
          exact h1000
      · refine Frame.foldl ?_ ?_
        · refine Frame.step ?_ (Dev.onRoom_frame _ _) rfl
          exact (Frame.refl _ _)
        · intro _ _ h1001
          refine Frame.step ?_ (complete_frame _ _ _ _) rfl
          exact h1001
    · split
      · refine Frame.step ?_ (stopAcc_frame _ _ _ _) rfl
        refine Frame.foldl ?_ ?_
        · refine Frame.step ?_ (Dev.onRoom_frame _ _) rfl
          exact (Frame.refl _ _)
        · intro _ _ h1002
          refine Frame.step ?_ (complete_frame _ _ _ _) rfl
          exact h1002
      · refine Frame.foldl ?_ ?_
        · refine Frame.step ?_ (Dev.onRoom_frame _ _) rfl
          exact (Frame.refl _ _)
        · intro _ _ h1003
          refine Frame.step ?_ (complete_frame _ _ _ _) rfl
          exact h1003

theorem execUhfCalEnd_frame (x : CalRes) (s : State) : ONext 23537665 s.ev (execUhfCalEnd x s) := by
  unfold execUhfCalEnd
  refine ONext.onDev ?_
  intro d h
  refine Frame.step ?_ (roomNochan_frame _) rfl
  refine Frame.step ?_ (uhfCalEnd_frame _ _) rfl
  exact h

theorem execUhfSlotEmpty_frame (s : State) : ONext 23341057 s.ev (execUhfSlotEmpty s) := by
  unfold execUhfSlotEmpty
  refine ONext.onDev ?_
  intro d h
  refine Frame.ite ?_ ?_
  · refine Frame.ite ?_ ?_
    · refine Frame.step ?_ (slotDone_frame _ _ _ _) rfl
      exact h
    · exact h
  · refine Frame.ite ?_ ?_
    · refine Frame.step ?_ (nextQuery_frame _) rfl
      exact h
    · exact h

theorem execUhfTagReply_frame (x : TagReply) (s : State) : ONext 23341057 s.ev (execUhfTagReply x s) := by
  unfold execUhfTagReply
  refine ONext.onDev ?_
  intro d h
  refine Frame.ite ?_ ?_
  · exact h
  · split
    · refine Frame.step ?_ (slotDone_frame _ _ _ _) rfl
      exact h
    · refine Frame.ite ?_ ?_
      · refine Frame.step ?_ (slotDone_frame _ _ _ _) rfl
        exact h
      · refine Frame.step ?_ (slotDone_frame _ _ _ _) rfl
        refine Frame.step ?_ (pushRead_frame _ _ _ _ _) rfl
        exact h

end Sys2Proof.Machine
end

