-- ==== Sys2Proof/Laws/KeepPmuOps.lean ====
section
/-! SUPPORT. What the operations of Machine/PmuOps.lean leave alone. -/

namespace Sys2Proof.Machine
open Sys2Proof

theorem idleTick_frame (d : Dev) : Frame 16777216 d (idleTick d) := by
  unfold idleTick
  refine Frame.step ?_ (Dev.onPmu_frame _ _) rfl
  exact (Frame.refl _ _)

theorem onDom_frame (k : Fin 49) (f : Dom → Dom) (d : Dev) : Frame 16777216 d (onDom k f d) := by
  unfold onDom
  refine Frame.step ?_ (Dev.onPmu_frame _ _) rfl
  exact (Frame.refl _ _)

theorem rxGoing_frame (k : Fin 49) (d : Dev) : Frame 16 d (rxGoing k d) := by
  unfold rxGoing
  refine Frame.ite ?_ ?_
  · refine Frame.step ?_ (goBad_frame _ _) rfl
    exact (Frame.refl _ _)
  · exact (Frame.refl _ _)

theorem park_frame (k : Fin 49) (d : Dev) : Frame 4 d (park k d) := by
  unfold park
  refine Frame.step ?_ (Dev.onDrv_frame _ _) rfl
  exact (Frame.refl _ _)

theorem domGoing_frame (k : Fin 49) (d : Dev) : Frame 16777236 d (domGoing k d) := by
  unfold domGoing
  refine Frame.step ?_ (rxGoing_frame _ _) rfl
  refine Frame.step ?_ (onDom_frame _ _ _) rfl
  refine Frame.step ?_ (park_frame _ _) rfl
  exact (Frame.refl _ _)

theorem secRelease_frame (d : Dev) : Frame 16781332 d (secRelease d) := by
  unfold secRelease
  refine Frame.ite ?_ ?_
  · exact (Frame.refl _ _)
  · refine Frame.ite ?_ ?_
    · refine Frame.step ?_ (domGoing_frame _ _) rfl
      refine Frame.step ?_ (Dev.onKey_frame _ _) rfl
      exact (Frame.refl _ _)
    · refine Frame.step ?_ (Dev.onKey_frame _ _) rfl
      exact (Frame.refl _ _)

theorem keepWake_frame (k : Fin 49) (d : Dev) : Frame 16777216 d (keepWake k d) := by
  unfold keepWake
  refine Frame.ite ?_ ?_
  · exact (Frame.refl _ _)
  · refine Frame.step ?_ (onDom_frame _ _ _) rfl
    exact (Frame.refl _ _)

theorem pmuMsg_frame (d : Dev) : Frame 18874368 d (pmuMsg d) := by
  unfold pmuMsg
  refine Frame.step ?_ (msgSc_frame _ _) rfl
  exact (Frame.refl _ _)

theorem pushPmu_frame (evt : Nat) (dom : Nat) (value : Nat) (d : Dev) : Frame 23068672 d (pushPmu evt dom value d) := by
  unfold pushPmu
  refine Frame.step ?_ (pushSystem_frame _ _ _ _) rfl
  exact (Frame.refl _ _)

theorem domUp_frame (k : Fin 49) (d : Dev) : Frame 23334928 d (domUp k d) := by
  unfold domUp
  refine Frame.ite ?_ ?_
  · refine Frame.step ?_ (markAll_frame _ _ _ _) rfl
    refine Frame.ite ?_ ?_
    · refine Frame.step ?_ (islandNext_frame _) rfl
      refine Frame.step ?_ (onDom_frame _ _ _) rfl
      exact (Frame.refl _ _)
    · refine Frame.step ?_ (onDom_frame _ _ _) rfl
      exact (Frame.refl _ _)
  · refine Frame.ite ?_ ?_
    · refine Frame.step ?_ (islandNext_frame _) rfl
      refine Frame.step ?_ (onDom_frame _ _ _) rfl
      exact (Frame.refl _ _)
    · refine Frame.step ?_ (onDom_frame _ _ _) rfl
      exact (Frame.refl _ _)

theorem domDown_frame (k : Fin 49) (d : Dev) : Frame 16777236 d (domDown k d) := by
  unfold domDown
  refine Frame.step ?_ (rxGoing_frame _ _) rfl
  refine Frame.step ?_ (onDom_frame _ _ _) rfl
  refine Frame.step ?_ (park_frame _ _) rfl
  exact (Frame.refl _ _)

theorem domTake_frame (y0 : Mode) (k : Fin 49) (d : Dev) : Frame 23334932 d (domTake y0 k d) := by
  unfold domTake
  dsimp only
  split
  · split
    · refine Frame.step ?_ (domUp_frame _ _) rfl
      exact (Frame.refl _ _)
    · refine Frame.step ?_ (onDom_frame _ _ _) rfl
      exact (Frame.refl _ _)
    · refine Frame.step ?_ (onDom_frame _ _ _) rfl
      exact (Frame.refl _ _)
  · refine Frame.ite ?_ ?_
    · split
      · refine Frame.step ?_ (domUp_frame _ _) rfl
        exact (Frame.refl _ _)
      · refine Frame.step ?_ (onDom_frame _ _ _) rfl
        exact (Frame.refl _ _)
      · exact (Frame.refl _ _)
    · exact (Frame.refl _ _)
  · split
    · refine Frame.step ?_ (domDown_frame _ _) rfl
      exact (Frame.refl _ _)
    · refine Frame.step ?_ (onDom_frame _ _ _) rfl
      exact (Frame.refl _ _)
    · refine Frame.step ?_ (onDom_frame _ _ _) rfl
      exact (Frame.refl _ _)
    · exact (Frame.refl _ _)

theorem takeDoms_frame (y0 : Mode) (d : Dev) : Frame 23334932 d (takeDoms y0 d) := by
  unfold takeDoms
  refine Frame.foldl ?_ ?_
  · exact (Frame.refl _ _)
  · intro _ _ h1000
    refine Frame.step ?_ (domTake_frame _ _ _) rfl
    exact h1000

theorem coreUp_frame (d : Dev) : Frame 25165827 d (coreUp d) := by
  unfold coreUp
  refine Frame.ite ?_ ?_
  · exact (Frame.refl _ _)
  · refine Frame.step ?_ (Dev.onMode_frame _ _) rfl
    refine Frame.step ?_ (Dev.onTb_frame _ _) rfl
    refine Frame.step ?_ (onDom_frame _ _ _) rfl
    refine Frame.step ?_ (Dev.onTim_frame _ _) rfl
    exact (Frame.refl _ _)

theorem policyTake_frame (keep : Nat) (idle : Vector Nat 7) (d : Dev) : Frame 16777216 d (policyTake keep idle d) := by
  unfold policyTake
  refine Frame.foldl ?_ ?_
  · refine Frame.step ?_ (Dev.onPmu_frame _ _) rfl
    exact (Frame.refl _ _)
  · intro _ _ h1000
    refine Frame.step ?_ (keepWake_frame _ _) rfl
    exact h1000

theorem policyApply_frame (tag : Fin 32) (c : Cmd) (d : Dev) : Frame 23330816 d (policyApply tag c d) := by
  unfold policyApply
  refine Frame.ite ?_ ?_
  · refine Frame.ite ?_ ?_
    · refine Frame.step ?_ (onCmd_frame _ _ _) rfl
      refine Frame.step ?_ (Dev.onPmu_frame _ _) rfl
      refine Frame.step ?_ (policyTake_frame _ _ _) rfl
      refine Frame.step ?_ (Dev.onPmu_frame _ _) rfl
      exact (Frame.refl _ _)
    · refine Frame.step ?_ (complete_frame _ _ _ _) rfl
      refine Frame.step ?_ (policyTake_frame _ _ _) rfl
      refine Frame.step ?_ (Dev.onPmu_frame _ _) rfl
      exact (Frame.refl _ _)
  · refine Frame.step ?_ (complete_frame _ _ _ _) rfl
    exact (Frame.refl _ _)

theorem policyHeld_frame (d : Dev) : Frame 23330816 d (policyHeld d) := by
  unfold policyHeld
  refine Frame.foldl ?_ ?_
  · refine Frame.step ?_ (Dev.onPmu_frame _ _) rfl
    exact (Frame.refl _ _)
  · intro _ _ h1000
    split
    · refine Frame.ite ?_ ?_
      · refine inMode_frame _ _ _ _ rfl ?_ ?_
        · intro _ h1001
          refine Frame.step ?_ (policyApply_frame _ _ _) rfl
          exact h1001
        · exact h1000
      · exact h1000
    · exact h1000

theorem keepDone_frame (d : Dev) : Frame 23330816 d (keepDone d) := by
  unfold keepDone
  refine Frame.ite ?_ ?_
  · exact (Frame.refl _ _)
  · refine Frame.foldl ?_ ?_
    · refine Frame.step ?_ (Dev.onPmu_frame _ _) rfl
      exact (Frame.refl _ _)
    · intro _ _ h1000
      refine Frame.step ?_ (complete_frame _ _ _ _) rfl
      exact h1000

theorem coreDown_frame (d : Dev) : Frame 29392918 d (coreDown d) := by
  unfold coreDown
  refine Frame.step ?_ (linkDown_frame _) rfl
  refine Frame.step ?_ (domDown_frame _ _) rfl
  refine Frame.step ?_ (Dev.onTb_frame _ _) rfl
  refine Frame.step ?_ (Dev.onTim_frame _ _) rfl
  refine Frame.step ?_ (Dev.onQs_frame _ _) rfl
  exact (Frame.refl _ _)

theorem domFault_frame (k : Fin 49) (d : Dev) : Frame 31730173 d (domFault k d) := by
  unfold domFault
  refine Frame.ite ?_ ?_
  · exact (Frame.refl _ _)
  · refine Frame.ite ?_ ?_
    · refine Frame.step ?_ (stopInv_frame _) rfl
      refine Frame.foldl ?_ ?_
      · refine Frame.step ?_ (radioOff_frame _ _) rfl
        exact (Frame.refl _ _)
      · intro _ _ h1000
        refine Frame.step ?_ (fail_frame _ _ _) rfl
        exact h1000
    · refine Frame.foldl ?_ ?_
      · refine Frame.step ?_ (endHfTest_frame _ _ _) rfl
        refine Frame.foldl ?_ ?_
        · exact (Frame.refl _ _)
        · intro _ _ h1001
          refine Frame.step ?_ (closeZone_frame _ _ _ _) rfl
          exact h1001
      · intro _ _ h1002
        refine Frame.step ?_ (fail_frame _ _ _) rfl
        exact h1002

theorem downDone_frame (k : Fin 49) (d : Dev) : Frame 16777216 d (downDone k d) := by
  unfold downDone
  refine Frame.ite ?_ ?_
  · exact (Frame.refl _ _)
  · refine Frame.step ?_ (onDom_frame _ _ _) rfl
    exact (Frame.refl _ _)

theorem execDomainPowerDownDone_frame (k : Fin 49) (s : State) : ONext 16777216 s.ev (execDomainPowerDownDone k s) := by
  unfold execDomainPowerDownDone
  refine ONext.onDev ?_
  intro d h
  refine Frame.step ?_ (downDone_frame _ _) rfl
  exact h

theorem wakeFail_frame (k : Fin 49) (d : Dev) : Frame 165951997 d (wakeFail k d) := by
  unfold wakeFail
  refine Frame.ite ?_ ?_
  · exact (Frame.refl _ _)
  · refine Frame.step ?_ (domFault_frame _ _) rfl
    refine Frame.step ?_ (pushPmu_frame _ _ _ _) rfl
    refine Frame.step ?_ (pmuMsg_frame _) rfl
    refine Frame.ite ?_ ?_
    · refine Frame.step ?_ (dropWaiting_frame _) rfl
      refine Frame.step ?_ (Dev.onPmu_frame _ _) rfl
      refine Frame.foldl ?_ ?_
      · refine Frame.step ?_ (domDown_frame _ _) rfl
        refine Frame.step ?_ (Dev.onBus_frame _ _) rfl
        exact (Frame.refl _ _)
      · intro _ _ h1000
        refine Frame.step ?_ (busError_frame _ _ _) rfl
        exact h1000
    · refine Frame.step ?_ (Dev.onPmu_frame _ _) rfl
      refine Frame.foldl ?_ ?_
      · refine Frame.step ?_ (domDown_frame _ _) rfl
        refine Frame.step ?_ (Dev.onBus_frame _ _) rfl
        exact (Frame.refl _ _)
      · intro _ _ h1001
        refine Frame.step ?_ (busError_frame _ _ _) rfl
        exact h1001

theorem execDomainWakeFail_frame (k : Fin 49) (s : State) : ONext 165951997 s.ev (execDomainWakeFail k s) := by
  unfold execDomainWakeFail
  refine ONext.onDev ?_
  intro d h
  refine Frame.step ?_ (keepDone_frame _) rfl
  refine Frame.step ?_ (wakeFail_frame _ _) rfl
  exact h

theorem execGuardRailStep_frame (s : State) : ONext 16777216 s.ev (execGuardRailStep s) := by
  unfold execGuardRailStep
  refine ONext.onDev ?_
  intro d h
  refine Frame.ite ?_ ?_
  · exact h
  · refine Frame.step ?_ (Dev.onPmu_frame _ _) rfl
    exact h

theorem holdSec_frame (d : Dev) : Frame 4096 d (holdSec d) := by
  unfold holdSec
  refine Frame.step ?_ (Dev.onKey_frame _ _) rfl
  exact (Frame.refl _ _)

theorem idleExpiry_frame (k : Fin 49) (d : Dev) : Frame 16781332 d (idleExpiry k d) := by
  unfold idleExpiry
  refine Frame.ite ?_ ?_
  · exact (Frame.refl _ _)
  · refine Frame.ite ?_ ?_
    · refine Frame.step ?_ (holdSec_frame _) rfl
      exact (Frame.refl _ _)
    · refine Frame.ite ?_ ?_
      · exact (Frame.refl _ _)
      · refine Frame.step ?_ (domGoing_frame _ _) rfl
        exact (Frame.refl _ _)

theorem execIdleTimerExpiry_frame (k : Fin 49) (s : State) : ONext 16781332 s.ev (execIdleTimerExpiry k s) := by
  unfold execIdleTimerExpiry
  refine ONext.onDev ?_
  intro d h
  refine Frame.step ?_ (idleExpiry_frame _ _) rfl
  exact h

theorem execPowerPolicy_frame (tag : Fin 32) (s : State) : ONext 23330816 s.ev (execPowerPolicy tag s) := by
  unfold execPowerPolicy
  refine ONext.onDev ?_
  intro d h
  refine begin__frame _ _ _ _ _ rfl ?_ ?_
  · intro _ _ h1000
    refine Frame.ite ?_ ?_
    · refine Frame.step ?_ (fail_frame _ _ _) rfl
      exact h1000
    · refine inMode_frame _ _ _ _ rfl ?_ ?_
      · intro _ h1001
        refine Frame.ite ?_ ?_
        · refine Frame.step ?_ (onCmd_frame _ _ _) rfl
          refine Frame.step ?_ (Dev.onPmu_frame _ _) rfl
          exact h1001
        · refine Frame.step ?_ (policyApply_frame _ _ _) rfl
          exact h1001
      · exact h1000
  · exact h

end Sys2Proof.Machine
end

