-- ==== Sys2Proof/Laws/KeepModeOps.lean ====
section
/-! SUPPORT. What the operations of Machine/ModeOps.lean leave alone. -/

namespace Sys2Proof.Machine
open Sys2Proof

theorem stopTest_frame (st : Status) (d : Dev) : Frame 23332885 d (stopTest st d) := by
  unfold stopTest
  split
  · exact (Frame.refl _ _)
  · refine Frame.ite ?_ ?_
    · refine Frame.step ?_ (endHfTest_frame _ _ _) rfl
      exact (Frame.refl _ _)
    · split
      · refine Frame.step ?_ (fail_frame _ _ _) rfl
        refine Frame.step ?_ (radioOff_frame _ _) rfl
        refine Frame.step ?_ (Dev.onMode_frame _ _) rfl
        exact (Frame.refl _ _)
      · refine Frame.step ?_ (radioOff_frame _ _) rfl
        refine Frame.step ?_ (Dev.onMode_frame _ _) rfl
        exact (Frame.refl _ _)

theorem endAll_frame (but : Option (Fin 32)) (d : Dev) : Frame 23429120 d (endAll but d) := by
  unfold endAll
  refine Frame.foldl ?_ ?_
  · refine Frame.step ?_ (Dev.onPmu_frame _ _) rfl
    refine Frame.step ?_ (Dev.onNcp_frame _ _) rfl
    exact (Frame.refl _ _)
  · intro _ _ h1000
    refine Frame.ite ?_ ?_
    · exact h1000
    · refine Frame.step ?_ (fail_frame _ _ _) rfl
      refine Frame.step ?_ (detach_frame _ _) rfl
      refine Frame.step ?_ (dropRead_frame _ _) rfl
      exact h1000

theorem probeStop_frame (d : Dev) : Frame 116 d (probeStop d) := by
  unfold probeStop
  refine Frame.step ?_ (rewords_frame _) rfl
  refine Frame.step ?_ (Dev.onPrb_frame _ _) rfl
  refine Frame.step ?_ (burstsOff_frame _) rfl
  exact (Frame.refl _ _)

theorem endWork_frame (st : Status) (d : Dev) (tag : Fin 32) : Frame 23410965 d (endWork st d tag) := by
  unfold endWork
  split
  · exact (Frame.refl _ _)
  · refine Frame.ite ?_ ?_
    · refine Frame.step ?_ (stopX_frame _ _ _ _) rfl
      exact (Frame.refl _ _)
    · refine Frame.ite ?_ ?_
      · refine Frame.ite ?_ ?_
        · refine Frame.step ?_ (endOnce_frame _ _) rfl
          exact (Frame.refl _ _)
        · refine Frame.step ?_ (complete_frame _ _ _ _) rfl
          refine Frame.step ?_ (Dev.onRoom_frame _ _) rfl
          exact (Frame.refl _ _)
      · refine Frame.ite ?_ ?_
        · refine Frame.step ?_ (stopAcc_frame _ _ _ _) rfl
          refine Frame.step ?_ (withdraw_frame _ _) rfl
          exact (Frame.refl _ _)
        · refine Frame.ite ?_ ?_
          · refine Frame.step ?_ (fail_frame _ _ _) rfl
            refine Frame.step ?_ (radioOff_frame _ _) rfl
            refine Frame.step ?_ (Dev.onUhf_frame _ _) rfl
            exact (Frame.refl _ _)
          · refine Frame.ite ?_ ?_
            · refine Frame.step ?_ (fail_frame _ _ _) rfl
              refine Frame.step ?_ (Dev.onDrv_frame _ _) rfl
              exact (Frame.refl _ _)
            · refine Frame.ite ?_ ?_
              · refine Frame.step ?_ (stopTest_frame _ _) rfl
                exact (Frame.refl _ _)
              · refine Frame.step ?_ (fail_frame _ _ _) rfl
                refine Frame.step ?_ (detach_frame _ _) rfl
                exact (Frame.refl _ _)

theorem feedOff_frame (d : Dev) : Frame 23068892 d (feedOff d) := by
  unfold feedOff
  refine Frame.foldl ?_ ?_
  · refine Frame.foldl ?_ ?_
    · exact (Frame.refl _ _)
    · intro _ _ h1000
      refine Frame.step ?_ (powerStop_frame _ _ _) rfl
      exact h1000
  · intro _ _ h1001
    refine Frame.step ?_ (readPlan_frame _ _) rfl
    exact h1001

theorem startTrans_frame (d : Dev) : Frame 31832573 d (startTrans d) := by
  unfold startTrans
  split
  · exact (Frame.refl _ _)
  · refine Frame.ite ?_ ?_
    · refine Frame.step ?_ (endAll_frame _ _) rfl
      refine Frame.ite ?_ ?_
      · refine Frame.step ?_ (radioOff_frame _ _) rfl
        refine Frame.ite ?_ ?_
        · refine Frame.step ?_ (stopTest_frame _ _) rfl
          refine Frame.ite ?_ ?_
          · refine Frame.step ?_ (stopInv_frame _) rfl
            refine Frame.ite ?_ ?_
            · refine Frame.step ?_ (probeStop_frame _) rfl
              refine Frame.step ?_ (closeAll_frame _ _ _) rfl
              refine Frame.ite ?_ ?_
              · refine Frame.step ?_ (clearTable_frame _) rfl
                refine Frame.ite ?_ ?_
                · refine Frame.step ?_ (feedOff_frame _) rfl
                  refine Frame.foldl ?_ ?_
                  · refine Frame.step ?_ (msgHost_frame _ _) rfl
                    refine Frame.step ?_ (Dev.onMode_frame _ _) rfl
                    exact (Frame.refl _ _)
                  · intro _ _ h1000
                    refine Frame.step ?_ (endWork_frame _ _ _) rfl
                    exact h1000
                · refine Frame.foldl ?_ ?_
                  · refine Frame.step ?_ (msgHost_frame _ _) rfl
                    refine Frame.step ?_ (Dev.onMode_frame _ _) rfl
                    exact (Frame.refl _ _)
                  · intro _ _ h1001
                    refine Frame.step ?_ (endWork_frame _ _ _) rfl
                    exact h1001
              · refine Frame.ite ?_ ?_
                · refine Frame.step ?_ (feedOff_frame _) rfl
                  refine Frame.foldl ?_ ?_
                  · refine Frame.step ?_ (msgHost_frame _ _) rfl
                    refine Frame.step ?_ (Dev.onMode_frame _ _) rfl
                    exact (Frame.refl _ _)
                  · intro _ _ h1002
                    refine Frame.step ?_ (endWork_frame _ _ _) rfl
                    exact h1002
                · refine Frame.foldl ?_ ?_
                  · refine Frame.step ?_ (msgHost_frame _ _) rfl
                    refine Frame.step ?_ (Dev.onMode_frame _ _) rfl
                    exact (Frame.refl _ _)
                  · intro _ _ h1003
                    refine Frame.step ?_ (endWork_frame _ _ _) rfl
                    exact h1003
            · refine Frame.ite ?_ ?_
              · refine Frame.step ?_ (clearTable_frame _) rfl
                refine Frame.ite ?_ ?_
                · refine Frame.step ?_ (feedOff_frame _) rfl
                  refine Frame.foldl ?_ ?_
                  · refine Frame.step ?_ (msgHost_frame _ _) rfl
                    refine Frame.step ?_ (Dev.onMode_frame _ _) rfl
                    exact (Frame.refl _ _)
                  · intro _ _ h1004
                    refine Frame.step ?_ (endWork_frame _ _ _) rfl
                    exact h1004
                · refine Frame.foldl ?_ ?_
                  · refine Frame.step ?_ (msgHost_frame _ _) rfl
                    refine Frame.step ?_ (Dev.onMode_frame _ _) rfl
                    exact (Frame.refl _ _)
                  · intro _ _ h1005
                    refine Frame.step ?_ (endWork_frame _ _ _) rfl
                    exact h1005
              · refine Frame.ite ?_ ?_
                · refine Frame.step ?_ (feedOff_frame _) rfl
                  refine Frame.foldl ?_ ?_
                  · refine Frame.step ?_ (msgHost_frame _ _) rfl
                    refine Frame.step ?_ (Dev.onMode_frame _ _) rfl
                    exact (Frame.refl _ _)
                  · intro _ _ h1006
                    refine Frame.step ?_ (endWork_frame _ _ _) rfl
                    exact h1006
                · refine Frame.foldl ?_ ?_
                  · refine Frame.step ?_ (msgHost_frame _ _) rfl
                    refine Frame.step ?_ (Dev.onMode_frame _ _) rfl
                    exact (Frame.refl _ _)
                  · intro _ _ h1007
                    refine Frame.step ?_ (endWork_frame _ _ _) rfl
                    exact h1007
          · refine Frame.ite ?_ ?_
            · refine Frame.step ?_ (probeStop_frame _) rfl
              refine Frame.step ?_ (closeAll_frame _ _ _) rfl
              refine Frame.ite ?_ ?_
              · refine Frame.step ?_ (clearTable_frame _) rfl
                refine Frame.ite ?_ ?_
                · refine Frame.step ?_ (feedOff_frame _) rfl
                  refine Frame.foldl ?_ ?_
                  · refine Frame.step ?_ (msgHost_frame _ _) rfl
                    refine Frame.step ?_ (Dev.onMode_frame _ _) rfl
                    exact (Frame.refl _ _)
                  · intro _ _ h1008
                    refine Frame.step ?_ (endWork_frame _ _ _) rfl
                    exact h1008
                · refine Frame.foldl ?_ ?_
                  · refine Frame.step ?_ (msgHost_frame _ _) rfl
                    refine Frame.step ?_ (Dev.onMode_frame _ _) rfl
                    exact (Frame.refl _ _)
                  · intro _ _ h1009
                    refine Frame.step ?_ (endWork_frame _ _ _) rfl
                    exact h1009
              · refine Frame.ite ?_ ?_
                · refine Frame.step ?_ (feedOff_frame _) rfl
                  refine Frame.foldl ?_ ?_
                  · refine Frame.step ?_ (msgHost_frame _ _) rfl
                    refine Frame.step ?_ (Dev.onMode_frame _ _) rfl
                    exact (Frame.refl _ _)
                  · intro _ _ h1010
                    refine Frame.step ?_ (endWork_frame _ _ _) rfl
                    exact h1010
                · refine Frame.foldl ?_ ?_
                  · refine Frame.step ?_ (msgHost_frame _ _) rfl
                    refine Frame.step ?_ (Dev.onMode_frame _ _) rfl
                    exact (Frame.refl _ _)
                  · intro _ _ h1011
                    refine Frame.step ?_ (endWork_frame _ _ _) rfl
                    exact h1011
            · refine Frame.ite ?_ ?_
              · refine Frame.step ?_ (clearTable_frame _) rfl
                refine Frame.ite ?_ ?_
                · refine Frame.step ?_ (feedOff_frame _) rfl
                  refine Frame.foldl ?_ ?_
                  · refine Frame.step ?_ (msgHost_frame _ _) rfl
                    refine Frame.step ?_ (Dev.onMode_frame _ _) rfl
                    exact (Frame.refl _ _)
                  · intro _ _ h1012
                    refine Frame.step ?_ (endWork_frame _ _ _) rfl
                    exact h1012
                · refine Frame.foldl ?_ ?_
                  · refine Frame.step ?_ (msgHost_frame _ _) rfl
                    refine Frame.step ?_ (Dev.onMode_frame _ _) rfl
                    exact (Frame.refl _ _)
                  · intro _ _ h1013
                    refine Frame.step ?_ (endWork_frame _ _ _) rfl
                    exact h1013
              · refine Frame.ite ?_ ?_
                · refine Frame.step ?_ (feedOff_frame _) rfl
                  refine Frame.foldl ?_ ?_
                  · refine Frame.step ?_ (msgHost_frame _ _) rfl
                    refine Frame.step ?_ (Dev.onMode_frame _ _) rfl
                    exact (Frame.refl _ _)
                  · intro _ _ h1014
                    refine Frame.step ?_ (endWork_frame _ _ _) rfl
                    exact h1014
                · refine Frame.foldl ?_ ?_
                  · refine Frame.step ?_ (msgHost_frame _ _) rfl
                    refine Frame.step ?_ (Dev.onMode_frame _ _) rfl
                    exact (Frame.refl _ _)
                  · intro _ _ h1015
                    refine Frame.step ?_ (endWork_frame _ _ _) rfl
                    exact h1015
        · refine Frame.ite ?_ ?_
          · refine Frame.step ?_ (stopInv_frame _) rfl
            refine Frame.ite ?_ ?_
            · refine Frame.step ?_ (probeStop_frame _) rfl
              refine Frame.step ?_ (closeAll_frame _ _ _) rfl
              refine Frame.ite ?_ ?_
              · refine Frame.step ?_ (clearTable_frame _) rfl
                refine Frame.ite ?_ ?_
                · refine Frame.step ?_ (feedOff_frame _) rfl
                  refine Frame.foldl ?_ ?_
                  · refine Frame.step ?_ (msgHost_frame _ _) rfl
                    refine Frame.step ?_ (Dev.onMode_frame _ _) rfl
                    exact (Frame.refl _ _)
                  · intro _ _ h1016
                    refine Frame.step ?_ (endWork_frame _ _ _) rfl
                    exact h1016
                · refine Frame.foldl ?_ ?_
                  · refine Frame.step ?_ (msgHost_frame _ _) rfl
                    refine Frame.step ?_ (Dev.onMode_frame _ _) rfl
                    exact (Frame.refl _ _)
                  · intro _ _ h1017
                    refine Frame.step ?_ (endWork_frame _ _ _) rfl
                    exact h1017
              · refine Frame.ite ?_ ?_
                · refine Frame.step ?_ (feedOff_frame _) rfl
                  refine Frame.foldl ?_ ?_
                  · refine Frame.step ?_ (msgHost_frame _ _) rfl
                    refine Frame.step ?_ (Dev.onMode_frame _ _) rfl
                    exact (Frame.refl _ _)
                  · intro _ _ h1018
                    refine Frame.step ?_ (endWork_frame _ _ _) rfl
                    exact h1018
                · refine Frame.foldl ?_ ?_
                  · refine Frame.step ?_ (msgHost_frame _ _) rfl
                    refine Frame.step ?_ (Dev.onMode_frame _ _) rfl
                    exact (Frame.refl _ _)
                  · intro _ _ h1019
                    refine Frame.step ?_ (endWork_frame _ _ _) rfl
                    exact h1019
            · refine Frame.ite ?_ ?_
              · refine Frame.step ?_ (clearTable_frame _) rfl
                refine Frame.ite ?_ ?_
                · refine Frame.step ?_ (feedOff_frame _) rfl
                  refine Frame.foldl ?_ ?_
                  · refine Frame.step ?_ (msgHost_frame _ _) rfl
                    refine Frame.step ?_ (Dev.onMode_frame _ _) rfl
                    exact (Frame.refl _ _)
                  · intro _ _ h1020
                    refine Frame.step ?_ (endWork_frame _ _ _) rfl
                    exact h1020
                · refine Frame.foldl ?_ ?_
                  · refine Frame.step ?_ (msgHost_frame _ _) rfl
                    refine Frame.step ?_ (Dev.onMode_frame _ _) rfl
                    exact (Frame.refl _ _)
                  · intro _ _ h1021
                    refine Frame.step ?_ (endWork_frame _ _ _) rfl
                    exact h1021
              · refine Frame.ite ?_ ?_
                · refine Frame.step ?_ (feedOff_frame _) rfl
                  refine Frame.foldl ?_ ?_
                  · refine Frame.step ?_ (msgHost_frame _ _) rfl
                    refine Frame.step ?_ (Dev.onMode_frame _ _) rfl
                    exact (Frame.refl _ _)
                  · intro _ _ h1022
                    refine Frame.step ?_ (endWork_frame _ _ _) rfl
                    exact h1022
                · refine Frame.foldl ?_ ?_
                  · refine Frame.step ?_ (msgHost_frame _ _) rfl
                    refine Frame.step ?_ (Dev.onMode_frame _ _) rfl
                    exact (Frame.refl _ _)
                  · intro _ _ h1023
                    refine Frame.step ?_ (endWork_frame _ _ _) rfl
                    exact h1023
          · refine Frame.ite ?_ ?_
            · refine Frame.step ?_ (probeStop_frame _) rfl
              refine Frame.step ?_ (closeAll_frame _ _ _) rfl
              refine Frame.ite ?_ ?_
              · refine Frame.step ?_ (clearTable_frame _) rfl
                refine Frame.ite ?_ ?_
                · refine Frame.step ?_ (feedOff_frame _) rfl
                  refine Frame.foldl ?_ ?_
                  · refine Frame.step ?_ (msgHost_frame _ _) rfl
                    refine Frame.step ?_ (Dev.onMode_frame _ _) rfl
                    exact (Frame.refl _ _)
                  · intro _ _ h1024
                    refine Frame.step ?_ (endWork_frame _ _ _) rfl
                    exact h1024
                · refine Frame.foldl ?_ ?_
                  · refine Frame.step ?_ (msgHost_frame _ _) rfl
                    refine Frame.step ?_ (Dev.onMode_frame _ _) rfl
                    exact (Frame.refl _ _)
                  · intro _ _ h1025
                    refine Frame.step ?_ (endWork_frame _ _ _) rfl
                    exact h1025
              · refine Frame.ite ?_ ?_
                · refine Frame.step ?_ (feedOff_frame _) rfl
                  refine Frame.foldl ?_ ?_
                  · refine Frame.step ?_ (msgHost_frame _ _) rfl
                    refine Frame.step ?_ (Dev.onMode_frame _ _) rfl
                    exact (Frame.refl _ _)
                  · intro _ _ h1026
                    refine Frame.step ?_ (endWork_frame _ _ _) rfl
                    exact h1026
                · refine Frame.foldl ?_ ?_
                  · refine Frame.step ?_ (msgHost_frame _ _) rfl
                    refine Frame.step ?_ (Dev.onMode_frame _ _) rfl
                    exact (Frame.refl _ _)
                  · intro _ _ h1027
                    refine Frame.step ?_ (endWork_frame _ _ _) rfl
                    exact h1027
            · refine Frame.ite ?_ ?_
              · refine Frame.step ?_ (clearTable_frame _) rfl
                refine Frame.ite ?_ ?_
                · refine Frame.step ?_ (feedOff_frame _) rfl
                  refine Frame.foldl ?_ ?_
                  · refine Frame.step ?_ (msgHost_frame _ _) rfl
                    refine Frame.step ?_ (Dev.onMode_frame _ _) rfl
                    exact (Frame.refl _ _)
                  · intro _ _ h1028
                    refine Frame.step ?_ (endWork_frame _ _ _) rfl
                    exact h1028
                · refine Frame.foldl ?_ ?_
                  · refine Frame.step ?_ (msgHost_frame _ _) rfl
                    refine Frame.step ?_ (Dev.onMode_frame _ _) rfl
                    exact (Frame.refl _ _)
                  · intro _ _ h1029
                    refine Frame.step ?_ (endWork_frame _ _ _) rfl
                    exact h1029
              · refine Frame.ite ?_ ?_
                · refine Frame.step ?_ (feedOff_frame _) rfl
                  refine Frame.foldl ?_ ?_
                  · refine Frame.step ?_ (msgHost_frame _ _) rfl
                    refine Frame.step ?_ (Dev.onMode_frame _ _) rfl
                    exact (Frame.refl _ _)
                  · intro _ _ h1030
                    refine Frame.step ?_ (endWork_frame _ _ _) rfl
                    exact h1030
                · refine Frame.foldl ?_ ?_
                  · refine Frame.step ?_ (msgHost_frame _ _) rfl
                    refine Frame.step ?_ (Dev.onMode_frame _ _) rfl
                    exact (Frame.refl _ _)
                  · intro _ _ h1031
                    refine Frame.step ?_ (endWork_frame _ _ _) rfl
                    exact h1031
      · refine Frame.ite ?_ ?_
        · refine Frame.step ?_ (stopTest_frame _ _) rfl
          refine Frame.ite ?_ ?_
          · refine Frame.step ?_ (stopInv_frame _) rfl
            refine Frame.ite ?_ ?_
            · refine Frame.step ?_ (probeStop_frame _) rfl
              refine Frame.step ?_ (closeAll_frame _ _ _) rfl
              refine Frame.ite ?_ ?_
              · refine Frame.step ?_ (clearTable_frame _) rfl
                refine Frame.ite ?_ ?_
                · refine Frame.step ?_ (feedOff_frame _) rfl
                  refine Frame.foldl ?_ ?_
                  · refine Frame.step ?_ (msgHost_frame _ _) rfl
                    refine Frame.step ?_ (Dev.onMode_frame _ _) rfl
                    exact (Frame.refl _ _)
                  · intro _ _ h1032
                    refine Frame.step ?_ (endWork_frame _ _ _) rfl
                    exact h1032
                · refine Frame.foldl ?_ ?_
                  · refine Frame.step ?_ (msgHost_frame _ _) rfl
                    refine Frame.step ?_ (Dev.onMode_frame _ _) rfl
                    exact (Frame.refl _ _)
                  · intro _ _ h1033
                    refine Frame.step ?_ (endWork_frame _ _ _) rfl
                    exact h1033
              · refine Frame.ite ?_ ?_
                · refine Frame.step ?_ (feedOff_frame _) rfl
                  refine Frame.foldl ?_ ?_
                  · refine Frame.step ?_ (msgHost_frame _ _) rfl
                    refine Frame.step ?_ (Dev.onMode_frame _ _) rfl
                    exact (Frame.refl _ _)
                  · intro _ _ h1034
                    refine Frame.step ?_ (endWork_frame _ _ _) rfl
                    exact h1034
                · refine Frame.foldl ?_ ?_
                  · refine Frame.step ?_ (msgHost_frame _ _) rfl
                    refine Frame.step ?_ (Dev.onMode_frame _ _) rfl
                    exact (Frame.refl _ _)
                  · intro _ _ h1035
                    refine Frame.step ?_ (endWork_frame _ _ _) rfl
                    exact h1035
            · refine Frame.ite ?_ ?_
              · refine Frame.step ?_ (clearTable_frame _) rfl
                refine Frame.ite ?_ ?_
                · refine Frame.step ?_ (feedOff_frame _) rfl
                  refine Frame.foldl ?_ ?_
                  · refine Frame.step ?_ (msgHost_frame _ _) rfl
                    refine Frame.step ?_ (Dev.onMode_frame _ _) rfl
                    exact (Frame.refl _ _)
                  · intro _ _ h1036
                    refine Frame.step ?_ (endWork_frame _ _ _) rfl
                    exact h1036
                · refine Frame.foldl ?_ ?_
                  · refine Frame.step ?_ (msgHost_frame _ _) rfl
                    refine Frame.step ?_ (Dev.onMode_frame _ _) rfl
                    exact (Frame.refl _ _)
                  · intro _ _ h1037
                    refine Frame.step ?_ (endWork_frame _ _ _) rfl
                    exact h1037
              · refine Frame.ite ?_ ?_
                · refine Frame.step ?_ (feedOff_frame _) rfl
                  refine Frame.foldl ?_ ?_
                  · refine Frame.step ?_ (msgHost_frame _ _) rfl
                    refine Frame.step ?_ (Dev.onMode_frame _ _) rfl
                    exact (Frame.refl _ _)
                  · intro _ _ h1038
                    refine Frame.step ?_ (endWork_frame _ _ _) rfl
                    exact h1038
                · refine Frame.foldl ?_ ?_
                  · refine Frame.step ?_ (msgHost_frame _ _) rfl
                    refine Frame.step ?_ (Dev.onMode_frame _ _) rfl
                    exact (Frame.refl _ _)
                  · intro _ _ h1039
                    refine Frame.step ?_ (endWork_frame _ _ _) rfl
                    exact h1039
          · refine Frame.ite ?_ ?_
            · refine Frame.step ?_ (probeStop_frame _) rfl
              refine Frame.step ?_ (closeAll_frame _ _ _) rfl
              refine Frame.ite ?_ ?_
              · refine Frame.step ?_ (clearTable_frame _) rfl
                refine Frame.ite ?_ ?_
                · refine Frame.step ?_ (feedOff_frame _) rfl
                  refine Frame.foldl ?_ ?_
                  · refine Frame.step ?_ (msgHost_frame _ _) rfl
                    refine Frame.step ?_ (Dev.onMode_frame _ _) rfl
                    exact (Frame.refl _ _)
                  · intro _ _ h1040
                    refine Frame.step ?_ (endWork_frame _ _ _) rfl
                    exact h1040
                · refine Frame.foldl ?_ ?_
                  · refine Frame.step ?_ (msgHost_frame _ _) rfl
                    refine Frame.step ?_ (Dev.onMode_frame _ _) rfl
                    exact (Frame.refl _ _)
                  · intro _ _ h1041
                    refine Frame.step ?_ (endWork_frame _ _ _) rfl
                    exact h1041
              · refine Frame.ite ?_ ?_
                · refine Frame.step ?_ (feedOff_frame _) rfl
                  refine Frame.foldl ?_ ?_
                  · refine Frame.step ?_ (msgHost_frame _ _) rfl
                    refine Frame.step ?_ (Dev.onMode_frame _ _) rfl
                    exact (Frame.refl _ _)
                  · intro _ _ h1042
                    refine Frame.step ?_ (endWork_frame _ _ _) rfl
                    exact h1042
                · refine Frame.foldl ?_ ?_
                  · refine Frame.step ?_ (msgHost_frame _ _) rfl
                    refine Frame.step ?_ (Dev.onMode_frame _ _) rfl
                    exact (Frame.refl _ _)
                  · intro _ _ h1043
                    refine Frame.step ?_ (endWork_frame _ _ _) rfl
                    exact h1043
            · refine Frame.ite ?_ ?_
              · refine Frame.step ?_ (clearTable_frame _) rfl
                refine Frame.ite ?_ ?_
                · refine Frame.step ?_ (feedOff_frame _) rfl
                  refine Frame.foldl ?_ ?_
                  · refine Frame.step ?_ (msgHost_frame _ _) rfl
                    refine Frame.step ?_ (Dev.onMode_frame _ _) rfl
                    exact (Frame.refl _ _)
                  · intro _ _ h1044
                    refine Frame.step ?_ (endWork_frame _ _ _) rfl
                    exact h1044
                · refine Frame.foldl ?_ ?_
                  · refine Frame.step ?_ (msgHost_frame _ _) rfl
                    refine Frame.step ?_ (Dev.onMode_frame _ _) rfl
                    exact (Frame.refl _ _)
                  · intro _ _ h1045
                    refine Frame.step ?_ (endWork_frame _ _ _) rfl
                    exact h1045
              · refine Frame.ite ?_ ?_
                · refine Frame.step ?_ (feedOff_frame _) rfl
                  refine Frame.foldl ?_ ?_
                  · refine Frame.step ?_ (msgHost_frame _ _) rfl
                    refine Frame.step ?_ (Dev.onMode_frame _ _) rfl
                    exact (Frame.refl _ _)
                  · intro _ _ h1046
                    refine Frame.step ?_ (endWork_frame _ _ _) rfl
                    exact h1046
                · refine Frame.foldl ?_ ?_
                  · refine Frame.step ?_ (msgHost_frame _ _) rfl
                    refine Frame.step ?_ (Dev.onMode_frame _ _) rfl
                    exact (Frame.refl _ _)
                  · intro _ _ h1047
                    refine Frame.step ?_ (endWork_frame _ _ _) rfl
                    exact h1047
        · refine Frame.ite ?_ ?_
          · refine Frame.step ?_ (stopInv_frame _) rfl
            refine Frame.ite ?_ ?_
            · refine Frame.step ?_ (probeStop_frame _) rfl
              refine Frame.step ?_ (closeAll_frame _ _ _) rfl
              refine Frame.ite ?_ ?_
              · refine Frame.step ?_ (clearTable_frame _) rfl
                refine Frame.ite ?_ ?_
                · refine Frame.step ?_ (feedOff_frame _) rfl
                  refine Frame.foldl ?_ ?_
                  · refine Frame.step ?_ (msgHost_frame _ _) rfl
                    refine Frame.step ?_ (Dev.onMode_frame _ _) rfl
                    exact (Frame.refl _ _)
                  · intro _ _ h1048
                    refine Frame.step ?_ (endWork_frame _ _ _) rfl
                    exact h1048
                · refine Frame.foldl ?_ ?_
                  · refine Frame.step ?_ (msgHost_frame _ _) rfl
                    refine Frame.step ?_ (Dev.onMode_frame _ _) rfl
                    exact (Frame.refl _ _)
                  · intro _ _ h1049
                    refine Frame.step ?_ (endWork_frame _ _ _) rfl
                    exact h1049
              · refine Frame.ite ?_ ?_
                · refine Frame.step ?_ (feedOff_frame _) rfl
                  refine Frame.foldl ?_ ?_
                  · refine Frame.step ?_ (msgHost_frame _ _) rfl
                    refine Frame.step ?_ (Dev.onMode_frame _ _) rfl
                    exact (Frame.refl _ _)
                  · intro _ _ h1050
                    refine Frame.step ?_ (endWork_frame _ _ _) rfl
                    exact h1050
                · refine Frame.foldl ?_ ?_
                  · refine Frame.step ?_ (msgHost_frame _ _) rfl
                    refine Frame.step ?_ (Dev.onMode_frame _ _) rfl
                    exact (Frame.refl _ _)
                  · intro _ _ h1051
                    refine Frame.step ?_ (endWork_frame _ _ _) rfl
                    exact h1051
            · refine Frame.ite ?_ ?_
              · refine Frame.step ?_ (clearTable_frame _) rfl
                refine Frame.ite ?_ ?_
                · refine Frame.step ?_ (feedOff_frame _) rfl
                  refine Frame.foldl ?_ ?_
                  · refine Frame.step ?_ (msgHost_frame _ _) rfl
                    refine Frame.step ?_ (Dev.onMode_frame _ _) rfl
                    exact (Frame.refl _ _)
                  · intro _ _ h1052
                    refine Frame.step ?_ (endWork_frame _ _ _) rfl
                    exact h1052
                · refine Frame.foldl ?_ ?_
                  · refine Frame.step ?_ (msgHost_frame _ _) rfl
                    refine Frame.step ?_ (Dev.onMode_frame _ _) rfl
                    exact (Frame.refl _ _)
                  · intro _ _ h1053
                    refine Frame.step ?_ (endWork_frame _ _ _) rfl
                    exact h1053
              · refine Frame.ite ?_ ?_
                · refine Frame.step ?_ (feedOff_frame _) rfl
                  refine Frame.foldl ?_ ?_
                  · refine Frame.step ?_ (msgHost_frame _ _) rfl
                    refine Frame.step ?_ (Dev.onMode_frame _ _) rfl
                    exact (Frame.refl _ _)
                  · intro _ _ h1054
                    refine Frame.step ?_ (endWork_frame _ _ _) rfl
                    exact h1054
                · refine Frame.foldl ?_ ?_
                  · refine Frame.step ?_ (msgHost_frame _ _) rfl
                    refine Frame.step ?_ (Dev.onMode_frame _ _) rfl
                    exact (Frame.refl _ _)
                  · intro _ _ h1055
                    refine Frame.step ?_ (endWork_frame _ _ _) rfl
                    exact h1055
          · refine Frame.ite ?_ ?_
            · refine Frame.step ?_ (probeStop_frame _) rfl
              refine Frame.step ?_ (closeAll_frame _ _ _) rfl
              refine Frame.ite ?_ ?_
              · refine Frame.step ?_ (clearTable_frame _) rfl
                refine Frame.ite ?_ ?_
                · refine Frame.step ?_ (feedOff_frame _) rfl
                  refine Frame.foldl ?_ ?_
                  · refine Frame.step ?_ (msgHost_frame _ _) rfl
                    refine Frame.step ?_ (Dev.onMode_frame _ _) rfl
                    exact (Frame.refl _ _)
                  · intro _ _ h1056
                    refine Frame.step ?_ (endWork_frame _ _ _) rfl
                    exact h1056
                · refine Frame.foldl ?_ ?_
                  · refine Frame.step ?_ (msgHost_frame _ _) rfl
                    refine Frame.step ?_ (Dev.onMode_frame _ _) rfl
                    exact (Frame.refl _ _)
                  · intro _ _ h1057
                    refine Frame.step ?_ (endWork_frame _ _ _) rfl
                    exact h1057
              · refine Frame.ite ?_ ?_
                · refine Frame.step ?_ (feedOff_frame _) rfl
                  refine Frame.foldl ?_ ?_
                  · refine Frame.step ?_ (msgHost_frame _ _) rfl
                    refine Frame.step ?_ (Dev.onMode_frame _ _) rfl
                    exact (Frame.refl _ _)
                  · intro _ _ h1058
                    refine Frame.step ?_ (endWork_frame _ _ _) rfl
                    exact h1058
                · refine Frame.foldl ?_ ?_
                  · refine Frame.step ?_ (msgHost_frame _ _) rfl
                    refine Frame.step ?_ (Dev.onMode_frame _ _) rfl
                    exact (Frame.refl _ _)
                  · intro _ _ h1059
                    refine Frame.step ?_ (endWork_frame _ _ _) rfl
                    exact h1059
            · refine Frame.ite ?_ ?_
              · refine Frame.step ?_ (clearTable_frame _) rfl
                refine Frame.ite ?_ ?_
                · refine Frame.step ?_ (feedOff_frame _) rfl
                  refine Frame.foldl ?_ ?_
                  · refine Frame.step ?_ (msgHost_frame _ _) rfl
                    refine Frame.step ?_ (Dev.onMode_frame _ _) rfl
                    exact (Frame.refl _ _)
                  · intro _ _ h1060
                    refine Frame.step ?_ (endWork_frame _ _ _) rfl
                    exact h1060
                · refine Frame.foldl ?_ ?_
                  · refine Frame.step ?_ (msgHost_frame _ _) rfl
                    refine Frame.step ?_ (Dev.onMode_frame _ _) rfl
                    exact (Frame.refl _ _)
                  · intro _ _ h1061
                    refine Frame.step ?_ (endWork_frame _ _ _) rfl
                    exact h1061
              · refine Frame.ite ?_ ?_
                · refine Frame.step ?_ (feedOff_frame _) rfl
                  refine Frame.foldl ?_ ?_
                  · refine Frame.step ?_ (msgHost_frame _ _) rfl
                    refine Frame.step ?_ (Dev.onMode_frame _ _) rfl
                    exact (Frame.refl _ _)
                  · intro _ _ h1062
                    refine Frame.step ?_ (endWork_frame _ _ _) rfl
                    exact h1062
                · refine Frame.foldl ?_ ?_
                  · refine Frame.step ?_ (msgHost_frame _ _) rfl
                    refine Frame.step ?_ (Dev.onMode_frame _ _) rfl
                    exact (Frame.refl _ _)
                  · intro _ _ h1063
                    refine Frame.step ?_ (endWork_frame _ _ _) rfl
                    exact h1063
    · refine Frame.ite ?_ ?_
      · refine Frame.step ?_ (radioOff_frame _ _) rfl
        refine Frame.ite ?_ ?_
        · refine Frame.step ?_ (stopTest_frame _ _) rfl
          refine Frame.ite ?_ ?_
          · refine Frame.step ?_ (stopInv_frame _) rfl
            refine Frame.ite ?_ ?_
            · refine Frame.step ?_ (probeStop_frame _) rfl
              refine Frame.step ?_ (closeAll_frame _ _ _) rfl
              refine Frame.ite ?_ ?_
              · refine Frame.step ?_ (clearTable_frame _) rfl
                refine Frame.ite ?_ ?_
                · refine Frame.step ?_ (feedOff_frame _) rfl
                  refine Frame.foldl ?_ ?_
                  · refine Frame.step ?_ (msgHost_frame _ _) rfl
                    refine Frame.step ?_ (Dev.onMode_frame _ _) rfl
                    exact (Frame.refl _ _)
                  · intro _ _ h1064
                    refine Frame.step ?_ (endWork_frame _ _ _) rfl
                    exact h1064
                · refine Frame.foldl ?_ ?_
                  · refine Frame.step ?_ (msgHost_frame _ _) rfl
                    refine Frame.step ?_ (Dev.onMode_frame _ _) rfl
                    exact (Frame.refl _ _)
                  · intro _ _ h1065
                    refine Frame.step ?_ (endWork_frame _ _ _) rfl
                    exact h1065
              · refine Frame.ite ?_ ?_
                · refine Frame.step ?_ (feedOff_frame _) rfl
                  refine Frame.foldl ?_ ?_
                  · refine Frame.step ?_ (msgHost_frame _ _) rfl
                    refine Frame.step ?_ (Dev.onMode_frame _ _) rfl
                    exact (Frame.refl _ _)
                  · intro _ _ h1066
                    refine Frame.step ?_ (endWork_frame _ _ _) rfl
                    exact h1066
                · refine Frame.foldl ?_ ?_
                  · refine Frame.step ?_ (msgHost_frame _ _) rfl
                    refine Frame.step ?_ (Dev.onMode_frame _ _) rfl
                    exact (Frame.refl _ _)
                  · intro _ _ h1067
                    refine Frame.step ?_ (endWork_frame _ _ _) rfl
                    exact h1067
            · refine Frame.ite ?_ ?_
              · refine Frame.step ?_ (clearTable_frame _) rfl
                refine Frame.ite ?_ ?_
                · refine Frame.step ?_ (feedOff_frame _) rfl
                  refine Frame.foldl ?_ ?_
                  · refine Frame.step ?_ (msgHost_frame _ _) rfl
                    refine Frame.step ?_ (Dev.onMode_frame _ _) rfl
                    exact (Frame.refl _ _)
                  · intro _ _ h1068
                    refine Frame.step ?_ (endWork_frame _ _ _) rfl
                    exact h1068
                · refine Frame.foldl ?_ ?_
                  · refine Frame.step ?_ (msgHost_frame _ _) rfl
                    refine Frame.step ?_ (Dev.onMode_frame _ _) rfl
                    exact (Frame.refl _ _)
                  · intro _ _ h1069
                    refine Frame.step ?_ (endWork_frame _ _ _) rfl
                    exact h1069
              · refine Frame.ite ?_ ?_
                · refine Frame.step ?_ (feedOff_frame _) rfl
                  refine Frame.foldl ?_ ?_
                  · refine Frame.step ?_ (msgHost_frame _ _) rfl
                    refine Frame.step ?_ (Dev.onMode_frame _ _) rfl
                    exact (Frame.refl _ _)
                  · intro _ _ h1070
                    refine Frame.step ?_ (endWork_frame _ _ _) rfl
                    exact h1070
                · refine Frame.foldl ?_ ?_
                  · refine Frame.step ?_ (msgHost_frame _ _) rfl
                    refine Frame.step ?_ (Dev.onMode_frame _ _) rfl
                    exact (Frame.refl _ _)
                  · intro _ _ h1071
                    refine Frame.step ?_ (endWork_frame _ _ _) rfl
                    exact h1071
          · refine Frame.ite ?_ ?_
            · refine Frame.step ?_ (probeStop_frame _) rfl
              refine Frame.step ?_ (closeAll_frame _ _ _) rfl
              refine Frame.ite ?_ ?_
              · refine Frame.step ?_ (clearTable_frame _) rfl
                refine Frame.ite ?_ ?_
                · refine Frame.step ?_ (feedOff_frame _) rfl
                  refine Frame.foldl ?_ ?_
                  · refine Frame.step ?_ (msgHost_frame _ _) rfl
                    refine Frame.step ?_ (Dev.onMode_frame _ _) rfl
                    exact (Frame.refl _ _)
                  · intro _ _ h1072
                    refine Frame.step ?_ (endWork_frame _ _ _) rfl
                    exact h1072
                · refine Frame.foldl ?_ ?_
                  · refine Frame.step ?_ (msgHost_frame _ _) rfl
                    refine Frame.step ?_ (Dev.onMode_frame _ _) rfl
                    exact (Frame.refl _ _)
                  · intro _ _ h1073
                    refine Frame.step ?_ (endWork_frame _ _ _) rfl
                    exact h1073
              · refine Frame.ite ?_ ?_
                · refine Frame.step ?_ (feedOff_frame _) rfl
                  refine Frame.foldl ?_ ?_
                  · refine Frame.step ?_ (msgHost_frame _ _) rfl
                    refine Frame.step ?_ (Dev.onMode_frame _ _) rfl
                    exact (Frame.refl _ _)
                  · intro _ _ h1074
                    refine Frame.step ?_ (endWork_frame _ _ _) rfl
                    exact h1074
                · refine Frame.foldl ?_ ?_
                  · refine Frame.step ?_ (msgHost_frame _ _) rfl
                    refine Frame.step ?_ (Dev.onMode_frame _ _) rfl
                    exact (Frame.refl _ _)
                  · intro _ _ h1075
                    refine Frame.step ?_ (endWork_frame _ _ _) rfl
                    exact h1075
            · refine Frame.ite ?_ ?_
              · refine Frame.step ?_ (clearTable_frame _) rfl
                refine Frame.ite ?_ ?_
                · refine Frame.step ?_ (feedOff_frame _) rfl
                  refine Frame.foldl ?_ ?_
                  · refine Frame.step ?_ (msgHost_frame _ _) rfl
                    refine Frame.step ?_ (Dev.onMode_frame _ _) rfl
                    exact (Frame.refl _ _)
                  · intro _ _ h1076
                    refine Frame.step ?_ (endWork_frame _ _ _) rfl
                    exact h1076
                · refine Frame.foldl ?_ ?_
                  · refine Frame.step ?_ (msgHost_frame _ _) rfl
                    refine Frame.step ?_ (Dev.onMode_frame _ _) rfl
                    exact (Frame.refl _ _)
                  · intro _ _ h1077
                    refine Frame.step ?_ (endWork_frame _ _ _) rfl
                    exact h1077
              · refine Frame.ite ?_ ?_
                · refine Frame.step ?_ (feedOff_frame _) rfl
                  refine Frame.foldl ?_ ?_
                  · refine Frame.step ?_ (msgHost_frame _ _) rfl
                    refine Frame.step ?_ (Dev.onMode_frame _ _) rfl
                    exact (Frame.refl _ _)
                  · intro _ _ h1078
                    refine Frame.step ?_ (endWork_frame _ _ _) rfl
                    exact h1078
                · refine Frame.foldl ?_ ?_
                  · refine Frame.step ?_ (msgHost_frame _ _) rfl
                    refine Frame.step ?_ (Dev.onMode_frame _ _) rfl
                    exact (Frame.refl _ _)
                  · intro _ _ h1079
                    refine Frame.step ?_ (endWork_frame _ _ _) rfl
                    exact h1079
        · refine Frame.ite ?_ ?_
          · refine Frame.step ?_ (stopInv_frame _) rfl
            refine Frame.ite ?_ ?_
            · refine Frame.step ?_ (probeStop_frame _) rfl
              refine Frame.step ?_ (closeAll_frame _ _ _) rfl
              refine Frame.ite ?_ ?_
              · refine Frame.step ?_ (clearTable_frame _) rfl
                refine Frame.ite ?_ ?_
                · refine Frame.step ?_ (feedOff_frame _) rfl
                  refine Frame.foldl ?_ ?_
                  · refine Frame.step ?_ (msgHost_frame _ _) rfl
                    refine Frame.step ?_ (Dev.onMode_frame _ _) rfl
                    exact (Frame.refl _ _)
                  · intro _ _ h1080
                    refine Frame.step ?_ (endWork_frame _ _ _) rfl
                    exact h1080
                · refine Frame.foldl ?_ ?_
                  · refine Frame.step ?_ (msgHost_frame _ _) rfl
                    refine Frame.step ?_ (Dev.onMode_frame _ _) rfl
                    exact (Frame.refl _ _)
                  · intro _ _ h1081
                    refine Frame.step ?_ (endWork_frame _ _ _) rfl
                    exact h1081
              · refine Frame.ite ?_ ?_
                · refine Frame.step ?_ (feedOff_frame _) rfl
                  refine Frame.foldl ?_ ?_
                  · refine Frame.step ?_ (msgHost_frame _ _) rfl
                    refine Frame.step ?_ (Dev.onMode_frame _ _) rfl
                    exact (Frame.refl _ _)
                  · intro _ _ h1082
                    refine Frame.step ?_ (endWork_frame _ _ _) rfl
                    exact h1082
                · refine Frame.foldl ?_ ?_
                  · refine Frame.step ?_ (msgHost_frame _ _) rfl
                    refine Frame.step ?_ (Dev.onMode_frame _ _) rfl
                    exact (Frame.refl _ _)
                  · intro _ _ h1083
                    refine Frame.step ?_ (endWork_frame _ _ _) rfl
                    exact h1083
            · refine Frame.ite ?_ ?_
              · refine Frame.step ?_ (clearTable_frame _) rfl
                refine Frame.ite ?_ ?_
                · refine Frame.step ?_ (feedOff_frame _) rfl
                  refine Frame.foldl ?_ ?_
                  · refine Frame.step ?_ (msgHost_frame _ _) rfl
                    refine Frame.step ?_ (Dev.onMode_frame _ _) rfl
                    exact (Frame.refl _ _)
                  · intro _ _ h1084
                    refine Frame.step ?_ (endWork_frame _ _ _) rfl
                    exact h1084
                · refine Frame.foldl ?_ ?_
                  · refine Frame.step ?_ (msgHost_frame _ _) rfl
                    refine Frame.step ?_ (Dev.onMode_frame _ _) rfl
                    exact (Frame.refl _ _)
                  · intro _ _ h1085
                    refine Frame.step ?_ (endWork_frame _ _ _) rfl
                    exact h1085
              · refine Frame.ite ?_ ?_
                · refine Frame.step ?_ (feedOff_frame _) rfl
                  refine Frame.foldl ?_ ?_
                  · refine Frame.step ?_ (msgHost_frame _ _) rfl
                    refine Frame.step ?_ (Dev.onMode_frame _ _) rfl
                    exact (Frame.refl _ _)
                  · intro _ _ h1086
                    refine Frame.step ?_ (endWork_frame _ _ _) rfl
                    exact h1086
                · refine Frame.foldl ?_ ?_
                  · refine Frame.step ?_ (msgHost_frame _ _) rfl
                    refine Frame.step ?_ (Dev.onMode_frame _ _) rfl
                    exact (Frame.refl _ _)
                  · intro _ _ h1087
                    refine Frame.step ?_ (endWork_frame _ _ _) rfl
                    exact h1087
          · refine Frame.ite ?_ ?_
            · refine Frame.step ?_ (probeStop_frame _) rfl
              refine Frame.step ?_ (closeAll_frame _ _ _) rfl
              refine Frame.ite ?_ ?_
              · refine Frame.step ?_ (clearTable_frame _) rfl
                refine Frame.ite ?_ ?_
                · refine Frame.step ?_ (feedOff_frame _) rfl
                  refine Frame.foldl ?_ ?_
                  · refine Frame.step ?_ (msgHost_frame _ _) rfl
                    refine Frame.step ?_ (Dev.onMode_frame _ _) rfl
                    exact (Frame.refl _ _)
                  · intro _ _ h1088
                    refine Frame.step ?_ (endWork_frame _ _ _) rfl
                    exact h1088
                · refine Frame.foldl ?_ ?_
                  · refine Frame.step ?_ (msgHost_frame _ _) rfl
                    refine Frame.step ?_ (Dev.onMode_frame _ _) rfl
                    exact (Frame.refl _ _)
                  · intro _ _ h1089
                    refine Frame.step ?_ (endWork_frame _ _ _) rfl
                    exact h1089
              · refine Frame.ite ?_ ?_
                · refine Frame.step ?_ (feedOff_frame _) rfl
                  refine Frame.foldl ?_ ?_
                  · refine Frame.step ?_ (msgHost_frame _ _) rfl
                    refine Frame.step ?_ (Dev.onMode_frame _ _) rfl
                    exact (Frame.refl _ _)
                  · intro _ _ h1090
                    refine Frame.step ?_ (endWork_frame _ _ _) rfl
                    exact h1090
                · refine Frame.foldl ?_ ?_
                  · refine Frame.step ?_ (msgHost_frame _ _) rfl
                    refine Frame.step ?_ (Dev.onMode_frame _ _) rfl
                    exact (Frame.refl _ _)
                  · intro _ _ h1091
                    refine Frame.step ?_ (endWork_frame _ _ _) rfl
                    exact h1091
            · refine Frame.ite ?_ ?_
              · refine Frame.step ?_ (clearTable_frame _) rfl
                refine Frame.ite ?_ ?_
                · refine Frame.step ?_ (feedOff_frame _) rfl
                  refine Frame.foldl ?_ ?_
                  · refine Frame.step ?_ (msgHost_frame _ _) rfl
                    refine Frame.step ?_ (Dev.onMode_frame _ _) rfl
                    exact (Frame.refl _ _)
                  · intro _ _ h1092
                    refine Frame.step ?_ (endWork_frame _ _ _) rfl
                    exact h1092
                · refine Frame.foldl ?_ ?_
                  · refine Frame.step ?_ (msgHost_frame _ _) rfl
                    refine Frame.step ?_ (Dev.onMode_frame _ _) rfl
                    exact (Frame.refl _ _)
                  · intro _ _ h1093
                    refine Frame.step ?_ (endWork_frame _ _ _) rfl
                    exact h1093
              · refine Frame.ite ?_ ?_
                · refine Frame.step ?_ (feedOff_frame _) rfl
                  refine Frame.foldl ?_ ?_
                  · refine Frame.step ?_ (msgHost_frame _ _) rfl
                    refine Frame.step ?_ (Dev.onMode_frame _ _) rfl
                    exact (Frame.refl _ _)
                  · intro _ _ h1094
                    refine Frame.step ?_ (endWork_frame _ _ _) rfl
                    exact h1094
                · refine Frame.foldl ?_ ?_
                  · refine Frame.step ?_ (msgHost_frame _ _) rfl
                    refine Frame.step ?_ (Dev.onMode_frame _ _) rfl
                    exact (Frame.refl _ _)
                  · intro _ _ h1095
                    refine Frame.step ?_ (endWork_frame _ _ _) rfl
                    exact h1095
      · refine Frame.ite ?_ ?_
        · refine Frame.step ?_ (stopTest_frame _ _) rfl
          refine Frame.ite ?_ ?_
          · refine Frame.step ?_ (stopInv_frame _) rfl
            refine Frame.ite ?_ ?_
            · refine Frame.step ?_ (probeStop_frame _) rfl
              refine Frame.step ?_ (closeAll_frame _ _ _) rfl
              refine Frame.ite ?_ ?_
              · refine Frame.step ?_ (clearTable_frame _) rfl
                refine Frame.ite ?_ ?_
                · refine Frame.step ?_ (feedOff_frame _) rfl
                  refine Frame.foldl ?_ ?_
                  · refine Frame.step ?_ (msgHost_frame _ _) rfl
                    refine Frame.step ?_ (Dev.onMode_frame _ _) rfl
                    exact (Frame.refl _ _)
                  · intro _ _ h1096
                    refine Frame.step ?_ (endWork_frame _ _ _) rfl
                    exact h1096
                · refine Frame.foldl ?_ ?_
                  · refine Frame.step ?_ (msgHost_frame _ _) rfl
                    refine Frame.step ?_ (Dev.onMode_frame _ _) rfl
                    exact (Frame.refl _ _)
                  · intro _ _ h1097
                    refine Frame.step ?_ (endWork_frame _ _ _) rfl
                    exact h1097
              · refine Frame.ite ?_ ?_
                · refine Frame.step ?_ (feedOff_frame _) rfl
                  refine Frame.foldl ?_ ?_
                  · refine Frame.step ?_ (msgHost_frame _ _) rfl
                    refine Frame.step ?_ (Dev.onMode_frame _ _) rfl
                    exact (Frame.refl _ _)
                  · intro _ _ h1098
                    refine Frame.step ?_ (endWork_frame _ _ _) rfl
                    exact h1098
                · refine Frame.foldl ?_ ?_
                  · refine Frame.step ?_ (msgHost_frame _ _) rfl
                    refine Frame.step ?_ (Dev.onMode_frame _ _) rfl
                    exact (Frame.refl _ _)
                  · intro _ _ h1099
                    refine Frame.step ?_ (endWork_frame _ _ _) rfl
                    exact h1099
            · refine Frame.ite ?_ ?_
              · refine Frame.step ?_ (clearTable_frame _) rfl
                refine Frame.ite ?_ ?_
                · refine Frame.step ?_ (feedOff_frame _) rfl
                  refine Frame.foldl ?_ ?_
                  · refine Frame.step ?_ (msgHost_frame _ _) rfl
                    refine Frame.step ?_ (Dev.onMode_frame _ _) rfl
                    exact (Frame.refl _ _)
                  · intro _ _ h1100
                    refine Frame.step ?_ (endWork_frame _ _ _) rfl
                    exact h1100
                · refine Frame.foldl ?_ ?_
                  · refine Frame.step ?_ (msgHost_frame _ _) rfl
                    refine Frame.step ?_ (Dev.onMode_frame _ _) rfl
                    exact (Frame.refl _ _)
                  · intro _ _ h1101
                    refine Frame.step ?_ (endWork_frame _ _ _) rfl
                    exact h1101
              · refine Frame.ite ?_ ?_
                · refine Frame.step ?_ (feedOff_frame _) rfl
                  refine Frame.foldl ?_ ?_
                  · refine Frame.step ?_ (msgHost_frame _ _) rfl
                    refine Frame.step ?_ (Dev.onMode_frame _ _) rfl
                    exact (Frame.refl _ _)
                  · intro _ _ h1102
                    refine Frame.step ?_ (endWork_frame _ _ _) rfl
                    exact h1102
                · refine Frame.foldl ?_ ?_
                  · refine Frame.step ?_ (msgHost_frame _ _) rfl
                    refine Frame.step ?_ (Dev.onMode_frame _ _) rfl
                    exact (Frame.refl _ _)
                  · intro _ _ h1103
                    refine Frame.step ?_ (endWork_frame _ _ _) rfl
                    exact h1103
          · refine Frame.ite ?_ ?_
            · refine Frame.step ?_ (probeStop_frame _) rfl
              refine Frame.step ?_ (closeAll_frame _ _ _) rfl
              refine Frame.ite ?_ ?_
              · refine Frame.step ?_ (clearTable_frame _) rfl
                refine Frame.ite ?_ ?_
                · refine Frame.step ?_ (feedOff_frame _) rfl
                  refine Frame.foldl ?_ ?_
                  · refine Frame.step ?_ (msgHost_frame _ _) rfl
                    refine Frame.step ?_ (Dev.onMode_frame _ _) rfl
                    exact (Frame.refl _ _)
                  · intro _ _ h1104
                    refine Frame.step ?_ (endWork_frame _ _ _) rfl
                    exact h1104
                · refine Frame.foldl ?_ ?_
                  · refine Frame.step ?_ (msgHost_frame _ _) rfl
                    refine Frame.step ?_ (Dev.onMode_frame _ _) rfl
                    exact (Frame.refl _ _)
                  · intro _ _ h1105
                    refine Frame.step ?_ (endWork_frame _ _ _) rfl
                    exact h1105
              · refine Frame.ite ?_ ?_
                · refine Frame.step ?_ (feedOff_frame _) rfl
                  refine Frame.foldl ?_ ?_
                  · refine Frame.step ?_ (msgHost_frame _ _) rfl
                    refine Frame.step ?_ (Dev.onMode_frame _ _) rfl
                    exact (Frame.refl _ _)
                  · intro _ _ h1106
                    refine Frame.step ?_ (endWork_frame _ _ _) rfl
                    exact h1106
                · refine Frame.foldl ?_ ?_
                  · refine Frame.step ?_ (msgHost_frame _ _) rfl
                    refine Frame.step ?_ (Dev.onMode_frame _ _) rfl
                    exact (Frame.refl _ _)
                  · intro _ _ h1107
                    refine Frame.step ?_ (endWork_frame _ _ _) rfl
                    exact h1107
            · refine Frame.ite ?_ ?_
              · refine Frame.step ?_ (clearTable_frame _) rfl
                refine Frame.ite ?_ ?_
                · refine Frame.step ?_ (feedOff_frame _) rfl
                  refine Frame.foldl ?_ ?_
                  · refine Frame.step ?_ (msgHost_frame _ _) rfl
                    refine Frame.step ?_ (Dev.onMode_frame _ _) rfl
                    exact (Frame.refl _ _)
                  · intro _ _ h1108
                    refine Frame.step ?_ (endWork_frame _ _ _) rfl
                    exact h1108
                · refine Frame.foldl ?_ ?_
                  · refine Frame.step ?_ (msgHost_frame _ _) rfl
                    refine Frame.step ?_ (Dev.onMode_frame _ _) rfl
                    exact (Frame.refl _ _)
                  · intro _ _ h1109
                    refine Frame.step ?_ (endWork_frame _ _ _) rfl
                    exact h1109
              · refine Frame.ite ?_ ?_
                · refine Frame.step ?_ (feedOff_frame _) rfl
                  refine Frame.foldl ?_ ?_
                  · refine Frame.step ?_ (msgHost_frame _ _) rfl
                    refine Frame.step ?_ (Dev.onMode_frame _ _) rfl
                    exact (Frame.refl _ _)
                  · intro _ _ h1110
                    refine Frame.step ?_ (endWork_frame _ _ _) rfl
                    exact h1110
                · refine Frame.foldl ?_ ?_
                  · refine Frame.step ?_ (msgHost_frame _ _) rfl
                    refine Frame.step ?_ (Dev.onMode_frame _ _) rfl
                    exact (Frame.refl _ _)
                  · intro _ _ h1111
                    refine Frame.step ?_ (endWork_frame _ _ _) rfl
                    exact h1111
        · refine Frame.ite ?_ ?_
          · refine Frame.step ?_ (stopInv_frame _) rfl
            refine Frame.ite ?_ ?_
            · refine Frame.step ?_ (probeStop_frame _) rfl
              refine Frame.step ?_ (closeAll_frame _ _ _) rfl
              refine Frame.ite ?_ ?_
              · refine Frame.step ?_ (clearTable_frame _) rfl
                refine Frame.ite ?_ ?_
                · refine Frame.step ?_ (feedOff_frame _) rfl
                  refine Frame.foldl ?_ ?_
                  · refine Frame.step ?_ (msgHost_frame _ _) rfl
                    refine Frame.step ?_ (Dev.onMode_frame _ _) rfl
                    exact (Frame.refl _ _)
                  · intro _ _ h1112
                    refine Frame.step ?_ (endWork_frame _ _ _) rfl
                    exact h1112
                · refine Frame.foldl ?_ ?_
                  · refine Frame.step ?_ (msgHost_frame _ _) rfl
                    refine Frame.step ?_ (Dev.onMode_frame _ _) rfl
                    exact (Frame.refl _ _)
                  · intro _ _ h1113
                    refine Frame.step ?_ (endWork_frame _ _ _) rfl
                    exact h1113
              · refine Frame.ite ?_ ?_
                · refine Frame.step ?_ (feedOff_frame _) rfl
                  refine Frame.foldl ?_ ?_
                  · refine Frame.step ?_ (msgHost_frame _ _) rfl
                    refine Frame.step ?_ (Dev.onMode_frame _ _) rfl
                    exact (Frame.refl _ _)
                  · intro _ _ h1114
                    refine Frame.step ?_ (endWork_frame _ _ _) rfl
                    exact h1114
                · refine Frame.foldl ?_ ?_
                  · refine Frame.step ?_ (msgHost_frame _ _) rfl
                    refine Frame.step ?_ (Dev.onMode_frame _ _) rfl
                    exact (Frame.refl _ _)
                  · intro _ _ h1115
                    refine Frame.step ?_ (endWork_frame _ _ _) rfl
                    exact h1115
            · refine Frame.ite ?_ ?_
              · refine Frame.step ?_ (clearTable_frame _) rfl
                refine Frame.ite ?_ ?_
                · refine Frame.step ?_ (feedOff_frame _) rfl
                  refine Frame.foldl ?_ ?_
                  · refine Frame.step ?_ (msgHost_frame _ _) rfl
                    refine Frame.step ?_ (Dev.onMode_frame _ _) rfl
                    exact (Frame.refl _ _)
                  · intro _ _ h1116
                    refine Frame.step ?_ (endWork_frame _ _ _) rfl
                    exact h1116
                · refine Frame.foldl ?_ ?_
                  · refine Frame.step ?_ (msgHost_frame _ _) rfl
                    refine Frame.step ?_ (Dev.onMode_frame _ _) rfl
                    exact (Frame.refl _ _)
                  · intro _ _ h1117
                    refine Frame.step ?_ (endWork_frame _ _ _) rfl
                    exact h1117
              · refine Frame.ite ?_ ?_
                · refine Frame.step ?_ (feedOff_frame _) rfl
                  refine Frame.foldl ?_ ?_
                  · refine Frame.step ?_ (msgHost_frame _ _) rfl
                    refine Frame.step ?_ (Dev.onMode_frame _ _) rfl
                    exact (Frame.refl _ _)
                  · intro _ _ h1118
                    refine Frame.step ?_ (endWork_frame _ _ _) rfl
                    exact h1118
                · refine Frame.foldl ?_ ?_
                  · refine Frame.step ?_ (msgHost_frame _ _) rfl
                    refine Frame.step ?_ (Dev.onMode_frame _ _) rfl
                    exact (Frame.refl _ _)
                  · intro _ _ h1119
                    refine Frame.step ?_ (endWork_frame _ _ _) rfl
                    exact h1119
          · refine Frame.ite ?_ ?_
            · refine Frame.step ?_ (probeStop_frame _) rfl
              refine Frame.step ?_ (closeAll_frame _ _ _) rfl
              refine Frame.ite ?_ ?_
              · refine Frame.step ?_ (clearTable_frame _) rfl
                refine Frame.ite ?_ ?_
                · refine Frame.step ?_ (feedOff_frame _) rfl
                  refine Frame.foldl ?_ ?_
                  · refine Frame.step ?_ (msgHost_frame _ _) rfl
                    refine Frame.step ?_ (Dev.onMode_frame _ _) rfl
                    exact (Frame.refl _ _)
                  · intro _ _ h1120
                    refine Frame.step ?_ (endWork_frame _ _ _) rfl
                    exact h1120
                · refine Frame.foldl ?_ ?_
                  · refine Frame.step ?_ (msgHost_frame _ _) rfl
                    refine Frame.step ?_ (Dev.onMode_frame _ _) rfl
                    exact (Frame.refl _ _)
                  · intro _ _ h1121
                    refine Frame.step ?_ (endWork_frame _ _ _) rfl
                    exact h1121
              · refine Frame.ite ?_ ?_
                · refine Frame.step ?_ (feedOff_frame _) rfl
                  refine Frame.foldl ?_ ?_
                  · refine Frame.step ?_ (msgHost_frame _ _) rfl
                    refine Frame.step ?_ (Dev.onMode_frame _ _) rfl
                    exact (Frame.refl _ _)
                  · intro _ _ h1122
                    refine Frame.step ?_ (endWork_frame _ _ _) rfl
                    exact h1122
                · refine Frame.foldl ?_ ?_
                  · refine Frame.step ?_ (msgHost_frame _ _) rfl
                    refine Frame.step ?_ (Dev.onMode_frame _ _) rfl
                    exact (Frame.refl _ _)
                  · intro _ _ h1123
                    refine Frame.step ?_ (endWork_frame _ _ _) rfl
                    exact h1123
            · refine Frame.ite ?_ ?_
              · refine Frame.step ?_ (clearTable_frame _) rfl
                refine Frame.ite ?_ ?_
                · refine Frame.step ?_ (feedOff_frame _) rfl
                  refine Frame.foldl ?_ ?_
                  · refine Frame.step ?_ (msgHost_frame _ _) rfl
                    refine Frame.step ?_ (Dev.onMode_frame _ _) rfl
                    exact (Frame.refl _ _)
                  · intro _ _ h1124
                    refine Frame.step ?_ (endWork_frame _ _ _) rfl
                    exact h1124
                · refine Frame.foldl ?_ ?_
                  · refine Frame.step ?_ (msgHost_frame _ _) rfl
                    refine Frame.step ?_ (Dev.onMode_frame _ _) rfl
                    exact (Frame.refl _ _)
                  · intro _ _ h1125
                    refine Frame.step ?_ (endWork_frame _ _ _) rfl
                    exact h1125
              · refine Frame.ite ?_ ?_
                · refine Frame.step ?_ (feedOff_frame _) rfl
                  refine Frame.foldl ?_ ?_
                  · refine Frame.step ?_ (msgHost_frame _ _) rfl
                    refine Frame.step ?_ (Dev.onMode_frame _ _) rfl
                    exact (Frame.refl _ _)
                  · intro _ _ h1126
                    refine Frame.step ?_ (endWork_frame _ _ _) rfl
                    exact h1126
                · refine Frame.foldl ?_ ?_
                  · refine Frame.step ?_ (msgHost_frame _ _) rfl
                    refine Frame.step ?_ (Dev.onMode_frame _ _) rfl
                    exact (Frame.refl _ _)
                  · intro _ _ h1127
                    refine Frame.step ?_ (endWork_frame _ _ _) rfl
                    exact h1127

theorem beginTrans_frame (t : Trans) (d : Dev) : Frame 31832573 d (beginTrans t d) := by
  unfold beginTrans
  refine Frame.ite ?_ ?_
  · split
    · refine Frame.step ?_ (onCmd_frame _ _ _) rfl
      refine Frame.step ?_ (Dev.onMode_frame _ _) rfl
      exact (Frame.refl _ _)
    · refine Frame.step ?_ (Dev.onMode_frame _ _) rfl
      exact (Frame.refl _ _)
  · refine Frame.step ?_ (startTrans_frame _) rfl
    split
    · refine Frame.step ?_ (onCmd_frame _ _ _) rfl
      refine Frame.step ?_ (Dev.onMode_frame _ _) rfl
      exact (Frame.refl _ _)
    · refine Frame.step ?_ (Dev.onMode_frame _ _) rfl
      exact (Frame.refl _ _)

theorem enterMode_frame (y0 : Mode) (cause : Nat) (tag : Option (Fin 32)) (dur : Nat) (d : Dev) : Frame 23068725 d (enterMode
    y0 cause tag dur d) := by
  unfold enterMode
  refine Frame.step ?_ (pushPt_frame _ _ _) rfl
  refine Frame.step ?_ (rewords_frame _) rfl
  refine Frame.step ?_ (dropSeq_frame _) rfl
  refine Frame.step ?_ (Dev.onMode_frame _ _) rfl
  exact (Frame.refl _ _)

theorem closeEnd_frame (d : Dev) : Frame 220 d (closeEnd d) := by
  unfold closeEnd
  refine Frame.foldl ?_ ?_
  · exact (Frame.refl _ _)
  · intro _ _ h1000
    refine Frame.ite ?_ ?_
    · refine Frame.step ?_ (closeDone_frame _ _) rfl
      refine Frame.ite ?_ ?_
      · refine withRx_frame _ _ rfl ?_ ?_
        · intro _ h1001
          refine Frame.step ?_ (rampEnd_frame _ _) rfl
          exact h1001
        · exact h1000
      · exact h1000
    · exact h1000

theorem refuseMode_frame (tag : Fin 32) (st : Status) (d : Dev) : Frame 23330817 d (refuseMode tag st d) := by
  unfold refuseMode
  refine Frame.step ?_ (fail_frame _ _ _) rfl
  refine Frame.step ?_ (Dev.onMode_frame _ _) rfl
  exact (Frame.refl _ _)

theorem modeGo_frame (tag : Fin 32) (c : Cmd) (tgt : Mode) (pend : Bool) (s : State) : SKeep 31832573 s (modeGo tag c tgt pend
    s) := by
  unfold modeGo
  dsimp only
  split
  · refine State.on_frame _ _ rfl ?_ ?_
    · intro _ h1000
      refine Frame.step ?_ (refuseMode_frame _ _ _) rfl
      exact h1000
    · exact (SKeep.refl _ _)
  · refine SKeep.ite ?_ ?_
    · refine State.on_frame _ _ rfl ?_ ?_
      · intro _ h1001
        refine Frame.step ?_ (refuseMode_frame _ _ _) rfl
        exact h1001
      · exact (SKeep.refl _ _)
    · refine SKeep.ite ?_ ?_
      · refine State.on_frame _ _ rfl ?_ ?_
        · intro _ h1002
          refine Frame.step ?_ (onCmd_frame _ _ _) rfl
          refine Frame.step ?_ (Dev.onMode_frame _ _) rfl
          split
          · refine Frame.step ?_ (fail_frame _ _ _) rfl
            refine Frame.step ?_ (Dev.onMode_frame _ _) rfl
            exact h1002
          · exact h1002
        · exact (SKeep.refl _ _)
      · refine SKeep.ite ?_ ?_
        · refine State.on_frame _ _ rfl ?_ ?_
          · intro _ h1003
            refine Frame.step ?_ (complete_frame _ _ _ _) rfl
            refine Frame.ite ?_ ?_
            · refine Frame.step ?_ (Dev.onMode_frame _ _) rfl
              exact h1003
            · exact h1003
          · exact (SKeep.refl _ _)
        · refine State.on_frame _ _ rfl ?_ ?_
          · intro _ h1004
            refine Frame.step ?_ (beginTrans_frame _ _) rfl
            exact h1004
          · exact (SKeep.refl _ _)

theorem modePend_frame (s : State) : SKeep 31832573 s (modePend s) := by
  unfold modePend
  dsimp only
  split
  · exact (SKeep.refl _ _)
  · split
    · refine State.on_frame _ _ rfl ?_ ?_
      · intro _ h1000
        refine Frame.step ?_ (Dev.onMode_frame _ _) rfl
        exact h1000
      · exact (SKeep.refl _ _)
    · refine SKeep.ite ?_ ?_
      · refine State.on_frame _ _ rfl ?_ ?_
        · intro _ h1001
          refine Frame.step ?_ (fail_frame _ _ _) rfl
          exact h1001
        · refine State.on_frame _ _ rfl ?_ ?_
          · intro _ h1002
            refine Frame.step ?_ (Dev.onMode_frame _ _) rfl
            exact h1002
          · exact (SKeep.refl _ _)
      · split
        · refine SKeep.step ?_ (modeGo_frame _ _ _ _ _) rfl
          refine State.on_frame _ _ rfl ?_ ?_
          · intro _ h1003
            refine Frame.step ?_ (Dev.onMode_frame _ _) rfl
            exact h1003
          · exact (SKeep.refl _ _)
        · refine State.on_frame _ _ rfl ?_ ?_
          · intro _ h1004
            refine Frame.step ?_ (Dev.onMode_frame _ _) rfl
            exact h1004
          · exact (SKeep.refl _ _)

theorem startRotation_frame (steep : Bool) (d : Dev) : Frame 64 d (startRotation steep d) := by
  unfold startRotation
  refine Frame.step ?_ (Dev.onPrb_frame _ _) rfl
  refine Frame.step ?_ (startPass_frame _) rfl
  exact (Frame.refl _ _)

theorem completeTrans_frame (s : State) : SKeep 31832575 s (completeTrans s) := by
  unfold completeTrans
  split
  · exact (SKeep.refl _ _)
  · refine SKeep.step ?_ (modePend_frame _) rfl
    refine State.on_frame _ _ rfl ?_ ?_
    · intro _ h1000
      refine Frame.step ?_ (keepDone_frame _) rfl
      refine Frame.step ?_ (policyHeld_frame _) rfl
      split
      · refine Frame.step ?_ (complete_frame _ _ _ _) rfl
        refine Frame.ite ?_ ?_
        · refine Frame.step ?_ (Dev.onTb_frame _ _) rfl
          refine Frame.ite ?_ ?_
          · refine Frame.step ?_ (startRotation_frame _ _) rfl
            refine Frame.step ?_ (enterMode_frame _ _ _ _ _) rfl
            exact h1000
          · refine Frame.step ?_ (enterMode_frame _ _ _ _ _) rfl
            exact h1000
        · refine Frame.ite ?_ ?_
          · refine Frame.step ?_ (startRotation_frame _ _) rfl
            refine Frame.step ?_ (enterMode_frame _ _ _ _ _) rfl
            exact h1000
          · refine Frame.step ?_ (enterMode_frame _ _ _ _ _) rfl
            exact h1000
      · refine Frame.ite ?_ ?_
        · refine Frame.step ?_ (Dev.onTb_frame _ _) rfl
          refine Frame.ite ?_ ?_
          · refine Frame.step ?_ (startRotation_frame _ _) rfl
            refine Frame.step ?_ (enterMode_frame _ _ _ _ _) rfl
            exact h1000
          · refine Frame.step ?_ (enterMode_frame _ _ _ _ _) rfl
            exact h1000
        · refine Frame.ite ?_ ?_
          · refine Frame.step ?_ (startRotation_frame _ _) rfl
            refine Frame.step ?_ (enterMode_frame _ _ _ _ _) rfl
            exact h1000
          · refine Frame.step ?_ (enterMode_frame _ _ _ _ _) rfl
            exact h1000
    · exact (SKeep.refl _ _)

theorem setMode_frame (tag : Fin 32) (c : Cmd) (s : State) : SKeep 31832573 s (setMode tag c s) := by
  unfold setMode
  split
  · refine State.on_frame _ _ rfl ?_ ?_
    · intro _ h1000
      refine Frame.step ?_ (refuseMode_frame _ _ _) rfl
      exact h1000
    · exact (SKeep.refl _ _)
  · refine SKeep.ite ?_ ?_
    · refine State.on_frame _ _ rfl ?_ ?_
      · intro _ h1001
        refine Frame.step ?_ (refuseMode_frame _ _ _) rfl
        exact h1001
      · exact (SKeep.refl _ _)
    · refine SKeep.step ?_ (modeGo_frame _ _ _ _ _) rfl
      exact (SKeep.refl _ _)

theorem takeMode_frame (a : Mode) (y1 : Mode) (d : Dev) : Frame 31757367 d (takeMode a y1 d) := by
  unfold takeMode
  refine Frame.ite ?_ ?_
  · refine Frame.step ?_ (coreDown_frame _) rfl
    refine Frame.step ?_ (steepEnter_frame _) rfl
    refine Frame.ite ?_ ?_
    · refine Frame.step ?_ (lauOff_frame _) rfl
      refine Frame.step ?_ (takeDoms_frame _ _) rfl
      refine Frame.ite ?_ ?_
      · refine Frame.step ?_ (steepLeave_frame _) rfl
        refine Frame.step ?_ (coreUp_frame _) rfl
        exact (Frame.refl _ _)
      · exact (Frame.refl _ _)
    · refine Frame.ite ?_ ?_
      · refine Frame.step ?_ (judgeWaits_frame _) rfl
        refine Frame.step ?_ (serveProbe_frame _) rfl
        refine Frame.step ?_ (Dev.onLau_frame _ _) rfl
        refine Frame.step ?_ (takeDoms_frame _ _) rfl
        refine Frame.ite ?_ ?_
        · refine Frame.step ?_ (steepLeave_frame _) rfl
          refine Frame.step ?_ (coreUp_frame _) rfl
          exact (Frame.refl _ _)
        · exact (Frame.refl _ _)
      · refine Frame.step ?_ (takeDoms_frame _ _) rfl
        refine Frame.ite ?_ ?_
        · refine Frame.step ?_ (steepLeave_frame _) rfl
          refine Frame.step ?_ (coreUp_frame _) rfl
          exact (Frame.refl _ _)
        · exact (Frame.refl _ _)
  · refine Frame.ite ?_ ?_
    · refine Frame.step ?_ (lauOff_frame _) rfl
      refine Frame.step ?_ (takeDoms_frame _ _) rfl
      refine Frame.ite ?_ ?_
      · refine Frame.step ?_ (steepLeave_frame _) rfl
        refine Frame.step ?_ (coreUp_frame _) rfl
        exact (Frame.refl _ _)
      · exact (Frame.refl _ _)
    · refine Frame.ite ?_ ?_
      · refine Frame.step ?_ (judgeWaits_frame _) rfl
        refine Frame.step ?_ (serveProbe_frame _) rfl
        refine Frame.step ?_ (Dev.onLau_frame _ _) rfl
        refine Frame.step ?_ (takeDoms_frame _ _) rfl
        refine Frame.ite ?_ ?_
        · refine Frame.step ?_ (steepLeave_frame _) rfl
          refine Frame.step ?_ (coreUp_frame _) rfl
          exact (Frame.refl _ _)
        · exact (Frame.refl _ _)
      · refine Frame.step ?_ (takeDoms_frame _ _) rfl
        refine Frame.ite ?_ ?_
        · refine Frame.step ?_ (steepLeave_frame _) rfl
          refine Frame.step ?_ (coreUp_frame _) rfl
          exact (Frame.refl _ _)
        · exact (Frame.refl _ _)

theorem legDone_frame (s : State) : SKeep 31833599 s (legDone s) := by
  unfold legDone
  split
  · exact (SKeep.refl _ _)
  · split
    · exact (SKeep.refl _ _)
    · refine SKeep.ite ?_ ?_
      · exact (SKeep.refl _ _)
      · refine SKeep.ite ?_ ?_
        · refine State.on_frame _ _ rfl ?_ ?_
          · intro _ h1000
            refine Frame.step ?_ (holdSec_frame _) rfl
            exact h1000
          · exact (SKeep.refl _ _)
        · refine SKeep.ite ?_ ?_
          · refine SKeep.step ?_ (completeTrans_frame _) rfl
            refine State.on_frame _ _ rfl ?_ ?_
            · intro _ h1001
              refine Frame.step ?_ (Dev.onMode_frame _ _) rfl
              refine Frame.step ?_ (takeMode_frame _ _ _) rfl
              refine Frame.ite ?_ ?_
              · refine Frame.step ?_ (closeEnd_frame _) rfl
                exact h1001
              · exact h1001
            · exact (SKeep.refl _ _)
          · refine State.on_frame _ _ rfl ?_ ?_
            · intro _ h1002
              refine Frame.step ?_ (Dev.onMode_frame _ _) rfl
              refine Frame.step ?_ (takeMode_frame _ _ _) rfl
              refine Frame.ite ?_ ?_
              · refine Frame.step ?_ (closeEnd_frame _) rfl
                exact h1002
              · exact h1002
            · exact (SKeep.refl _ _)

end Sys2Proof.Machine
end

