-- ==== Sys2Proof/Laws/KeepBoot.lean ====
section
/-! SUPPORT. What the operations of Machine/Boot.lean leave alone. -/

namespace Sys2Proof.Machine
open Sys2Proof

theorem Dev.fresh_frame (d : Dev) : Frame 1342177279 d (Dev.fresh d) := Frame.all _ _

theorem bkpLow_frame (low : Bool) (mv : Nat) (d : Dev) : Frame 23068672 d (bkpLow low mv d) := by
  unfold bkpLow
  refine Frame.ite ?_ ?_
  · exact (Frame.refl _ _)
  · refine Frame.step ?_ (pushPmu_frame _ _ _ _) rfl
    refine Frame.step ?_ (pmuMsg_frame _) rfl
    refine Frame.step ?_ (Dev.onPmu_frame _ _) rfl
    exact (Frame.refl _ _)

theorem bkpReturn_frame (d : Dev) : Frame 65280247 d (bkpReturn d) := by
  unfold bkpReturn
  refine Frame.ite ?_ ?_
  · exact (Frame.refl _ _)
  · refine Frame.step ?_ (enterMode_frame _ _ _ _ _) rfl
    refine Frame.step ?_ (pmuMsg_frame _) rfl
    refine Frame.step ?_ (Dev.onPmu_frame _ _) rfl
    refine Frame.step ?_ (Dev.onMode_frame _ _) rfl
    refine Frame.ite ?_ ?_
    · refine Frame.step ?_ (Dev.onUhf_frame _ _) rfl
      refine Frame.step ?_ (Dev.onDrv_frame _ _) rfl
      refine Frame.step ?_ (Dev.onTh_frame _ _) rfl
      refine Frame.step ?_ (clearTable_frame _) rfl
      refine Frame.step ?_ (takeDoms_frame _ _) rfl
      refine Frame.step ?_ (coreUp_frame _) rfl
      exact (Frame.refl _ _)
    · refine Frame.step ?_ (clearTable_frame _) rfl
      refine Frame.step ?_ (takeDoms_frame _ _) rfl
      refine Frame.step ?_ (coreUp_frame _) rfl
      exact (Frame.refl _ _)

theorem bootCores_frame (d : Dev) : Frame 23334928 d (bootCores d) := by
  unfold bootCores
  refine Frame.step ?_ (domUp_frame _ _) rfl
  refine Frame.step ?_ (domUp_frame _ _) rfl
  refine Frame.step ?_ (domUp_frame _ _) rfl
  refine Frame.step ?_ (domUp_frame _ _) rfl
  exact (Frame.refl _ _)

theorem bootEnd_frame (y0 : Mode) (cause : Nat) (d : Dev) : Frame 23335157 d (bootEnd y0 cause d) := by
  unfold bootEnd
  dsimp only
  split
  · exact (Frame.refl _ _)
  · split
    · refine Frame.step ?_ (complete_frame _ _ _ _) rfl
      refine Frame.step ?_ (takeDoms_frame _ _) rfl
      refine Frame.step ?_ (enterMode_frame _ _ _ _ _) rfl
      refine Frame.ite ?_ ?_
      · refine Frame.step ?_ (clearTable_frame _) rfl
        refine Frame.step ?_ (Dev.onPmu_frame _ _) rfl
        exact (Frame.refl _ _)
      · refine Frame.step ?_ (Dev.onPmu_frame _ _) rfl
        exact (Frame.refl _ _)
    · refine Frame.step ?_ (takeDoms_frame _ _) rfl
      refine Frame.step ?_ (enterMode_frame _ _ _ _ _) rfl
      refine Frame.ite ?_ ?_
      · refine Frame.step ?_ (clearTable_frame _) rfl
        refine Frame.step ?_ (Dev.onPmu_frame _ _) rfl
        exact (Frame.refl _ _)
      · refine Frame.step ?_ (Dev.onPmu_frame _ _) rfl
        exact (Frame.refl _ _)

theorem bootErase_frame (s : State) : SKeep 560005120 s (bootErase s) := by
  unfold bootErase
  split
  · exact (SKeep.refl _ _)
  · refine SKeep.mk4 ?_ ?_ ?_ ?_
    · exact (SKeep.refl _ _)
    · refine Frame.step ?_ (pushFlash_frame _ _ _ _) rfl
      refine Frame.step ?_ (flMsg_frame _) rfl
      refine Frame.step ?_ (jWrite_frame _ _) rfl
      refine Frame.step ?_ (jWrite_frame _ _) rfl
      refine Frame.step ?_ (Dev.onNvm_frame _ _) rfl
      refine SKeep.dev ?_
      exact (SKeep.refl _ _)
    · first | exact MemOk.same _ _ _ _ | exact MemOk.nil rfl | exact MemOk.writes rfl | exact MemOk.erase rfl
    · first | exact MemOk.same _ _ _ _ | exact MemOk.nil rfl | exact MemOk.writes rfl | exact MemOk.erase rfl

theorem bootModule_frame (s : State) (k : Fin 63) : SKeep 276889600 s (bootModule s k) := by
  unfold bootModule
  refine SKeep.ite ?_ ?_
  · exact (SKeep.refl _ _)
  · refine SKeep.ite ?_ ?_
    · refine SKeep.ite ?_ ?_
      · split
        · refine SKeep.step ?_ (startExt_frame (by assumption)) rfl
          exact (SKeep.refl _ _)
        · refine State.on_frame _ _ rfl ?_ ?_
          · intro _ h1000
            refine Frame.step ?_ (setModule_frame _ _ _) rfl
            exact h1000
          · exact (SKeep.refl _ _)
      · refine State.on_frame _ _ rfl ?_ ?_
        · intro _ h1001
          refine Frame.step ?_ (putModule_frame _ _ _) rfl
          exact h1001
        · exact (SKeep.refl _ _)
    · refine SKeep.ite ?_ ?_
      · refine State.on_frame _ _ rfl ?_ ?_
        · intro _ h1002
          refine Frame.step ?_ (setModule_frame _ _ _) rfl
          exact h1002
        · exact (SKeep.refl _ _)
      · exact (SKeep.refl _ _)

theorem takeMods_frame (y0 : Vector Module 63) (d : Dev) : Frame 65536 d (takeMods y0 d) := by
  unfold takeMods
  refine Frame.step ?_ (Dev.onNvm_frame _ _) rfl
  exact (Frame.refl _ _)

theorem takeKiln_frame (r : KilnRec) (d : Dev) : Frame 131072 d (takeKiln r d) := by
  unfold takeKiln
  refine Frame.step ?_ (Dev.onKiln_frame _ _) rfl
  exact (Frame.refl _ _)

theorem takeInteg_frame (i : Integ) (d : Dev) : Frame 22153474 d (takeInteg i d) := by
  unfold takeInteg
  refine Frame.ite ?_ ?_
  · refine Frame.step ?_ (policyTake_frame _ _ _) rfl
    refine Frame.step ?_ (Dev.onHf_frame _ _) rfl
    refine Frame.step ?_ (Dev.onKiln_frame _ _) rfl
    refine Frame.ite ?_ ?_
    · refine Frame.step ?_ (Dev.onMsp_frame _ _) rfl
      refine Frame.step ?_ (Dev.onUhf_frame _ _) rfl
      refine Frame.step ?_ (Dev.onTb_frame _ _) rfl
      exact (Frame.refl _ _)
    · refine Frame.step ?_ (Dev.onQs_frame _ _) rfl
      refine Frame.step ?_ (Dev.onMsp_frame _ _) rfl
      refine Frame.step ?_ (Dev.onUhf_frame _ _) rfl
      refine Frame.step ?_ (Dev.onTb_frame _ _) rfl
      exact (Frame.refl _ _)
  · refine Frame.step ?_ (policyTake_frame _ _ _) rfl
    refine Frame.step ?_ (Dev.onHf_frame _ _) rfl
    refine Frame.step ?_ (Dev.onKiln_frame _ _) rfl
    refine Frame.ite ?_ ?_
    · refine Frame.step ?_ (Dev.onMsp_frame _ _) rfl
      refine Frame.step ?_ (Dev.onUhf_frame _ _) rfl
      refine Frame.step ?_ (Dev.onTb_frame _ _) rfl
      exact (Frame.refl _ _)
    · refine Frame.step ?_ (Dev.onQs_frame _ _) rfl
      refine Frame.step ?_ (Dev.onMsp_frame _ _) rfl
      refine Frame.step ?_ (Dev.onUhf_frame _ _) rfl
      refine Frame.step ?_ (Dev.onTb_frame _ _) rfl
      exact (Frame.refl _ _)

theorem takeRec_frame (d : Dev) (r : Option Rec) : Frame 22219014 d (takeRec d r) := by
  unfold takeRec
  split
  · refine Frame.step ?_ (Dev.onDrv_frame _ _) rfl
    exact (Frame.refl _ _)
  · refine Frame.step ?_ (Dev.onUhf_frame _ _) rfl
    exact (Frame.refl _ _)
  · refine Frame.step ?_ (takeInteg_frame _ _) rfl
    exact (Frame.refl _ _)
  · refine Frame.step ?_ (takeKiln_frame _ _) rfl
    exact (Frame.refl _ _)
  · refine Frame.step ?_ (takeMods_frame _ _) rfl
    exact (Frame.refl _ _)
  · exact (Frame.refl _ _)

theorem bootRecords_frame (d : Dev) : Frame 24582454 d (bootRecords d) := by
  unfold bootRecords
  refine Frame.step ?_ (Dev.onLau_frame _ _) rfl
  refine Frame.step ?_ (onDom_frame _ _ _) rfl
  refine Frame.step ?_ (domUp_frame _ _) rfl
  refine Frame.step ?_ (Dev.onQs_frame _ _) rfl
  refine Frame.foldl ?_ ?_
  · refine Frame.step ?_ (takeMods_frame _ _) rfl
    refine Frame.step ?_ (Dev.onTb_frame _ _) rfl
    refine Frame.step ?_ (Dev.onPmu_frame _ _) rfl
    refine Frame.step ?_ (takeLayout_frame _ _) rfl
    exact (Frame.refl _ _)
  · intro _ _ h1000
    refine Frame.step ?_ (takeRec_frame _ _) rfl
    exact h1000

theorem trySlots_frame (a0 : List Bool) (a1 : State) : SKeep 65536 a1 (trySlots a0 a1).2 := by
  induction a0 generalizing a1 with
  | nil => exact SKeep.refl _ _
  | cons b bs ih =>
    unfold trySlots
    extract_lets r
    split
    · exact SKeep.refl _ _
    · refine SKeep.step ?_ (ih _) rfl
      refine State.on_frame _ _ rfl ?_ (SKeep.refl _ _)
      intro x hx
      exact Frame.step (Frame.step hx (setSlot_frame _ _ _) rfl) (Dev.onNvm_frame _ _) rfl

theorem bootTries_frame (d : Dev) : Frame 65536 d (bootTries d).2 := by
  unfold bootTries
  dsimp only
  split
  · refine Frame.step ?_ (setSlot_frame _ _ _) rfl
    exact (Frame.refl _ _)
  · refine Frame.foldl ?_ ?_
    · exact (Frame.refl _ _)
    · intro _ _ h1000
      refine Frame.ite ?_ ?_
      · refine Frame.step ?_ (setSlot_frame _ _ _) rfl
        exact h1000
      · exact h1000

theorem bootSelect_frame (s : State) : SKeep 560009216 s (bootSelect s).2 := by
  unfold bootSelect
  dsimp only
  split
  · refine SKeep.step ?_ (trySlots_frame _ _) rfl
    refine State.on_frame _ _ rfl ?_ ?_
    · intro _ h1000
      refine Frame.step ?_ (bootTries_frame _) rfl
      refine SKeep.dev ?_
      refine State.on_frame _ _ rfl ?_ ?_
      · intro _ h1001
        refine Frame.step ?_ (Dev.onKey_frame _ _) rfl
        refine Frame.step ?_ (Dev.onNvm_frame _ _) rfl
        exact h1001
      · refine SKeep.step ?_ (bootErase_frame _) rfl
        exact (SKeep.refl _ _)
    · refine State.on_frame _ _ rfl ?_ ?_
      · intro _ h1002
        refine Frame.step ?_ (Dev.onKey_frame _ _) rfl
        refine Frame.step ?_ (Dev.onNvm_frame _ _) rfl
        exact h1002
      · refine SKeep.step ?_ (bootErase_frame _) rfl
        exact (SKeep.refl _ _)
  · refine State.on_frame _ _ rfl ?_ ?_
    · intro _ h1003
      refine Frame.ite ?_ ?_
      · refine Frame.step ?_ (pushFlash_frame _ _ _ _) rfl
        refine Frame.step ?_ (Dev.onNvm_frame _ _) rfl
        exact h1003
      · refine Frame.step ?_ (Dev.onNvm_frame _ _) rfl
        exact h1003
    · refine SKeep.step ?_ (trySlots_frame _ _) rfl
      refine State.on_frame _ _ rfl ?_ ?_
      · intro _ h1004
        refine Frame.step ?_ (bootTries_frame _) rfl
        refine SKeep.dev ?_
        refine State.on_frame _ _ rfl ?_ ?_
        · intro _ h1005
          refine Frame.step ?_ (Dev.onKey_frame _ _) rfl
          refine Frame.step ?_ (Dev.onNvm_frame _ _) rfl
          exact h1005
        · refine SKeep.step ?_ (bootErase_frame _) rfl
          exact (SKeep.refl _ _)
      · refine State.on_frame _ _ rfl ?_ ?_
        · intro _ h1006
          refine Frame.step ?_ (Dev.onKey_frame _ _) rfl
          refine Frame.step ?_ (Dev.onNvm_frame _ _) rfl
          exact h1006
        · refine SKeep.step ?_ (bootErase_frame _) rfl
          exact (SKeep.refl _ _)

theorem bootFinish_frame (ok : Bool) (fs : Vector (Nat × Nat) 48) (s : State) : SKeep 838277623 s (bootFinish ok fs s) := by
  unfold bootFinish
  dsimp only
  refine SKeep.ite ?_ ?_
  · exact (SKeep.refl _ _)
  · split
    · refine State.on_frame _ _ rfl ?_ ?_
      · intro _ h1000
        refine Frame.step ?_ (bootEnd_frame _ _ _) rfl
        exact h1000
      · refine SKeep.foldl ?_ ?_
        · refine State.on_frame _ _ rfl ?_ ?_
          · intro _ h1001
            refine Frame.step ?_ (bootCores_frame _) rfl
            exact h1001
          · refine State.on_frame _ _ rfl ?_ ?_
            · intro _ h1002
              refine Frame.step ?_ (formMargins_frame _ _) rfl
              refine Frame.step ?_ (setGuard_frame _ _) rfl
              refine Frame.step ?_ (takePairs_frame _ _) rfl
              exact h1002
            · refine State.on_frame _ _ rfl ?_ ?_
              · intro _ h1003
                refine Frame.step ?_ (bootRecords_frame _) rfl
                refine Frame.step ?_ (Dev.onNvm_frame _ _) rfl
                exact h1003
              · refine SKeep.step ?_ (bootSelect_frame _) rfl
                exact (SKeep.refl _ _)
        · intro _ _ h1004
          refine SKeep.step ?_ (bootModule_frame _ _) rfl
          exact h1004
    · refine State.on_frame _ _ rfl ?_ ?_
      · intro _ h1005
        refine Frame.step ?_ (bootEnd_frame _ _ _) rfl
        refine Frame.step ?_ (Dev.onNvm_frame _ _) rfl
        exact h1005
      · refine SKeep.step ?_ (bootSelect_frame _) rfl
        exact (SKeep.refl _ _)
    · exact (SKeep.refl _ _)

theorem domsOff_frame (d : Dev) : Frame 16777216 d (domsOff d) := by
  unfold domsOff
  refine Frame.step ?_ (Dev.onPmu_frame _ _) rfl
  exact (Frame.refl _ _)

theorem sysReset_frame (d : Dev) : Frame 1342177279 d (sysReset d) := Frame.all _ _

theorem reboot_frame (t : Trans) (s : State) : SKeep 1342177279 s (reboot t s) := SKeep.mk4 (SKeep.refl _ _) (Frame.all _ _)
    (MemOk.same _ _ _ _) (MemOk.same _ _ _ _)

theorem powerOff_frame (s : State) : SKeep 1610612735 s (powerOff s) := by
  unfold powerOff
  refine SKeep.mk4 ?_ ?_ ?_ ?_
  · exact (SKeep.refl _ _)
  · refine Frame.step ?_ (domsOff_frame _) rfl
    refine Frame.step ?_ (Dev.onMode_frame _ _) rfl
    refine Frame.step ?_ (Dev.onPmu_frame _ _) rfl
    refine Frame.step ?_ (Dev.fresh_frame _) rfl
    refine SKeep.dev ?_
    exact (SKeep.refl _ _)
  · first | exact MemOk.same _ _ _ _ | exact MemOk.nil rfl | exact MemOk.writes rfl | exact MemOk.erase rfl
  · first | exact MemOk.same _ _ _ _ | exact MemOk.nil rfl | exact MemOk.writes rfl | exact MemOk.erase rfl

theorem vbkpFall_frame (mv : Nat) (s : State) : SKeep 1610612735 s (vbkpFall mv s) := by
  unfold vbkpFall
  refine SKeep.ite ?_ ?_
  · exact (SKeep.refl _ _)
  · refine SKeep.ite ?_ ?_
    · refine SKeep.step ?_ (powerOff_frame _) rfl
      refine State.on_frame _ _ rfl ?_ ?_
      · intro _ h1000
        refine Frame.step ?_ (Dev.onPmu_frame _ _) rfl
        exact h1000
      · exact (SKeep.refl _ _)
    · refine State.on_frame _ _ rfl ?_ ?_
      · intro _ h1001
        refine Frame.step ?_ (Dev.onPmu_frame _ _) rfl
        exact h1001
      · exact (SKeep.refl _ _)

theorem vbkpRise_frame (mv : Nat) (d : Dev) : Frame 23068865 d (vbkpRise mv d) := by
  unfold vbkpRise
  refine Frame.ite ?_ ?_
  · exact (Frame.refl _ _)
  · refine Frame.ite ?_ ?_
    · refine Frame.step ?_ (clearTable_frame _) rfl
      refine Frame.step ?_ (onDom_frame _ _ _) rfl
      refine Frame.step ?_ (Dev.onPmu_frame _ _) rfl
      refine Frame.step ?_ (Dev.onMode_frame _ _) rfl
      refine Frame.step ?_ (Dev.onPmu_frame _ _) rfl
      exact (Frame.refl _ _)
    · refine Frame.step ?_ (Dev.onPmu_frame _ _) rfl
      exact (Frame.refl _ _)

theorem vioMeasure_frame (mv : Nat) (d : Dev) : Frame 16777217 d (vioMeasure mv d) := by
  unfold vioMeasure
  refine Frame.ite ?_ ?_
  · exact (Frame.refl _ _)
  · refine Frame.ite ?_ ?_
    · refine Frame.step ?_ (Dev.onMode_frame _ _) rfl
      refine Frame.step ?_ (Dev.onPmu_frame _ _) rfl
      refine Frame.step ?_ (Dev.onPmu_frame _ _) rfl
      exact (Frame.refl _ _)
    · refine Frame.step ?_ (Dev.onPmu_frame _ _) rfl
      exact (Frame.refl _ _)

theorem switchOver_frame (d : Dev) : Frame 31833599 d (switchOver d) := by
  unfold switchOver
  refine Frame.step ?_ (Dev.onPmu_frame _ _) rfl
  refine Frame.ite ?_ ?_
  · refine Frame.step ?_ (coreDown_frame _) rfl
    refine Frame.step ?_ (takeDoms_frame _ _) rfl
    refine Frame.step ?_ (enterMode_frame _ _ _ _ _) rfl
    refine Frame.step ?_ (Dev.onMode_frame _ _) rfl
    refine Frame.ite ?_ ?_
    · refine Frame.step ?_ (steepLeave_frame _) rfl
      refine Frame.step ?_ (lauOff_frame _) rfl
      refine Frame.step ?_ (clearTable_frame _) rfl
      refine Frame.step ?_ (closeEnd_frame _) rfl
      refine Frame.step ?_ (probeStop_frame _) rfl
      refine Frame.step ?_ (closeAll_frame _ _ _) rfl
      refine Frame.step ?_ (stopTest_frame _ _) rfl
      refine Frame.step ?_ (stopInv_frame _) rfl
      refine Frame.step ?_ (Dev.onDrv_frame _ _) rfl
      refine Frame.step ?_ (Dev.onRoom_frame _ _) rfl
      refine Frame.step ?_ (Dev.onUhf_frame _ _) rfl
      refine Frame.step ?_ (Dev.onPmu_frame _ _) rfl
      refine Frame.step ?_ (abandonIsland_frame _) rfl
      refine Frame.step ?_ (endAll_frame _ _) rfl
      refine Frame.step ?_ (radioOff_frame _ _) rfl
      refine Frame.step ?_ (Dev.onMode_frame _ _) rfl
      refine Frame.step ?_ (msgHost_frame _ _) rfl
      exact (Frame.refl _ _)
    · refine Frame.step ?_ (lauOff_frame _) rfl
      refine Frame.step ?_ (clearTable_frame _) rfl
      refine Frame.step ?_ (closeEnd_frame _) rfl
      refine Frame.step ?_ (probeStop_frame _) rfl
      refine Frame.step ?_ (closeAll_frame _ _ _) rfl
      refine Frame.step ?_ (stopTest_frame _ _) rfl
      refine Frame.step ?_ (stopInv_frame _) rfl
      refine Frame.step ?_ (Dev.onDrv_frame _ _) rfl
      refine Frame.step ?_ (Dev.onRoom_frame _ _) rfl
      refine Frame.step ?_ (Dev.onUhf_frame _ _) rfl
      refine Frame.step ?_ (Dev.onPmu_frame _ _) rfl
      refine Frame.step ?_ (abandonIsland_frame _) rfl
      refine Frame.step ?_ (endAll_frame _ _) rfl
      refine Frame.step ?_ (radioOff_frame _ _) rfl
      refine Frame.step ?_ (Dev.onMode_frame _ _) rfl
      refine Frame.step ?_ (msgHost_frame _ _) rfl
      exact (Frame.refl _ _)
  · refine Frame.step ?_ (domDown_frame _ _) rfl
    refine Frame.step ?_ (takeDoms_frame _ _) rfl
    refine Frame.step ?_ (enterMode_frame _ _ _ _ _) rfl
    refine Frame.step ?_ (Dev.onMode_frame _ _) rfl
    refine Frame.ite ?_ ?_
    · refine Frame.step ?_ (steepLeave_frame _) rfl
      refine Frame.step ?_ (lauOff_frame _) rfl
      refine Frame.step ?_ (clearTable_frame _) rfl
      refine Frame.step ?_ (closeEnd_frame _) rfl
      refine Frame.step ?_ (probeStop_frame _) rfl
      refine Frame.step ?_ (closeAll_frame _ _ _) rfl
      refine Frame.step ?_ (stopTest_frame _ _) rfl
      refine Frame.step ?_ (stopInv_frame _) rfl
      refine Frame.step ?_ (Dev.onDrv_frame _ _) rfl
      refine Frame.step ?_ (Dev.onRoom_frame _ _) rfl
      refine Frame.step ?_ (Dev.onUhf_frame _ _) rfl
      refine Frame.step ?_ (Dev.onPmu_frame _ _) rfl
      refine Frame.step ?_ (abandonIsland_frame _) rfl
      refine Frame.step ?_ (endAll_frame _ _) rfl
      refine Frame.step ?_ (radioOff_frame _ _) rfl
      refine Frame.step ?_ (Dev.onMode_frame _ _) rfl
      refine Frame.step ?_ (msgHost_frame _ _) rfl
      exact (Frame.refl _ _)
    · refine Frame.step ?_ (lauOff_frame _) rfl
      refine Frame.step ?_ (clearTable_frame _) rfl
      refine Frame.step ?_ (closeEnd_frame _) rfl
      refine Frame.step ?_ (probeStop_frame _) rfl
      refine Frame.step ?_ (closeAll_frame _ _ _) rfl
      refine Frame.step ?_ (stopTest_frame _ _) rfl
      refine Frame.step ?_ (stopInv_frame _) rfl
      refine Frame.step ?_ (Dev.onDrv_frame _ _) rfl
      refine Frame.step ?_ (Dev.onRoom_frame _ _) rfl
      refine Frame.step ?_ (Dev.onUhf_frame _ _) rfl
      refine Frame.step ?_ (Dev.onPmu_frame _ _) rfl
      refine Frame.step ?_ (abandonIsland_frame _) rfl
      refine Frame.step ?_ (endAll_frame _ _) rfl
      refine Frame.step ?_ (radioOff_frame _ _) rfl
      refine Frame.step ?_ (Dev.onMode_frame _ _) rfl
      refine Frame.step ?_ (msgHost_frame _ _) rfl
      exact (Frame.refl _ _)

theorem restartCount_frame (d : Dev) : Frame 16777216 d (restartCount d) := by
  unfold restartCount
  refine Frame.step ?_ (Dev.onPmu_frame _ _) rfl
  exact (Frame.refl _ _)

theorem vmainFall_frame (mv : Nat) (s : State) : SKeep 1610612735 s (vmainFall mv s) := by
  unfold vmainFall
  refine SKeep.ite ?_ ?_
  · exact (SKeep.refl _ _)
  · refine SKeep.ite ?_ ?_
    · refine State.on_frame _ _ rfl ?_ ?_
      · intro _ h1000
        refine Frame.step ?_ (Dev.onPmu_frame _ _) rfl
        exact h1000
      · exact (SKeep.refl _ _)
    · refine SKeep.ite ?_ ?_
      · refine State.on_frame _ _ rfl ?_ ?_
        · intro _ h1001
          refine Frame.step ?_ (restartCount_frame _) rfl
          exact h1001
        · refine State.on_frame _ _ rfl ?_ ?_
          · intro _ h1002
            refine Frame.step ?_ (Dev.onPmu_frame _ _) rfl
            exact h1002
          · exact (SKeep.refl _ _)
      · refine SKeep.ite ?_ ?_
        · refine State.on_frame _ _ rfl ?_ ?_
          · intro _ h1003
            refine Frame.step ?_ (switchOver_frame _) rfl
            exact h1003
          · refine State.on_frame _ _ rfl ?_ ?_
            · intro _ h1004
              refine Frame.step ?_ (Dev.onPmu_frame _ _) rfl
              exact h1004
            · exact (SKeep.refl _ _)
        · refine SKeep.step ?_ (powerOff_frame _) rfl
          refine State.on_frame _ _ rfl ?_ ?_
          · intro _ h1005
            refine Frame.step ?_ (Dev.onPmu_frame _ _) rfl
            exact h1005
          · exact (SKeep.refl _ _)

theorem vmainQualified_frame (mv : Nat) (s : State) : SKeep 1610612735 s (vmainQualified mv s) := by
  unfold vmainQualified
  refine SKeep.ite ?_ ?_
  · exact (SKeep.refl _ _)
  · refine SKeep.ite ?_ ?_
    · refine SKeep.mk4 ?_ ?_ ?_ ?_
      · refine State.on_frame _ _ rfl ?_ ?_
        · intro _ h1000
          refine Frame.step ?_ (Dev.onPmu_frame _ _) rfl
          exact h1000
        · exact (SKeep.refl _ _)
      · refine Frame.step ?_ (Dev.onPmu_frame _ _) rfl
        refine Frame.step ?_ (Dev.fresh_frame _) rfl
        refine SKeep.dev ?_
        refine State.on_frame _ _ rfl ?_ ?_
        · intro _ h1001
          refine Frame.step ?_ (Dev.onPmu_frame _ _) rfl
          exact h1001
        · exact (SKeep.refl _ _)
      · first | exact MemOk.same _ _ _ _ | exact MemOk.nil rfl | exact MemOk.writes rfl | exact MemOk.erase rfl
      · first | exact MemOk.same _ _ _ _ | exact MemOk.nil rfl | exact MemOk.writes rfl | exact MemOk.erase rfl
    · refine State.on_frame _ _ rfl ?_ ?_
      · intro _ h1002
        refine Frame.step ?_ (Dev.onPmu_frame _ _) rfl
        exact h1002
      · exact (SKeep.refl _ _)

theorem vmainSag_frame (mv : Nat) (d : Dev) : Frame 16777216 d (vmainSag mv d) := by
  unfold vmainSag
  refine Frame.ite ?_ ?_
  · exact (Frame.refl _ _)
  · refine Frame.ite ?_ ?_
    · refine Frame.step ?_ (Dev.onPmu_frame _ _) rfl
      exact (Frame.refl _ _)
    · refine Frame.ite ?_ ?_
      · refine Frame.step ?_ (restartCount_frame _) rfl
        refine Frame.step ?_ (Dev.onPmu_frame _ _) rfl
        exact (Frame.refl _ _)
      · refine Frame.step ?_ (Dev.onPmu_frame _ _) rfl
        refine Frame.step ?_ (Dev.onPmu_frame _ _) rfl
        exact (Frame.refl _ _)

end Sys2Proof.Machine
end

