-- ==== Sys2Proof/Laws/KeepModeCmds.lean ====
section
/-! SUPPORT. What the operations of Machine/ModeCmds.lean leave alone. -/

namespace Sys2Proof.Machine
open Sys2Proof

theorem execBkpLowChange_frame (low : Bool) (mv : Nat) (s : State) : ONext 23068672 s.ev (execBkpLowChange low mv s) := by
  unfold execBkpLowChange
  refine ONext.onDev ?_
  intro d h
  refine Frame.step ?_ (bkpLow_frame _ _ _) rfl
  exact h

theorem execBkpReturn_frame (s : State) : ONext 65280247 s.ev (execBkpReturn s) := by
  unfold execBkpReturn
  refine ONext.onDev ?_
  intro d h
  refine Frame.step ?_ (bkpReturn_frame _) rfl
  exact h

theorem execBootDone_frame (fs : Vector (Nat × Nat) 48) (s : State) : ONext 838277623 s.ev (execBootDone fs s) := by
  unfold execBootDone
  refine ONext.next ?_
  refine SKeep.step ?_ (bootFinish_frame _ _ _) rfl
  exact SKeep.refl _ _

theorem execBootFail_frame (s : State) : ONext 838277623 s.ev (execBootFail s) := by
  unfold execBootFail
  refine ONext.next ?_
  refine SKeep.step ?_ (bootFinish_frame _ _ _) rfl
  exact SKeep.refl _ _

theorem execDrainEnd_frame (s : State) : ONext 31832573 s.ev (execDrainEnd s) := by
  unfold execDrainEnd
  refine ONext.onDev ?_
  intro d h
  split
  · refine Frame.ite ?_ ?_
    · refine Frame.step ?_ (startTrans_frame _) rfl
      exact h
    · exact h
  · exact h

theorem wakeMatch_frame (d : Dev) : Frame 32357885 d (wakeMatch d) := by
  unfold wakeMatch
  refine Frame.ite ?_ ?_
  · exact (Frame.refl _ _)
  · split
    · refine Frame.step ?_ (Dev.onHsp_frame _ _) rfl
      refine Frame.step ?_ (onDom_frame _ _ _) rfl
      refine Frame.step ?_ (beginTrans_frame _ _) rfl
      exact (Frame.refl _ _)
    · refine Frame.ite ?_ ?_
      · refine Frame.step ?_ (Dev.onHsp_frame _ _) rfl
        refine Frame.step ?_ (onDom_frame _ _ _) rfl
        refine Frame.step ?_ (beginTrans_frame _ _) rfl
        refine Frame.step ?_ (Dev.onStp_frame _ _) rfl
        refine Frame.step ?_ (Dev.onMode_frame _ _) rfl
        exact (Frame.refl _ _)
      · exact (Frame.refl _ _)

theorem execM3WakeMatch_frame (s : State) : ONext 32357885 s.ev (execM3WakeMatch s) := by
  unfold execM3WakeMatch
  refine ONext.onDev ?_
  intro d h
  refine Frame.step ?_ (wakeMatch_frame _) rfl
  exact h

theorem startHf_frame (q : Qual) (d : Dev) : Frame 23330837 d (startHf q d) := by
  unfold startHf
  refine Frame.ite ?_ ?_
  · refine Frame.step ?_ (endHfTest_frame _ _ _) rfl
    refine Frame.step ?_ (markAll_frame _ _ _ _) rfl
    refine Frame.step ?_ (rewords_frame _) rfl
    refine Frame.step ?_ (Dev.onMode_frame _ _) rfl
    exact (Frame.refl _ _)
  · refine Frame.step ?_ (markAll_frame _ _ _ _) rfl
    refine Frame.step ?_ (rewords_frame _) rfl
    refine Frame.step ?_ (Dev.onMode_frame _ _) rfl
    exact (Frame.refl _ _)

theorem holdReply_frame (d : Dev) : Frame 23330817 d (holdReply d) := by
  unfold holdReply
  split
  · split
    · refine Frame.ite ?_ ?_
      · refine Frame.step ?_ (complete_frame _ _ _ _) rfl
        refine Frame.step ?_ (Dev.onMode_frame _ _) rfl
        exact (Frame.refl _ _)
      · exact (Frame.refl _ _)
    · exact (Frame.refl _ _)
  · exact (Frame.refl _ _)

theorem startUhf_frame (tag : Fin 32) (draw : Nat) (q : Qual) (d : Dev) : Frame 23341057 d (startUhf tag draw q d) := by
  unfold startUhf
  refine Frame.step ?_ (carrierWrite_frame _ _) rfl
  refine Frame.ite ?_ ?_
  · refine Frame.step ?_ (selectHop_frame _ _) rfl
    refine Frame.step ?_ (acfgTo_frame _ _) rfl
    refine Frame.step ?_ (onCmd_frame _ _ _) rfl
    refine Frame.step ?_ (Dev.onMode_frame _ _) rfl
    exact (Frame.refl _ _)
  · refine Frame.ite ?_ ?_
    · refine Frame.step ?_ (Dev.onUhf_frame _ _) rfl
      refine Frame.step ?_ (acfgTo_frame _ _) rfl
      refine Frame.step ?_ (onCmd_frame _ _ _) rfl
      refine Frame.step ?_ (Dev.onMode_frame _ _) rfl
      exact (Frame.refl _ _)
    · refine Frame.ite ?_ ?_
      · refine Frame.step ?_ (Dev.onUhf_frame _ _) rfl
        refine Frame.step ?_ (acfgTo_frame _ _) rfl
        refine Frame.step ?_ (onCmd_frame _ _ _) rfl
        refine Frame.step ?_ (Dev.onMode_frame _ _) rfl
        exact (Frame.refl _ _)
      · refine Frame.step ?_ (hopTo_frame _ _) rfl
        refine Frame.step ?_ (acfgTo_frame _ _) rfl
        refine Frame.step ?_ (onCmd_frame _ _ _) rfl
        refine Frame.step ?_ (Dev.onMode_frame _ _) rfl
        exact (Frame.refl _ _)

theorem execQualify_frame (tag : Fin 32) (draw : Nat) (s : State) : ONext 23341077 s.ev (execQualify tag draw s) := by
  unfold execQualify
  refine ONext.onDev ?_
  intro d h
  refine begin__frame _ _ _ _ _ rfl ?_ ?_
  · intro _ _ h1000
    refine Frame.ite ?_ ?_
    · refine Frame.step ?_ (fail_frame _ _ _) rfl
      exact h1000
    · refine inMode_frame _ _ _ _ rfl ?_ ?_
      · intro _ h1001
        refine Frame.ite ?_ ?_
        · refine Frame.step ?_ (fail_frame _ _ _) rfl
          exact h1001
        · refine Frame.ite ?_ ?_
          · refine Frame.step ?_ (fail_frame _ _ _) rfl
            exact h1001
          · refine Frame.ite ?_ ?_
            · refine Frame.step ?_ (fail_frame _ _ _) rfl
              exact h1001
            · refine Frame.ite ?_ ?_
              · refine Frame.step ?_ (complete_frame _ _ _ _) rfl
                refine Frame.step ?_ (stopTest_frame _ _) rfl
                exact h1001
              · refine Frame.ite ?_ ?_
                · refine Frame.step ?_ (startHf_frame _ _) rfl
                  refine Frame.step ?_ (onCmd_frame _ _ _) rfl
                  refine Frame.step ?_ (stopTest_frame _ _) rfl
                  exact h1001
                · refine Frame.step ?_ (startUhf_frame _ _ _ _) rfl
                  refine Frame.step ?_ (onCmd_frame _ _ _) rfl
                  refine Frame.step ?_ (stopTest_frame _ _) rfl
                  exact h1001
      · exact h1000
  · refine Frame.ite ?_ ?_
    · refine Frame.step ?_ (holdReply_frame _) rfl
      exact h
    · exact h

theorem testEnded_frame (q : Qual) (d : Dev) : Frame 23332885 d (testEnded q d) := by
  unfold testEnded
  split
  · refine Frame.step ?_ (complete_frame _ _ _ _) rfl
    refine Frame.step ?_ (stopTest_frame _ _) rfl
    refine Frame.step ?_ (Dev.onMode_frame _ _) rfl
    exact (Frame.refl _ _)
  · refine Frame.step ?_ (stopTest_frame _ _) rfl
    refine Frame.step ?_ (Dev.onMode_frame _ _) rfl
    exact (Frame.refl _ _)

theorem execQualifyTestEnd_frame (s : State) : ONext 23332885 s.ev (execQualifyTestEnd s) := by
  unfold execQualifyTestEnd
  refine ONext.onDev ?_
  intro d h
  split
  · refine Frame.ite ?_ ?_
    · refine Frame.step ?_ (holdReply_frame _) rfl
      exact h
    · refine Frame.ite ?_ ?_
      · exact h
      · refine Frame.ite ?_ ?_
        · refine Frame.ite ?_ ?_
          · exact h
          · refine Frame.step ?_ (testEnded_frame _ _) rfl
            exact h
        · refine Frame.ite ?_ ?_
          · refine Frame.step ?_ (testEnded_frame _ _) rfl
            exact h
          · refine Frame.ite ?_ ?_
            · exact h
            · refine Frame.ite ?_ ?_
              · refine Frame.step ?_ (testEnded_frame _ _) rfl
                refine Frame.step ?_ (radioOff_frame _ _) rfl
                refine Frame.step ?_ (Dev.onMode_frame _ _) rfl
                exact h
              · refine Frame.step ?_ (radioOff_frame _ _) rfl
                refine Frame.step ?_ (Dev.onMode_frame _ _) rfl
                exact h
  · exact h

theorem execSetMode_frame (tag : Fin 32) (s : State) : ONext 31832573 s.ev (execSetMode tag s) := by
  unfold execSetMode
  refine beginS_frame _ _ _ _ _ rfl ?_ ?_
  · intro _ _ h1000
    refine SKeep.step ?_ (setMode_frame _ _ _) rfl
    exact h1000
  · exact (SKeep.refl _ _)

theorem execSysrstAssert_frame (s : State) : ONext 1342177279 s.ev (execSysrstAssert s) := by
  unfold execSysrstAssert
  refine ONext.onDev ?_
  intro d h
  refine Frame.ite ?_ ?_
  · refine Frame.step ?_ (Dev.onPin_frame _ _) rfl
    exact h
  · refine Frame.step ?_ (sysReset_frame _) rfl
    refine Frame.step ?_ (Dev.onPin_frame _ _) rfl
    exact h

theorem execSysrstDeassert_frame (s : State) : ONext 83886080 s.ev (execSysrstDeassert s) := by
  unfold execSysrstDeassert
  refine ONext.onDev ?_
  intro d h
  refine Frame.ite ?_ ?_
  · refine Frame.step ?_ (Dev.onPmu_frame _ _) rfl
    refine Frame.step ?_ (Dev.onPin_frame _ _) rfl
    exact h
  · refine Frame.step ?_ (Dev.onPin_frame _ _) rfl
    exact h

theorem legToM2_frame (t : Trans) (s : State) : SKeep 1342177279 s (legToM2 t s) := by
  unfold legToM2
  refine SKeep.ite ?_ ?_
  · exact (SKeep.refl _ _)
  · refine SKeep.step ?_ (reboot_frame _ _) rfl
    refine State.on_frame _ _ rfl ?_ ?_
    · intro _ h1000
      refine Frame.step ?_ (clearRoom_frame _) rfl
      refine Frame.step ?_ (endAll_frame _ _) rfl
      refine Frame.step ?_ (Dev.onMode_frame _ _) rfl
      exact h1000
    · exact (SKeep.refl _ _)

theorem execTransitionLegComplete_frame (s : State) : ONext 1342177279 s.ev (execTransitionLegComplete s) := by
  unfold execTransitionLegComplete
  dsimp only
  split
  · refine ONext.ite ?_ ?_
    · refine ONext.next ?_
      refine SKeep.step ?_ (legToM2_frame _ _) rfl
      exact SKeep.refl _ _
    · refine ONext.next ?_
      refine SKeep.step ?_ (legDone_frame _) rfl
      exact SKeep.refl _ _
  · refine ONext.next ?_
    exact SKeep.refl _ _

theorem execVbkpOkFall_frame (mv : Nat) (s : State) : ONext 1610612735 s.ev (execVbkpOkFall mv s) := by
  unfold execVbkpOkFall
  refine ONext.next ?_
  refine SKeep.step ?_ (vbkpFall_frame _ _) rfl
  exact SKeep.refl _ _

theorem execVbkpOkRise_frame (mv : Nat) (s : State) : ONext 23068865 s.ev (execVbkpOkRise mv s) := by
  unfold execVbkpOkRise
  refine ONext.onDev ?_
  intro d h
  refine Frame.step ?_ (vbkpRise_frame _ _) rfl
  exact h

theorem execVioMeasure_frame (mv : Nat) (s : State) : ONext 16777217 s.ev (execVioMeasure mv s) := by
  unfold execVioMeasure
  refine ONext.onDev ?_
  intro d h
  refine Frame.step ?_ (vioMeasure_frame _ _) rfl
  exact h

theorem execVmainQualified_frame (mv : Nat) (s : State) : ONext 1610612735 s.ev (execVmainQualified mv s) := by
  unfold execVmainQualified
  refine ONext.next ?_
  refine SKeep.step ?_ (vmainQualified_frame _ _) rfl
  exact SKeep.refl _ _

theorem execVmainSag_frame (mv : Nat) (s : State) : ONext 16777216 s.ev (execVmainSag mv s) := by
  unfold execVmainSag
  refine ONext.onDev ?_
  intro d h
  refine Frame.step ?_ (vmainSag_frame _ _) rfl
  exact h

end Sys2Proof.Machine
end

