-- ==== Sys2Proof/Laws/KeepSteep.lean ====
section
/-! SUPPORT. What the operations of Machine/Steep.lean leave alone. -/

namespace Sys2Proof.Machine
open Sys2Proof

theorem declareSteep_frame (c : Fin 192) (n : Nat) (d : Dev) : Frame 31833597 d (declareSteep c n d) := by
  unfold declareSteep
  refine Frame.ite ?_ ?_
  · refine Frame.step ?_ (Dev.onStp_frame _ _) rfl
    refine Frame.step ?_ (Dev.onStp_frame _ _) rfl
    exact (Frame.refl _ _)
  · refine Frame.step ?_ (beginTrans_frame _ _) rfl
    refine Frame.step ?_ (Dev.onStp_frame _ _) rfl
    exact (Frame.refl _ _)

theorem execSteepConfig_frame (tag : Fin 32) (s : State) : ONext 23331840 s.ev (execSteepConfig tag s) := by
  unfold execSteepConfig
  refine ONext.onDev ?_
  intro d h
  refine begin__frame _ _ _ _ _ rfl ?_ ?_
  · intro _ _ h1000
    refine Frame.ite ?_ ?_
    · refine Frame.step ?_ (fail_frame _ _ _) rfl
      exact h1000
    · refine inMode_frame _ _ _ _ rfl ?_ ?_
      · intro _ h1001
        refine Frame.ite ?_ ?_
        · refine Frame.step ?_ (fail_frame _ _ _) rfl
          exact h1001
        · refine Frame.step ?_ (complete_frame _ _ _ _) rfl
          refine Frame.step ?_ (Dev.onStp_frame _ _) rfl
          exact h1001
      · exact h1000
  · exact h

theorem execSteepConfirmEnd_frame (rs : Vector (Nat × Nat) 192) (s : State) : ONext 31833597 s.ev (execSteepConfirmEnd rs s) := by
  unfold execSteepConfirmEnd
  refine ONext.onDev ?_
  intro d h
  split
  · exact h
  · refine Frame.ite ?_ ?_
    · exact h
    · refine Frame.ite ?_ ?_
      · refine Frame.step ?_ (Dev.onStp_frame _ _) rfl
        refine Frame.step ?_ (Dev.onStp_frame _ _) rfl
        exact h
      · split
        · refine Frame.step ?_ (declareSteep_frame _ _ _) rfl
          refine Frame.step ?_ (Dev.onStp_frame _ _) rfl
          exact h
        · refine Frame.step ?_ (Dev.onStp_frame _ _) rfl
          refine Frame.step ?_ (Dev.onStp_frame _ _) rfl
          exact h

theorem execSteepConfirmStart_frame (vdrv : Vector Nat 4) (s : State) : ONext 1024 s.ev (execSteepConfirmStart vdrv s) := by
  unfold execSteepConfirmStart
  refine ONext.onDev ?_
  intro d h
  split
  · exact h
  · refine Frame.ite ?_ ?_
    · exact h
    · refine Frame.ite ?_ ?_
      · refine Frame.step ?_ (Dev.onStp_frame _ _) rfl
        exact h
      · refine Frame.step ?_ (Dev.onStp_frame _ _) rfl
        exact h

theorem execSteepSweepEnd_frame (rs : Vector (Nat × Nat) 192) (s : State) : ONext 1024 s.ev (execSteepSweepEnd rs s) := by
  unfold execSteepSweepEnd
  refine ONext.onDev ?_
  intro d h
  refine Frame.ite ?_ ?_
  · exact h
  · refine Frame.step ?_ (Dev.onStp_frame _ _) rfl
    exact h

theorem execSteepSweepStart_frame (vdrv : Vector Nat 4) (s : State) : ONext 1024 s.ev (execSteepSweepStart vdrv s) := by
  unfold execSteepSweepStart
  refine ONext.onDev ?_
  intro d h
  refine Frame.ite ?_ ?_
  · exact h
  · refine Frame.step ?_ (Dev.onStp_frame _ _) rfl
    exact h

end Sys2Proof.Machine
end

