-- ==== Sys2Proof/Laws/KeepCalibrate.lean ====
section
/-! SUPPORT. What the operations of Machine/Calibrate.lean leave alone. -/

namespace Sys2Proof.Machine
open Sys2Proof

theorem keepTables_frame (tag : Nat) (pkt : List Sys2Proof.Byte) (d : Dev) : Frame 128 d (keepTables tag pkt d) := by
  unfold keepTables
  refine Frame.ite ?_ ?_
  · refine Frame.step ?_ (Dev.onSf_frame _ _) rfl
    exact (Frame.refl _ _)
  · refine Frame.step ?_ (Dev.onSf_frame _ _) rfl
    exact (Frame.refl _ _)

theorem execCalibrateCoils_frame (tag : Fin 32) (s : State) : ONext 23330820 s.ev (execCalibrateCoils tag s) := by
  unfold execCalibrateCoils
  refine ONext.onDev ?_
  intro d h
  split
  · exact h
  · refine Frame.ite ?_ ?_
    · exact h
    · refine begin__frame _ _ _ _ _ rfl ?_ ?_
      · intro _ _ h1000
        refine Frame.ite ?_ ?_
        · refine Frame.step ?_ (fail_frame _ _ _) rfl
          exact h1000
        · refine inMode_frame _ _ _ _ rfl ?_ ?_
          · intro _ h1001
            refine Frame.ite ?_ ?_
            · exact h1001
            · refine Frame.step ?_ (Dev.onDrv_frame _ _) rfl
              refine Frame.step ?_ (onCmd_frame _ _ _) rfl
              exact h1001
          · exact h1000
      · exact h

theorem execCalibrateDone_frame (s : State) : ONext 23527700 s.ev (execCalibrateDone s) := by
  unfold execCalibrateDone
  refine ONext.onDev ?_
  intro d h
  split
  · exact h
  · refine Frame.ite ?_ ?_
    · exact h
    · refine Frame.ite ?_ ?_
      · refine Frame.step ?_ (fail_frame _ _ _) rfl
        refine Frame.step ?_ (Dev.onDrv_frame _ _) rfl
        exact h
      · refine Frame.ite ?_ ?_
        · refine Frame.step ?_ (writeRec_frame _ _ _ _ _) rfl
          refine Frame.step ?_ (takeCal_frame _ _) rfl
          refine Frame.step ?_ (Dev.onDrv_frame _ _) rfl
          exact h
        · refine Frame.step ?_ (complete_frame _ _ _ _) rfl
          refine Frame.step ?_ (takeCal_frame _ _) rfl
          refine Frame.step ?_ (Dev.onDrv_frame _ _) rfl
          exact h

theorem execInvalidRunEnd_frame (c : Fin 192) (s : State) : ONext 16 s.ev (execInvalidRunEnd c s) := by
  unfold execInvalidRunEnd
  refine ONext.onDev ?_
  intro d h
  refine Frame.ite ?_ ?_
  · refine Frame.step ?_ (onCh_frame _ _ _) rfl
    exact h
  · exact h

theorem onSnap_frame (b : Fin 2) (x : Option Snap) (d : Dev) : Frame 128 d (onSnap b x d) := by
  unfold onSnap
  refine Frame.step ?_ (Dev.onSf_frame _ _) rfl
  exact (Frame.refl _ _)

theorem snapPage_frame (tag : Fin 32) (b : Fin 2) (x : Snap) (cursor : Nat) (release : Bool) (d : Dev) : Frame 23330944 d
    (snapPage tag b x cursor release d) := by
  unfold snapPage
  refine Frame.step ?_ (complete_frame _ _ _ _) rfl
  refine Frame.step ?_ (onSnap_frame _ _ _) rfl
  exact (Frame.refl _ _)

theorem execSnapshot_frame (tag : Fin 32) (s : State) : ONext 23330944 s.ev (execSnapshot tag s) := by
  unfold execSnapshot
  refine ONext.onDev ?_
  intro d h
  refine begin__frame _ _ _ _ _ rfl ?_ ?_
  · intro _ _ h1000
    refine Frame.ite ?_ ?_
    · refine Frame.step ?_ (fail_frame _ _ _) rfl
      exact h1000
    · refine Frame.ite ?_ ?_
      · refine Frame.ite ?_ ?_
        · refine Frame.step ?_ (fail_frame _ _ _) rfl
          exact h1000
        · refine inMode_frame _ _ _ _ rfl ?_ ?_
          · intro _ h1001
            split
            · refine Frame.step ?_ (fail_frame _ _ _) rfl
              exact h1001
            · refine Frame.step ?_ (snapPage_frame _ _ _ _ _ _) rfl
              refine Frame.step ?_ (Dev.onSf_frame _ _) rfl
              exact h1001
          · exact h1000
      · refine Frame.dite ?_ ?_
        · intro _
          refine inMode_frame _ _ _ _ rfl ?_ ?_
          · intro _ h1002
            split
            · refine Frame.step ?_ (fail_frame _ _ _) rfl
              exact h1002
            · refine Frame.ite ?_ ?_
              · refine Frame.step ?_ (snapPage_frame _ _ _ _ _ _) rfl
                exact h1002
              · refine Frame.step ?_ (fail_frame _ _ _) rfl
                exact h1002
          · exact h1000
        · intro _
          refine Frame.step ?_ (fail_frame _ _ _) rfl
          exact h1000
  · exact h

theorem execSnapshotReleaseTimeout_frame (b : Fin 2) (s : State) : ONext 128 s.ev (execSnapshotReleaseTimeout b s) := by
  unfold execSnapshotReleaseTimeout
  refine ONext.onDev ?_
  intro d h
  split
  · refine Frame.ite ?_ ?_
    · refine Frame.step ?_ (onSnap_frame _ _ _) rfl
      exact h
    · exact h
  · exact h

end Sys2Proof.Machine
end

