-- ==== Sys2Proof/Laws/KeepCaskCmds.lean ====
section
/-! SUPPORT. What the operations of Machine/CaskCmds.lean leave alone. -/

namespace Sys2Proof.Machine
open Sys2Proof

theorem whileRun_frame (f : Cask → Cask) (d : Dev) : Frame 16384 d (whileRun f d) := by
  unfold whileRun
  refine Frame.ite ?_ ?_
  · refine Frame.step ?_ (Dev.onCask_frame _ _) rfl
    exact (Frame.refl _ _)
  · exact (Frame.refl _ _)

theorem execAdjBadCommand_frame (cmd : BitVec 8) (s : State) : ONext 16384 s.ev (execAdjBadCommand cmd s) := by
  unfold execAdjBadCommand
  refine ONext.onDev ?_
  intro d h
  refine Frame.step ?_ (whileRun_frame _ _) rfl
  exact h

theorem execAdjCommit_frame (s : State) : ONext 16384 s.ev (execAdjCommit s) := by
  unfold execAdjCommit
  refine ONext.onDev ?_
  intro d h
  refine Frame.step ?_ (whileRun_frame _ _) rfl
  exact h

theorem execAdjFrameTimeout_frame (s : State) : ONext 16384 s.ev (execAdjFrameTimeout s) := by
  unfold execAdjFrameTimeout
  refine ONext.onDev ?_
  intro d h
  refine Frame.step ?_ (whileRun_frame _ _) rfl
  exact h

theorem execAdjIdent_frame (s : State) : ONext 16384 s.ev (execAdjIdent s) := by
  unfold execAdjIdent
  refine ONext.onDev ?_
  intro d h
  refine Frame.step ?_ (whileRun_frame _ _) rfl
  exact h

theorem execAdjLive_frame (s : State) : ONext 16384 s.ev (execAdjLive s) := by
  unfold execAdjLive
  refine ONext.onDev ?_
  intro d h
  refine Frame.step ?_ (whileRun_frame _ _) rfl
  exact h

theorem execAdjParamRead_frame (id : Nat) (s : State) : ONext 16384 s.ev (execAdjParamRead id s) := by
  unfold execAdjParamRead
  refine ONext.onDev ?_
  intro d h
  refine Frame.step ?_ (whileRun_frame _ _) rfl
  exact h

theorem execAdjParamStage_frame (id : Nat) (v : Sys2Proof.Word) (s : State) : ONext 16384 s.ev (execAdjParamStage id v s) := by
  unfold execAdjParamStage
  refine ONext.onDev ?_
  intro d h
  refine Frame.step ?_ (whileRun_frame _ _) rfl
  exact h

theorem execAdjStageDiscard_frame (s : State) : ONext 16384 s.ev (execAdjStageDiscard s) := by
  unfold execAdjStageDiscard
  refine ONext.onDev ?_
  intro d h
  refine Frame.step ?_ (whileRun_frame _ _) rfl
  exact h

theorem execCaskCycleEnd_frame (ns : Nat) (y1 : List CSample) (s : State) : ONext 16384 s.ev (execCaskCycleEnd ns y1 s) := by
  unfold execCaskCycleEnd
  refine ONext.onDev ?_
  intro d h
  refine Frame.step ?_ (whileRun_frame _ _) rfl
  exact h

theorem execCaskEraseDone_frame (s : State) : ONext 16384 s.ev (execCaskEraseDone s) := by
  unfold execCaskEraseDone
  refine ONext.onDev ?_
  intro d h
  refine Frame.step ?_ (whileRun_frame _ _) rfl
  exact h

theorem execCaskFrameReceive_frame (noise : List Sys2Proof.Byte) (s : State) : ONext 23379968 s.ev (execCaskFrameReceive noise
    s) := by
  unfold execCaskFrameReceive
  refine ONext.onDev ?_
  intro d h
  split
  · refine Frame.ite ?_ ?_
    · refine Frame.step ?_ (Dev.onCask_frame _ _) rfl
      exact h
    · split
      · refine Frame.step ?_ (linkFrame_frame _ _) rfl
        refine Frame.step ?_ (Dev.onCask_frame _ _) rfl
        exact h
      · refine Frame.step ?_ (Dev.onCl_frame _ _) rfl
        refine Frame.step ?_ (Dev.onCask_frame _ _) rfl
        exact h
  · exact h

theorem execCaskHoldReset_frame (n : Fin 14) (part : Bool) (s : State) : ONext 16384 s.ev (execCaskHoldReset n part s) := by
  unfold execCaskHoldReset
  refine ONext.onDev ?_
  intro d h
  refine Frame.ite ?_ ?_
  · refine Frame.step ?_ (Dev.onCask_frame _ _) rfl
    exact h
  · exact h

theorem execCaskLinkTimeout_frame (s : State) : ONext 32768 s.ev (execCaskLinkTimeout s) := by
  unfold execCaskLinkTimeout
  refine ONext.onDev ?_
  intro d h
  split
  · refine Frame.ite ?_ ?_
    · refine Frame.step ?_ (Dev.onCl_frame _ _) rfl
      exact h
    · exact h
  · exact h

theorem execCaskPowerFail_frame (s : State) : ONext 16384 s.ev (execCaskPowerFail s) := by
  unfold execCaskPowerFail
  refine ONext.onDev ?_
  intro d h
  refine Frame.step ?_ (whileRun_frame _ _) rfl
  exact h

theorem execCaskPowerOn_frame (rom : Bool) (ram : Bool) (conv : Bool) (cbkp : Bool) (s : State) : ONext 16384 s.ev
    (execCaskPowerOn rom ram conv cbkp s) := by
  unfold execCaskPowerOn
  refine ONext.onDev ?_
  intro d h
  refine Frame.ite ?_ ?_
  · refine Frame.step ?_ (Dev.onCask_frame _ _) rfl
    exact h
  · exact h

theorem execCaskQuery_frame (s : State) : ONext 16384 s.ev (execCaskQuery s) := by
  unfold execCaskQuery
  refine ONext.onDev ?_
  intro d h
  refine Frame.step ?_ (whileRun_frame _ _) rfl
  exact h

theorem execCaskQueryTimeout_frame (s : State) : ONext 23379968 s.ev (execCaskQueryTimeout s) := by
  unfold execCaskQueryTimeout
  refine ONext.onDev ?_
  intro d h
  refine Frame.ite ?_ ?_
  · refine Frame.step ?_ (linkNext_frame _) rfl
    refine Frame.step ?_ (queryLost_frame _) rfl
    refine Frame.step ?_ (msgSc_frame _ _) rfl
    refine Frame.step ?_ (Dev.onCl_frame _ _) rfl
    exact h
  · exact h

theorem execCaskRead_frame (tag : Fin 32) (s : State) : ONext 23379968 s.ev (execCaskRead tag s) := by
  unfold execCaskRead
  refine ONext.onDev ?_
  intro d h
  refine begin__frame _ _ _ _ _ rfl ?_ ?_
  · intro _ _ h1000
    refine Frame.ite ?_ ?_
    · refine Frame.step ?_ (fail_frame _ _ _) rfl
      exact h1000
    · refine inMode_frame _ _ _ _ rfl ?_ ?_
      · intro _ h1001
        refine Frame.ite ?_ ?_
        · refine Frame.step ?_ (fail_frame _ _ _) rfl
          exact h1001
        · refine Frame.ite ?_ ?_
          · refine Frame.step ?_ (complete_frame _ _ _ _) rfl
            exact h1001
          · refine Frame.ite ?_ ?_
            · refine Frame.step ?_ (complete_frame _ _ _ _) rfl
              exact h1001
            · refine Frame.step ?_ (linkNext_frame _) rfl
              refine Frame.step ?_ (onCmd_frame _ _ _) rfl
              exact h1001
      · exact h1000
  · exact h

theorem execCaskRegsTimer_frame (s : State) : ONext 16384 s.ev (execCaskRegsTimer s) := by
  unfold execCaskRegsTimer
  refine ONext.onDev ?_
  intro d h
  refine Frame.step ?_ (whileRun_frame _ _) rfl
  exact h

theorem execCaskSupplyRecover_frame (s : State) : ONext 16384 s.ev (execCaskSupplyRecover s) := by
  unfold execCaskSupplyRecover
  refine ONext.onDev ?_
  intro d h
  refine Frame.ite ?_ ?_
  · refine Frame.step ?_ (Dev.onCask_frame _ _) rfl
    exact h
  · exact h

theorem execCaskSupplySwitch_frame (cbkp : Bool) (s : State) : ONext 16384 s.ev (execCaskSupplySwitch cbkp s) := by
  unfold execCaskSupplySwitch
  refine ONext.onDev ?_
  intro d h
  refine Frame.step ?_ (whileRun_frame _ _) rfl
  exact h

theorem execCaskTimedCommit_frame (s : State) : ONext 16384 s.ev (execCaskTimedCommit s) := by
  unfold execCaskTimedCommit
  refine ONext.onDev ?_
  intro d h
  refine Frame.step ?_ (whileRun_frame _ _) rfl
  exact h

theorem execSealChange_frame (low : Bool) (s : State) : ONext 16384 s.ev (execSealChange low s) := by
  unfold execSealChange
  refine ONext.onDev ?_
  intro d h
  refine Frame.step ?_ (whileRun_frame _ _) rfl
  exact h

end Sys2Proof.Machine
end

