-- ==== Sys2Proof/Laws/KeepNcp.lean ====
section
/-! SUPPORT. What the operations of Machine/Ncp.lean leave alone. -/

namespace Sys2Proof.Machine
open Sys2Proof

theorem haltCal_frame (st : Status) (tag : Fin 32) (d : Dev) : Frame 23332868 d (haltCal st tag d) := by
  unfold haltCal
  refine Frame.ite ?_ ?_
  · refine Frame.step ?_ (fail_frame _ _ _) rfl
    refine Frame.step ?_ (radioOff_frame _ _) rfl
    refine Frame.step ?_ (Dev.onUhf_frame _ _) rfl
    exact (Frame.refl _ _)
  · refine Frame.ite ?_ ?_
    · refine Frame.step ?_ (fail_frame _ _ _) rfl
      refine Frame.step ?_ (Dev.onDrv_frame _ _) rfl
      exact (Frame.refl _ _)
    · refine Frame.step ?_ (fail_frame _ _ _) rfl
      exact (Frame.refl _ _)

theorem haltAbort_frame (st : Status) (tag : Fin 32) (d : Dev) : Frame 23330816 d (haltAbort st tag d) := by
  unfold haltAbort
  split
  · refine Frame.step ?_ (complete_frame _ _ _ _) rfl
    refine Frame.step ?_ (Dev.onNcp_frame _ _) rfl
    exact (Frame.refl _ _)
  · refine Frame.step ?_ (fail_frame _ _ _) rfl
    exact (Frame.refl _ _)

theorem haltInv_frame (st : Status) (tag : Fin 32) (c : Cmd) (d : Dev) : Frame 23341057 d (haltInv st tag c d) := by
  unfold haltInv
  refine Frame.ite ?_ ?_
  · refine Frame.step ?_ (endOnce_frame _ _) rfl
    exact (Frame.refl _ _)
  · refine Frame.step ?_ (complete_frame _ _ _ _) rfl
    refine Frame.ite ?_ ?_
    · refine Frame.step ?_ (stopInv_frame _) rfl
      refine Frame.step ?_ (Dev.onRoom_frame _ _) rfl
      exact (Frame.refl _ _)
    · refine Frame.step ?_ (Dev.onRoom_frame _ _) rfl
      exact (Frame.refl _ _)

theorem haltX_frame (st : Status) (tag : Fin 32) (c : Cmd) (d : Dev) : Frame 23331200 d (haltX st tag c d) := by
  unfold haltX
  refine Frame.step ?_ (touchZone_frame _ _) rfl
  refine Frame.ite ?_ ?_
  · refine Frame.step ?_ (stopFrames_frame _ _ _ _) rfl
    refine Frame.ite ?_ ?_
    · refine Frame.step ?_ (onEntry_frame _ _ _) rfl
      exact (Frame.refl _ _)
    · exact (Frame.refl _ _)
  · refine Frame.step ?_ (finishX_frame _ _ _ _) rfl
    refine Frame.ite ?_ ?_
    · refine Frame.step ?_ (onEntry_frame _ _ _) rfl
      exact (Frame.refl _ _)
    · exact (Frame.refl _ _)

theorem halt_frame (st : Status) (tag : Fin 32) (d : Dev) : Frame 23443933 d (halt st tag d) := by
  unfold halt
  split
  · exact (Frame.refl _ _)
  · refine Frame.ite ?_ ?_
    · refine Frame.step ?_ (fail_frame _ _ _) rfl
      exact (Frame.refl _ _)
    · refine Frame.ite ?_ ?_
      · exact (Frame.refl _ _)
      · refine Frame.ite ?_ ?_
        · refine Frame.step ?_ (aerialLimit_frame _ _) rfl
          exact (Frame.refl _ _)
        · refine Frame.ite ?_ ?_
          · refine Frame.step ?_ (fail_frame _ _ _) rfl
            refine Frame.step ?_ (Dev.onMode_frame _ _) rfl
            exact (Frame.refl _ _)
          · refine Frame.ite ?_ ?_
            · refine Frame.step ?_ (haltAbort_frame _ _ _) rfl
              exact (Frame.refl _ _)
            · refine Frame.ite ?_ ?_
              · refine Frame.step ?_ (haltX_frame _ _ _ _) rfl
                exact (Frame.refl _ _)
              · refine Frame.ite ?_ ?_
                · refine Frame.step ?_ (rampFail_frame _ _ _ _ _) rfl
                  exact (Frame.refl _ _)
                · refine Frame.ite ?_ ?_
                  · refine Frame.step ?_ (touchZone_frame _ _) rfl
                    refine Frame.step ?_ (finishX_frame _ _ _ _) rfl
                    exact (Frame.refl _ _)
                  · refine Frame.ite ?_ ?_
                    · refine Frame.step ?_ (haltInv_frame _ _ _ _) rfl
                      exact (Frame.refl _ _)
                    · refine Frame.ite ?_ ?_
                      · refine Frame.step ?_ (stopAcc_frame _ _ _ _) rfl
                        refine Frame.step ?_ (withdraw_frame _ _) rfl
                        exact (Frame.refl _ _)
                      · refine Frame.ite ?_ ?_
                        · refine Frame.step ?_ (haltCal_frame _ _ _) rfl
                          exact (Frame.refl _ _)
                        · refine Frame.ite ?_ ?_
                          · refine Frame.step ?_ (stopTest_frame _ _) rfl
                            exact (Frame.refl _ _)
                          · refine Frame.step ?_ (fail_frame _ _ _) rfl
                            refine Frame.step ?_ (detach_frame _ _) rfl
                            refine Frame.step ?_ (dropRead_frame _ _) rfl
                            refine Frame.step ?_ (withdraw_frame _ _) rfl
                            refine Frame.step ?_ (Dev.onPmu_frame _ _) rfl
                            exact (Frame.refl _ _)

theorem stopOne_frame (d : Dev) (t : Fin 32) : Frame 23443933 d (stopOne d t) := by
  unfold stopOne
  split
  · split
    · refine Frame.step ?_ (halt_frame _ _ _) rfl
      exact (Frame.refl _ _)
    · refine Frame.step ?_ (onCmd_frame _ _ _) rfl
      exact (Frame.refl _ _)
    · exact (Frame.refl _ _)
  · exact (Frame.refl _ _)

theorem abort_frame (tag : Fin 32) (c : Cmd) (d : Dev) : Frame 23443933 d (abort tag c d) := by
  unfold abort
  refine Frame.ite ?_ ?_
  · refine Frame.step ?_ (complete_frame _ _ _ _) rfl
    exact (Frame.refl _ _)
  · refine Frame.foldl ?_ ?_
    · refine Frame.step ?_ (onCmd_frame _ _ _) rfl
      refine Frame.step ?_ (Dev.onNcp_frame _ _) rfl
      exact (Frame.refl _ _)
    · intro _ _ h1000
      refine Frame.step ?_ (stopOne_frame _ _) rfl
      exact h1000

theorem refuse_frame (pkt : List Sys2Proof.Byte) (st : Status) (reason : Nat) (d : Dev) : Frame 23330816 d (refuse pkt st
    reason d) := by
  unfold refuse
  refine Frame.ite ?_ ?_
  · refine Frame.step ?_ (Dev.onNcp_frame _ _) rfl
    refine Frame.step ?_ (Dev.onNcp_frame _ _) rfl
    exact (Frame.refl _ _)
  · refine Frame.step ?_ (pushItem_frame _ _ _ _) rfl
    refine Frame.step ?_ (Dev.onNcp_frame _ _) rfl
    refine Frame.step ?_ (Dev.onNcp_frame _ _) rfl
    exact (Frame.refl _ _)

theorem accept_frame (pkt : List Sys2Proof.Byte) (d : Dev) : Frame 23330944 d (accept pkt d) := by
  unfold accept
  split
  · refine Frame.step ?_ (refuse_frame _ _ _ _) rfl
    exact (Frame.refl _ _)
  · refine Frame.step ?_ (sweep_frame _ _) rfl
    refine Frame.step ?_ (Dev.onNcp_frame _ _) rfl
    refine Frame.step ?_ (keepTables_frame _ _ _) rfl
    exact (Frame.refl _ _)

theorem execAbort_frame (tag : Fin 32) (s : State) : ONext 23443933 s.ev (execAbort tag s) := by
  unfold execAbort
  refine ONext.onDev ?_
  intro d h
  refine begin__frame _ _ _ _ _ rfl ?_ ?_
  · intro _ _ h1000
    refine Frame.ite ?_ ?_
    · refine Frame.step ?_ (fail_frame _ _ _) rfl
      exact h1000
    · refine inMode_frame _ _ _ _ rfl ?_ ?_
      · intro _ h1001
        refine Frame.step ?_ (abort_frame _ _ _) rfl
        exact h1001
      · exact h1000
  · exact h

theorem execCommandDeadline_frame (tag : Fin 32) (s : State) : ONext 23443933 s.ev (execCommandDeadline tag s) := by
  unfold execCommandDeadline
  refine ONext.onDev ?_
  intro d h
  split
  · refine Frame.ite ?_ ?_
    · refine Frame.step ?_ (halt_frame _ _ _) rfl
      exact h
    · exact h
  · exact h

theorem execCommandGuard_frame (tag : Fin 32) (s : State) : ONext 23443933 s.ev (execCommandGuard tag s) := by
  unfold execCommandGuard
  refine ONext.onDev ?_
  intro d h
  split
  · refine Frame.ite ?_ ?_
    · refine Frame.ite ?_ ?_
      · refine Frame.step ?_ (halt_frame _ _ _) rfl
        exact h
      · refine Frame.step ?_ (pushDiag_frame _ _ _) rfl
        refine Frame.step ?_ (Dev.onNcp_frame _ _) rfl
        refine Frame.step ?_ (halt_frame _ _ _) rfl
        exact h
    · exact h
  · exact h

theorem execEcho_frame (tag : Fin 32) (s : State) : ONext 23330816 s.ev (execEcho tag s) := by
  unfold execEcho
  refine ONext.onDev ?_
  intro d h
  refine begin__frame _ _ _ _ _ rfl ?_ ?_
  · intro _ _ h1000
    refine Frame.ite ?_ ?_
    · refine Frame.step ?_ (fail_frame _ _ _) rfl
      exact h1000
    · refine inMode_frame _ _ _ _ rfl ?_ ?_
      · intro _ h1001
        refine Frame.ite ?_ ?_
        · refine Frame.step ?_ (complete_frame _ _ _ _) rfl
          exact h1001
        · refine Frame.step ?_ (onCmd_frame _ _ _) rfl
          exact h1001
      · exact h1000
  · exact h

theorem execEchoHoldEnd_frame (tag : Fin 32) (s : State) : ONext 23330816 s.ev (execEchoHoldEnd tag s) := by
  unfold execEchoHoldEnd
  refine ONext.onDev ?_
  intro d h
  split
  · refine Frame.ite ?_ ?_
    · refine Frame.ite ?_ ?_
      · refine Frame.step ?_ (fail_frame _ _ _) rfl
        exact h
      · refine Frame.step ?_ (complete_frame _ _ _ _) rfl
        exact h
    · exact h
  · exact h

theorem execGetStatus_frame (tag : Fin 32) (s : State) : ONext 23330816 s.ev (execGetStatus tag s) := by
  unfold execGetStatus
  refine ONext.onDev ?_
  intro d h
  refine begin__frame _ _ _ _ _ rfl ?_ ?_
  · intro _ _ h1000
    refine inMode_frame _ _ _ _ rfl ?_ ?_
    · intro _ h1001
      refine Frame.step ?_ (complete_frame _ _ _ _) rfl
      exact h1001
    · exact h1000
  · exact h

theorem workStop_frame (tag : Fin 32) (d : Dev) : Frame 23443933 d (workStop tag d) := by
  unfold workStop
  split
  · refine Frame.ite ?_ ?_
    · refine Frame.step ?_ (halt_frame _ _ _) rfl
      exact (Frame.refl _ _)
    · exact (Frame.refl _ _)
  · exact (Frame.refl _ _)

theorem execWorkStopBeforeDeadline_frame (tag : Fin 32) (s : State) : ONext 23443933 s.ev (execWorkStopBeforeDeadline tag s) := by
  unfold execWorkStopBeforeDeadline
  refine ONext.onDev ?_
  intro d h
  refine Frame.step ?_ (workStop_frame _ _) rfl
  exact h

theorem execWtxWaitLimit_frame (tag : Fin 32) (s : State) : ONext 23331200 s.ev (execWtxWaitLimit tag s) := by
  unfold execWtxWaitLimit
  refine ONext.onDev ?_
  intro d h
  split
  · refine Frame.ite ?_ ?_
    · refine Frame.step ?_ (onEntry_frame _ _ _) rfl
      refine Frame.step ?_ (touchZone_frame _ _) rfl
      refine Frame.step ?_ (stopFrames_frame _ _ _ _) rfl
      refine Frame.step ?_ (onCmd_frame _ _ _) rfl
      exact h
    · exact h
  · exact h

end Sys2Proof.Machine
end

