-- ==== Sys2Proof/Laws/KeepRouter.lean ====
section
/-! SUPPORT. What the operations of Machine/Router.lean leave alone. -/

namespace Sys2Proof.Machine
open Sys2Proof

theorem sampleLine_frame (id : SrcId) (d : Dev) : Frame 18874368 d (sampleLine id d) := by
  unfold sampleLine
  refine Frame.ite ?_ ?_
  · refine Frame.step ?_ (wakeCore_frame _ _) rfl
    refine Frame.step ?_ (modUpdateN_frame _ _) rfl
    refine Frame.step ?_ (onSrc_frame _ _ _) rfl
    exact (Frame.refl _ _)
  · refine Frame.step ?_ (modUpdateN_frame _ _) rfl
    refine Frame.step ?_ (onSrc_frame _ _ _) rfl
    exact (Frame.refl _ _)

theorem sampleLines_frame (d : Dev) : Frame 18874368 d (sampleLines d) := by
  unfold sampleLines
  refine Frame.foldl ?_ ?_
  · exact (Frame.refl _ _)
  · intro _ _ h1000
    refine Frame.step ?_ (sampleLine_frame _ _) rfl
    exact h1000

theorem srcWrite_frame (id : SrcId) (sense : Option Nat) (en : Option Bool) (clr : Bool) (d : Dev) : Frame 18874368 d
    (srcWrite id sense en clr d) := by
  unfold srcWrite
  refine Frame.ite ?_ ?_
  · refine Frame.step ?_ (wakeCore_frame _ _) rfl
    refine Frame.step ?_ (sampleLine_frame _ _) rfl
    refine Frame.step ?_ (onSrc_frame _ _ _) rfl
    exact (Frame.refl _ _)
  · refine Frame.step ?_ (sampleLine_frame _ _) rfl
    refine Frame.step ?_ (onSrc_frame _ _ _) rfl
    exact (Frame.refl _ _)

theorem setTarget_frame (i : Fin 288) (t : Nat) (d : Dev) : Frame 18874368 d (setTarget i t d) := by
  unfold setTarget
  refine Frame.ite ?_ ?_
  · refine Frame.ite ?_ ?_
    · refine Frame.step ?_ (wakeCore_frame _ _) rfl
      refine Frame.step ?_ (modUpdateN_frame _ _) rfl
      refine Frame.step ?_ (modUpdateN_frame _ _) rfl
      refine Frame.step ?_ (Dev.onEvr_frame _ _) rfl
      exact (Frame.refl _ _)
    · refine Frame.step ?_ (modUpdateN_frame _ _) rfl
      refine Frame.step ?_ (modUpdateN_frame _ _) rfl
      refine Frame.step ?_ (Dev.onEvr_frame _ _) rfl
      exact (Frame.refl _ _)
  · exact (Frame.refl _ _)

theorem srcRegWrite_frame (sc : Bool) (id : SrcId) (v : Nat) (d : Dev) : Frame 18874368 d (srcRegWrite sc id v d) := by
  unfold srcRegWrite
  split
  · refine Frame.ite ?_ ?_
    · refine Frame.step ?_ (setTarget_frame _ _ _) rfl
      refine Frame.ite ?_ ?_
      · refine Frame.step ?_ (onSrc_frame _ _ _) rfl
        refine Frame.step ?_ (srcWrite_frame _ _ _ _ _) rfl
        exact (Frame.refl _ _)
      · refine Frame.step ?_ (srcWrite_frame _ _ _ _ _) rfl
        exact (Frame.refl _ _)
    · refine Frame.step ?_ (srcWrite_frame _ _ _ _ _) rfl
      exact (Frame.refl _ _)
  · refine Frame.step ?_ (srcWrite_frame _ _ _ _ _) rfl
    exact (Frame.refl _ _)

theorem modWrite_frame (t : Fin 6) (v : Nat) (d : Dev) : Frame 2097152 d (modWrite t v d) := by
  unfold modWrite
  refine Frame.step ?_ (modUpdate_frame _ _) rfl
  refine Frame.step ?_ (Dev.onEvr_frame _ _) rfl
  exact (Frame.refl _ _)

theorem doorbell_frame (w : Fin 6) (n : Nat) (tgt : Nat) (d : Dev) : Frame 18874368 d (doorbell w n tgt d) := by
  unfold doorbell
  split
  · refine Frame.step ?_ (message_frame _ _) rfl
    exact (Frame.refl _ _)
  · refine Frame.step ?_ (Dev.onEvr_frame _ _) rfl
    exact (Frame.refl _ _)

theorem stray_frame (t : Fin 6) (d : Dev) : Frame 2097152 d (stray t d) := by
  unfold stray
  refine Frame.step ?_ (Dev.onEvr_frame _ _) rfl
  exact (Frame.refl _ _)

theorem eoi_frame (t : Fin 6) (n : Nat) (d : Dev) : Frame 2097152 d (eoi t n d) := by
  unfold eoi
  split
  · refine Frame.step ?_ (stray_frame _ _) rfl
    exact (Frame.refl _ _)
  · refine Frame.ite ?_ ?_
    · refine Frame.step ?_ (modUpdate_frame _ _) rfl
      refine Frame.step ?_ (onSrc_frame _ _ _) rfl
      exact (Frame.refl _ _)
    · refine Frame.step ?_ (stray_frame _ _) rfl
      exact (Frame.refl _ _)

theorem readOut_frame (v : Nat) (d : Dev) : Frame 134217728 d (readOut v d) := by
  unfold readOut
  refine Frame.step ?_ (Dev.onBus_frame _ _) rfl
  exact (Frame.refl _ _)

theorem claim_frame (t : Fin 6) (d : Dev) : Frame 2097152 d (claim t d).2 := by
  unfold claim
  split
  · exact (Frame.refl _ _)
  · split
    · split
      · refine Frame.step ?_ (modUpdate_frame _ _) rfl
        refine Frame.step ?_ (onSrc_frame _ _ _) rfl
        exact (Frame.refl _ _)
      · exact (Frame.refl _ _)
    · exact (Frame.refl _ _)

theorem execEvrSourceFault_frame (n : Fin 32) (s : State) : ONext 23068672 s.ev (execEvrSourceFault n s) := by
  unfold execEvrSourceFault
  refine ONext.onDev ?_
  intro d h
  refine Frame.ite ?_ ?_
  · refine Frame.step ?_ (pushDiag_frame _ _ _) rfl
    refine Frame.step ?_ (onSrc_frame _ _ _) rfl
    exact h
  · exact h

theorem execModerationTimeout_frame (t : Fin 6) (s : State) : ONext 2097152 s.ev (execModerationTimeout t s) := by
  unfold execModerationTimeout
  refine ONext.onDev ?_
  intro d h
  refine Frame.step ?_ (modUpdate_frame _ _) rfl
  exact h

theorem execSourceLineChange_frame (id : SrcId) (s : State) : ONext 18874368 s.ev (execSourceLineChange id s) := by
  unfold execSourceLineChange
  refine ONext.onDev ?_
  intro d h
  refine Frame.step ?_ (sampleLine_frame _ _) rfl
  exact h

theorem execSourceMessage_frame (id : SrcId) (s : State) : ONext 18874368 s.ev (execSourceMessage id s) := by
  unfold execSourceMessage
  refine ONext.onDev ?_
  intro d h
  refine Frame.step ?_ (message_frame _ _) rfl
  exact h

end Sys2Proof.Machine
end

