-- ==== Sys2Proof/Laws/KeepQueueCmds.lean ====
section
/-! SUPPORT. What the operations of Machine/QueueCmds.lean leave alone. -/

namespace Sys2Proof.Machine
open Sys2Proof

theorem onGt_frame (n : Fin 32) (f : Gt → Gt) (d : Dev) : Frame 8388608 d (onGt n f d) := by
  unfold onGt
  refine Frame.step ?_ (Dev.onTim_frame _ _) rfl
  exact (Frame.refl _ _)

theorem gtFire_frame (n : Fin 32) (d : Dev) : Frame 27262976 d (gtFire n d) := by
  unfold gtFire
  split
  · refine Frame.step ?_ (message_frame _ _) rfl
    refine Frame.step ?_ (onGt_frame _ _ _) rfl
    exact (Frame.refl _ _)
  · exact (Frame.refl _ _)

theorem onZt_frame (n : Fin 24) (k : Fin 2) (f : ZTimer → ZTimer) (d : Dev) : Frame 8388608 d (onZt n k f d) := by
  unfold onZt
  refine Frame.step ?_ (Dev.onTim_frame _ _) rfl
  exact (Frame.refl _ _)

theorem ztFire_frame (n : Fin 24) (k : Fin 2) (d : Dev) : Frame 27262976 d (ztFire n k d) := by
  unfold ztFire
  refine Frame.ite ?_ ?_
  · refine Frame.step ?_ (msgZone_frame _ _ _) rfl
    refine Frame.step ?_ (onZt_frame _ _ _ _) rfl
    exact (Frame.refl _ _)
  · exact (Frame.refl _ _)

theorem fireTimers_frame (d : Dev) : Frame 27262976 d (fireTimers d) := by
  unfold fireTimers
  refine Frame.foldl ?_ ?_
  · refine Frame.foldl ?_ ?_
    · exact (Frame.refl _ _)
    · intro _ _ h1000
      refine Frame.step ?_ (gtFire_frame _ _) rfl
      exact h1000
  · intro _ _ h1001
    refine Frame.step ?_ (ztFire_frame _ _ _) rfl
    exact h1001

theorem flushAll_frame (d : Dev) : Frame 1077936128 d (flushAll d) := by
  unfold flushAll
  refine Frame.step ?_ (Dev.onCyc_frame _ _) rfl
  refine Frame.foldl ?_ ?_
  · exact (Frame.refl _ _)
  · intro _ _ h1000
    split
    · exact h1000
    · refine Frame.step ?_ (onQueue_frame _ _ _) rfl
      exact h1000
    · refine Frame.step ?_ (onQueue_frame _ _ _) rfl
      exact h1000

theorem pushHeader_frame (q : QId) (w : Sys2Proof.Word) (d : Dev) : Frame 23068672 d (pushHeader q w d) := by
  unfold pushHeader
  refine Frame.ite ?_ ?_
  · refine Frame.step ?_ (onQueue_frame _ _ _) rfl
    exact (Frame.refl _ _)
  · refine Frame.ite ?_ ?_
    · refine Frame.step ?_ (wmMessage_frame _ _ _) rfl
      refine Frame.step ?_ (onQueue_frame _ _ _) rfl
      refine Frame.ite ?_ ?_
      · refine Frame.step ?_ (evqLost_frame _ _) rfl
        refine Frame.step ?_ (onQueue_frame _ _ _) rfl
        exact (Frame.refl _ _)
      · refine Frame.step ?_ (onQueue_frame _ _ _) rfl
        exact (Frame.refl _ _)
    · refine Frame.ite ?_ ?_
      · refine Frame.step ?_ (evqLost_frame _ _) rfl
        refine Frame.step ?_ (onQueue_frame _ _ _) rfl
        refine Frame.ite ?_ ?_
        · refine Frame.step ?_ (evqLost_frame _ _) rfl
          refine Frame.step ?_ (onQueue_frame _ _ _) rfl
          exact (Frame.refl _ _)
        · refine Frame.step ?_ (onQueue_frame _ _ _) rfl
          exact (Frame.refl _ _)
      · refine Frame.ite ?_ ?_
        · refine Frame.step ?_ (pushDiag_frame _ _ _) rfl
          refine Frame.step ?_ (onQueue_frame _ _ _) rfl
          refine Frame.ite ?_ ?_
          · refine Frame.step ?_ (evqLost_frame _ _) rfl
            refine Frame.step ?_ (onQueue_frame _ _ _) rfl
            exact (Frame.refl _ _)
          · refine Frame.step ?_ (onQueue_frame _ _ _) rfl
            exact (Frame.refl _ _)
        · refine Frame.step ?_ (onQueue_frame _ _ _) rfl
          refine Frame.ite ?_ ?_
          · refine Frame.step ?_ (evqLost_frame _ _) rfl
            refine Frame.step ?_ (onQueue_frame _ _ _) rfl
            exact (Frame.refl _ _)
          · refine Frame.step ?_ (onQueue_frame _ _ _) rfl
            exact (Frame.refl _ _)

theorem pushWord_frame (q : QId) (w : Sys2Proof.Word) (d : Dev) : Frame 23068672 d (pushWord q w d) := by
  unfold pushWord
  refine Frame.ite ?_ ?_
  · refine Frame.step ?_ (onQueue_frame _ _ _) rfl
    exact (Frame.refl _ _)
  · refine Frame.ite ?_ ?_
    · refine Frame.step ?_ (pushHeader_frame _ _ _) rfl
      exact (Frame.refl _ _)
    · refine Frame.ite ?_ ?_
      · refine Frame.step ?_ (afterCommit_frame _ _ _ _) rfl
        refine Frame.step ?_ (onQueue_frame _ _ _) rfl
        exact (Frame.refl _ _)
      · refine Frame.step ?_ (onQueue_frame _ _ _) rfl
        exact (Frame.refl _ _)

theorem flushQueue_frame (q : QId) (d : Dev) : Frame 1073741824 d (flushQueue q d) := by
  unfold flushQueue
  split
  · exact (Frame.refl _ _)
  · refine Frame.step ?_ (Dev.onCyc_frame _ _) rfl
    exact (Frame.refl _ _)

theorem dropRest_frame (q : QId) (d : Dev) : Frame 1073741824 d (dropRest q d) := by
  unfold dropRest
  split
  · refine Frame.step ?_ (Dev.onCyc_frame _ _) rfl
    exact (Frame.refl _ _)
  · exact (Frame.refl _ _)

theorem queueCtl_frame (q : QId) (v : Nat) (d : Dev) : Frame 1096810496 d (queueCtl q v d) := by
  unfold queueCtl
  refine Frame.ite ?_ ?_
  · refine Frame.step ?_ (flushQueue_frame _ _) rfl
    refine Frame.ite ?_ ?_
    · refine Frame.step ?_ (dropRest_frame _ _) rfl
      refine Frame.ite ?_ ?_
      · refine Frame.step ?_ (wmMessage_frame _ _ _) rfl
        refine Frame.step ?_ (onQueue_frame _ _ _) rfl
        exact (Frame.refl _ _)
      · exact (Frame.refl _ _)
    · refine Frame.ite ?_ ?_
      · refine Frame.step ?_ (wmMessage_frame _ _ _) rfl
        refine Frame.step ?_ (onQueue_frame _ _ _) rfl
        exact (Frame.refl _ _)
      · exact (Frame.refl _ _)
  · refine Frame.ite ?_ ?_
    · refine Frame.step ?_ (dropRest_frame _ _) rfl
      refine Frame.ite ?_ ?_
      · refine Frame.step ?_ (wmMessage_frame _ _ _) rfl
        refine Frame.step ?_ (onQueue_frame _ _ _) rfl
        exact (Frame.refl _ _)
      · exact (Frame.refl _ _)
    · refine Frame.ite ?_ ?_
      · refine Frame.step ?_ (wmMessage_frame _ _ _) rfl
        refine Frame.step ?_ (onQueue_frame _ _ _) rfl
        exact (Frame.refl _ _)
      · exact (Frame.refl _ _)

theorem gtCmp_frame (n : Fin 32) (v : Sys2Proof.Word) (d : Dev) : Frame 8388608 d (gtCmp n v d) := by
  unfold gtCmp
  refine Frame.step ?_ (onGt_frame _ _ _) rfl
  exact (Frame.refl _ _)

theorem gtCtl_frame (sc : Bool) (n : Fin 32) (v : Nat) (d : Dev) : Frame 8388608 d (gtCtl sc n v d) := by
  unfold gtCtl
  refine Frame.step ?_ (onGt_frame _ _ _) rfl
  exact (Frame.refl _ _)

theorem gtCnt_frame (n : Fin 32) (v : Sys2Proof.Word) (d : Dev) : Frame 8388608 d (gtCnt n v d) := by
  unfold gtCnt
  refine Frame.step ?_ (onGt_frame _ _ _) rfl
  exact (Frame.refl _ _)

theorem tscLRead_frame (y0 : Master) (d : Dev) : Frame 8388608 d (tscLRead y0 d).2 := by
  unfold tscLRead
  refine Frame.step ?_ (Dev.onTim_frame _ _) rfl
  exact (Frame.refl _ _)

theorem queueData_frame (q : QId) (d : Dev) : Frame 4194304 d (queueData q d).2 := by
  unfold queueData
  split
  · refine Frame.step ?_ (onQueue_frame _ _ _) rfl
    exact (Frame.refl _ _)
  · exact (Frame.refl _ _)

theorem execGtCompareFire_frame (n : Fin 32) (s : State) : ONext 27262976 s.ev (execGtCompareFire n s) := by
  unfold execGtCompareFire
  refine ONext.onDev ?_
  intro d h
  refine Frame.step ?_ (gtFire_frame _ _) rfl
  exact h

theorem pushSample_frame (n : Fin 24) (w : Sys2Proof.Word) (d : Dev) : Frame 23068672 d (pushSample n w d) := by
  unfold pushSample
  refine Frame.ite ?_ ?_
  · refine Frame.step ?_ (pushWord_frame _ _ _) rfl
    exact (Frame.refl _ _)
  · refine Frame.ite ?_ ?_
    · refine Frame.step ?_ (pushWord_frame _ _ _) rfl
      refine Frame.step ?_ (pushWord_frame _ _ _) rfl
      refine Frame.step ?_ (pushWord_frame _ _ _) rfl
      refine Frame.step ?_ (Dev.onQs_frame _ _) rfl
      exact (Frame.refl _ _)
    · exact (Frame.refl _ _)

theorem execQueuePush_frame (q : QId) (w : Sys2Proof.Word) (s : State) : ONext 23068672 s.ev (execQueuePush q w s) := by
  unfold execQueuePush
  refine ONext.onDev ?_
  intro d h
  split
  · refine Frame.step ?_ (pushSample_frame _ _ _) rfl
    exact h
  · refine Frame.step ?_ (pushWord_frame _ _ _) rfl
    exact h

theorem execZoneTimerFire_frame (n : Fin 24) (k : Fin 2) (s : State) : ONext 27262976 s.ev (execZoneTimerFire n k s) := by
  unfold execZoneTimerFire
  refine ONext.onDev ?_
  intro d h
  refine Frame.step ?_ (ztFire_frame _ _ _) rfl
  exact h

end Sys2Proof.Machine
end

