-- ==== Sys2Proof/Laws/KeepThermal.lean ====
section
/-! SUPPORT. What the operations of Machine/Thermal.lean leave alone. -/

namespace Sys2Proof.Machine
open Sys2Proof

theorem execLpxStable_frame (s : State) : ONext 16777216 s.ev (execLpxStable s) := by
  unfold execLpxStable
  refine ONext.onDev ?_
  intro d h
  refine Frame.ite ?_ ?_
  · exact h
  · refine Frame.step ?_ (Dev.onPmu_frame _ _) rfl
    exact h

theorem execLpxStop_frame (s : State) : ONext 16777216 s.ev (execLpxStop s) := by
  unfold execLpxStop
  refine ONext.onDev ?_
  intro d h
  refine Frame.step ?_ (Dev.onPmu_frame _ _) rfl
  exact h

theorem pushTherm_frame (evt : Nat) (d : Dev) : Frame 23068672 d (pushTherm evt d) := by
  unfold pushTherm
  refine Frame.step ?_ (pushSystem_frame _ _ _ _) rfl
  exact (Frame.refl _ _)

theorem hotStep_frame (temp : Int) (d : Dev) : Frame 56623104 d (hotStep temp d) := by
  unfold hotStep
  refine Frame.ite ?_ ?_
  · refine Frame.step ?_ (pushTherm_frame _ _) rfl
    refine Frame.step ?_ (pmuMsg_frame _) rfl
    refine Frame.step ?_ (Dev.onTh_frame _ _) rfl
    refine Frame.step ?_ (Dev.onTh_frame _ _) rfl
    exact (Frame.refl _ _)
  · refine Frame.ite ?_ ?_
    · refine Frame.step ?_ (pushTherm_frame _ _) rfl
      refine Frame.step ?_ (Dev.onTh_frame _ _) rfl
      refine Frame.step ?_ (Dev.onTh_frame _ _) rfl
      exact (Frame.refl _ _)
    · refine Frame.step ?_ (Dev.onTh_frame _ _) rfl
      exact (Frame.refl _ _)

theorem shutOff_frame (d : Dev) : Frame 65276413 d (shutOff d) := by
  unfold shutOff
  refine Frame.step ?_ (txkillWrite_frame _ _) rfl
  refine Frame.step ?_ (swkillWrite_frame _ _) rfl
  refine Frame.step ?_ (pushTherm_frame _ _) rfl
  refine Frame.step ?_ (Dev.onTh_frame _ _) rfl
  exact (Frame.refl _ _)

theorem shutRoom_frame (d : Dev) : Frame 23443933 d (shutRoom d) := by
  unfold shutRoom
  refine Frame.foldl ?_ ?_
  · exact (Frame.refl _ _)
  · intro _ _ h1000
    split
    · refine Frame.ite ?_ ?_
      · exact h1000
      · refine Frame.ite ?_ ?_
        · refine Frame.step ?_ (stopAcc_frame _ _ _ _) rfl
          refine Frame.step ?_ (withdraw_frame _ _) rfl
          exact h1000
        · refine Frame.step ?_ (halt_frame _ _ _) rfl
          exact h1000
    · exact h1000

theorem shutOn_frame (d : Dev) : Frame 65387005 d (shutOn d) := by
  unfold shutOn
  refine Frame.step ?_ (stopInv_frame _) rfl
  refine Frame.step ?_ (shutRoom_frame _) rfl
  refine Frame.step ?_ (txkillWrite_frame _ _) rfl
  refine Frame.step ?_ (swkillWrite_frame _ _) rfl
  refine Frame.step ?_ (pushTherm_frame _ _) rfl
  refine Frame.step ?_ (pmuMsg_frame _) rfl
  refine Frame.step ?_ (Dev.onTh_frame _ _) rfl
  exact (Frame.refl _ _)

theorem shutStep_frame (temp : Int) (d : Dev) : Frame 65387005 d (shutStep temp d) := by
  unfold shutStep
  refine Frame.ite ?_ ?_
  · refine Frame.step ?_ (shutOn_frame _) rfl
    refine Frame.step ?_ (Dev.onTh_frame _ _) rfl
    exact (Frame.refl _ _)
  · refine Frame.ite ?_ ?_
    · refine Frame.step ?_ (shutOff_frame _) rfl
      refine Frame.step ?_ (Dev.onTh_frame _ _) rfl
      exact (Frame.refl _ _)
    · refine Frame.step ?_ (Dev.onTh_frame _ _) rfl
      exact (Frame.refl _ _)

theorem execTempMeasure_frame (temp : Int) (s : State) : ONext 65387005 s.ev (execTempMeasure temp s) := by
  unfold execTempMeasure
  refine ONext.onDev ?_
  intro d h
  refine Frame.ite ?_ ?_
  · exact h
  · refine Frame.step ?_ (shutStep_frame _ _) rfl
    refine Frame.step ?_ (hotStep_frame _ _) rfl
    refine Frame.step ?_ (Dev.onTh_frame _ _) rfl
    exact h

end Sys2Proof.Machine
end

