-- ==== Sys2Proof/Laws/KeepRegHost.lean ====
section
/-! SUPPORT. What the operations of Machine/RegHost.lean leave alone. -/

namespace Sys2Proof.Machine
open Sys2Proof

theorem rdAll_nil_frame {m : Nat} {d0 d : Dev} (h : Frame m d0 d) : Frame m d0 (rdAll [] d).2 := h

theorem rdAll_cons_frame {m : Nat} {d0 d : Dev} {r : Rd} {rs : List Rd} (h : Frame m d0 (rdAll rs (r d).2).2) :
    Frame m d0 (rdAll (r :: rs) d).2 := h

/-- A read keeps what lies outside `m`. -/
def RdF (m : Nat) (r : Rd) : Prop := ∀ d0 d, Frame m d0 d → Frame m d0 (r d).2

theorem RdF.app {m : Nat} {d0 d : Dev} {r : Rd} (hr : RdF m r) (h : Frame m d0 d) : Frame m d0 (r d).2 := hr d0 d h

theorem tbStatWrite_frame (v : Nat) (d : Dev) : Frame 2 d (tbStatWrite v d) := by
  unfold tbStatWrite
  refine Frame.step ?_ (Dev.onTb_frame _ _) rfl
  exact (Frame.refl _ _)

theorem rd_frame (f : Dev → Nat) (y1 : Dev) : Frame 0 y1 (rd f y1).2 := by
  unfold rd
  exact (Frame.refl _ _)

theorem rdNone_frame (y0 : Dev) : Frame 0 y0 (rdNone y0).2 := by
  unfold rdNone
  refine Frame.step ?_ (rd_frame _ _) rfl
  exact (Frame.refl _ _)

theorem rcRead_frame {m : Nat} {d0 : Dev} (key : Nat) (sh : Nat) (get : Dev → Nat) (clr : Dev → Dev) (y4 : Dev) (hm :
    134217728 ||| m = m) (h3 : ∀ x0, Frame m d0 x0 → Frame m d0 (clr x0)) (h : Frame m d0 y4) : Frame m d0 (rcRead key sh get
    clr y4).2 := by
  unfold rcRead
  refine Frame.iteP Prod.snd ?_ ?_
  · exact h
  · refine Frame.step ?_ (Dev.onBus_frame _ _) (Frame.sub rfl hm)
    refine h3 _ ?_
    exact h

theorem rdCoal_frame (t : Fin 6) (y1 : Dev) : Frame 136314880 y1 (rdCoal t y1).2 := by
  unfold rdCoal
  refine rcRead_frame _ _ _ _ _ rfl ?_ ?_
  · intro _ h1000
    refine Frame.step ?_ (Dev.onEvr_frame _ _) rfl
    exact h1000
  · exact (Frame.refl _ _)

theorem rdStray_frame (t : Fin 6) (y1 : Dev) : Frame 136314880 y1 (rdStray t y1).2 := by
  unfold rdStray
  refine rcRead_frame _ _ _ _ _ rfl ?_ ?_
  · intro _ h1000
    refine Frame.step ?_ (Dev.onEvr_frame _ _) rfl
    exact h1000
  · exact (Frame.refl _ _)

theorem rdDberr_frame (t : Fin 6) (y1 : Dev) : Frame 136314880 y1 (rdDberr t y1).2 := by
  unfold rdDberr
  refine rcRead_frame _ _ _ _ _ rfl ?_ ?_
  · intro _ h1000
    refine Frame.step ?_ (Dev.onEvr_frame _ _) rfl
    exact h1000
  · exact (Frame.refl _ _)

theorem rdPoison_frame (q : QId) (y1 : Dev) : Frame 138412032 y1 (rdPoison q y1).2 := by
  unfold rdPoison
  refine rcRead_frame _ _ _ _ _ rfl ?_ ?_
  · intro _ h1000
    refine Frame.step ?_ (onQueue_frame _ _ _) rfl
    exact h1000
  · exact (Frame.refl _ _)

theorem rdLost_frame (q : QId) (y1 : Dev) : Frame 138412032 y1 (rdLost q y1).2 := by
  unfold rdLost
  refine rcRead_frame _ _ _ _ _ rfl ?_ ?_
  · intro _ h1000
    refine Frame.step ?_ (onQueue_frame _ _ _) rfl
    exact h1000
  · exact (Frame.refl _ _)

theorem rdBadhdr_frame (q : QId) (y1 : Dev) : Frame 138412032 y1 (rdBadhdr q y1).2 := by
  unfold rdBadhdr
  refine rcRead_frame _ _ _ _ _ rfl ?_ ?_
  · intro _ h1000
    refine Frame.step ?_ (onQueue_frame _ _ _) rfl
    exact h1000
  · exact (Frame.refl _ _)

theorem rdNcpCnt_frame (y0 : Dev) : Frame 134479872 y0 (rdNcpCnt y0).2 := by
  unfold rdNcpCnt
  refine rdAll_cons_frame ?_
  refine rdAll_cons_frame ?_
  refine rdAll_cons_frame ?_
  refine rdAll_cons_frame ?_
  refine rdAll_nil_frame ?_
  refine rcRead_frame _ _ _ _ _ rfl ?_ ?_
  · intro _ h1000
    refine Frame.step ?_ (Dev.onNcp_frame _ _) rfl
    exact h1000
  · refine rcRead_frame _ _ _ _ _ rfl ?_ ?_
    · intro _ h1001
      refine Frame.step ?_ (Dev.onNcp_frame _ _) rfl
      exact h1001
    · refine rcRead_frame _ _ _ _ _ rfl ?_ ?_
      · intro _ h1002
        refine Frame.step ?_ (Dev.onNcp_frame _ _) rfl
        exact h1002
      · refine rcRead_frame _ _ _ _ _ rfl ?_ ?_
        · intro _ h1003
          refine Frame.step ?_ (Dev.onNcp_frame _ _) rfl
          exact h1003
        · exact (Frame.refl _ _)

theorem rdModeRefuse_frame (y0 : Dev) : Frame 134217729 y0 (rdModeRefuse y0).2 := by
  unfold rdModeRefuse
  refine rdAll_cons_frame ?_
  refine rdAll_cons_frame ?_
  refine rdAll_nil_frame ?_
  refine rcRead_frame _ _ _ _ _ rfl ?_ ?_
  · intro _ h1000
    refine Frame.step ?_ (Dev.onMode_frame _ _) rfl
    exact h1000
  · refine rcRead_frame _ _ _ _ _ rfl ?_ ?_
    · intro _ h1001
      refine Frame.step ?_ (Dev.onMode_frame _ _) rfl
      exact h1001
    · exact (Frame.refl _ _)

theorem rdHspHcnt_frame (y0 : Dev) : Frame 134742016 y0 (rdHspHcnt y0).2 := by
  unfold rdHspHcnt
  refine rdAll_cons_frame ?_
  refine rdAll_cons_frame ?_
  refine rdAll_cons_frame ?_
  refine rdAll_cons_frame ?_
  refine rdAll_nil_frame ?_
  refine rcRead_frame _ _ _ _ _ rfl ?_ ?_
  · intro _ h1000
    refine Frame.step ?_ (Dev.onHsp_frame _ _) rfl
    exact h1000
  · refine rcRead_frame _ _ _ _ _ rfl ?_ ?_
    · intro _ h1001
      refine Frame.step ?_ (Dev.onHsp_frame _ _) rfl
      exact h1001
    · refine rcRead_frame _ _ _ _ _ rfl ?_ ?_
      · intro _ h1002
        refine Frame.step ?_ (Dev.onHsp_frame _ _) rfl
        exact h1002
      · refine rcRead_frame _ _ _ _ _ rfl ?_ ?_
        · intro _ h1003
          refine Frame.step ?_ (Dev.onHsp_frame _ _) rfl
          exact h1003
        · exact (Frame.refl _ _)

theorem hostRead_frame (off : Nat) (y1 : Dev) : Frame 149684225 y1 (hostRead off y1).2 := by
  unfold hostRead
  refine RdF.app ?_ ?_
  · split
    · intro _ _ h1000
      refine Frame.step ?_ (rd_frame _ _) rfl
      exact h1000
    · intro _ _ h1000
      refine Frame.step ?_ (rd_frame _ _) rfl
      exact h1000
    · intro _ _ h1000
      refine Frame.step ?_ (rd_frame _ _) rfl
      exact h1000
    · intro _ _ h1000
      refine Frame.step ?_ (rdModeRefuse_frame _) rfl
      exact h1000
    · intro _ _ h1000
      refine Frame.step ?_ (rd_frame _ _) rfl
      exact h1000
    · intro _ _ h1000
      refine Frame.step ?_ (rd_frame _ _) rfl
      exact h1000
    · intro _ _ h1000
      refine Frame.step ?_ (rd_frame _ _) rfl
      exact h1000
    · intro _ _ h1000
      refine Frame.step ?_ (rd_frame _ _) rfl
      exact h1000
    · intro _ _ h1000
      refine Frame.step ?_ (rd_frame _ _) rfl
      exact h1000
    · intro _ _ h1000
      refine Frame.step ?_ (rd_frame _ _) rfl
      exact h1000
    · intro _ _ h1000
      refine Frame.step ?_ (rd_frame _ _) rfl
      exact h1000
    · intro _ _ h1000
      refine Frame.step ?_ (rd_frame _ _) rfl
      exact h1000
    · intro _ _ h1000
      refine Frame.step ?_ (rd_frame _ _) rfl
      exact h1000
    · intro _ _ h1000
      refine Frame.step ?_ (rd_frame _ _) rfl
      exact h1000
    · intro _ _ h1000
      refine Frame.step ?_ (rd_frame _ _) rfl
      exact h1000
    · intro _ _ h1000
      refine Frame.step ?_ (rd_frame _ _) rfl
      exact h1000
    · intro _ _ h1000
      refine Frame.step ?_ (rd_frame _ _) rfl
      exact h1000
    · intro _ _ h1000
      refine Frame.step ?_ (rd_frame _ _) rfl
      exact h1000
    · intro _ _ h1000
      refine Frame.step ?_ (rd_frame _ _) rfl
      exact h1000
    · intro _ _ h1000
      refine Frame.step ?_ (rd_frame _ _) rfl
      exact h1000
    · intro _ _ h1000
      refine Frame.step ?_ (rdNcpCnt_frame _) rfl
      exact h1000
    · intro _ _ h1000
      refine Frame.step ?_ (rd_frame _ _) rfl
      exact h1000
    · intro _ _ h1000
      refine Frame.step ?_ (rd_frame _ _) rfl
      exact h1000
    · intro _ _ h1000
      refine Frame.step ?_ (rdHspHcnt_frame _) rfl
      exact h1000
    · intro _ _ h1000
      refine Frame.step ?_ (claim_frame _ _) rfl
      exact h1000
    · intro _ _ h1000
      refine Frame.step ?_ (rd_frame _ _) rfl
      exact h1000
    · intro _ _ h1000
      refine Frame.step ?_ (rd_frame _ _) rfl
      exact h1000
    · intro _ _ h1000
      refine rdAll_cons_frame ?_
      refine rdAll_cons_frame ?_
      refine rdAll_nil_frame ?_
      refine Frame.step ?_ (rdDberr_frame _ _) rfl
      refine Frame.step ?_ (rdStray_frame _ _) rfl
      exact h1000
    · intro _ _ h1000
      refine Frame.step ?_ (rd_frame _ _) rfl
      exact h1000
    · intro _ _ h1000
      refine Frame.step ?_ (rd_frame _ _) rfl
      exact h1000
    · intro _ _ h1000
      refine Frame.step ?_ (rd_frame _ _) rfl
      exact h1000
    · intro _ _ h1000
      refine Frame.step ?_ (rd_frame _ _) rfl
      exact h1000
    · intro _ _ h1000
      refine Frame.step ?_ (rd_frame _ _) rfl
      exact h1000
    · intro _ _ h1000
      refine Frame.step ?_ (rd_frame _ _) rfl
      exact h1000
    · intro _ _ h1000
      refine rdAll_cons_frame ?_
      refine rdAll_cons_frame ?_
      refine rdAll_nil_frame ?_
      refine Frame.step ?_ (rdPoison_frame _ _) rfl
      refine Frame.step ?_ (rdLost_frame _ _) rfl
      exact h1000
    · intro _ _ h1000
      refine Frame.step ?_ (rd_frame _ _) rfl
      exact h1000
    · intro _ _ h1000
      refine Frame.step ?_ (rd_frame _ _) rfl
      exact h1000
    · intro _ _ h1000
      refine Frame.step ?_ (tscLRead_frame _ _) rfl
      exact h1000
    · intro _ _ h1000
      refine Frame.step ?_ (rd_frame _ _) rfl
      exact h1000
    · intro _ _ h1000
      refine Frame.step ?_ (rd_frame _ _) rfl
      exact h1000
    · intro _ _ h1000
      refine Frame.step ?_ (rd_frame _ _) rfl
      exact h1000
    · intro _ _ h1000
      refine Frame.step ?_ (rd_frame _ _) rfl
      exact h1000
    · intro _ _ h1000
      refine Frame.step ?_ (rd_frame _ _) rfl
      exact h1000
    · intro _ _ h1000
      refine Frame.step ?_ (rd_frame _ _) rfl
      exact h1000
    · intro _ _ h1000
      refine Frame.step ?_ (rd_frame _ _) rfl
      exact h1000
    · intro _ _ h1000
      refine Frame.step ?_ (rd_frame _ _) rfl
      exact h1000
    · intro _ _ h1000
      refine Frame.step ?_ (rd_frame _ _) rfl
      exact h1000
    · intro _ _ h1000
      refine Frame.step ?_ (rdNone_frame _) rfl
      exact h1000
  · exact (Frame.refl _ _)

theorem hostReads_frame (a0 : Dev) (a1 : Nat) (a2 : Nat) (a3 : Dev) : Frame 149684225 a3 (hostReads a0 a1 a2 a3).2 := by
  induction a2 generalizing a1 a3 with
  | zero => exact Frame.refl _ _
  | succ k ih =>
    unfold hostReads
    exact Frame.step (Frame.step (Frame.refl _ _) (hostRead_frame _ _) rfl) (ih _ _) rfl

theorem hsenseWrite_frame (v : Nat) (d : Dev) : Frame 18874368 d (hsenseWrite v d) := by
  unfold hsenseWrite
  refine Frame.foldl ?_ ?_
  · exact (Frame.refl _ _)
  · intro _ _ h1000
    refine Frame.step ?_ (srcWrite_frame _ _ _ _ _) rfl
    exact h1000

theorem fcmapWrite_frame (v : Nat) (d : Dev) : Frame 4194304 d (fcmapWrite v d) := by
  unfold fcmapWrite
  refine Frame.step ?_ (Dev.onQs_frame _ _) rfl
  exact (Frame.refl _ _)

theorem hsrcWrite_frame (v : Nat) (d : Dev) : Frame 18874368 d (hsrcWrite v d) := by
  unfold hsrcWrite
  refine Frame.foldl ?_ ?_
  · exact (Frame.refl _ _)
  · intro _ _ h1000
    refine Frame.step ?_ (srcWrite_frame _ _ _ _ _) rfl
    exact h1000

theorem hcfgWrite_frame (v : Nat) (d : Dev) : Frame 524288 d (hcfgWrite v d) := by
  unfold hcfgWrite
  refine Frame.step ?_ (Dev.onHsp_frame _ _) rfl
  exact (Frame.refl _ _)

theorem hostWrite_frame (off : Nat) (v : Nat) (d : Dev) : Frame 1097334786 d (hostWrite off v d) := by
  unfold hostWrite
  split
  · refine Frame.step ?_ (tbStatWrite_frame _ _) rfl
    exact (Frame.refl _ _)
  · refine Frame.step ?_ (hcfgWrite_frame _ _) rfl
    exact (Frame.refl _ _)
  · refine Frame.step ?_ (Dev.onHsp_frame _ _) rfl
    exact (Frame.refl _ _)
  · refine Frame.step ?_ (eoi_frame _ _ _) rfl
    exact (Frame.refl _ _)
  · refine Frame.step ?_ (modWrite_frame _ _ _) rfl
    exact (Frame.refl _ _)
  · refine Frame.step ?_ (doorbell_frame _ _ _ _) rfl
    exact (Frame.refl _ _)
  · refine Frame.step ?_ (hsrcWrite_frame _ _) rfl
    exact (Frame.refl _ _)
  · refine Frame.step ?_ (hsenseWrite_frame _ _) rfl
    exact (Frame.refl _ _)
  · refine Frame.step ?_ (queueCtl_frame _ _ _) rfl
    exact (Frame.refl _ _)
  · refine Frame.step ?_ (fcmapWrite_frame _ _) rfl
    exact (Frame.refl _ _)
  · refine Frame.step ?_ (queueCtl_frame _ _ _) rfl
    exact (Frame.refl _ _)
  · exact (Frame.refl _ _)

theorem hostWrites_frame (a0 : Nat) (a1 : List Nat) (a2 : Dev) : Frame 1097334786 a2 (hostWrites a0 a1 a2) := by
  induction a1 generalizing a0 a2 with
  | nil => exact Frame.refl _ _
  | cons v vs ih =>
    unfold hostWrites
    exact Frame.step (Frame.step (Frame.refl _ _) (hostWrite_frame _ _ _) rfl) (ih _ _) rfl

end Sys2Proof.Machine
end

