-- ==== Sys2Proof/Laws/KeepHsp.lean ====
section
/-! SUPPORT. What the operations of Machine/Hsp.lean leave alone. -/

namespace Sys2Proof.Machine
open Sys2Proof

theorem choose_frame (c : Option Bool) (d : Dev) : Frame 4980736 d (choose c d) := by
  unfold choose
  split
  · refine Frame.step ?_ (Dev.onHsp_frame _ _) rfl
    refine Frame.step ?_ (onQueue_frame _ _ _) rfl
    refine Frame.step ?_ (Dev.onNcp_frame _ _) rfl
    exact (Frame.refl _ _)
  · refine Frame.step ?_ (Dev.onHsp_frame _ _) rfl
    refine Frame.step ?_ (onQueue_frame _ _ _) rfl
    refine Frame.ite ?_ ?_
    · refine Frame.step ?_ (Dev.onQs_frame _ _) rfl
      refine Frame.step ?_ (Dev.onNcp_frame _ _) rfl
      exact (Frame.refl _ _)
    · refine Frame.step ?_ (Dev.onNcp_frame _ _) rfl
      exact (Frame.refl _ _)
  · refine Frame.step ?_ (Dev.onNcp_frame _ _) rfl
    exact (Frame.refl _ _)

theorem popHead_frame (q : QId) (d : Dev) : Frame 4718592 d (popHead q d) := by
  unfold popHead
  refine Frame.step ?_ (Dev.onHsp_frame _ _) rfl
  refine Frame.step ?_ (onQueue_frame _ _ _) rfl
  exact (Frame.refl _ _)

theorem dropFlushed_frame (d : Dev) : Frame 4718592 d (dropFlushed d) := by
  unfold dropFlushed
  refine Frame.ite ?_ ?_
  · refine Frame.step ?_ (popHead_frame _ _) rfl
    exact (Frame.refl _ _)
  · exact (Frame.refl _ _)

theorem hspDiscard_frame (d : Dev) : Frame 524288 d (hspDiscard d) := by
  unfold hspDiscard
  refine Frame.step ?_ (Dev.onHsp_frame _ _) rfl
  exact (Frame.refl _ _)

theorem sent_frame (out : List Sys2Proof.Byte) (d : Dev) : Frame 524288 d (sent out d) := by
  unfold sent
  refine Frame.step ?_ (Dev.onHsp_frame _ _) rfl
  exact (Frame.refl _ _)

theorem hspReject_frame (cause : Nat) (d : Dev) : Frame 19398656 d (hspReject cause d) := by
  unfold hspReject
  refine Frame.step ?_ (msgHost_frame _ _) rfl
  refine Frame.step ?_ (Dev.onHsp_frame _ _) rfl
  exact (Frame.refl _ _)

theorem hspFrame_frame {m : Nat} {d0 : Dev} (addr : Nat) (op : Nat) (n : Nat) (extra : Nat) (check : Nat) (serve : Dev → List
    Sys2Proof.Byte × Dev) (d : Dev) (hm : 32357885 ||| m = m) (h5 : ∀ x0, Frame m d0 x0 → Frame m d0 (serve x0).2) (h : Frame
    m d0 d) : Frame m d0 (hspFrame addr op n extra check serve d) := by
  unfold hspFrame
  refine Frame.ite ?_ ?_
  · refine Frame.step ?_ (sent_frame _ _) (Frame.sub rfl hm)
    refine Frame.step ?_ (Dev.onHsp_frame _ _) (Frame.sub rfl hm)
    exact h
  · refine Frame.ite ?_ ?_
    · refine Frame.step ?_ (sent_frame _ _) (Frame.sub rfl hm)
      refine Frame.step ?_ (Dev.onHsp_frame _ _) (Frame.sub rfl hm)
      refine Frame.step ?_ (Dev.onHsp_frame _ _) (Frame.sub rfl hm)
      exact h
    · refine Frame.ite ?_ ?_
      · refine Frame.step ?_ (sent_frame _ _) (Frame.sub rfl hm)
        refine Frame.step ?_ (Dev.onHsp_frame _ _) (Frame.sub rfl hm)
        exact h
      · refine Frame.ite ?_ ?_
        · refine Frame.step ?_ (sent_frame _ _) (Frame.sub rfl hm)
          refine Frame.step ?_ (wakeMatch_frame _) (Frame.sub rfl hm)
          refine Frame.step ?_ (Dev.onHsp_frame _ _) (Frame.sub rfl hm)
          exact h
        · refine Frame.ite ?_ ?_
          · refine Frame.step ?_ (sent_frame _ _) (Frame.sub rfl hm)
            refine Frame.step ?_ (hspDiscard_frame _) (Frame.sub rfl hm)
            refine Frame.step ?_ (Dev.onHsp_frame _ _) (Frame.sub rfl hm)
            exact h
          · refine Frame.ite ?_ ?_
            · refine Frame.step ?_ (sent_frame _ _) (Frame.sub rfl hm)
              refine Frame.step ?_ (hspDiscard_frame _) (Frame.sub rfl hm)
              refine Frame.step ?_ (Dev.onHsp_frame _ _) (Frame.sub rfl hm)
              exact h
            · refine Frame.ite ?_ ?_
              · refine Frame.step ?_ (sent_frame _ _) (Frame.sub rfl hm)
                refine Frame.step ?_ (hspReject_frame _ _) (Frame.sub rfl hm)
                refine Frame.step ?_ (Dev.onHsp_frame _ _) (Frame.sub rfl hm)
                exact h
              · refine Frame.ite ?_ ?_
                · refine Frame.step ?_ (sent_frame _ _) (Frame.sub rfl hm)
                  refine Frame.step ?_ (hspReject_frame _ _) (Frame.sub rfl hm)
                  refine Frame.step ?_ (Dev.onHsp_frame _ _) (Frame.sub rfl hm)
                  exact h
                · refine Frame.step ?_ (sent_frame _ _) (Frame.sub rfl hm)
                  refine h5 _ ?_
                  refine Frame.step ?_ (Dev.onHsp_frame _ _) (Frame.sub rfl hm)
                  refine Frame.step ?_ (Dev.onHsp_frame _ _) (Frame.sub rfl hm)
                  exact h

theorem replyRead_frame (pkt : List Sys2Proof.Byte) (gen : Nat) (d : Dev) : Frame 4456448 d (replyRead pkt gen d) := by
  unfold replyRead
  refine Frame.step ?_ (Dev.onQs_frame _ _) rfl
  refine Frame.step ?_ (Dev.onNcp_frame _ _) rfl
  exact (Frame.refl _ _)

theorem readWhole_frame (c : Option Bool) (pkt : List Sys2Proof.Byte) (d : Dev) : Frame 23855104 d (readWhole c pkt d) := by
  unfold readWhole
  split
  · exact (Frame.refl _ _)
  · refine Frame.step ?_ (msgSc_frame _ _) rfl
    refine Frame.ite ?_ ?_
    · refine Frame.step ?_ (popHead_frame _ _) rfl
      refine Frame.step ?_ (replyRead_frame _ _ _) rfl
      refine Frame.step ?_ (Dev.onHsp_frame _ _) rfl
      exact (Frame.refl _ _)
    · refine Frame.step ?_ (popHead_frame _ _) rfl
      refine Frame.step ?_ (Dev.onQs_frame _ _) rfl
      refine Frame.step ?_ (Dev.onHsp_frame _ _) rfl
      exact (Frame.refl _ _)

theorem pktRd_frame (n : Nat) (d : Dev) : Frame 23855104 d (pktRd n d).2 := by
  unfold pktRd
  refine Frame.iteP Prod.snd ?_ ?_
  · refine Frame.step ?_ (readWhole_frame _ _ _) rfl
    refine Frame.step ?_ (choose_frame _ _) rfl
    exact (Frame.refl _ _)
  · refine Frame.step ?_ (dropFlushed_frame _) rfl
    refine Frame.step ?_ (Dev.onHsp_frame _ _) rfl
    refine Frame.step ?_ (choose_frame _ _) rfl
    exact (Frame.refl _ _)

theorem pktWr_frame (pkt : List Sys2Proof.Byte) (d : Dev) : Frame 23330944 d (pktWr pkt d).2 := by
  unfold pktWr
  refine Frame.step ?_ (accept_frame _ _) rfl
  refine Frame.step ?_ (msgSc_frame _ _) rfl
  exact (Frame.refl _ _)

theorem regRd_frame (off : Nat) (words : Nat) (d : Dev) : Frame 149684225 d (regRd off words d).2 := by
  unfold regRd
  refine Frame.step ?_ (hostReads_frame _ _ _ _) rfl
  exact (Frame.refl _ _)

theorem partFrame_frame (bits0 : Nat) (d : Dev) : Frame 19398656 d (partFrame bits0 d) := by
  unfold partFrame
  refine Frame.ite ?_ ?_
  · exact (Frame.refl _ _)
  · refine Frame.step ?_ (hspReject_frame _ _) rfl
    exact (Frame.refl _ _)

end Sys2Proof.Machine
end

