-- ==== Sys2Proof/Laws/KeepMsp.lean ====
section
/-! SUPPORT. What the operations of Machine/Msp.lean leave alone. -/

namespace Sys2Proof.Machine
open Sys2Proof

theorem xipError_frame (k : Fin 5) (off : Nat) (d : Dev) : Frame 154140672 d (xipError k off d) := by
  unfold xipError
  refine Frame.step ?_ (busError_frame _ _ _) rfl
  refine Frame.step ?_ (Dev.onMsp_frame _ _) rfl
  exact (Frame.refl _ _)

theorem dropMisses_frame (d : Dev) : Frame 154140672 d (dropMisses d) := by
  unfold dropMisses
  refine Frame.foldl ?_ ?_
  · refine Frame.step ?_ (Dev.onMsp_frame _ _) rfl
    exact (Frame.refl _ _)
  · intro _ _ h1000
    refine Frame.step ?_ (xipError_frame _ _ _) rfl
    exact h1000

theorem mspNext_frame (d : Dev) : Frame 154140672 d (mspNext d) := by
  unfold mspNext
  refine Frame.ite ?_ ?_
  · refine Frame.ite ?_ ?_
    · exact (Frame.refl _ _)
    · refine Frame.step ?_ (dropMisses_frame _) rfl
      exact (Frame.refl _ _)
  · split
    · refine Frame.step ?_ (Dev.onMsp_frame _ _) rfl
      refine Frame.ite ?_ ?_
      · exact (Frame.refl _ _)
      · refine Frame.step ?_ (dropMisses_frame _) rfl
        exact (Frame.refl _ _)
    · split
      · refine Frame.ite ?_ ?_
        · exact (Frame.refl _ _)
        · refine Frame.step ?_ (dropMisses_frame _) rfl
          exact (Frame.refl _ _)
      · refine Frame.ite ?_ ?_
        · refine Frame.step ?_ (Dev.onMsp_frame _ _) rfl
          refine Frame.ite ?_ ?_
          · exact (Frame.refl _ _)
          · refine Frame.step ?_ (dropMisses_frame _) rfl
            exact (Frame.refl _ _)
        · refine Frame.ite ?_ ?_
          · exact (Frame.refl _ _)
          · refine Frame.step ?_ (dropMisses_frame _) rfl
            exact (Frame.refl _ _)

theorem xipInv_frame (d : Dev) : Frame 1048576 d (xipInv d) := by
  unfold xipInv
  refine Frame.step ?_ (Dev.onMsp_frame _ _) rfl
  exact (Frame.refl _ _)

theorem xcfgWrite_frame (v : Nat) (d : Dev) : Frame 154140672 d (xcfgWrite v d) := by
  unfold xcfgWrite
  refine Frame.step ?_ (mspNext_frame _) rfl
  refine Frame.step ?_ (xipInv_frame _) rfl
  refine Frame.step ?_ (Dev.onMsp_frame _ _) rfl
  exact (Frame.refl _ _)

theorem mspPush_frame (d : Dev) : Frame 154140672 d (mspPush d) := by
  unfold mspPush
  refine Frame.ite ?_ ?_
  · refine Frame.step ?_ (Dev.onMsp_frame _ _) rfl
    exact (Frame.refl _ _)
  · refine Frame.ite ?_ ?_
    · refine Frame.step ?_ (Dev.onMsp_frame _ _) rfl
      exact (Frame.refl _ _)
    · refine Frame.step ?_ (mspNext_frame _) rfl
      refine Frame.step ?_ (Dev.onMsp_frame _ _) rfl
      exact (Frame.refl _ _)

theorem qin3Write_frame (v : Nat) (d : Dev) : Frame 154140672 d (qin3Write v d) := by
  unfold qin3Write
  refine Frame.step ?_ (mspPush_frame _) rfl
  refine Frame.step ?_ (Dev.onMsp_frame _ _) rfl
  exact (Frame.refl _ _)

theorem mspEn_frame (v : Bool) (d : Dev) : Frame 154140672 d (mspEn v d) := by
  unfold mspEn
  refine Frame.step ?_ (mspNext_frame _) rfl
  refine Frame.step ?_ (Dev.onMsp_frame _ _) rfl
  exact (Frame.refl _ _)

theorem mspSet_frame (f : MspCtl → MspCtl) (d : Dev) : Frame 154140672 d (mspSet f d) := by
  unfold mspSet
  refine Frame.step ?_ (mspNext_frame _) rfl
  refine Frame.step ?_ (Dev.onMsp_frame _ _) rfl
  exact (Frame.refl _ _)

theorem mspCtlWrite_frame (v : Nat) (d : Dev) : Frame 154140672 d (mspCtlWrite v d) := by
  unfold mspCtlWrite
  refine Frame.step ?_ (mspEn_frame _ _) rfl
  refine Frame.step ?_ (Dev.onMsp_frame _ _) rfl
  refine Frame.step ?_ (mspSet_frame _ _) rfl
  exact (Frame.refl _ _)

theorem mspWlenWrite_frame (v : Nat) (d : Dev) : Frame 154140672 d (mspWlenWrite v d) := by
  unfold mspWlenWrite
  refine Frame.ite ?_ ?_
  · exact (Frame.refl _ _)
  · refine Frame.step ?_ (mspSet_frame _ _) rfl
    exact (Frame.refl _ _)

theorem xipRead_frame (k : Fin 5) (off : Nat) (d : Dev) : Frame 154140672 d (xipRead k off d) := by
  unfold xipRead
  refine Frame.ite ?_ ?_
  · exact (Frame.refl _ _)
  · refine Frame.ite ?_ ?_
    · refine Frame.step ?_ (xipError_frame _ _ _) rfl
      exact (Frame.refl _ _)
    · split
      · refine Frame.step ?_ (readOut_frame _ _) rfl
        refine Frame.step ?_ (Dev.onMsp_frame _ _) rfl
        exact (Frame.refl _ _)
      · refine Frame.step ?_ (mspNext_frame _) rfl
        refine Frame.step ?_ (Dev.onMsp_frame _ _) rfl
        exact (Frame.refl _ _)

theorem takeLate_frame (d : Dev) : Frame 1048576 d (takeLate d) := by
  unfold takeLate
  split
  · refine Frame.ite ?_ ?_
    · exact (Frame.refl _ _)
    · refine Frame.step ?_ (Dev.onMsp_frame _ _) rfl
      exact (Frame.refl _ _)
  · exact (Frame.refl _ _)

theorem endEntry_frame (e : MspEntry) (err : Nat) (got : Nat) (out : List Sys2Proof.Byte) (d : Dev) : Frame 154140672 d
    (endEntry e err got out d) := by
  unfold endEntry
  refine Frame.step ?_ (mspNext_frame _) rfl
  refine Frame.step ?_ (takeLate_frame _) rfl
  refine Frame.ite ?_ ?_
  · refine Frame.step ?_ (msgSc_frame _ _) rfl
    refine Frame.step ?_ (Dev.onMsp_frame _ _) rfl
    exact (Frame.refl _ _)
  · refine Frame.step ?_ (Dev.onMsp_frame _ _) rfl
    exact (Frame.refl _ _)

theorem storeRx_frame (e : MspEntry) (rx : List Nat) (s : State) : SKeep 268435456 s (storeRx e rx s) := by
  unfold storeRx
  refine SKeep.mk4 ?_ ?_ ?_ ?_
  · exact (SKeep.refl _ _)
  · refine SKeep.dev ?_
    exact (SKeep.refl _ _)
  · first | exact MemOk.same _ _ _ _ | exact MemOk.nil rfl | exact MemOk.writes rfl | exact MemOk.erase rfl
  · first | exact MemOk.same _ _ _ _ | exact MemOk.nil rfl | exact MemOk.writes rfl | exact MemOk.erase rfl

theorem mspEnd_frame (x : MspEnd) (s : State) : SKeep 422576128 s (mspEnd x s) := by
  unfold mspEnd
  split
  · exact (SKeep.refl _ _)
  · refine SKeep.ite ?_ ?_
    · exact (SKeep.refl _ _)
    · split
      · refine State.on_frame _ _ rfl ?_ ?_
        · intro _ h1000
          refine Frame.step ?_ (endEntry_frame _ _ _ _ _) rfl
          exact h1000
        · refine SKeep.step ?_ (storeRx_frame _ _ _) rfl
          exact (SKeep.refl _ _)
      · refine SKeep.ite ?_ ?_
        · refine State.on_frame _ _ rfl ?_ ?_
          · intro _ h1001
            refine Frame.step ?_ (endEntry_frame _ _ _ _ _) rfl
            exact h1001
          · exact (SKeep.refl _ _)
        · exact (SKeep.refl _ _)
      · refine SKeep.ite ?_ ?_
        · exact (SKeep.refl _ _)
        · refine SKeep.ite ?_ ?_
          · refine State.on_frame _ _ rfl ?_ ?_
            · intro _ h1002
              refine Frame.step ?_ (endEntry_frame _ _ _ _ _) rfl
              exact h1002
            · exact (SKeep.refl _ _)
          · refine State.on_frame _ _ rfl ?_ ?_
            · intro _ h1003
              refine Frame.step ?_ (endEntry_frame _ _ _ _ _) rfl
              exact h1003
            · refine SKeep.step ?_ (storeRx_frame _ _ _) rfl
              exact (SKeep.refl _ _)

theorem execMspEntryEnd_frame (x : MspEnd) (s : State) : ONext 422576128 s.ev (execMspEntryEnd x s) := by
  unfold execMspEntryEnd
  refine ONext.next ?_
  refine SKeep.step ?_ (mspEnd_frame _ _) rfl
  exact SKeep.refl _ _

theorem slaveFrame_frame (rx : List Nat) (extra : Nat) (s : State) : SKeep 422576128 s (slaveFrame rx extra s) := by
  unfold slaveFrame
  dsimp only
  split
  · exact (SKeep.refl _ _)
  · refine SKeep.ite ?_ ?_
    · exact (SKeep.refl _ _)
    · refine SKeep.ite ?_ ?_
      · refine State.on_frame _ _ rfl ?_ ?_
        · intro _ h1000
          refine Frame.step ?_ (Dev.onMsp_frame _ _) rfl
          exact h1000
        · exact (SKeep.refl _ _)
      · refine State.on_frame _ _ rfl ?_ ?_
        · intro _ h1001
          refine Frame.step ?_ (endEntry_frame _ _ _ _ _) rfl
          exact h1001
        · refine SKeep.step ?_ (storeRx_frame _ _ _) rfl
          exact (SKeep.refl _ _)

theorem execMspSlaveFrame_frame (rx : List Nat) (extra : Nat) (s : State) : ONext 422576128 s.ev (execMspSlaveFrame rx extra
    s) := by
  unfold execMspSlaveFrame
  refine ONext.next ?_
  refine SKeep.step ?_ (slaveFrame_frame _ _ _) rfl
  exact SKeep.refl _ _

theorem execXipInvalidateDone_frame (s : State) : ONext 154140672 s.ev (execXipInvalidateDone s) := by
  unfold execXipInvalidateDone
  refine ONext.onDev ?_
  intro d h
  refine Frame.ite ?_ ?_
  · refine Frame.step ?_ (mspNext_frame _) rfl
    refine Frame.step ?_ (Dev.onMsp_frame _ _) rfl
    exact h
  · exact h

theorem xipFill_frame (data : List Sys2Proof.Byte) (d : Dev) : Frame 154140672 d (xipFill data d) := by
  unfold xipFill
  split
  · exact (Frame.refl _ _)
  · refine Frame.ite ?_ ?_
    · exact (Frame.refl _ _)
    · refine Frame.step ?_ (mspNext_frame _) rfl
      refine Frame.step ?_ (readOut_frame _ _) rfl
      refine Frame.step ?_ (Dev.onMsp_frame _ _) rfl
      exact (Frame.refl _ _)

theorem execXipLineFill_frame (data : List Sys2Proof.Byte) (s : State) : ONext 154140672 s.ev (execXipLineFill data s) := by
  unfold execXipLineFill
  refine ONext.onDev ?_
  intro d h
  refine Frame.step ?_ (xipFill_frame _ _) rfl
  exact h

end Sys2Proof.Machine
end

