-- ==== Sys2Proof/Laws/KeepRegSys.lean ====
section
/-! SUPPORT. What the operations of Machine/RegSys.lean leave alone. -/

namespace Sys2Proof.Machine
open Sys2Proof

/-- A write keeps what lies outside `m`. -/
def WrF (m : Nat) (w : Wr) : Prop := ∀ v d0 d, Frame m d0 d → Frame m d0 (w v d)

theorem WrF.app {m v : Nat} {d0 d : Dev} {w : Wr} (hw : WrF m w) (h : Frame m d0 d) : Frame m d0 (w v d) := hw v d0 d h

theorem wrNone_frame (y0 : Nat) (y1 : Dev) : Frame 0 y1 (wrNone y0 y1) := by
  unfold wrNone
  exact (Frame.refl _ _)

theorem ksWrite_frame (off : Nat) (y1 : Nat) (y2 : Dev) : Frame 4096 y2 (ksWrite off y1 y2) := by
  unfold ksWrite
  refine WrF.app ?_ ?_
  · split
    · intro _ _ _ h1000
      refine Frame.step ?_ (onPort_frame _ _ _) rfl
      exact h1000
    · intro _ _ _ h1000
      refine Frame.step ?_ (wrNone_frame _ _) rfl
      exact h1000
  · exact (Frame.refl _ _)

theorem domWrite_frame (k : Fin 49) (y1 : Nat) (y2 : Dev) : Frame 16777216 y2 (domWrite k y1 y2) := by
  unfold domWrite
  refine Frame.ite ?_ ?_
  · exact (Frame.refl _ _)
  · refine Frame.step ?_ (keepWake_frame _ _) rfl
    refine Frame.step ?_ (onDom_frame _ _ _) rfl
    exact (Frame.refl _ _)

theorem pmuWrite_frame (off : Nat) (y1 : Nat) (y2 : Dev) : Frame 50398208 y2 (pmuWrite off y1 y2) := by
  unfold pmuWrite
  refine WrF.app ?_ ?_
  · split
    · intro _ _ _ h1000
      refine Frame.step ?_ (Dev.onPmu_frame _ _) rfl
      exact h1000
    · intro _ _ _ h1000
      refine Frame.step ?_ (Dev.onTh_frame _ _) rfl
      exact h1000
    · intro _ _ _ h1000
      refine Frame.step ?_ (Dev.onStp_frame _ _) rfl
      exact h1000
    · intro _ _ _ h1000
      refine Frame.step ?_ (Dev.onStp_frame _ _) rfl
      exact h1000
    · intro _ _ _ h1000
      refine Frame.step ?_ (Dev.onStp_frame _ _) rfl
      exact h1000
    · intro _ _ _ h1000
      refine Frame.step ?_ (Dev.onNvm_frame _ _) rfl
      exact h1000
    · intro _ _ _ h1000
      refine WrF.app ?_ ?_
      · split
        · intro _ _ _ h1001
          refine Frame.step ?_ (domWrite_frame _ _ _) rfl
          exact h1001
        · intro _ _ _ h1001
          refine Frame.step ?_ (wrNone_frame _ _) rfl
          exact h1001
      · exact h1000
  · exact (Frame.refl _ _)

theorem uhfCtlWrite_frame (y0 : Nat) (y1 : Dev) : Frame 23341057 y1 (uhfCtlWrite y0 y1) := by
  unfold uhfCtlWrite
  refine Frame.ite ?_ ?_
  · refine Frame.ite ?_ ?_
    · refine Frame.step ?_ (hopTo_frame _ _) rfl
      refine Frame.ite ?_ ?_
      · refine Frame.ite ?_ ?_
        · exact (Frame.refl _ _)
        · refine Frame.step ?_ (txkillWrite_frame _ _) rfl
          exact (Frame.refl _ _)
      · refine Frame.step ?_ (acfgTo_frame _ _) rfl
        refine Frame.ite ?_ ?_
        · exact (Frame.refl _ _)
        · refine Frame.step ?_ (txkillWrite_frame _ _) rfl
          exact (Frame.refl _ _)
    · refine Frame.step ?_ (Dev.onUhf_frame _ _) rfl
      refine Frame.ite ?_ ?_
      · refine Frame.ite ?_ ?_
        · exact (Frame.refl _ _)
        · refine Frame.step ?_ (txkillWrite_frame _ _) rfl
          exact (Frame.refl _ _)
      · refine Frame.step ?_ (acfgTo_frame _ _) rfl
        refine Frame.ite ?_ ?_
        · exact (Frame.refl _ _)
        · refine Frame.step ?_ (txkillWrite_frame _ _) rfl
          exact (Frame.refl _ _)
  · refine Frame.step ?_ (carrierWrite_frame _ _) rfl
    refine Frame.ite ?_ ?_
    · refine Frame.step ?_ (hopTo_frame _ _) rfl
      refine Frame.ite ?_ ?_
      · refine Frame.ite ?_ ?_
        · exact (Frame.refl _ _)
        · refine Frame.step ?_ (txkillWrite_frame _ _) rfl
          exact (Frame.refl _ _)
      · refine Frame.step ?_ (acfgTo_frame _ _) rfl
        refine Frame.ite ?_ ?_
        · exact (Frame.refl _ _)
        · refine Frame.step ?_ (txkillWrite_frame _ _) rfl
          exact (Frame.refl _ _)
    · refine Frame.step ?_ (Dev.onUhf_frame _ _) rfl
      refine Frame.ite ?_ ?_
      · refine Frame.ite ?_ ?_
        · exact (Frame.refl _ _)
        · refine Frame.step ?_ (txkillWrite_frame _ _) rfl
          exact (Frame.refl _ _)
      · refine Frame.step ?_ (acfgTo_frame _ _) rfl
        refine Frame.ite ?_ ?_
        · exact (Frame.refl _ _)
        · refine Frame.step ?_ (txkillWrite_frame _ _) rfl
          exact (Frame.refl _ _)

theorem uhfWrite_frame (off : Nat) (y1 : Nat) (y2 : Dev) : Frame 23341057 y2 (uhfWrite off y1 y2) := by
  unfold uhfWrite
  refine WrF.app ?_ ?_
  · split
    · intro _ _ _ h1000
      refine Frame.step ?_ (uhfCtlWrite_frame _ _) rfl
      exact h1000
    · intro _ _ _ h1000
      refine Frame.step ?_ (Dev.onUhf_frame _ _) rfl
      exact h1000
    · intro _ _ _ h1000
      refine Frame.step ?_ (wrNone_frame _ _) rfl
      exact h1000
  · exact (Frame.refl _ _)

theorem cqCfgWrite_frame (n : Fin 24) (y1 : Nat) (y2 : Dev) : Frame 4194304 y2 (cqCfgWrite n y1 y2) := by
  unfold cqCfgWrite
  refine Frame.step ?_ (Dev.onQs_frame _ _) rfl
  exact (Frame.refl _ _)

theorem queueRegWrite_frame (q : QId) (o : Nat) (y2 : Nat) (y3 : Dev) : Frame 1096810496 y3 (queueRegWrite q o y2 y3) := by
  unfold queueRegWrite
  refine WrF.app ?_ ?_
  · split
    · intro _ _ _ h1000
      refine WrF.app ?_ ?_
      · split
        · intro _ _ _ h1001
          refine Frame.step ?_ (wrNone_frame _ _) rfl
          exact h1001
        · intro _ _ _ h1001
          refine Frame.step ?_ (pushWord_frame _ _ _) rfl
          exact h1001
      · exact h1000
    · intro _ _ _ h1000
      refine Frame.step ?_ (queueCtl_frame _ _ _) rfl
      exact h1000
    · intro _ _ _ h1000
      refine WrF.app ?_ ?_
      · split
        · intro _ _ _ h1002
          refine Frame.step ?_ (cqCfgWrite_frame _ _ _) rfl
          exact h1002
        · intro _ _ _ h1002
          refine Frame.step ?_ (wrNone_frame _ _) rfl
          exact h1002
      · exact h1000
    · intro _ _ _ h1000
      refine Frame.step ?_ (wrNone_frame _ _) rfl
      exact h1000
  · exact (Frame.refl _ _)

theorem qWrite_frame (off : Nat) (y1 : Nat) (y2 : Dev) : Frame 1096810496 y2 (qWrite off y1 y2) := by
  unfold qWrite
  refine WrF.app ?_ ?_
  · split
    · intro _ _ _ h1000
      refine Frame.step ?_ (queueRegWrite_frame _ _ _ _) rfl
      exact h1000
    · intro _ _ _ h1000
      refine Frame.step ?_ (wrNone_frame _ _) rfl
      exact h1000
  · exact (Frame.refl _ _)

theorem timWrite_frame (y0 : Master) (off : Nat) (y2 : Nat) (y3 : Dev) : Frame 8388608 y3 (timWrite y0 off y2 y3) := by
  unfold timWrite
  refine WrF.app ?_ ?_
  · split
    · intro _ _ _ h1000
      refine Frame.step ?_ (Dev.onTim_frame _ _) rfl
      exact h1000
    · intro _ _ _ h1000
      refine WrF.app ?_ ?_
      · split
        · intro _ _ _ h1001
          refine WrF.app ?_ ?_
          · split
            · intro _ _ _ h1002
              refine Frame.step ?_ (gtCnt_frame _ _ _) rfl
              exact h1002
            · intro _ _ _ h1002
              refine Frame.step ?_ (gtCmp_frame _ _ _) rfl
              exact h1002
            · intro _ _ _ h1002
              refine Frame.step ?_ (onGt_frame _ _ _) rfl
              exact h1002
            · intro _ _ _ h1002
              refine Frame.step ?_ (gtCtl_frame _ _ _ _) rfl
              exact h1002
            · intro _ _ _ h1002
              refine Frame.step ?_ (onGt_frame _ _ _) rfl
              exact h1002
            · intro _ _ _ h1002
              refine Frame.step ?_ (wrNone_frame _ _) rfl
              exact h1002
          · exact h1001
        · intro _ _ _ h1001
          refine Frame.step ?_ (wrNone_frame _ _) rfl
          exact h1001
      · exact h1000
  · exact (Frame.refl _ _)

theorem hspWrite_frame (off : Nat) (y1 : Nat) (y2 : Dev) : Frame 524288 y2 (hspWrite off y1 y2) := by
  unfold hspWrite
  refine WrF.app ?_ ?_
  · split
    · intro _ _ _ h1000
      refine Frame.step ?_ (Dev.onHsp_frame _ _) rfl
      exact h1000
    · intro _ _ _ h1000
      refine Frame.step ?_ (wrNone_frame _ _) rfl
      exact h1000
  · exact (Frame.refl _ _)

theorem kilnRegWrite_frame (off : Nat) (y1 : Nat) (y2 : Dev) : Frame 131072 y2 (kilnRegWrite off y1 y2) := by
  unfold kilnRegWrite
  refine WrF.app ?_ ?_
  · split
    · intro _ _ _ h1000
      refine Frame.step ?_ (Dev.onKiln_frame _ _) rfl
      exact h1000
    · intro _ _ _ h1000
      refine Frame.step ?_ (Dev.onKiln_frame _ _) rfl
      exact h1000
    · intro _ _ _ h1000
      refine Frame.step ?_ (wrNone_frame _ _) rfl
      exact h1000
  · exact (Frame.refl _ _)

theorem mspWrite_frame (off : Nat) (y1 : Nat) (y2 : Dev) : Frame 154140672 y2 (mspWrite off y1 y2) := by
  unfold mspWrite
  refine WrF.app ?_ ?_
  · split
    · intro _ _ _ h1000
      refine Frame.step ?_ (mspCtlWrite_frame _ _) rfl
      exact h1000
    · intro _ _ _ h1000
      refine Frame.step ?_ (mspWlenWrite_frame _ _) rfl
      exact h1000
    · intro _ _ _ h1000
      refine Frame.step ?_ (Dev.onMsp_frame _ _) rfl
      exact h1000
    · intro _ _ _ h1000
      refine Frame.step ?_ (xcfgWrite_frame _ _) rfl
      exact h1000
    · intro _ _ _ h1000
      refine Frame.ite ?_ ?_
      · refine Frame.step ?_ (xipInv_frame _) rfl
        exact h1000
      · exact h1000
    · intro _ _ _ h1000
      refine Frame.step ?_ (Dev.onMsp_frame _ _) rfl
      exact h1000
    · intro _ _ _ h1000
      refine Frame.step ?_ (Dev.onMsp_frame _ _) rfl
      exact h1000
    · intro _ _ _ h1000
      refine Frame.step ?_ (Dev.onMsp_frame _ _) rfl
      exact h1000
    · intro _ _ _ h1000
      refine Frame.step ?_ (qin3Write_frame _ _) rfl
      exact h1000
    · intro _ _ _ h1000
      refine Frame.step ?_ (wrNone_frame _ _) rfl
      exact h1000
  · exact (Frame.refl _ _)

theorem evrSrcWrite_frame (y0 : Master) (id : SrcId) (y2 : Nat) (y3 : Dev) : Frame 18874368 y3 (evrSrcWrite y0 id y2 y3) := by
  unfold evrSrcWrite
  refine Frame.ite ?_ ?_
  · refine Frame.step ?_ (srcRegWrite_frame _ _ _ _) rfl
    exact (Frame.refl _ _)
  · exact (Frame.refl _ _)

theorem evrWinWrite_frame (y0 : Master) (t : Fin 6) (o : Nat) (y3 : Nat) (y4 : Dev) : Frame 18874368 y4 (evrWinWrite y0 t o y3
    y4) := by
  unfold evrWinWrite
  refine WrF.app ?_ ?_
  · split
    · intro _ _ _ h1000
      refine Frame.step ?_ (eoi_frame _ _ _) rfl
      exact h1000
    · intro _ _ _ h1000
      refine WrF.app ?_ ?_
      · split
        · intro _ _ _ h1001
          refine Frame.step ?_ (wrNone_frame _ _) rfl
          exact h1001
        · intro _ _ _ h1001
          refine Frame.step ?_ (modWrite_frame _ _ _) rfl
          exact h1001
      · exact h1000
    · intro _ _ _ h1000
      refine Frame.step ?_ (doorbell_frame _ _ _ _) rfl
      exact h1000
    · intro _ _ _ h1000
      refine WrF.app ?_ ?_
      · split
        · intro _ _ _ h1002
          split
          · refine Frame.step ?_ (evrSrcWrite_frame _ _ _ _) rfl
            exact h1002
          · refine Frame.step ?_ (wrNone_frame _ _) rfl
            exact h1002
        · intro _ _ _ h1002
          refine Frame.step ?_ (wrNone_frame _ _) rfl
          exact h1002
      · exact h1000
  · exact (Frame.refl _ _)

theorem evrWrite_frame (y0 : Master) (off : Nat) (y2 : Nat) (y3 : Dev) : Frame 18874368 y3 (evrWrite y0 off y2 y3) := by
  unfold evrWrite
  refine WrF.app ?_ ?_
  · split
    · intro _ _ _ h1000
      refine Frame.step ?_ (evrSrcWrite_frame _ _ _ _) rfl
      exact h1000
    · intro _ _ _ h1000
      refine WrF.app ?_ ?_
      · split
        · intro _ _ _ h1001
          refine Frame.step ?_ (evrWinWrite_frame _ _ _ _ _) rfl
          exact h1001
        · intro _ _ _ h1001
          refine Frame.step ?_ (wrNone_frame _ _) rfl
          exact h1001
      · exact h1000
  · exact (Frame.refl _ _)

theorem rdGtMiss_frame (n : Fin 32) (y1 : Dev) : Frame 142606336 y1 (rdGtMiss n y1).2 := by
  unfold rdGtMiss
  refine rcRead_frame _ _ _ _ _ rfl ?_ ?_
  · intro _ h1000
    refine Frame.step ?_ (onGt_frame _ _ _) rfl
    exact h1000
  · exact (Frame.refl _ _)

theorem timRead_frame (y0 : Master) (off : Nat) (y2 : Dev) : Frame 142606336 y2 (timRead y0 off y2).2 := by
  unfold timRead
  refine RdF.app ?_ ?_
  · split
    · intro _ _ h1000
      refine Frame.step ?_ (tscLRead_frame _ _) rfl
      exact h1000
    · intro _ _ h1000
      refine Frame.step ?_ (rd_frame _ _) rfl
      exact h1000
    · intro _ _ h1000
      refine Frame.step ?_ (rd_frame _ _) rfl
      exact h1000
    · intro _ _ h1000
      refine RdF.app ?_ ?_
      · split
        · intro _ _ h1001
          refine RdF.app ?_ ?_
          · split
            · intro _ _ h1002
              refine Frame.step ?_ (rd_frame _ _) rfl
              exact h1002
            · intro _ _ h1002
              refine Frame.step ?_ (rd_frame _ _) rfl
              exact h1002
            · intro _ _ h1002
              refine Frame.step ?_ (rd_frame _ _) rfl
              exact h1002
            · intro _ _ h1002
              refine Frame.step ?_ (rd_frame _ _) rfl
              exact h1002
            · intro _ _ h1002
              refine rdAll_cons_frame ?_
              refine rdAll_cons_frame ?_
              refine rdAll_nil_frame ?_
              refine Frame.step ?_ (rdGtMiss_frame _ _) rfl
              refine Frame.step ?_ (rd_frame _ _) rfl
              exact h1002
            · intro _ _ h1002
              refine Frame.step ?_ (rdNone_frame _) rfl
              exact h1002
          · exact h1001
        · intro _ _ h1001
          refine Frame.step ?_ (rdNone_frame _) rfl
          exact h1001
      · exact h1000
  · exact (Frame.refl _ _)

theorem rdDstat_frame (k : Fin 49) (y1 : Dev) : Frame 150994944 y1 (rdDstat k y1).2 := by
  unfold rdDstat
  refine rdAll_cons_frame ?_
  refine rdAll_cons_frame ?_
  refine rdAll_nil_frame ?_
  refine rcRead_frame _ _ _ _ _ rfl ?_ ?_
  · intro _ h1000
    refine Frame.step ?_ (onDom_frame _ _ _) rfl
    exact h1000
  · refine rcRead_frame _ _ _ _ _ rfl ?_ ?_
    · intro _ h1001
      refine Frame.step ?_ (onDom_frame _ _ _) rfl
      exact h1001
    · exact (Frame.refl _ _)

theorem rdSweeps_frame (y0 : Dev) : Frame 134218752 y0 (rdSweeps y0).2 := by
  unfold rdSweeps
  refine rdAll_cons_frame ?_
  refine rdAll_cons_frame ?_
  refine rdAll_nil_frame ?_
  refine rcRead_frame _ _ _ _ _ rfl ?_ ?_
  · intro _ h1000
    refine Frame.step ?_ (Dev.onStp_frame _ _) rfl
    exact h1000
  · refine Frame.step ?_ (rd_frame _ _) rfl
    exact (Frame.refl _ _)

theorem rdStpCnt_frame (y0 : Dev) : Frame 134218752 y0 (rdStpCnt y0).2 := by
  unfold rdStpCnt
  refine rdAll_cons_frame ?_
  refine rdAll_cons_frame ?_
  refine rdAll_cons_frame ?_
  refine rdAll_cons_frame ?_
  refine rdAll_nil_frame ?_
  refine rcRead_frame _ _ _ _ _ rfl ?_ ?_
  · intro _ h1000
    refine Frame.step ?_ (Dev.onStp_frame _ _) rfl
    exact h1000
  · refine rcRead_frame _ _ _ _ _ rfl ?_ ?_
    · intro _ h1001
      refine Frame.step ?_ (Dev.onStp_frame _ _) rfl
      exact h1001
    · refine rcRead_frame _ _ _ _ _ rfl ?_ ?_
      · intro _ h1002
        refine Frame.step ?_ (Dev.onStp_frame _ _) rfl
        exact h1002
      · refine rcRead_frame _ _ _ _ _ rfl ?_ ?_
        · intro _ h1003
          refine Frame.step ?_ (Dev.onStp_frame _ _) rfl
          exact h1003
        · exact (Frame.refl _ _)

theorem stpRead_frame (off : Nat) (y1 : Dev) : Frame 134218752 y1 (stpRead off y1).2 := by
  unfold stpRead
  refine RdF.app ?_ ?_
  · split
    · intro _ _ h1000
      refine Frame.step ?_ (rd_frame _ _) rfl
      exact h1000
    · intro _ _ h1000
      refine Frame.step ?_ (rd_frame _ _) rfl
      exact h1000
    · intro _ _ h1000
      refine Frame.step ?_ (rd_frame _ _) rfl
      exact h1000
    · intro _ _ h1000
      refine Frame.step ?_ (rdStpCnt_frame _) rfl
      exact h1000
    · intro _ _ h1000
      refine Frame.step ?_ (rdSweeps_frame _) rfl
      exact h1000
    · intro _ _ h1000
      refine Frame.step ?_ (rd_frame _ _) rfl
      exact h1000
    · intro _ _ h1000
      refine Frame.step ?_ (rd_frame _ _) rfl
      exact h1000
    · intro _ _ h1000
      refine Frame.step ?_ (rd_frame _ _) rfl
      exact h1000
    · intro _ _ h1000
      refine RdF.app ?_ ?_
      · split
        · intro _ _ h1001
          refine Frame.step ?_ (rd_frame _ _) rfl
          exact h1001
        · intro _ _ h1001
          refine Frame.step ?_ (rdNone_frame _) rfl
          exact h1001
      · exact h1000
  · exact (Frame.refl _ _)

theorem rdFlCnt_frame (y0 : Dev) : Frame 134283264 y0 (rdFlCnt y0).2 := by
  unfold rdFlCnt
  refine rdAll_cons_frame ?_
  refine rdAll_cons_frame ?_
  refine rdAll_cons_frame ?_
  refine rdAll_cons_frame ?_
  refine rdAll_nil_frame ?_
  refine rcRead_frame _ _ _ _ _ rfl ?_ ?_
  · intro _ h1000
    refine Frame.step ?_ (Dev.onNvm_frame _ _) rfl
    exact h1000
  · refine rcRead_frame _ _ _ _ _ rfl ?_ ?_
    · intro _ h1001
      refine Frame.step ?_ (Dev.onNvm_frame _ _) rfl
      exact h1001
    · refine rcRead_frame _ _ _ _ _ rfl ?_ ?_
      · intro _ h1002
        refine Frame.step ?_ (Dev.onNvm_frame _ _) rfl
        exact h1002
      · refine rcRead_frame _ _ _ _ _ rfl ?_ ?_
        · intro _ h1003
          refine Frame.step ?_ (Dev.onNvm_frame _ _) rfl
          exact h1003
        · exact (Frame.refl _ _)

theorem flRead_frame (off : Nat) (y1 : Dev) : Frame 134283264 y1 (flRead off y1).2 := by
  unfold flRead
  refine RdF.app ?_ ?_
  · split
    · intro _ _ h1000
      refine Frame.step ?_ (rd_frame _ _) rfl
      exact h1000
    · intro _ _ h1000
      refine Frame.step ?_ (rd_frame _ _) rfl
      exact h1000
    · intro _ _ h1000
      refine Frame.step ?_ (rdFlCnt_frame _) rfl
      exact h1000
    · intro _ _ h1000
      refine RdF.app ?_ ?_
      · split
        · intro _ _ h1001
          refine Frame.step ?_ (rd_frame _ _) rfl
          exact h1001
        · intro _ _ h1001
          refine Frame.step ?_ (rdNone_frame _) rfl
          exact h1001
      · exact h1000
  · exact (Frame.refl _ _)

theorem rdPmuCnt_frame (y0 : Dev) : Frame 150994944 y0 (rdPmuCnt y0).2 := by
  unfold rdPmuCnt
  refine rdAll_cons_frame ?_
  refine rdAll_cons_frame ?_
  refine rdAll_cons_frame ?_
  refine rdAll_cons_frame ?_
  refine rdAll_nil_frame ?_
  refine rcRead_frame _ _ _ _ _ rfl ?_ ?_
  · intro _ h1000
    refine Frame.step ?_ (Dev.onPmu_frame _ _) rfl
    exact h1000
  · refine rcRead_frame _ _ _ _ _ rfl ?_ ?_
    · intro _ h1001
      refine Frame.step ?_ (Dev.onPmu_frame _ _) rfl
      exact h1001
    · refine rcRead_frame _ _ _ _ _ rfl ?_ ?_
      · intro _ h1002
        refine Frame.step ?_ (Dev.onPmu_frame _ _) rfl
        exact h1002
      · refine rcRead_frame _ _ _ _ _ rfl ?_ ?_
        · intro _ h1003
          refine Frame.step ?_ (Dev.onPmu_frame _ _) rfl
          exact h1003
        · exact (Frame.refl _ _)

theorem pmuRead_frame (off : Nat) (y1 : Dev) : Frame 151061504 y1 (pmuRead off y1).2 := by
  unfold pmuRead
  refine RdF.app ?_ ?_
  · split
    · intro _ _ h1000
      refine Frame.step ?_ (rd_frame _ _) rfl
      exact h1000
    · intro _ _ h1000
      refine Frame.step ?_ (rd_frame _ _) rfl
      exact h1000
    · intro _ _ h1000
      refine Frame.step ?_ (rd_frame _ _) rfl
      exact h1000
    · intro _ _ h1000
      refine Frame.step ?_ (rdPmuCnt_frame _) rfl
      exact h1000
    · intro _ _ h1000
      refine Frame.step ?_ (rd_frame _ _) rfl
      exact h1000
    · intro _ _ h1000
      refine Frame.step ?_ (rd_frame _ _) rfl
      exact h1000
    · intro _ _ h1000
      refine RdF.app ?_ ?_
      · split
        · intro _ _ h1001
          refine Frame.step ?_ (rd_frame _ _) rfl
          exact h1001
        · intro _ _ h1001
          refine RdF.app ?_ ?_
          · split
            · intro _ _ h1002
              refine Frame.step ?_ (rdDstat_frame _ _) rfl
              exact h1002
            · intro _ _ h1002
              split
              · refine Frame.step ?_ (flRead_frame _ _) rfl
                exact h1002
              · refine Frame.step ?_ (stpRead_frame _ _) rfl
                exact h1002
          · exact h1001
      · exact h1000
  · exact (Frame.refl _ _)

theorem rdCoexStat_frame (y0 : Dev) : Frame 134219776 y0 (rdCoexStat y0).2 := by
  unfold rdCoexStat
  refine rdAll_cons_frame ?_
  refine rdAll_cons_frame ?_
  refine rdAll_cons_frame ?_
  refine rdAll_nil_frame ?_
  refine rcRead_frame _ _ _ _ _ rfl ?_ ?_
  · intro _ h1000
    refine Frame.step ?_ (Dev.onUhf_frame _ _) rfl
    exact h1000
  · refine rcRead_frame _ _ _ _ _ rfl ?_ ?_
    · intro _ h1001
      refine Frame.step ?_ (Dev.onUhf_frame _ _) rfl
      exact h1001
    · refine Frame.step ?_ (rd_frame _ _) rfl
      exact (Frame.refl _ _)

theorem rdUhfCnt_frame (y0 : Dev) : Frame 134219776 y0 (rdUhfCnt y0).2 := by
  unfold rdUhfCnt
  refine rdAll_cons_frame ?_
  refine rdAll_cons_frame ?_
  refine rdAll_cons_frame ?_
  refine rdAll_cons_frame ?_
  refine rdAll_nil_frame ?_
  refine rcRead_frame _ _ _ _ _ rfl ?_ ?_
  · intro _ h1000
    refine Frame.step ?_ (Dev.onUhf_frame _ _) rfl
    exact h1000
  · refine rcRead_frame _ _ _ _ _ rfl ?_ ?_
    · intro _ h1001
      refine Frame.step ?_ (Dev.onUhf_frame _ _) rfl
      exact h1001
    · refine rcRead_frame _ _ _ _ _ rfl ?_ ?_
      · intro _ h1002
        refine Frame.step ?_ (Dev.onUhf_frame _ _) rfl
        exact h1002
      · refine rcRead_frame _ _ _ _ _ rfl ?_ ?_
        · intro _ h1003
          refine Frame.step ?_ (Dev.onUhf_frame _ _) rfl
          exact h1003
        · exact (Frame.refl _ _)

theorem uhfRead_frame (off : Nat) (y1 : Dev) : Frame 134219776 y1 (uhfRead off y1).2 := by
  unfold uhfRead
  refine RdF.app ?_ ?_
  · split
    · intro _ _ h1000
      refine Frame.step ?_ (rd_frame _ _) rfl
      exact h1000
    · intro _ _ h1000
      refine Frame.step ?_ (rd_frame _ _) rfl
      exact h1000
    · intro _ _ h1000
      refine Frame.step ?_ (rdUhfCnt_frame _) rfl
      exact h1000
    · intro _ _ h1000
      refine Frame.step ?_ (rdCoexStat_frame _) rfl
      exact h1000
    · intro _ _ h1000
      refine RdF.app ?_ ?_
      · split
        · intro _ _ h1001
          refine Frame.step ?_ (rd_frame _ _) rfl
          exact h1001
        · intro _ _ h1001
          refine Frame.step ?_ (rdNone_frame _) rfl
          exact h1001
      · exact h1000
  · exact (Frame.refl _ _)

theorem rdClQry_frame (y0 : Master) (q : Nat) (arg : Nat) (y3 : Dev) : Frame 49152 y3 (rdClQry y0 q arg y3).2 := by
  unfold rdClQry
  refine Frame.iteP Prod.snd ?_ ?_
  · refine Frame.step ?_ (sendQuery_frame _ _ _ _) rfl
    exact (Frame.refl _ _)
  · exact (Frame.refl _ _)

theorem rdClReg_frame (r : Fin 12) (o : Nat) (y2 : Dev) : Frame 32768 y2 (rdClReg r o y2).2 := by
  unfold rdClReg
  refine Frame.iteP Prod.snd ?_ ?_
  · refine Frame.step ?_ (Dev.onCl_frame _ _) rfl
    exact (Frame.refl _ _)
  · exact (Frame.refl _ _)

theorem rdClCnt_frame (y0 : Dev) : Frame 134250496 y0 (rdClCnt y0).2 := by
  unfold rdClCnt
  refine rdAll_cons_frame ?_
  refine rdAll_cons_frame ?_
  refine rdAll_nil_frame ?_
  refine rcRead_frame _ _ _ _ _ rfl ?_ ?_
  · intro _ h1000
    refine Frame.step ?_ (Dev.onCl_frame _ _) rfl
    exact h1000
  · refine rcRead_frame _ _ _ _ _ rfl ?_ ?_
    · intro _ h1001
      refine Frame.step ?_ (Dev.onCl_frame _ _) rfl
      exact h1001
    · exact (Frame.refl _ _)

theorem clRead_frame (y0 : Master) (off : Nat) (y2 : Dev) : Frame 134266880 y2 (clRead y0 off y2).2 := by
  unfold clRead
  refine RdF.app ?_ ?_
  · split
    · intro _ _ h1000
      refine Frame.step ?_ (rd_frame _ _) rfl
      exact h1000
    · intro _ _ h1000
      refine Frame.step ?_ (rdClCnt_frame _) rfl
      exact h1000
    · intro _ _ h1000
      refine Frame.step ?_ (rd_frame _ _) rfl
      exact h1000
    · intro _ _ h1000
      refine Frame.step ?_ (rd_frame _ _) rfl
      exact h1000
    · intro _ _ h1000
      refine Frame.step ?_ (rd_frame _ _) rfl
      exact h1000
    · intro _ _ h1000
      refine Frame.step ?_ (rd_frame _ _) rfl
      exact h1000
    · intro _ _ h1000
      refine Frame.step ?_ (rd_frame _ _) rfl
      exact h1000
    · intro _ _ h1000
      split
      · refine Frame.step ?_ (rdClQry_frame _ _ _ _) rfl
        exact h1000
      · refine RdF.app ?_ ?_
        · split
          · intro _ _ h1001
            refine Frame.step ?_ (rdClReg_frame _ _ _) rfl
            exact h1001
          · intro _ _ h1001
            refine RdF.app ?_ ?_
            · split
              · intro _ _ h1002
                split
                · refine Frame.step ?_ (rd_frame _ _) rfl
                  exact h1002
                · refine Frame.step ?_ (rdNone_frame _) rfl
                  exact h1002
              · intro _ _ h1002
                refine RdF.app ?_ ?_
                · split
                  · intro _ _ h1003
                    refine Frame.step ?_ (rd_frame _ _) rfl
                    exact h1003
                  · intro _ _ h1003
                    refine Frame.step ?_ (rdNone_frame _) rfl
                    exact h1003
                · exact h1002
            · exact h1001
        · exact h1000
  · exact (Frame.refl _ _)

theorem evrWinRead_frame (t : Fin 6) (o : Nat) (y2 : Dev) : Frame 136314880 y2 (evrWinRead t o y2).2 := by
  unfold evrWinRead
  refine RdF.app ?_ ?_
  · split
    · intro _ _ h1000
      refine Frame.step ?_ (claim_frame _ _) rfl
      exact h1000
    · intro _ _ h1000
      refine Frame.step ?_ (rd_frame _ _) rfl
      exact h1000
    · intro _ _ h1000
      refine Frame.step ?_ (rd_frame _ _) rfl
      exact h1000
    · intro _ _ h1000
      refine Frame.step ?_ (rdStray_frame _ _) rfl
      exact h1000
    · intro _ _ h1000
      refine rdAll_cons_frame ?_
      refine rdAll_cons_frame ?_
      refine rdAll_nil_frame ?_
      refine Frame.step ?_ (rdDberr_frame _ _) rfl
      refine Frame.step ?_ (rdCoal_frame _ _) rfl
      exact h1000
    · intro _ _ h1000
      refine RdF.app ?_ ?_
      · split
        · intro _ _ h1001
          split
          · refine Frame.step ?_ (rd_frame _ _) rfl
            exact h1001
          · refine Frame.step ?_ (rdNone_frame _) rfl
            exact h1001
        · intro _ _ h1001
          refine Frame.step ?_ (rdNone_frame _) rfl
          exact h1001
      · exact h1000
  · exact (Frame.refl _ _)

theorem evrRead_frame (off : Nat) (y1 : Dev) : Frame 136314880 y1 (evrRead off y1).2 := by
  unfold evrRead
  refine RdF.app ?_ ?_
  · split
    · intro _ _ h1000
      refine Frame.step ?_ (rd_frame _ _) rfl
      exact h1000
    · intro _ _ h1000
      refine RdF.app ?_ ?_
      · split
        · intro _ _ h1001
          refine Frame.step ?_ (evrWinRead_frame _ _ _) rfl
          exact h1001
        · intro _ _ h1001
          refine Frame.step ?_ (rdNone_frame _) rfl
          exact h1001
      · exact h1000
  · exact (Frame.refl _ _)

theorem queueRegRead_frame (q : QId) (o : Nat) (y2 : Dev) : Frame 138412032 y2 (queueRegRead q o y2).2 := by
  unfold queueRegRead
  refine RdF.app ?_ ?_
  · split
    · intro _ _ h1000
      refine Frame.step ?_ (queueData_frame _ _) rfl
      exact h1000
    · intro _ _ h1000
      refine Frame.step ?_ (rd_frame _ _) rfl
      exact h1000
    · intro _ _ h1000
      refine Frame.step ?_ (rd_frame _ _) rfl
      exact h1000
    · intro _ _ h1000
      refine rdAll_cons_frame ?_
      refine rdAll_cons_frame ?_
      refine rdAll_cons_frame ?_
      refine rdAll_nil_frame ?_
      refine Frame.step ?_ (rdBadhdr_frame _ _) rfl
      refine Frame.step ?_ (rdPoison_frame _ _) rfl
      refine Frame.step ?_ (rdLost_frame _ _) rfl
      exact h1000
    · intro _ _ h1000
      refine Frame.step ?_ (rd_frame _ _) rfl
      exact h1000
    · intro _ _ h1000
      refine RdF.app ?_ ?_
      · split
        · intro _ _ h1001
          refine Frame.step ?_ (rd_frame _ _) rfl
          exact h1001
        · intro _ _ h1001
          refine Frame.step ?_ (rdNone_frame _) rfl
          exact h1001
      · exact h1000
    · intro _ _ h1000
      refine Frame.step ?_ (rdNone_frame _) rfl
      exact h1000
  · exact (Frame.refl _ _)

theorem qRead_frame (off : Nat) (y1 : Dev) : Frame 138412032 y1 (qRead off y1).2 := by
  unfold qRead
  refine RdF.app ?_ ?_
  · split
    · intro _ _ h1000
      refine Frame.step ?_ (queueRegRead_frame _ _ _) rfl
      exact h1000
    · intro _ _ h1000
      refine Frame.step ?_ (rdNone_frame _) rfl
      exact h1000
  · exact (Frame.refl _ _)

theorem rdKsGcnt_frame (y0 : Dev) : Frame 134221824 y0 (rdKsGcnt y0).2 := by
  unfold rdKsGcnt
  refine rdAll_cons_frame ?_
  refine rdAll_cons_frame ?_
  refine rdAll_cons_frame ?_
  refine rdAll_nil_frame ?_
  refine rcRead_frame _ _ _ _ _ rfl ?_ ?_
  · intro _ h1000
    refine Frame.step ?_ (Dev.onKey_frame _ _) rfl
    exact h1000
  · refine rcRead_frame _ _ _ _ _ rfl ?_ ?_
    · intro _ h1001
      refine Frame.step ?_ (Dev.onKey_frame _ _) rfl
      exact h1001
    · refine rcRead_frame _ _ _ _ _ rfl ?_ ?_
      · intro _ h1002
        refine Frame.step ?_ (Dev.onKey_frame _ _) rfl
        exact h1002
      · exact (Frame.refl _ _)

theorem ksRead_frame (off : Nat) (y1 : Dev) : Frame 134221824 y1 (ksRead off y1).2 := by
  unfold ksRead
  refine RdF.app ?_ ?_
  · split
    · intro _ _ h1000
      refine Frame.step ?_ (rd_frame _ _) rfl
      exact h1000
    · intro _ _ h1000
      refine Frame.step ?_ (rdKsGcnt_frame _) rfl
      exact h1000
    · intro _ _ h1000
      refine RdF.app ?_ ?_
      · split
        · intro _ _ h1001
          refine Frame.step ?_ (rd_frame _ _) rfl
          exact h1001
        · intro _ _ h1001
          refine RdF.app ?_ ?_
          · split
            · intro _ _ h1002
              refine Frame.step ?_ (rd_frame _ _) rfl
              exact h1002
            · intro _ _ h1002
              refine Frame.step ?_ (rdNone_frame _) rfl
              exact h1002
          · exact h1001
      · exact h1000
  · exact (Frame.refl _ _)

theorem kilnRegRead_frame (off : Nat) (y1 : Dev) : Frame 0 y1 (kilnRegRead off y1).2 := by
  unfold kilnRegRead
  refine RdF.app ?_ ?_
  · split
    · intro _ _ h1000
      refine Frame.step ?_ (rd_frame _ _) rfl
      exact h1000
    · intro _ _ h1000
      refine Frame.step ?_ (rd_frame _ _) rfl
      exact h1000
    · intro _ _ h1000
      refine Frame.step ?_ (rd_frame _ _) rfl
      exact h1000
    · intro _ _ h1000
      refine Frame.step ?_ (rd_frame _ _) rfl
      exact h1000
    · intro _ _ h1000
      refine Frame.step ?_ (rd_frame _ _) rfl
      exact h1000
    · intro _ _ h1000
      refine Frame.step ?_ (rd_frame _ _) rfl
      exact h1000
    · intro _ _ h1000
      refine RdF.app ?_ ?_
      · split
        · intro _ _ h1001
          split
          · refine Frame.step ?_ (rd_frame _ _) rfl
            exact h1001
          · refine Frame.step ?_ (rd_frame _ _) rfl
            exact h1001
        · intro _ _ h1001
          refine Frame.step ?_ (rdNone_frame _) rfl
          exact h1001
      · exact h1000
  · exact (Frame.refl _ _)

theorem rdQdone_frame (y0 : Dev) : Frame 135266304 y0 (rdQdone y0).2 := by
  unfold rdQdone
  refine rdAll_cons_frame ?_
  refine rdAll_cons_frame ?_
  refine rdAll_nil_frame ?_
  refine rcRead_frame _ _ _ _ _ rfl ?_ ?_
  · intro _ h1000
    refine Frame.step ?_ (Dev.onMsp_frame _ _) rfl
    exact h1000
  · refine Frame.step ?_ (rd_frame _ _) rfl
    exact (Frame.refl _ _)

theorem rdMspCnt_frame (y0 : Dev) : Frame 135266304 y0 (rdMspCnt y0).2 := by
  unfold rdMspCnt
  refine rdAll_cons_frame ?_
  refine rdAll_cons_frame ?_
  refine rdAll_nil_frame ?_
  refine rcRead_frame _ _ _ _ _ rfl ?_ ?_
  · intro _ h1000
    refine Frame.step ?_ (Dev.onMsp_frame _ _) rfl
    exact h1000
  · refine rcRead_frame _ _ _ _ _ rfl ?_ ?_
    · intro _ h1001
      refine Frame.step ?_ (Dev.onMsp_frame _ _) rfl
      exact h1001
    · exact (Frame.refl _ _)

theorem rdXcnt_frame (y0 : Dev) : Frame 135266304 y0 (rdXcnt y0).2 := by
  unfold rdXcnt
  refine rdAll_cons_frame ?_
  refine rdAll_cons_frame ?_
  refine rdAll_nil_frame ?_
  refine rcRead_frame _ _ _ _ _ rfl ?_ ?_
  · intro _ h1000
    refine Frame.step ?_ (Dev.onMsp_frame _ _) rfl
    exact h1000
  · refine rcRead_frame _ _ _ _ _ rfl ?_ ?_
    · intro _ h1001
      refine Frame.step ?_ (Dev.onMsp_frame _ _) rfl
      exact h1001
    · exact (Frame.refl _ _)

theorem mspRead_frame (off : Nat) (y1 : Dev) : Frame 135266304 y1 (mspRead off y1).2 := by
  unfold mspRead
  refine RdF.app ?_ ?_
  · split
    · intro _ _ h1000
      refine Frame.step ?_ (rd_frame _ _) rfl
      exact h1000
    · intro _ _ h1000
      refine Frame.step ?_ (rd_frame _ _) rfl
      exact h1000
    · intro _ _ h1000
      refine Frame.step ?_ (rd_frame _ _) rfl
      exact h1000
    · intro _ _ h1000
      refine Frame.step ?_ (rdMspCnt_frame _) rfl
      exact h1000
    · intro _ _ h1000
      refine Frame.step ?_ (rd_frame _ _) rfl
      exact h1000
    · intro _ _ h1000
      refine Frame.step ?_ (rd_frame _ _) rfl
      exact h1000
    · intro _ _ h1000
      refine Frame.step ?_ (rdXcnt_frame _) rfl
      exact h1000
    · intro _ _ h1000
      refine Frame.step ?_ (rd_frame _ _) rfl
      exact h1000
    · intro _ _ h1000
      refine Frame.step ?_ (rd_frame _ _) rfl
      exact h1000
    · intro _ _ h1000
      refine Frame.step ?_ (rd_frame _ _) rfl
      exact h1000
    · intro _ _ h1000
      refine Frame.step ?_ (rd_frame _ _) rfl
      exact h1000
    · intro _ _ h1000
      refine Frame.step ?_ (rdQdone_frame _) rfl
      exact h1000
    · intro _ _ h1000
      refine Frame.step ?_ (rdNone_frame _) rfl
      exact h1000
  · exact (Frame.refl _ _)

theorem rdHspCnt_frame (y0 : Dev) : Frame 134742016 y0 (rdHspCnt y0).2 := by
  unfold rdHspCnt
  refine rdAll_cons_frame ?_
  refine rdAll_cons_frame ?_
  refine rdAll_nil_frame ?_
  refine rcRead_frame _ _ _ _ _ rfl ?_ ?_
  · intro _ h1000
    refine Frame.step ?_ (Dev.onHsp_frame _ _) rfl
    exact h1000
  · refine rcRead_frame _ _ _ _ _ rfl ?_ ?_
    · intro _ h1001
      refine Frame.step ?_ (Dev.onHsp_frame _ _) rfl
      exact h1001
    · exact (Frame.refl _ _)

theorem hspRead_frame (off : Nat) (y1 : Dev) : Frame 134742016 y1 (hspRead off y1).2 := by
  unfold hspRead
  refine RdF.app ?_ ?_
  · split
    · intro _ _ h1000
      refine Frame.step ?_ (rd_frame _ _) rfl
      exact h1000
    · intro _ _ h1000
      refine Frame.step ?_ (rd_frame _ _) rfl
      exact h1000
    · intro _ _ h1000
      refine Frame.step ?_ (rd_frame _ _) rfl
      exact h1000
    · intro _ _ h1000
      refine Frame.step ?_ (rdHspCnt_frame _) rfl
      exact h1000
    · intro _ _ h1000
      refine Frame.step ?_ (rdNone_frame _) rfl
      exact h1000
  · exact (Frame.refl _ _)

end Sys2Proof.Machine
end

