-- ==== Sys2Proof/Laws/KeepRegZone.lean ====
section
/-! SUPPORT. What the operations of Machine/RegZone.lean leave alone. -/

namespace Sys2Proof.Machine
open Sys2Proof

theorem ztWrite_frame (n : Fin 24) (k : Fin 2) (o : Nat) (y3 : Nat) (y4 : Dev) : Frame 8388608 y4 (ztWrite n k o y3 y4) := by
  unfold ztWrite
  refine Frame.step ?_ (onZt_frame _ _ _ _) rfl
  exact (Frame.refl _ _)

theorem zeArrayWrite_frame (y0 : Master) (n : Fin 24) (off : Nat) (y3 : Nat) (y4 : Dev) : Frame 8389000 y4 (zeArrayWrite y0 n
    off y3 y4) := by
  unfold zeArrayWrite
  refine WrF.app ?_ ?_
  · split
    · intro _ _ _ h1000
      split
      · refine Frame.step ?_ (onZone_frame _ _ _) rfl
        exact h1000
      · refine Frame.step ?_ (wrNone_frame _ _) rfl
        exact h1000
    · intro _ _ _ h1000
      refine WrF.app ?_ ?_
      · split
        · intro _ _ _ h1001
          refine Frame.step ?_ (onTxZ_frame _ _ _) rfl
          exact h1001
        · intro _ _ _ h1001
          refine WrF.app ?_ ?_
          · split
            · intro _ _ _ h1002
              refine Frame.step ?_ (ztWrite_frame _ _ _ _ _) rfl
              exact h1002
            · intro _ _ _ h1002
              split
              · refine Frame.step ?_ (onFr_frame _ _ _) rfl
                exact h1002
              · refine Frame.step ?_ (wrNone_frame _ _) rfl
                exact h1002
          · exact h1001
      · exact h1000
  · exact (Frame.refl _ _)

theorem rxCfgWrite_frame (y0 : Nat) (y1 : Dev) : Frame 16 y1 (rxCfgWrite y0 y1) := by
  unfold rxCfgWrite
  refine Frame.step ?_ (probeGainWrite_frame _ _) rfl
  refine Frame.step ?_ (Dev.onRx_frame _ _) rfl
  exact (Frame.refl _ _)

theorem rxWrite_frame (off : Nat) (y1 : Nat) (y2 : Dev) : Frame 16 y2 (rxWrite off y1 y2) := by
  unfold rxWrite
  refine WrF.app ?_ ?_
  · split
    · intro _ _ _ h1000
      refine Frame.step ?_ (rxCfgWrite_frame _ _) rfl
      exact h1000
    · intro _ _ _ h1000
      refine Frame.ite ?_ ?_
      · refine Frame.step ?_ (hclr_frame _) rfl
        exact h1000
      · exact h1000
    · intro _ _ _ h1000
      refine WrF.app ?_ ?_
      · split
        · intro _ _ _ h1001
          refine Frame.step ?_ (onCh_frame _ _ _) rfl
          exact h1001
        · intro _ _ _ h1001
          refine Frame.step ?_ (wrNone_frame _ _) rfl
          exact h1001
      · exact h1000
  · exact (Frame.refl _ _)

theorem frStatWrite_frame (n : Fin 24) (y1 : Nat) (y2 : Dev) : Frame 256 y2 (frStatWrite n y1 y2) := by
  unfold frStatWrite
  refine Frame.step ?_ (onFr_frame _ _ _) rfl
  exact (Frame.refl _ _)

theorem txStatWrite_frame (n : Fin 24) (y1 : Nat) (y2 : Dev) : Frame 8 y2 (txStatWrite n y1 y2) := by
  unfold txStatWrite
  refine Frame.step ?_ (onTxZ_frame _ _ _) rfl
  exact (Frame.refl _ _)

theorem txCtlWrite_frame (n : Fin 24) (y1 : Nat) (y2 : Dev) : Frame 31719932 y2 (txCtlWrite n y1 y2) := by
  unfold txCtlWrite
  refine Frame.ite ?_ ?_
  · refine Frame.step ?_ (txCommit_frame _ _) rfl
    refine Frame.step ?_ (fieldWrite_frame _ _ _) rfl
    refine Frame.step ?_ (onTxZ_frame _ _ _) rfl
    exact (Frame.refl _ _)
  · refine Frame.step ?_ (fieldWrite_frame _ _ _) rfl
    refine Frame.step ?_ (onTxZ_frame _ _ _) rfl
    exact (Frame.refl _ _)

theorem zeCtlWrite_frame (n : Fin 24) (y1 : Nat) (y2 : Dev) : Frame 31719934 y2 (zeCtlWrite n y1 y2) := by
  unfold zeCtlWrite
  refine Frame.ite ?_ ?_
  · refine Frame.step ?_ (zoneOpen_frame _ _) rfl
    refine Frame.ite ?_ ?_
    · refine Frame.step ?_ (closeZone_frame _ _ _ _) rfl
      exact (Frame.refl _ _)
    · exact (Frame.refl _ _)
  · refine Frame.ite ?_ ?_
    · refine Frame.step ?_ (closeZone_frame _ _ _ _) rfl
      exact (Frame.refl _ _)
    · exact (Frame.refl _ _)

theorem frCtlWrite_frame (n : Fin 24) (y1 : Nat) (y2 : Dev) : Frame 23069052 y2 (frCtlWrite n y1 y2) := by
  unfold frCtlWrite
  refine Frame.ite ?_ ?_
  · refine Frame.step ?_ (frSend_frame _ _) rfl
    refine Frame.ite ?_ ?_
    · refine Frame.step ?_ (abandon_frame _ _) rfl
      refine Frame.step ?_ (onFr_frame _ _ _) rfl
      exact (Frame.refl _ _)
    · refine Frame.step ?_ (onFr_frame _ _ _) rfl
      exact (Frame.refl _ _)
  · refine Frame.ite ?_ ?_
    · refine Frame.step ?_ (abandon_frame _ _) rfl
      refine Frame.step ?_ (onFr_frame _ _ _) rfl
      exact (Frame.refl _ _)
    · refine Frame.step ?_ (onFr_frame _ _ _) rfl
      exact (Frame.refl _ _)

theorem rxCtlWrite_frame (n : Fin 24) (y1 : Nat) (y2 : Dev) : Frame 16 y2 (rxCtlWrite n y1 y2) := by
  unfold rxCtlWrite
  refine Frame.step ?_ (agcWrite_frame _ _ _ _) rfl
  refine Frame.ite ?_ ?_
  · exact (Frame.refl _ _)
  · refine Frame.step ?_ (filtWrite_frame _ _ _) rfl
    exact (Frame.refl _ _)

theorem zeWrite_frame (y0 : Master) (n : Fin 24) (off : Nat) (y3 : Nat) (y4 : Dev) : Frame 31719934 y4 (zeWrite y0 n off y3
    y4) := by
  unfold zeWrite
  refine WrF.app ?_ ?_
  · split
    · intro _ _ _ h1000
      refine Frame.step ?_ (onZone_frame _ _ _) rfl
      exact h1000
    · intro _ _ _ h1000
      split
      · refine Frame.step ?_ (zeCtlWrite_frame _ _ _) rfl
        exact h1000
      · refine Frame.step ?_ (wrNone_frame _ _) rfl
        exact h1000
    · intro _ _ _ h1000
      refine Frame.step ?_ (txCtlWrite_frame _ _ _) rfl
      exact h1000
    · intro _ _ _ h1000
      refine Frame.step ?_ (txStatWrite_frame _ _ _) rfl
      exact h1000
    · intro _ _ _ h1000
      refine Frame.step ?_ (rxCtlWrite_frame _ _ _) rfl
      exact h1000
    · intro _ _ _ h1000
      refine Frame.step ?_ (onZRx_frame _ _ _) rfl
      exact h1000
    · intro _ _ _ h1000
      refine Frame.step ?_ (frCtlWrite_frame _ _ _) rfl
      exact h1000
    · intro _ _ _ h1000
      refine Frame.step ?_ (onFr_frame _ _ _) rfl
      exact h1000
    · intro _ _ _ h1000
      refine Frame.step ?_ (onFr_frame _ _ _) rfl
      exact h1000
    · intro _ _ _ h1000
      refine Frame.step ?_ (onFr_frame _ _ _) rfl
      exact h1000
    · intro _ _ _ h1000
      refine Frame.step ?_ (frStatWrite_frame _ _ _) rfl
      exact h1000
    · intro _ _ _ h1000
      refine Frame.step ?_ (rxAck_frame _ _ _) rfl
      exact h1000
    · intro _ _ _ h1000
      refine Frame.step ?_ (onFr_frame _ _ _) rfl
      exact h1000
    · intro _ _ _ h1000
      refine Frame.step ?_ (onFr_frame _ _ _) rfl
      exact h1000
    · intro _ _ _ h1000
      refine Frame.step ?_ (zeArrayWrite_frame _ _ _ _ _) rfl
      exact h1000
  · exact (Frame.refl _ _)

theorem onPcmp_frame (n : Fin 32) (f : Pcmp → Pcmp) (d : Dev) : Frame 2 d (onPcmp n f d) := by
  unfold onPcmp
  refine Frame.step ?_ (Dev.onTb_frame _ _) rfl
  exact (Frame.refl _ _)

theorem pcmpCtlWrite_frame (n : Fin 32) (y1 : Nat) (y2 : Dev) : Frame 27263234 y2 (pcmpCtlWrite n y1 y2) := by
  unfold pcmpCtlWrite
  refine Frame.ite ?_ ?_
  · refine Frame.step ?_ (pcmpFire_frame _ _) rfl
    refine Frame.step ?_ (onPcmp_frame _ _ _) rfl
    exact (Frame.refl _ _)
  · refine Frame.step ?_ (onPcmp_frame _ _ _) rfl
    exact (Frame.refl _ _)

theorem pcmpWrite_frame (n : Fin 32) (o : Nat) (y2 : Nat) (y3 : Dev) : Frame 27263234 y3 (pcmpWrite n o y2 y3) := by
  unfold pcmpWrite
  refine WrF.app ?_ ?_
  · split
    · intro _ _ _ h1000
      refine Frame.step ?_ (pcmpTgtWrite_frame _ _ _) rfl
      exact h1000
    · intro _ _ _ h1000
      refine Frame.step ?_ (onPcmp_frame _ _ _) rfl
      exact h1000
    · intro _ _ _ h1000
      refine Frame.step ?_ (pcmpCtlWrite_frame _ _ _) rfl
      exact h1000
    · intro _ _ _ h1000
      refine Frame.step ?_ (onPcmp_frame _ _ _) rfl
      exact h1000
  · exact (Frame.refl _ _)

theorem tbWrite_frame (off : Nat) (y1 : Nat) (y2 : Dev) : Frame 27263234 y2 (tbWrite off y1 y2) := by
  unfold tbWrite
  refine WrF.app ?_ ?_
  · split
    · intro _ _ _ h1000
      refine Frame.step ?_ (tbStatWrite_frame _ _) rfl
      exact h1000
    · intro _ _ _ h1000
      refine Frame.step ?_ (tbCfgWrite_frame _ _ _) rfl
      exact h1000
    · intro _ _ _ h1000
      refine Frame.step ?_ (tbCfgWrite_frame _ _ _) rfl
      exact h1000
    · intro _ _ _ h1000
      refine Frame.ite ?_ ?_
      · refine Frame.step ?_ (tbCapGo_frame _) rfl
        exact h1000
      · exact h1000
    · intro _ _ _ h1000
      refine WrF.app ?_ ?_
      · split
        · intro _ _ _ h1001
          refine Frame.step ?_ (pcmpWrite_frame _ _ _ _) rfl
          exact h1001
        · intro _ _ _ h1001
          refine Frame.step ?_ (wrNone_frame _ _) rfl
          exact h1001
      · exact h1000
  · exact (Frame.refl _ _)

theorem kstatWrite_frame (k : Fin 4) (y1 : Nat) (y2 : Dev) : Frame 4 y2 (kstatWrite k y1 y2) := by
  unfold kstatWrite
  refine Frame.step ?_ (Dev.onDrv_frame _ _) rfl
  exact (Frame.refl _ _)

theorem drvCtlWrite_frame (y0 : Nat) (y1 : Dev) : Frame 31719933 y1 (drvCtlWrite y0 y1) := by
  unfold drvCtlWrite
  refine Frame.ite ?_ ?_
  · refine Frame.step ?_ (Dev.onDrv_frame _ _) rfl
    exact (Frame.refl _ _)
  · refine Frame.step ?_ (swkillWrite_frame _ _) rfl
    refine Frame.step ?_ (Dev.onDrv_frame _ _) rfl
    exact (Frame.refl _ _)

theorem coilStatWrite_frame (c : Fin 192) (y1 : Nat) (y2 : Dev) : Frame 20 y2 (coilStatWrite c y1 y2) := by
  unfold coilStatWrite
  refine Frame.ite ?_ ?_
  · refine Frame.step ?_ (rearm_frame _ _) rfl
    refine Frame.step ?_ (Dev.onDrv_frame _ _) rfl
    exact (Frame.refl _ _)
  · refine Frame.step ?_ (Dev.onDrv_frame _ _) rfl
    exact (Frame.refl _ _)

theorem drvStatWrite_frame (y0 : Nat) (y1 : Dev) : Frame 4 y1 (drvStatWrite y0 y1) := by
  unfold drvStatWrite
  refine Frame.step ?_ (Dev.onDrv_frame _ _) rfl
  exact (Frame.refl _ _)

theorem prbCfgWrite_frame (y0 : Nat) (y1 : Dev) : Frame 64 y1 (prbCfgWrite y0 y1) := by
  unfold prbCfgWrite
  refine Frame.step ?_ (Dev.onPrb_frame _ _) rfl
  exact (Frame.refl _ _)

theorem fthWrite_frame (y0 : Nat) (y1 : Dev) : Frame 256 y1 (fthWrite y0 y1) := by
  unfold fthWrite
  refine Frame.step ?_ (Dev.onHf_frame _ _) rfl
  exact (Frame.refl _ _)

theorem drvWrite_frame (off : Nat) (y1 : Nat) (y2 : Dev) : Frame 31719933 y2 (drvWrite off y1 y2) := by
  unfold drvWrite
  refine WrF.app ?_ ?_
  · split
    · intro _ _ _ h1000
      refine Frame.step ?_ (drvCtlWrite_frame _ _) rfl
      exact h1000
    · intro _ _ _ h1000
      refine Frame.step ?_ (drvStatWrite_frame _ _) rfl
      exact h1000
    · intro _ _ _ h1000
      refine Frame.step ?_ (prbCfgWrite_frame _ _) rfl
      exact h1000
    · intro _ _ _ h1000
      refine Frame.ite ?_ ?_
      · refine Frame.step ?_ (clearBaselines_frame _) rfl
        exact h1000
      · exact h1000
    · intro _ _ _ h1000
      refine Frame.step ?_ (fthWrite_frame _ _) rfl
      exact h1000
    · intro _ _ _ h1000
      refine Frame.step ?_ (Dev.onHf_frame _ _) rfl
      exact h1000
    · intro _ _ _ h1000
      refine WrF.app ?_ ?_
      · split
        · intro _ _ _ h1001
          refine Frame.step ?_ (coilStatWrite_frame _ _ _) rfl
          exact h1001
        · intro _ _ _ h1001
          refine WrF.app ?_ ?_
          · split
            · intro _ _ _ h1002
              refine Frame.step ?_ (kstatWrite_frame _ _ _) rfl
              exact h1002
            · intro _ _ _ h1002
              refine Frame.step ?_ (wrNone_frame _ _) rfl
              exact h1002
          · exact h1001
      · exact h1000
  · exact (Frame.refl _ _)

theorem lauCfgWrite_frame (y0 : Nat) (y1 : Dev) : Frame 32 y1 (lauCfgWrite y0 y1) := by
  unfold lauCfgWrite
  refine Frame.step ?_ (probeEngWrite_frame _ _) rfl
  refine Frame.step ?_ (Dev.onLau_frame _ _) rfl
  exact (Frame.refl _ _)

theorem lauWrite_frame (off : Nat) (y1 : Nat) (y2 : Dev) : Frame 32 y2 (lauWrite off y1 y2) := by
  unfold lauWrite
  refine WrF.app ?_ ?_
  · split
    · intro _ _ _ h1000
      refine Frame.step ?_ (lauCfgWrite_frame _ _) rfl
      exact h1000
    · intro _ _ _ h1000
      refine WrF.app ?_ ?_
      · split
        · intro _ _ _ h1001
          refine WrF.app ?_ ?_
          · split
            · intro _ _ _ h1002
              refine Frame.step ?_ (lzReq_frame _ _ _ _) rfl
              exact h1002
            · intro _ _ _ h1002
              refine Frame.ite ?_ ?_
              · refine Frame.step ?_ (dpop_frame _ _) rfl
                exact h1002
              · exact h1002
            · intro _ _ _ h1002
              refine Frame.step ?_ (wrNone_frame _ _) rfl
              exact h1002
          · exact h1001
        · intro _ _ _ h1001
          refine Frame.step ?_ (wrNone_frame _ _) rfl
          exact h1001
      · exact h1000
  · exact (Frame.refl _ _)

theorem rdTbCnt_frame (y0 : Dev) : Frame 134217730 y0 (rdTbCnt y0).2 := by
  unfold rdTbCnt
  refine rdAll_cons_frame ?_
  refine rdAll_cons_frame ?_
  refine rdAll_cons_frame ?_
  refine rdAll_cons_frame ?_
  refine rdAll_nil_frame ?_
  refine rcRead_frame _ _ _ _ _ rfl ?_ ?_
  · intro _ h1000
    refine Frame.step ?_ (Dev.onTb_frame _ _) rfl
    exact h1000
  · refine rcRead_frame _ _ _ _ _ rfl ?_ ?_
    · intro _ h1001
      refine Frame.step ?_ (Dev.onTb_frame _ _) rfl
      exact h1001
    · refine rcRead_frame _ _ _ _ _ rfl ?_ ?_
      · intro _ h1002
        refine Frame.step ?_ (Dev.onTb_frame _ _) rfl
        exact h1002
      · refine rcRead_frame _ _ _ _ _ rfl ?_ ?_
        · intro _ h1003
          refine Frame.step ?_ (Dev.onTb_frame _ _) rfl
          exact h1003
        · exact (Frame.refl _ _)

theorem rdPcmpStat_frame (n : Fin 32) (y1 : Dev) : Frame 134217730 y1 (rdPcmpStat n y1).2 := by
  unfold rdPcmpStat
  refine rdAll_cons_frame ?_
  refine rdAll_cons_frame ?_
  refine rdAll_nil_frame ?_
  refine rcRead_frame _ _ _ _ _ rfl ?_ ?_
  · intro _ h1000
    refine Frame.step ?_ (onPcmp_frame _ _ _) rfl
    exact h1000
  · refine Frame.step ?_ (rd_frame _ _) rfl
    exact (Frame.refl _ _)

theorem tbRead_frame (off : Nat) (y1 : Dev) : Frame 134217730 y1 (tbRead off y1).2 := by
  unfold tbRead
  refine RdF.app ?_ ?_
  · split
    · intro _ _ h1000
      refine Frame.step ?_ (rd_frame _ _) rfl
      exact h1000
    · intro _ _ h1000
      refine Frame.step ?_ (rd_frame _ _) rfl
      exact h1000
    · intro _ _ h1000
      refine Frame.step ?_ (rd_frame _ _) rfl
      exact h1000
    · intro _ _ h1000
      refine Frame.step ?_ (rd_frame _ _) rfl
      exact h1000
    · intro _ _ h1000
      refine Frame.step ?_ (rd_frame _ _) rfl
      exact h1000
    · intro _ _ h1000
      refine Frame.step ?_ (rd_frame _ _) rfl
      exact h1000
    · intro _ _ h1000
      refine Frame.step ?_ (rd_frame _ _) rfl
      exact h1000
    · intro _ _ h1000
      refine Frame.step ?_ (rdTbCnt_frame _) rfl
      exact h1000
    · intro _ _ h1000
      refine Frame.step ?_ (rd_frame _ _) rfl
      exact h1000
    · intro _ _ h1000
      refine Frame.step ?_ (rd_frame _ _) rfl
      exact h1000
    · intro _ _ h1000
      refine Frame.step ?_ (rd_frame _ _) rfl
      exact h1000
    · intro _ _ h1000
      refine RdF.app ?_ ?_
      · split
        · intro _ _ h1001
          refine RdF.app ?_ ?_
          · split
            · intro _ _ h1002
              refine Frame.step ?_ (rd_frame _ _) rfl
              exact h1002
            · intro _ _ h1002
              refine Frame.step ?_ (rd_frame _ _) rfl
              exact h1002
            · intro _ _ h1002
              refine Frame.step ?_ (rd_frame _ _) rfl
              exact h1002
            · intro _ _ h1002
              refine Frame.step ?_ (rdPcmpStat_frame _ _) rfl
              exact h1002
          · exact h1001
        · intro _ _ h1001
          refine RdF.app ?_ ?_
          · split
            · intro _ _ h1003
              refine RdF.app ?_ ?_
              · split
                · intro _ _ h1004
                  refine Frame.step ?_ (rd_frame _ _) rfl
                  exact h1004
                · intro _ _ h1004
                  refine Frame.step ?_ (rdNone_frame _) rfl
                  exact h1004
              · exact h1003
            · intro _ _ h1003
              refine Frame.step ?_ (rdNone_frame _) rfl
              exact h1003
          · exact h1001
      · exact h1000
  · exact (Frame.refl _ _)

theorem zeArrayRead_frame (n : Fin 24) (off : Nat) (y2 : Dev) : Frame 0 y2 (zeArrayRead n off y2).2 := by
  unfold zeArrayRead
  refine RdF.app ?_ ?_
  · split
    · intro _ _ h1000
      refine Frame.step ?_ (rd_frame _ _) rfl
      exact h1000
    · intro _ _ h1000
      refine RdF.app ?_ ?_
      · split
        · intro _ _ h1001
          refine Frame.step ?_ (rd_frame _ _) rfl
          exact h1001
        · intro _ _ h1001
          refine RdF.app ?_ ?_
          · split
            · intro _ _ h1002
              refine RdF.app ?_ ?_
              · split
                · intro _ _ h1003
                  refine Frame.step ?_ (rd_frame _ _) rfl
                  exact h1003
                · intro _ _ h1003
                  refine Frame.step ?_ (rd_frame _ _) rfl
                  exact h1003
                · intro _ _ h1003
                  refine Frame.step ?_ (rd_frame _ _) rfl
                  exact h1003
                · intro _ _ h1003
                  refine Frame.step ?_ (rd_frame _ _) rfl
                  exact h1003
              · exact h1002
            · intro _ _ h1002
              split
              · refine Frame.step ?_ (rd_frame _ _) rfl
                exact h1002
              · split
                · refine Frame.step ?_ (rd_frame _ _) rfl
                  exact h1002
                · split
                  · refine Frame.step ?_ (rd_frame _ _) rfl
                    exact h1002
                  · refine Frame.step ?_ (rdNone_frame _) rfl
                    exact h1002
          · exact h1001
      · exact h1000
  · exact (Frame.refl _ _)

theorem rdFcnt_frame (y0 : Dev) : Frame 134217732 y0 (rdFcnt y0).2 := by
  unfold rdFcnt
  refine rdAll_cons_frame ?_
  refine rdAll_cons_frame ?_
  refine rdAll_nil_frame ?_
  refine rcRead_frame _ _ _ _ _ rfl ?_ ?_
  · intro _ h1000
    refine Frame.step ?_ (Dev.onDrv_frame _ _) rfl
    exact h1000
  · refine rcRead_frame _ _ _ _ _ rfl ?_ ?_
    · intro _ h1001
      refine Frame.step ?_ (Dev.onDrv_frame _ _) rfl
      exact h1001
    · exact (Frame.refl _ _)

theorem drvArrayRead_frame (off : Nat) (y1 : Dev) : Frame 0 y1 (drvArrayRead off y1).2 := by
  unfold drvArrayRead
  refine RdF.app ?_ ?_
  · split
    · intro _ _ h1000
      refine Frame.step ?_ (rd_frame _ _) rfl
      exact h1000
    · intro _ _ h1000
      refine RdF.app ?_ ?_
      · split
        · intro _ _ h1001
          refine Frame.step ?_ (rd_frame _ _) rfl
          exact h1001
        · intro _ _ h1001
          refine RdF.app ?_ ?_
          · split
            · intro _ _ h1002
              split
              · refine Frame.step ?_ (rd_frame _ _) rfl
                exact h1002
              · refine Frame.step ?_ (rdNone_frame _) rfl
                exact h1002
            · intro _ _ h1002
              refine RdF.app ?_ ?_
              · split
                · intro _ _ h1003
                  refine Frame.step ?_ (rd_frame _ _) rfl
                  exact h1003
                · intro _ _ h1003
                  refine RdF.app ?_ ?_
                  · split
                    · intro _ _ h1004
                      refine Frame.step ?_ (rd_frame _ _) rfl
                      exact h1004
                    · intro _ _ h1004
                      refine RdF.app ?_ ?_
                      · split
                        · intro _ _ h1005
                          refine Frame.step ?_ (rd_frame _ _) rfl
                          exact h1005
                        · intro _ _ h1005
                          refine Frame.step ?_ (rdNone_frame _) rfl
                          exact h1005
                      · exact h1004
                  · exact h1003
              · exact h1002
          · exact h1001
      · exact h1000
  · exact (Frame.refl _ _)

theorem rdPrbCnt_frame (y0 : Dev) : Frame 134217792 y0 (rdPrbCnt y0).2 := by
  unfold rdPrbCnt
  refine rdAll_cons_frame ?_
  refine rdAll_cons_frame ?_
  refine rdAll_cons_frame ?_
  refine rdAll_cons_frame ?_
  refine rdAll_nil_frame ?_
  refine rcRead_frame _ _ _ _ _ rfl ?_ ?_
  · intro _ h1000
    refine Frame.step ?_ (Dev.onPrb_frame _ _) rfl
    exact h1000
  · refine rcRead_frame _ _ _ _ _ rfl ?_ ?_
    · intro _ h1001
      refine Frame.step ?_ (Dev.onPrb_frame _ _) rfl
      exact h1001
    · refine rcRead_frame _ _ _ _ _ rfl ?_ ?_
      · intro _ h1002
        refine Frame.step ?_ (Dev.onPrb_frame _ _) rfl
        exact h1002
      · refine rcRead_frame _ _ _ _ _ rfl ?_ ?_
        · intro _ h1003
          refine Frame.step ?_ (Dev.onPrb_frame _ _) rfl
          exact h1003
        · exact (Frame.refl _ _)

theorem drvRead_frame (off : Nat) (y1 : Dev) : Frame 134217796 y1 (drvRead off y1).2 := by
  unfold drvRead
  refine RdF.app ?_ ?_
  · split
    · intro _ _ h1000
      refine Frame.step ?_ (rd_frame _ _) rfl
      exact h1000
    · intro _ _ h1000
      refine Frame.step ?_ (rd_frame _ _) rfl
      exact h1000
    · intro _ _ h1000
      refine Frame.step ?_ (rd_frame _ _) rfl
      exact h1000
    · intro _ _ h1000
      refine Frame.step ?_ (rdFcnt_frame _) rfl
      exact h1000
    · intro _ _ h1000
      refine Frame.step ?_ (rd_frame _ _) rfl
      exact h1000
    · intro _ _ h1000
      refine Frame.step ?_ (rd_frame _ _) rfl
      exact h1000
    · intro _ _ h1000
      refine Frame.step ?_ (rdPrbCnt_frame _) rfl
      exact h1000
    · intro _ _ h1000
      refine Frame.step ?_ (rd_frame _ _) rfl
      exact h1000
    · intro _ _ h1000
      refine Frame.step ?_ (rd_frame _ _) rfl
      exact h1000
    · intro _ _ h1000
      refine Frame.step ?_ (rd_frame _ _) rfl
      exact h1000
    · intro _ _ h1000
      refine Frame.step ?_ (drvArrayRead_frame _ _) rfl
      exact h1000
  · exact (Frame.refl _ _)

theorem rdLauCnt_frame (y0 : Dev) : Frame 134217760 y0 (rdLauCnt y0).2 := by
  unfold rdLauCnt
  refine rdAll_cons_frame ?_
  refine rdAll_cons_frame ?_
  refine rdAll_nil_frame ?_
  refine rcRead_frame _ _ _ _ _ rfl ?_ ?_
  · intro _ h1000
    refine Frame.step ?_ (Dev.onLau_frame _ _) rfl
    exact h1000
  · refine rcRead_frame _ _ _ _ _ rfl ?_ ?_
    · intro _ h1001
      refine Frame.step ?_ (Dev.onLau_frame _ _) rfl
      exact h1001
    · exact (Frame.refl _ _)

theorem rdLzCnt_frame (n : Fin 24) (y1 : Dev) : Frame 134217760 y1 (rdLzCnt n y1).2 := by
  unfold rdLzCnt
  refine rdAll_cons_frame ?_
  refine rdAll_cons_frame ?_
  refine rdAll_cons_frame ?_
  refine rdAll_cons_frame ?_
  refine rdAll_nil_frame ?_
  refine rcRead_frame _ _ _ _ _ rfl ?_ ?_
  · intro _ h1000
    refine Frame.step ?_ (onLz_frame _ _ _) rfl
    exact h1000
  · refine rcRead_frame _ _ _ _ _ rfl ?_ ?_
    · intro _ h1001
      refine Frame.step ?_ (onLz_frame _ _ _) rfl
      exact h1001
    · refine rcRead_frame _ _ _ _ _ rfl ?_ ?_
      · intro _ h1002
        refine Frame.step ?_ (onLz_frame _ _ _) rfl
        exact h1002
      · refine rcRead_frame _ _ _ _ _ rfl ?_ ?_
        · intro _ h1003
          refine Frame.step ?_ (onLz_frame _ _ _) rfl
          exact h1003
        · exact (Frame.refl _ _)

theorem lzRead_frame (n : Fin 24) (o : Nat) (y2 : Dev) : Frame 134217760 y2 (lzRead n o y2).2 := by
  unfold lzRead
  refine RdF.app ?_ ?_
  · split
    · intro _ _ h1000
      refine Frame.step ?_ (rd_frame _ _) rfl
      exact h1000
    · intro _ _ h1000
      refine Frame.step ?_ (rd_frame _ _) rfl
      exact h1000
    · intro _ _ h1000
      refine Frame.step ?_ (rd_frame _ _) rfl
      exact h1000
    · intro _ _ h1000
      refine Frame.step ?_ (rd_frame _ _) rfl
      exact h1000
    · intro _ _ h1000
      refine Frame.step ?_ (rd_frame _ _) rfl
      exact h1000
    · intro _ _ h1000
      refine Frame.step ?_ (rd_frame _ _) rfl
      exact h1000
    · intro _ _ h1000
      refine Frame.step ?_ (rdLzCnt_frame _ _) rfl
      exact h1000
    · intro _ _ h1000
      refine Frame.step ?_ (rdNone_frame _) rfl
      exact h1000
  · exact (Frame.refl _ _)

theorem lauRead_frame (off : Nat) (y1 : Dev) : Frame 134217760 y1 (lauRead off y1).2 := by
  unfold lauRead
  refine RdF.app ?_ ?_
  · split
    · intro _ _ h1000
      refine Frame.step ?_ (rd_frame _ _) rfl
      exact h1000
    · intro _ _ h1000
      refine Frame.step ?_ (rd_frame _ _) rfl
      exact h1000
    · intro _ _ h1000
      refine Frame.step ?_ (rd_frame _ _) rfl
      exact h1000
    · intro _ _ h1000
      refine Frame.step ?_ (rdLauCnt_frame _) rfl
      exact h1000
    · intro _ _ h1000
      refine RdF.app ?_ ?_
      · split
        · intro _ _ h1001
          refine Frame.step ?_ (rd_frame _ _) rfl
          exact h1001
        · intro _ _ h1001
          refine RdF.app ?_ ?_
          · split
            · intro _ _ h1002
              refine Frame.step ?_ (lzRead_frame _ _ _) rfl
              exact h1002
            · intro _ _ h1002
              refine Frame.step ?_ (rdNone_frame _) rfl
              exact h1002
          · exact h1001
      · exact h1000
  · exact (Frame.refl _ _)

theorem rdFrCnt_frame (n : Fin 24) (y1 : Dev) : Frame 134217984 y1 (rdFrCnt n y1).2 := by
  unfold rdFrCnt
  refine rdAll_cons_frame ?_
  refine rdAll_cons_frame ?_
  refine rdAll_cons_frame ?_
  refine rdAll_cons_frame ?_
  refine rdAll_cons_frame ?_
  refine rdAll_nil_frame ?_
  refine rcRead_frame _ _ _ _ _ rfl ?_ ?_
  · intro _ h1000
    refine Frame.step ?_ (onFr_frame _ _ _) rfl
    exact h1000
  · refine rcRead_frame _ _ _ _ _ rfl ?_ ?_
    · intro _ h1001
      refine Frame.step ?_ (onFr_frame _ _ _) rfl
      exact h1001
    · refine rcRead_frame _ _ _ _ _ rfl ?_ ?_
      · intro _ h1002
        refine Frame.step ?_ (onFr_frame _ _ _) rfl
        exact h1002
      · refine rcRead_frame _ _ _ _ _ rfl ?_ ?_
        · intro _ h1003
          refine Frame.step ?_ (onFr_frame _ _ _) rfl
          exact h1003
        · refine rcRead_frame _ _ _ _ _ rfl ?_ ?_
          · intro _ h1004
            refine Frame.step ?_ (onFr_frame _ _ _) rfl
            exact h1004
          · exact (Frame.refl _ _)

theorem zeRead_frame (n : Fin 24) (off : Nat) (y2 : Dev) : Frame 134217984 y2 (zeRead n off y2).2 := by
  unfold zeRead
  refine RdF.app ?_ ?_
  · split
    · intro _ _ h1000
      refine Frame.step ?_ (rd_frame _ _) rfl
      exact h1000
    · intro _ _ h1000
      refine Frame.step ?_ (rd_frame _ _) rfl
      exact h1000
    · intro _ _ h1000
      refine Frame.step ?_ (rd_frame _ _) rfl
      exact h1000
    · intro _ _ h1000
      refine Frame.step ?_ (rd_frame _ _) rfl
      exact h1000
    · intro _ _ h1000
      refine Frame.step ?_ (rd_frame _ _) rfl
      exact h1000
    · intro _ _ h1000
      refine Frame.step ?_ (rd_frame _ _) rfl
      exact h1000
    · intro _ _ h1000
      refine Frame.step ?_ (rd_frame _ _) rfl
      exact h1000
    · intro _ _ h1000
      refine Frame.step ?_ (rd_frame _ _) rfl
      exact h1000
    · intro _ _ h1000
      refine Frame.step ?_ (rd_frame _ _) rfl
      exact h1000
    · intro _ _ h1000
      refine Frame.step ?_ (rd_frame _ _) rfl
      exact h1000
    · intro _ _ h1000
      refine Frame.step ?_ (rd_frame _ _) rfl
      exact h1000
    · intro _ _ h1000
      refine Frame.step ?_ (rd_frame _ _) rfl
      exact h1000
    · intro _ _ h1000
      refine Frame.step ?_ (rd_frame _ _) rfl
      exact h1000
    · intro _ _ h1000
      refine Frame.step ?_ (rd_frame _ _) rfl
      exact h1000
    · intro _ _ h1000
      refine Frame.step ?_ (rdFrCnt_frame _ _) rfl
      exact h1000
    · intro _ _ h1000
      refine Frame.step ?_ (rd_frame _ _) rfl
      exact h1000
    · intro _ _ h1000
      refine Frame.step ?_ (zeArrayRead_frame _ _ _) rfl
      exact h1000
  · exact (Frame.refl _ _)

theorem rdRxCnt_frame (y0 : Dev) : Frame 134217744 y0 (rdRxCnt y0).2 := by
  unfold rdRxCnt
  refine rdAll_cons_frame ?_
  refine rdAll_cons_frame ?_
  refine rdAll_nil_frame ?_
  refine rcRead_frame _ _ _ _ _ rfl ?_ ?_
  · intro _ h1000
    refine Frame.step ?_ (Dev.onRx_frame _ _) rfl
    exact h1000
  · refine rcRead_frame _ _ _ _ _ rfl ?_ ?_
    · intro _ h1001
      refine Frame.step ?_ (Dev.onRx_frame _ _) rfl
      exact h1001
    · exact (Frame.refl _ _)

theorem rxRead_frame (off : Nat) (y1 : Dev) : Frame 134217744 y1 (rxRead off y1).2 := by
  unfold rxRead
  refine RdF.app ?_ ?_
  · split
    · intro _ _ h1000
      refine Frame.step ?_ (rd_frame _ _) rfl
      exact h1000
    · intro _ _ h1000
      refine Frame.step ?_ (rdRxCnt_frame _) rfl
      exact h1000
    · intro _ _ h1000
      refine RdF.app ?_ ?_
      · split
        · intro _ _ h1001
          refine Frame.step ?_ (rd_frame _ _) rfl
          exact h1001
        · intro _ _ h1001
          refine Frame.step ?_ (rdNone_frame _) rfl
          exact h1001
      · exact h1000
  · exact (Frame.refl _ _)

end Sys2Proof.Machine
end

