-- ==== Sys2Proof/Laws/KeepRegMap.lean ====
section
/-! SUPPORT. What the operations of Machine/RegMap.lean leave alone. -/

namespace Sys2Proof.Machine
open Sys2Proof

theorem oddWrite_frame (y0 : Master) (r : Region) (off : Nat) (y3 : Nat) (y4 : Dev) : Frame 8389000 y4 (oddWrite y0 r off y3
    y4) := by
  unfold oddWrite
  refine WrF.app ?_ ?_
  · split
    · intro _ _ _ h1000
      split
      · refine Frame.step ?_ (zeArrayWrite_frame _ _ _ _ _) rfl
        exact h1000
      · refine Frame.step ?_ (wrNone_frame _ _) rfl
        exact h1000
    · intro _ _ _ h1000
      refine Frame.step ?_ (wrNone_frame _ _) rfl
      exact h1000
  · exact (Frame.refl _ _)

theorem devWrite_frame (y0 : Master) (r : Region) (off : Nat) (y3 : Nat) (y4 : Dev) : Frame 1275018751 y4 (devWrite y0 r off
    y3 y4) := by
  unfold devWrite
  refine WrF.app ?_ ?_
  · split
    · intro _ _ _ h1000
      refine Frame.step ?_ (evrWrite_frame _ _ _ _) rfl
      exact h1000
    · intro _ _ _ h1000
      refine Frame.step ?_ (timWrite_frame _ _ _ _) rfl
      exact h1000
    · intro _ _ _ h1000
      refine Frame.step ?_ (hspWrite_frame _ _ _) rfl
      exact h1000
    · intro _ _ _ h1000
      refine Frame.step ?_ (mspWrite_frame _ _ _) rfl
      exact h1000
    · intro _ _ _ h1000
      refine Frame.step ?_ (qWrite_frame _ _ _) rfl
      exact h1000
    · intro _ _ _ h1000
      refine Frame.step ?_ (ksWrite_frame _ _ _) rfl
      exact h1000
    · intro _ _ _ h1000
      refine Frame.step ?_ (pmuWrite_frame _ _ _) rfl
      exact h1000
    · intro _ _ _ h1000
      refine Frame.step ?_ (tbWrite_frame _ _ _) rfl
      exact h1000
    · intro _ _ _ h1000
      refine Frame.step ?_ (zeWrite_frame _ _ _ _ _) rfl
      exact h1000
    · intro _ _ _ h1000
      split
      · refine Frame.step ?_ (lauWrite_frame _ _ _) rfl
        exact h1000
      · split
        · refine Frame.step ?_ (rxWrite_frame _ _ _) rfl
          exact h1000
        · refine Frame.step ?_ (drvWrite_frame _ _ _) rfl
          exact h1000
    · intro _ _ _ h1000
      refine Frame.step ?_ (uhfWrite_frame _ _ _) rfl
      exact h1000
    · intro _ _ _ h1000
      refine Frame.step ?_ (kilnRegWrite_frame _ _ _) rfl
      exact h1000
    · intro _ _ _ h1000
      refine Frame.step ?_ (wrNone_frame _ _) rfl
      exact h1000
  · exact (Frame.refl _ _)

theorem writeNow_frame (y0 : Master) (r : Region) (off : Nat) (v : Nat) (s : State) : SKeep 1543454207 s (writeNow y0 r off v
    s) := by
  unfold writeNow
  refine SKeep.ite ?_ ?_
  · refine SKeep.mk4 ?_ ?_ ?_ ?_
    · exact (SKeep.refl _ _)
    · refine SKeep.dev ?_
      exact (SKeep.refl _ _)
    · first | exact MemOk.same _ _ _ _ | exact MemOk.nil rfl | exact MemOk.writes rfl | exact MemOk.erase rfl
    · first | exact MemOk.same _ _ _ _ | exact MemOk.nil rfl | exact MemOk.writes rfl | exact MemOk.erase rfl
  · refine SKeep.ite ?_ ?_
    · refine State.on_frame _ _ rfl ?_ ?_
      · intro _ h1000
        refine Frame.step ?_ (xipError_frame _ _ _) rfl
        exact h1000
      · exact (SKeep.refl _ _)
    · refine SKeep.ite ?_ ?_
      · refine State.on_frame _ _ rfl ?_ ?_
        · intro _ h1001
          refine Frame.step ?_ (oddWrite_frame _ _ _ _ _) rfl
          exact h1001
        · exact (SKeep.refl _ _)
      · refine SKeep.ite ?_ ?_
        · refine SKeep.ite ?_ ?_
          · refine State.on_frame _ _ rfl ?_ ?_
            · intro _ h1002
              refine Frame.step ?_ (ksGo_frame _ _ _) rfl
              refine SKeep.dev ?_
              exact (SKeep.refl _ _)
            · exact (SKeep.refl _ _)
          · exact (SKeep.refl _ _)
        · refine State.on_frame _ _ rfl ?_ ?_
          · intro _ h1003
            refine Frame.step ?_ (devWrite_frame _ _ _ _ _) rfl
            exact h1003
          · exact (SKeep.refl _ _)

theorem deniedWrite_frame (y0 : Master) (a : Nat) (d : Dev) : Frame 31789564 d (deniedWrite y0 a d) := by
  unfold deniedWrite
  split
  · refine Frame.step ?_ (moduleFault_frame _ _ _ _) rfl
    exact (Frame.refl _ _)
  · exact (Frame.refl _ _)

theorem deniedRead_frame (y0 : Master) (a : Nat) (d : Dev) : Frame 166007292 d (deniedRead y0 a d) := by
  unfold deniedRead
  split
  · refine Frame.step ?_ (readOut_frame _ _) rfl
    refine Frame.step ?_ (moduleFault_frame _ _ _ _) rfl
    exact (Frame.refl _ _)
  · refine Frame.step ?_ (readOut_frame _ _) rfl
    exact (Frame.refl _ _)

theorem oddRead_frame (r : Region) (off : Nat) (y2 : Dev) : Frame 134217730 y2 (oddRead r off y2).2 := by
  unfold oddRead
  refine RdF.app ?_ ?_
  · split
    · intro _ _ h1000
      split
      · exact h1000
      · refine Frame.step ?_ (rdNone_frame _) rfl
        exact h1000
    · intro _ _ h1000
      split
      · refine Frame.step ?_ (zeArrayRead_frame _ _ _) rfl
        exact h1000
      · refine Frame.step ?_ (rdNone_frame _) rfl
        exact h1000
    · intro _ _ h1000
      refine Frame.step ?_ (rdNone_frame _) rfl
      exact h1000
  · exact (Frame.refl _ _)

theorem devRead_frame (y0 : Master) (r : Region) (off : Nat) (y3 : Dev) : Frame 167370102 y3 (devRead y0 r off y3).2 := by
  unfold devRead
  refine RdF.app ?_ ?_
  · split
    · intro _ _ h1000
      refine Frame.step ?_ (evrRead_frame _ _) rfl
      exact h1000
    · intro _ _ h1000
      refine Frame.step ?_ (timRead_frame _ _ _) rfl
      exact h1000
    · intro _ _ h1000
      refine Frame.step ?_ (hspRead_frame _ _) rfl
      exact h1000
    · intro _ _ h1000
      refine Frame.step ?_ (mspRead_frame _ _) rfl
      exact h1000
    · intro _ _ h1000
      refine Frame.step ?_ (qRead_frame _ _) rfl
      exact h1000
    · intro _ _ h1000
      refine Frame.step ?_ (ksRead_frame _ _) rfl
      exact h1000
    · intro _ _ h1000
      refine Frame.step ?_ (pmuRead_frame _ _) rfl
      exact h1000
    · intro _ _ h1000
      refine Frame.step ?_ (tbRead_frame _ _) rfl
      exact h1000
    · intro _ _ h1000
      refine Frame.step ?_ (zeRead_frame _ _ _) rfl
      exact h1000
    · intro _ _ h1000
      split
      · refine Frame.step ?_ (lauRead_frame _ _) rfl
        exact h1000
      · split
        · refine Frame.step ?_ (rxRead_frame _ _) rfl
          exact h1000
        · refine Frame.step ?_ (drvRead_frame _ _) rfl
          exact h1000
    · intro _ _ h1000
      refine Frame.step ?_ (uhfRead_frame _ _) rfl
      exact h1000
    · intro _ _ h1000
      refine Frame.step ?_ (clRead_frame _ _ _) rfl
      exact h1000
    · intro _ _ h1000
      refine Frame.step ?_ (kilnRegRead_frame _ _) rfl
      exact h1000
    · intro _ _ h1000
      refine Frame.step ?_ (rdNone_frame _) rfl
      exact h1000
  · exact (Frame.refl _ _)

theorem readNow_frame (y0 : Master) (r : Region) (off : Nat) (a : Nat) (s : State) : SKeep 167370102 s (readNow y0 r off a s)
    := by
  unfold readNow
  split
  · refine State.on_frame _ _ rfl ?_ ?_
    · intro _ h1000
      refine Frame.step ?_ (readOut_frame _ _) rfl
      exact h1000
    · exact (SKeep.refl _ _)
  · refine SKeep.ite ?_ ?_
    · refine State.on_frame _ _ rfl ?_ ?_
      · intro _ h1001
        refine Frame.step ?_ (xipRead_frame _ _ _) rfl
        exact h1001
      · exact (SKeep.refl _ _)
    · refine SKeep.ite ?_ ?_
      · refine State.on_frame _ _ rfl ?_ ?_
        · intro _ h1002
          refine Frame.step ?_ (readOut_frame _ _) rfl
          refine Frame.step ?_ (oddRead_frame _ _ _) rfl
          exact h1002
        · exact (SKeep.refl _ _)
      · refine SKeep.ite ?_ ?_
        · refine State.on_frame _ _ rfl ?_ ?_
          · intro _ h1003
            refine Frame.step ?_ (readOut_frame _ _) rfl
            exact h1003
          · exact (SKeep.refl _ _)
        · refine State.on_frame _ _ rfl ?_ ?_
          · intro _ h1004
            refine Frame.step ?_ (readOut_frame _ _) rfl
            refine Frame.step ?_ (devRead_frame _ _ _ _) rfl
            exact h1004
          · exact (SKeep.refl _ _)

theorem outside_frame (y0 : Master) (a : Nat) (data : Option Nat) (d : Dev) : Frame 166007292 d (outside y0 a data d) := by
  unfold outside
  split
  · refine Frame.step ?_ (deniedRead_frame _ _ _) rfl
    refine Frame.step ?_ (busError_frame _ _ _) rfl
    exact (Frame.refl _ _)
  · refine Frame.step ?_ (deniedWrite_frame _ _ _) rfl
    refine Frame.step ?_ (busError_frame _ _ _) rfl
    exact (Frame.refl _ _)

theorem accessNow_frame (y0 : Master) (a : Nat) (data : Option Nat) (s : State) : SKeep 1543503359 s (accessNow y0 a data s) := by
  unfold accessNow
  split
  · refine State.on_frame _ _ rfl ?_ ?_
    · intro _ h1000
      refine Frame.step ?_ (outside_frame _ _ _ _) rfl
      exact h1000
    · exact (SKeep.refl _ _)
  · split
    · refine SKeep.ite ?_ ?_
      · refine SKeep.step ?_ (readNow_frame _ _ _ _ _) rfl
        exact (SKeep.refl _ _)
      · refine State.on_frame _ _ rfl ?_ ?_
        · intro _ h1001
          refine Frame.step ?_ (deniedRead_frame _ _ _) rfl
          exact h1001
        · exact (SKeep.refl _ _)
    · refine SKeep.ite ?_ ?_
      · refine SKeep.step ?_ (writeNow_frame _ _ _ _ _) rfl
        exact (SKeep.refl _ _)
      · refine State.on_frame _ _ rfl ?_ ?_
        · intro _ h1002
          refine Frame.step ?_ (deniedWrite_frame _ _ _) rfl
          exact h1002
        · exact (SKeep.refl _ _)

theorem stall_frame (y0 : Master) (dom : Nat) (a : Nat) (data : Option Nat) (d : Dev) : Frame 134217728 d (stall y0 dom a data
    d) := by
  unfold stall
  refine Frame.step ?_ (Dev.onBus_frame _ _) rfl
  exact (Frame.refl _ _)

theorem access_frame (y0 : Master) (a : Nat) (data : Option Nat) (s : State) : SKeep 1543503359 s (access y0 a data s) := by
  unfold access
  refine SKeep.ite ?_ ?_
  · exact (SKeep.refl _ _)
  · split
    · refine State.on_frame _ _ rfl ?_ ?_
      · intro _ h1000
        refine Frame.step ?_ (outside_frame _ _ _ _) rfl
        exact h1000
      · exact (SKeep.refl _ _)
    · refine SKeep.ite ?_ ?_
      · refine State.on_frame _ _ rfl ?_ ?_
        · intro _ h1001
          refine Frame.step ?_ (stall_frame _ _ _ _ _) rfl
          exact h1001
        · exact (SKeep.refl _ _)
      · refine SKeep.ite ?_ ?_
        · refine SKeep.step ?_ (accessNow_frame _ _ _ _) rfl
          exact (SKeep.refl _ _)
        · refine SKeep.ite ?_ ?_
          · refine SKeep.step ?_ (accessNow_frame _ _ _ _) rfl
            refine State.on_frame _ _ rfl ?_ ?_
            · intro _ h1002
              refine Frame.step ?_ (wakeDom_frame _ _) rfl
              exact h1002
            · exact (SKeep.refl _ _)
          · refine State.on_frame _ _ rfl ?_ ?_
            · intro _ h1003
              refine Frame.step ?_ (stall_frame _ _ _ _ _) rfl
              exact h1003
            · refine State.on_frame _ _ rfl ?_ ?_
              · intro _ h1004
                refine Frame.step ?_ (wakeDom_frame _ _) rfl
                exact h1004
              · exact (SKeep.refl _ _)

theorem completeStall_frame (k : Fin 49) (x : Stall) (s : State) : SKeep 1543503359 s (completeStall k x s) := by
  unfold completeStall
  refine SKeep.step ?_ (accessNow_frame _ _ _ _) rfl
  refine State.on_frame _ _ rfl ?_ ?_
  · intro _ h1000
    refine Frame.step ?_ (onDom_frame _ _ _) rfl
    exact h1000
  · exact (SKeep.refl _ _)

theorem wakeReady_frame (k : Fin 49) (s : State) : SKeep 1543503359 s (wakeReady k s) := by
  unfold wakeReady
  refine SKeep.ite ?_ ?_
  · exact (SKeep.refl _ _)
  · refine SKeep.ite ?_ ?_
    · refine State.on_frame _ _ rfl ?_ ?_
      · intro _ h1000
        refine Frame.step ?_ (coreUp_frame _) rfl
        exact h1000
      · exact (SKeep.refl _ _)
    · refine State.on_frame _ _ rfl ?_ ?_
      · intro _ h1001
        refine Frame.step ?_ (keepDone_frame _) rfl
        exact h1001
      · refine SKeep.ite ?_ ?_
        · refine State.on_frame _ _ rfl ?_ ?_
          · intro _ h1002
            refine Frame.step ?_ (domGoing_frame _ _) rfl
            exact h1002
          · refine SKeep.foldl ?_ ?_
            · refine State.on_frame _ _ rfl ?_ ?_
              · intro _ h1003
                refine Frame.step ?_ (domUp_frame _ _) rfl
                refine Frame.step ?_ (Dev.onBus_frame _ _) rfl
                exact h1003
              · exact (SKeep.refl _ _)
            · intro _ _ h1004
              refine SKeep.step ?_ (completeStall_frame _ _ _) rfl
              exact h1004
        · refine SKeep.foldl ?_ ?_
          · refine State.on_frame _ _ rfl ?_ ?_
            · intro _ h1005
              refine Frame.step ?_ (domUp_frame _ _) rfl
              refine Frame.step ?_ (Dev.onBus_frame _ _) rfl
              exact h1005
            · exact (SKeep.refl _ _)
          · intro _ _ h1006
            refine SKeep.step ?_ (completeStall_frame _ _ _) rfl
            exact h1006

theorem execDomainWakeReady_frame (k : Fin 49) (s : State) : ONext 1543503359 s.ev (execDomainWakeReady k s) := by
  unfold execDomainWakeReady
  refine ONext.next ?_
  refine SKeep.step ?_ (wakeReady_frame _ _) rfl
  exact SKeep.refl _ _

theorem flashReads_frame (s : State) : SKeep 1543503359 s (flashReads s) := by
  unfold flashReads
  refine SKeep.foldl ?_ ?_
  · refine State.on_frame _ _ rfl ?_ ?_
    · intro _ h1000
      refine Frame.step ?_ (Dev.onBus_frame _ _) rfl
      exact h1000
    · exact (SKeep.refl _ _)
  · intro _ _ h1001
    refine SKeep.step ?_ (accessNow_frame _ _ _ _) rfl
    exact h1001

theorem execFlashEraseDone_frame (ok : Bool) (us : Nat) (s : State) : ONext 2080374271 s.ev (execFlashEraseDone ok us s) := by
  unfold execFlashEraseDone
  refine ONext.ite ?_ ?_
  · refine ONext.next ?_
    exact SKeep.refl _ _
  · refine ONext.next ?_
    refine SKeep.step ?_ (flashReads_frame _) rfl
    refine SKeep.step ?_ (flashErased_frame _ _ _) rfl
    exact SKeep.refl _ _

theorem execFlashProgramDone_frame (ok : Bool) (s : State) : ONext 2080374271 s.ev (execFlashProgramDone ok s) := by
  unfold execFlashProgramDone
  refine ONext.ite ?_ ?_
  · refine ONext.next ?_
    exact SKeep.refl _ _
  · refine ONext.next ?_
    refine SKeep.step ?_ (flashReads_frame _) rfl
    refine SKeep.step ?_ (programDone_frame _ _) rfl
    exact SKeep.refl _ _

theorem finishStalls_frame (s : State) : SKeep 1543503359 s (finishStalls s) := by
  unfold finishStalls
  refine SKeep.foldl ?_ ?_
  · exact (SKeep.refl _ _)
  · intro _ _ h1000
    refine SKeep.step ?_ (wakeReady_frame _ _) rfl
    refine State.on_frame _ _ rfl ?_ ?_
    · intro _ h1001
      refine Frame.step ?_ (downDone_frame _ _) rfl
      exact h1001
    · exact h1000

theorem execVmainFall_frame (mv : Nat) (s : State) : ONext 1610612735 s.ev (execVmainFall mv s) := by
  unfold execVmainFall
  refine ONext.next ?_
  refine SKeep.step ?_ (vmainFall_frame _ _) rfl
  refine SKeep.ite ?_ ?_
  · refine SKeep.step ?_ (finishStalls_frame _) rfl
    exact SKeep.refl _ _
  · exact SKeep.refl _ _

end Sys2Proof.Machine
end

