-- ==== Sys2Proof/Laws/KeepClock.lean ====
section
/-! SUPPORT. What the operations of Machine/Clock.lean leave alone. -/

namespace Sys2Proof.Machine
open Sys2Proof

theorem bclkTick_frame (d : Dev) : Frame 1239824407 d (bclkTick d) := by
  unfold bclkTick
  refine Frame.step ?_ (sampleLines_frame _) rfl
  refine Frame.step ?_ (rampStart_frame _) rfl
  refine Frame.step ?_ (Dev.onBus_frame _ _) rfl
  refine Frame.step ?_ (Dev.onPmu_frame _ _) rfl
  refine Frame.step ?_ (Dev.onKiln_frame _ _) rfl
  refine Frame.step ?_ (Dev.onTb_frame _ _) rfl
  refine Frame.step ?_ (Dev.onTim_frame _ _) rfl
  refine Frame.step ?_ (idleTick_frame _) rfl
  refine Frame.step ?_ (secRelease_frame _) rfl
  refine Frame.step ?_ (refusalEnd_frame _) rfl
  refine Frame.step ?_ (flushAll_frame _) rfl
  refine Frame.step ?_ (fireTimers_frame _) rfl
  refine Frame.step ?_ (Dev.event_frame _) rfl
  exact (Frame.refl _ _)

theorem lpTick_frame (d : Dev) : Frame 16908288 d (lpTick d) := by
  unfold lpTick
  refine Frame.step ?_ (Dev.onKiln_frame _ _) rfl
  refine Frame.step ?_ (Dev.onPmu_frame _ _) rfl
  exact (Frame.refl _ _)

theorem tick_frame (d : Dev) : Frame 1239824407 d (tick d) := by
  unfold tick
  refine Frame.step ?_ (Dev.onCyc_frame _ _) rfl
  refine Frame.ite ?_ ?_
  · refine Frame.step ?_ (bclkTick_frame _) rfl
    exact (Frame.refl _ _)
  · refine Frame.ite ?_ ?_
    · exact (Frame.refl _ _)
    · refine Frame.step ?_ (lpTick_frame _) rfl
      exact (Frame.refl _ _)

end Sys2Proof.Machine
end

