-- ==== Sys2Proof/Laws/KeepCoreRows.lean ====
section
/-! SUPPORT. What the operations of Machine/CoreRows.lean leave alone. -/

namespace Sys2Proof.Machine
open Sys2Proof

theorem ONext.coreRowS {m : Nat} {p : Fin 6} {s : State} {f : State → State}
    (hf : ∀ t, SKeep m (s.on (startCore p)) t → SKeep m (s.on (startCore p)) (f t)) :
    ONext m (s.on (startCore p)) (coreRowS p s f) := ONext.next (hf _ (SKeep.refl _ _))

theorem ONext.coreRow {m : Nat} {p : Fin 6} {s : State} {f : Dev → Dev}
    (hf : ∀ d, Frame m (s.on (startCore p)).dev d → Frame m (s.on (startCore p)).dev (f d)) :
    ONext m (s.on (startCore p)) (coreRow p s f) :=
  ONext.coreRowS fun _ h => SKeep.mk4 h (hf _ h.dev) (MemOk.same _ _ _ _) (MemOk.same _ _ _ _)

theorem startCore_frame (p : Fin 6) (d : Dev) : Frame 1239824407 d (startCore p d) := by
  unfold startCore
  refine Frame.step ?_ (Dev.onCyc_frame _ _) rfl
  refine Frame.ite ?_ ?_
  · exact (Frame.refl _ _)
  · refine Frame.step ?_ (tick_frame _) rfl
    exact (Frame.refl _ _)

theorem execAgcModeWrite_frame (n : Fin 24) (agc : Nat) (gfix : Nat) (s : State) : ONext 16 (s.on (startCore (zcPort n)))
    (execAgcModeWrite n agc gfix s) := by
  unfold execAgcModeWrite
  refine ONext.coreRow ?_
  intro d h
  refine Frame.step ?_ (agcWrite_frame _ _ _ _) rfl
  exact h

theorem execClQryRead_frame (y0 : Master) (q : Nat) (arg : Nat) (s : State) : ONext 1543503359 (s.on (startCore (y0.port)))
    (execClQryRead y0 q arg s) := by
  unfold execClQryRead
  refine ONext.coreRowS ?_
  intro s h
  refine SKeep.step ?_ (access_frame _ _ _ _) rfl
  exact h

theorem execEvrClaim_frame (t : Fin 6) (s : State) : ONext 136314880 (s.on (startCore (tgtPort t))) (execEvrClaim t s) := by
  unfold execEvrClaim
  refine ONext.coreRow ?_
  intro d h
  refine Frame.step ?_ (readOut_frame _ _) rfl
  refine Frame.step ?_ (claim_frame _ _) rfl
  exact h

theorem execEvrDoorbell_frame (w : Fin 6) (n : Nat) (tgt : Nat) (s : State) : ONext 18874368 (s.on (startCore (tgtPort w)))
    (execEvrDoorbell w n tgt s) := by
  unfold execEvrDoorbell
  refine ONext.coreRow ?_
  intro d h
  refine Frame.step ?_ (doorbell_frame _ _ _ _) rfl
  exact h

theorem execEvrEoi_frame (t : Fin 6) (n : Nat) (s : State) : ONext 2097152 (s.on (startCore (tgtPort t))) (execEvrEoi t n s) := by
  unfold execEvrEoi
  refine ONext.coreRow ?_
  intro d h
  refine Frame.step ?_ (eoi_frame _ _ _) rfl
  exact h

theorem execFieldWrite_frame (n : Fin 24) (on : Bool) (s : State) : ONext 31719932 (s.on (startCore (zcPort n)))
    (execFieldWrite n on s) := by
  unfold execFieldWrite
  refine ONext.coreRow ?_
  intro d h
  refine Frame.step ?_ (fieldWrite_frame _ _ _) rfl
  exact h

theorem execFiltWrite_frame (n : Fin 24) (p : Nat) (s : State) : ONext 16 (s.on (startCore (zcPort n))) (execFiltWrite n p s)
    := by
  unfold execFiltWrite
  refine ONext.coreRow ?_
  intro d h
  refine Frame.step ?_ (filtWrite_frame _ _ _) rfl
  exact h

theorem execFrameAbandon_frame (n : Fin 24) (s : State) : ONext 23069052 (s.on (startCore (zcPort n))) (execFrameAbandon n s)
    := by
  unfold execFrameAbandon
  refine ONext.coreRow ?_
  intro d h
  refine Frame.step ?_ (abandon_frame _ _) rfl
  exact h

theorem execFrameSend_frame (n : Fin 24) (s : State) : ONext 288 (s.on (startCore (zcPort n))) (execFrameSend n s) := by
  unfold execFrameSend
  refine ONext.coreRow ?_
  intro d h
  refine Frame.step ?_ (frSend_frame _ _) rfl
  exact h

theorem execGtCmpWrite_frame (n : Fin 32) (v : Sys2Proof.Word) (s : State) : ONext 8388608 (s.on (startCore (0)))
    (execGtCmpWrite n v s) := by
  unfold execGtCmpWrite
  refine ONext.coreRow ?_
  intro d h
  refine Frame.step ?_ (gtCmp_frame _ _ _) rfl
  exact h

theorem execGtCntWrite_frame (n : Fin 32) (v : Sys2Proof.Word) (s : State) : ONext 8388608 (s.on (startCore (0)))
    (execGtCntWrite n v s) := by
  unfold execGtCntWrite
  refine ONext.coreRow ?_
  intro d h
  refine Frame.step ?_ (gtCnt_frame _ _ _) rfl
  exact h

theorem execGtCtlWrite_frame (y0 : Master) (n : Fin 32) (v : Nat) (s : State) : ONext 1543503359 (s.on (startCore (y0.port)))
    (execGtCtlWrite y0 n v s) := by
  unfold execGtCtlWrite
  refine ONext.coreRowS ?_
  intro s h
  refine SKeep.step ?_ (access_frame _ _ _ _) rfl
  exact h

theorem execHclr_frame (s : State) : ONext 16 (s.on (startCore (0))) (execHclr s) := by
  unfold execHclr
  refine ONext.coreRow ?_
  intro d h
  refine Frame.step ?_ (hclr_frame _) rfl
  exact h

theorem execKsGo_frame (y0 : Master) (p : Fin 5) (s : State) : ONext 1543503359 (s.on (startCore (y0.port))) (execKsGo y0 p s)
    := by
  unfold execKsGo
  refine ONext.coreRowS ?_
  intro s h
  refine SKeep.step ?_ (access_frame _ _ _ _) rfl
  exact h

theorem execLzDpop_frame (n : Fin 24) (s : State) : ONext 32 (s.on (startCore (zcPort n))) (execLzDpop n s) := by
  unfold execLzDpop
  refine ONext.coreRow ?_
  intro d h
  refine Frame.step ?_ (dpop_frame _ _) rfl
  exact h

theorem execLzReq_frame (n : Fin 24) (cls : Nat) (y2 : Nat) (s : State) : ONext 32 (s.on (startCore (zcPort n))) (execLzReq n
    cls y2 s) := by
  unfold execLzReq
  refine ONext.coreRow ?_
  intro d h
  refine Frame.step ?_ (lzReq_frame _ _ _ _) rfl
  exact h

theorem execMspEnWrite_frame (v : Bool) (s : State) : ONext 154140672 (s.on (startCore (0))) (execMspEnWrite v s) := by
  unfold execMspEnWrite
  refine ONext.coreRow ?_
  intro d h
  refine Frame.step ?_ (mspEn_frame _ _) rfl
  exact h

theorem execMspEntryPush_frame (v : Nat) (s : State) : ONext 154140672 (s.on (startCore (0))) (execMspEntryPush v s) := by
  unfold execMspEntryPush
  refine ONext.coreRow ?_
  intro d h
  refine Frame.step ?_ (qin3Write_frame _ _) rfl
  exact h

theorem execPcmpTgtWrite_frame (n : Fin 32) (v : Nat) (s : State) : ONext 27263234 (s.on (startCore (pcmpPort n)))
    (execPcmpTgtWrite n v s) := by
  unfold execPcmpTgtWrite
  refine ONext.coreRow ?_
  intro d h
  refine Frame.step ?_ (pcmpTgtWrite_frame _ _ _) rfl
  exact h

theorem execPktRd_frame (addr : Nat) (n : Nat) (extra : Nat) (s : State) : ONext 32357885 (s.on (startCore (5))) (execPktRd
    addr n extra s) := by
  unfold execPktRd
  refine ONext.coreRow ?_
  intro d h
  refine Frame.ite ?_ ?_
  · refine Frame.step ?_ (dropFlushed_frame _) rfl
    refine Frame.step ?_ (choose_frame _ _) rfl
    refine hspFrame_frame _ _ _ _ _ _ _ rfl ?_ ?_
    · intro _ h1000
      refine Frame.step ?_ (pktRd_frame _ _) rfl
      exact h1000
    · exact h
  · refine hspFrame_frame _ _ _ _ _ _ _ rfl ?_ ?_
    · intro _ h1001
      refine Frame.step ?_ (pktRd_frame _ _) rfl
      exact h1001
    · exact h

theorem execPktReread_frame (addr : Nat) (n : Nat) (extra : Nat) (s : State) : ONext 32357885 (s.on (startCore (5)))
    (execPktReread addr n extra s) := by
  unfold execPktReread
  refine ONext.coreRow ?_
  intro d h
  refine hspFrame_frame _ _ _ _ _ _ _ rfl ?_ ?_
  · intro _ h1000
    exact h1000
  · exact h

theorem execPktWr_frame (addr : Nat) (pkt : List Sys2Proof.Byte) (extra : Nat) (s : State) : ONext 32357885 (s.on (startCore
    (5))) (execPktWr addr pkt extra s) := by
  unfold execPktWr
  refine ONext.coreRow ?_
  intro d h
  refine hspFrame_frame _ _ _ _ _ _ _ rfl ?_ ?_
  · intro _ h1000
    refine Frame.step ?_ (pktWr_frame _ _) rfl
    exact h1000
  · exact h

theorem execPrbBclr_frame (s : State) : ONext 64 (s.on (startCore (0))) (execPrbBclr s) := by
  unfold execPrbBclr
  refine ONext.coreRow ?_
  intro d h
  refine Frame.step ?_ (clearBaselines_frame _) rfl
  exact h

theorem execProbeEngChange_frame (v : Nat) (s : State) : ONext 32 (s.on (startCore (0))) (execProbeEngChange v s) := by
  unfold execProbeEngChange
  refine ONext.coreRow ?_
  intro d h
  refine Frame.step ?_ (probeEngWrite_frame _ _) rfl
  exact h

theorem execQueueDataRead_frame (q : QId) (s : State) : ONext 138412032 (s.on (startCore (q.port))) (execQueueDataRead q s) := by
  unfold execQueueDataRead
  refine ONext.coreRow ?_
  intro d h
  refine Frame.step ?_ (readOut_frame _ _) rfl
  refine Frame.step ?_ (queueData_frame _ _) rfl
  exact h

theorem execQueueDropRest_frame (q : QId) (s : State) : ONext 1073741824 (s.on (startCore (q.port))) (execQueueDropRest q s) := by
  unfold execQueueDropRest
  refine ONext.coreRow ?_
  intro d h
  refine Frame.step ?_ (dropRest_frame _ _) rfl
  exact h

theorem execQueueFlush_frame (q : QId) (s : State) : ONext 1073741824 (s.on (startCore (q.port))) (execQueueFlush q s) := by
  unfold execQueueFlush
  refine ONext.coreRow ?_
  intro d h
  refine Frame.step ?_ (flushQueue_frame _ _) rfl
  exact h

theorem execRcFieldRead_frame (y0 : Master) (a : Nat) (s : State) : ONext 1543503359 (s.on (startCore (y0.port)))
    (execRcFieldRead y0 a s) := by
  unfold execRcFieldRead
  refine ONext.coreRowS ?_
  intro s h
  refine SKeep.step ?_ (access_frame _ _ _ _) rfl
  exact h

theorem execRearm_frame (c : Fin 192) (s : State) : ONext 20 (s.on (startCore (0))) (execRearm c s) := by
  unfold execRearm
  refine ONext.coreRow ?_
  intro d h
  refine Frame.step ?_ (rearm_frame _ _) rfl
  exact h

theorem execRegRd_frame (addr : Nat) (off : Nat) (nm1 : Nat) (n : Nat) (extra : Nat) (s : State) : ONext 166575613 (s.on
    (startCore (5))) (execRegRd addr off nm1 n extra s) := by
  unfold execRegRd
  refine ONext.coreRow ?_
  intro d h
  refine hspFrame_frame _ _ _ _ _ _ _ rfl ?_ ?_
  · intro _ h1000
    refine Frame.step ?_ (regRd_frame _ _ _) rfl
    exact h1000
  · exact h

theorem execRegWr_frame (addr : Nat) (body : List Sys2Proof.Byte) (extra : Nat) (s : State) : ONext 1106099711 (s.on
    (startCore (5))) (execRegWr addr body extra s) := by
  unfold execRegWr
  refine ONext.coreRow ?_
  intro d h
  refine hspFrame_frame _ _ _ _ _ _ _ rfl ?_ ?_
  · intro _ h1000
    refine Frame.step ?_ (hostWrites_frame _ _ _) rfl
    exact h1000
  · exact h

theorem execRegisterWrite_frame (y0 : Master) (a : Nat) (v : Nat) (s : State) : ONext 1543503359 (s.on (startCore (y0.port)))
    (execRegisterWrite y0 a v s) := by
  unfold execRegisterWrite
  refine ONext.coreRowS ?_
  intro s h
  refine SKeep.step ?_ (access_frame _ _ _ _) rfl
  exact h

theorem execRxAck_frame (n : Fin 24) (ack : Nat) (s : State) : ONext 256 (s.on (startCore (zcPort n))) (execRxAck n ack s) := by
  unfold execRxAck
  refine ONext.coreRow ?_
  intro d h
  refine Frame.step ?_ (rxAck_frame _ _ _) rfl
  exact h

theorem execSourceTargetWrite_frame (i : Fin 288) (t : Nat) (s : State) : ONext 18874368 (s.on (startCore (0)))
    (execSourceTargetWrite i t s) := by
  unfold execSourceTargetWrite
  refine ONext.coreRow ?_
  intro d h
  refine Frame.step ?_ (setTarget_frame _ _ _) rfl
  exact h

theorem execStatusFrame_frame (addr : Nat) (op : Nat) (n : Nat) (extra : Nat) (part : Option (Fin 8)) (s : State) : ONext
    32357885 (s.on (startCore (5))) (execStatusFrame addr op n extra part s) := by
  unfold execStatusFrame
  refine ONext.coreRow ?_
  intro d h
  split
  · refine Frame.step ?_ (partFrame_frame _ _) rfl
    exact h
  · refine hspFrame_frame _ _ _ _ _ _ _ rfl ?_ ?_
    · intro _ h1000
      exact h1000
    · exact h

theorem execSwkillWrite_frame (on : Bool) (s : State) : ONext 31719933 (s.on (startCore (0))) (execSwkillWrite on s) := by
  unfold execSwkillWrite
  refine ONext.coreRow ?_
  intro d h
  refine Frame.step ?_ (swkillWrite_frame _ _) rfl
  exact h

theorem execTbCapGo_frame (s : State) : ONext 2 (s.on (startCore (0))) (execTbCapGo s) := by
  unfold execTbCapGo
  refine ONext.coreRow ?_
  intro d h
  refine Frame.step ?_ (tbCapGo_frame _) rfl
  exact h

theorem execTbCfgWrite_frame (zc : Bool) (v : Nat) (s : State) : ONext 2 (s.on (startCore (0))) (execTbCfgWrite zc v s) := by
  unfold execTbCfgWrite
  refine ONext.coreRow ?_
  intro d h
  refine Frame.step ?_ (tbCfgWrite_frame _ _ _) rfl
  exact h

theorem execTscLRead_frame (y0 : Master) (s : State) : ONext 1543503359 (s.on (startCore (y0.port))) (execTscLRead y0 s) := by
  unfold execTscLRead
  refine ONext.coreRowS ?_
  intro s h
  refine SKeep.ite ?_ ?_
  · refine State.on_frame _ _ rfl ?_ ?_
    · intro _ h1000
      refine Frame.step ?_ (readOut_frame _ _) rfl
      refine Frame.step ?_ (tscLRead_frame _ _) rfl
      exact h1000
    · exact h
  · refine SKeep.step ?_ (access_frame _ _ _ _) rfl
    exact h

theorem execTxCommit_frame (n : Fin 24) (s : State) : ONext 8 (s.on (startCore (zcPort n))) (execTxCommit n s) := by
  unfold execTxCommit
  refine ONext.coreRow ?_
  intro d h
  refine Frame.step ?_ (txCommit_frame _ _) rfl
  exact h

theorem execUhfAcfgWrite_frame (a : Fin 8) (s : State) : ONext 23341057 (s.on (startCore (0))) (execUhfAcfgWrite a s) := by
  unfold execUhfAcfgWrite
  refine ONext.coreRow ?_
  intro d h
  refine Frame.step ?_ (roomNochan_frame _) rfl
  refine Frame.step ?_ (acfgTo_frame _ _) rfl
  exact h

theorem execUhfCarrierWrite_frame (v : Bool) (s : State) : ONext 19138561 (s.on (startCore (0))) (execUhfCarrierWrite v s) := by
  unfold execUhfCarrierWrite
  refine ONext.coreRow ?_
  intro d h
  refine Frame.step ?_ (carrierWrite_frame _ _) rfl
  exact h

theorem execUhfHop_frame (c : Fin 64) (s : State) : ONext 18884608 (s.on (startCore (0))) (execUhfHop c s) := by
  unfold execUhfHop
  refine ONext.coreRow ?_
  intro d h
  refine Frame.step ?_ (hopTo_frame _ _) rfl
  exact h

theorem execUhfTxkillWrite_frame (v : Bool) (s : State) : ONext 18876416 (s.on (startCore (0))) (execUhfTxkillWrite v s) := by
  unfold execUhfTxkillWrite
  refine ONext.coreRow ?_
  intro d h
  refine Frame.step ?_ (txkillWrite_frame _ _) rfl
  exact h

theorem execXipInvalidate_frame (y0 : Option Nat) (s : State) : ONext 154140672 (s.on (startCore (0))) (execXipInvalidate y0
    s) := by
  unfold execXipInvalidate
  refine ONext.coreRow ?_
  intro d h
  split
  · refine Frame.step ?_ (xipInv_frame _) rfl
    exact h
  · refine Frame.step ?_ (xcfgWrite_frame _ _) rfl
    exact h

theorem execXipMiss_frame (k : Fin 5) (off : Nat) (s : State) : ONext 154140672 (s.on (startCore (Fin.castLE
    execXipMiss._proof_2 k))) (execXipMiss k off s) := by
  unfold execXipMiss
  refine ONext.coreRow ?_
  intro d h
  refine Frame.step ?_ (xipRead_frame _ _ _) rfl
  exact h

theorem execZoneOpen_frame (n : Fin 24) (s : State) : ONext 31457790 (s.on (startCore (0))) (execZoneOpen n s) := by
  unfold execZoneOpen
  refine ONext.coreRow ?_
  intro d h
  refine Frame.step ?_ (zoneOpen_frame _ _) rfl
  exact h

end Sys2Proof.Machine
end

