-- ==== Sys2Proof/Laws/KeepSafety.lean ====
section
/-! SUPPORT. What the operations of Safety.lean leave alone. -/

namespace Sys2Proof.Machine
open Sys2Proof

theorem State.foundBy_frame (i : Sys2Proof.Instr) (s : State) : SKeep 1239824407 s (State.foundBy i s) := by
  unfold State.foundBy
  split
  · refine State.on_frame _ _ rfl ?_ ?_
    · intro _ h1000
      refine Frame.step ?_ (startCore_frame _ _) rfl
      exact h1000
    · exact (SKeep.refl _ _)
  · refine SKeep.step ?_ (State.ev_frame _) rfl
    exact (SKeep.refl _ _)

end Sys2Proof.Machine
end

