-- ==== Sys2Proof/Laws/State.lean ====
section
/-! SUPPORT. One lemma per part of the device and per change of a part. -/

namespace Sys2Proof.Machine
open Sys2Proof

@[simp] theorem Dev.onMode_mode (d : Dev) (f : Modes → Modes) : (d.onMode f).mode = f d.mode := rfl
@[simp] theorem Dev.onMode_tb (d : Dev) (f : Modes → Modes) : (d.onMode f).tb = d.tb := rfl
@[simp] theorem Dev.onMode_drv (d : Dev) (f : Modes → Modes) : (d.onMode f).drv = d.drv := rfl
@[simp] theorem Dev.onMode_tx (d : Dev) (f : Modes → Modes) : (d.onMode f).tx = d.tx := rfl
@[simp] theorem Dev.onMode_rx (d : Dev) (f : Modes → Modes) : (d.onMode f).rx = d.rx := rfl
@[simp] theorem Dev.onMode_lau (d : Dev) (f : Modes → Modes) : (d.onMode f).lau = d.lau := rfl
@[simp] theorem Dev.onMode_prb (d : Dev) (f : Modes → Modes) : (d.onMode f).prb = d.prb := rfl
@[simp] theorem Dev.onMode_sf (d : Dev) (f : Modes → Modes) : (d.onMode f).sf = d.sf := rfl
@[simp] theorem Dev.onMode_hf (d : Dev) (f : Modes → Modes) : (d.onMode f).hf = d.hf := rfl
@[simp] theorem Dev.onMode_acc (d : Dev) (f : Modes → Modes) : (d.onMode f).acc = d.acc := rfl
@[simp] theorem Dev.onMode_stp (d : Dev) (f : Modes → Modes) : (d.onMode f).stp = d.stp := rfl
@[simp] theorem Dev.onMode_uhf (d : Dev) (f : Modes → Modes) : (d.onMode f).uhf = d.uhf := rfl
@[simp] theorem Dev.onMode_key (d : Dev) (f : Modes → Modes) : (d.onMode f).key = d.key := rfl
@[simp] theorem Dev.onMode_room (d : Dev) (f : Modes → Modes) : (d.onMode f).room = d.room := rfl
@[simp] theorem Dev.onMode_cask (d : Dev) (f : Modes → Modes) : (d.onMode f).cask = d.cask := rfl
@[simp] theorem Dev.onMode_cl (d : Dev) (f : Modes → Modes) : (d.onMode f).cl = d.cl := rfl
@[simp] theorem Dev.onMode_nvm (d : Dev) (f : Modes → Modes) : (d.onMode f).nvm = d.nvm := rfl
@[simp] theorem Dev.onMode_kiln (d : Dev) (f : Modes → Modes) : (d.onMode f).kiln = d.kiln := rfl
@[simp] theorem Dev.onMode_ncp (d : Dev) (f : Modes → Modes) : (d.onMode f).ncp = d.ncp := rfl
@[simp] theorem Dev.onMode_hsp (d : Dev) (f : Modes → Modes) : (d.onMode f).hsp = d.hsp := rfl
@[simp] theorem Dev.onMode_msp (d : Dev) (f : Modes → Modes) : (d.onMode f).msp = d.msp := rfl
@[simp] theorem Dev.onMode_evr (d : Dev) (f : Modes → Modes) : (d.onMode f).evr = d.evr := rfl
@[simp] theorem Dev.onMode_qs (d : Dev) (f : Modes → Modes) : (d.onMode f).qs = d.qs := rfl
@[simp] theorem Dev.onMode_tim (d : Dev) (f : Modes → Modes) : (d.onMode f).tim = d.tim := rfl
@[simp] theorem Dev.onMode_pmu (d : Dev) (f : Modes → Modes) : (d.onMode f).pmu = d.pmu := rfl
@[simp] theorem Dev.onMode_th (d : Dev) (f : Modes → Modes) : (d.onMode f).th = d.th := rfl
@[simp] theorem Dev.onMode_pin (d : Dev) (f : Modes → Modes) : (d.onMode f).pin = d.pin := rfl
@[simp] theorem Dev.onMode_bus (d : Dev) (f : Modes → Modes) : (d.onMode f).bus = d.bus := rfl
@[simp] theorem Dev.onMode_cyc (d : Dev) (f : Modes → Modes) : (d.onMode f).cyc = d.cyc := rfl

@[simp] theorem Dev.onTb_mode (d : Dev) (f : Tb → Tb) : (d.onTb f).mode = d.mode := rfl
@[simp] theorem Dev.onTb_tb (d : Dev) (f : Tb → Tb) : (d.onTb f).tb = f d.tb := rfl
@[simp] theorem Dev.onTb_drv (d : Dev) (f : Tb → Tb) : (d.onTb f).drv = d.drv := rfl
@[simp] theorem Dev.onTb_tx (d : Dev) (f : Tb → Tb) : (d.onTb f).tx = d.tx := rfl
@[simp] theorem Dev.onTb_rx (d : Dev) (f : Tb → Tb) : (d.onTb f).rx = d.rx := rfl
@[simp] theorem Dev.onTb_lau (d : Dev) (f : Tb → Tb) : (d.onTb f).lau = d.lau := rfl
@[simp] theorem Dev.onTb_prb (d : Dev) (f : Tb → Tb) : (d.onTb f).prb = d.prb := rfl
@[simp] theorem Dev.onTb_sf (d : Dev) (f : Tb → Tb) : (d.onTb f).sf = d.sf := rfl
@[simp] theorem Dev.onTb_hf (d : Dev) (f : Tb → Tb) : (d.onTb f).hf = d.hf := rfl
@[simp] theorem Dev.onTb_acc (d : Dev) (f : Tb → Tb) : (d.onTb f).acc = d.acc := rfl
@[simp] theorem Dev.onTb_stp (d : Dev) (f : Tb → Tb) : (d.onTb f).stp = d.stp := rfl
@[simp] theorem Dev.onTb_uhf (d : Dev) (f : Tb → Tb) : (d.onTb f).uhf = d.uhf := rfl
@[simp] theorem Dev.onTb_key (d : Dev) (f : Tb → Tb) : (d.onTb f).key = d.key := rfl
@[simp] theorem Dev.onTb_room (d : Dev) (f : Tb → Tb) : (d.onTb f).room = d.room := rfl
@[simp] theorem Dev.onTb_cask (d : Dev) (f : Tb → Tb) : (d.onTb f).cask = d.cask := rfl
@[simp] theorem Dev.onTb_cl (d : Dev) (f : Tb → Tb) : (d.onTb f).cl = d.cl := rfl
@[simp] theorem Dev.onTb_nvm (d : Dev) (f : Tb → Tb) : (d.onTb f).nvm = d.nvm := rfl
@[simp] theorem Dev.onTb_kiln (d : Dev) (f : Tb → Tb) : (d.onTb f).kiln = d.kiln := rfl
@[simp] theorem Dev.onTb_ncp (d : Dev) (f : Tb → Tb) : (d.onTb f).ncp = d.ncp := rfl
@[simp] theorem Dev.onTb_hsp (d : Dev) (f : Tb → Tb) : (d.onTb f).hsp = d.hsp := rfl
@[simp] theorem Dev.onTb_msp (d : Dev) (f : Tb → Tb) : (d.onTb f).msp = d.msp := rfl
@[simp] theorem Dev.onTb_evr (d : Dev) (f : Tb → Tb) : (d.onTb f).evr = d.evr := rfl
@[simp] theorem Dev.onTb_qs (d : Dev) (f : Tb → Tb) : (d.onTb f).qs = d.qs := rfl
@[simp] theorem Dev.onTb_tim (d : Dev) (f : Tb → Tb) : (d.onTb f).tim = d.tim := rfl
@[simp] theorem Dev.onTb_pmu (d : Dev) (f : Tb → Tb) : (d.onTb f).pmu = d.pmu := rfl
@[simp] theorem Dev.onTb_th (d : Dev) (f : Tb → Tb) : (d.onTb f).th = d.th := rfl
@[simp] theorem Dev.onTb_pin (d : Dev) (f : Tb → Tb) : (d.onTb f).pin = d.pin := rfl
@[simp] theorem Dev.onTb_bus (d : Dev) (f : Tb → Tb) : (d.onTb f).bus = d.bus := rfl
@[simp] theorem Dev.onTb_cyc (d : Dev) (f : Tb → Tb) : (d.onTb f).cyc = d.cyc := rfl

@[simp] theorem Dev.onDrv_mode (d : Dev) (f : Drive → Drive) : (d.onDrv f).mode = d.mode := rfl
@[simp] theorem Dev.onDrv_tb (d : Dev) (f : Drive → Drive) : (d.onDrv f).tb = d.tb := rfl
@[simp] theorem Dev.onDrv_drv (d : Dev) (f : Drive → Drive) : (d.onDrv f).drv = f d.drv := rfl
@[simp] theorem Dev.onDrv_tx (d : Dev) (f : Drive → Drive) : (d.onDrv f).tx = d.tx := rfl
@[simp] theorem Dev.onDrv_rx (d : Dev) (f : Drive → Drive) : (d.onDrv f).rx = d.rx := rfl
@[simp] theorem Dev.onDrv_lau (d : Dev) (f : Drive → Drive) : (d.onDrv f).lau = d.lau := rfl
@[simp] theorem Dev.onDrv_prb (d : Dev) (f : Drive → Drive) : (d.onDrv f).prb = d.prb := rfl
@[simp] theorem Dev.onDrv_sf (d : Dev) (f : Drive → Drive) : (d.onDrv f).sf = d.sf := rfl
@[simp] theorem Dev.onDrv_hf (d : Dev) (f : Drive → Drive) : (d.onDrv f).hf = d.hf := rfl
@[simp] theorem Dev.onDrv_acc (d : Dev) (f : Drive → Drive) : (d.onDrv f).acc = d.acc := rfl
@[simp] theorem Dev.onDrv_stp (d : Dev) (f : Drive → Drive) : (d.onDrv f).stp = d.stp := rfl
@[simp] theorem Dev.onDrv_uhf (d : Dev) (f : Drive → Drive) : (d.onDrv f).uhf = d.uhf := rfl
@[simp] theorem Dev.onDrv_key (d : Dev) (f : Drive → Drive) : (d.onDrv f).key = d.key := rfl
@[simp] theorem Dev.onDrv_room (d : Dev) (f : Drive → Drive) : (d.onDrv f).room = d.room := rfl
@[simp] theorem Dev.onDrv_cask (d : Dev) (f : Drive → Drive) : (d.onDrv f).cask = d.cask := rfl
@[simp] theorem Dev.onDrv_cl (d : Dev) (f : Drive → Drive) : (d.onDrv f).cl = d.cl := rfl
@[simp] theorem Dev.onDrv_nvm (d : Dev) (f : Drive → Drive) : (d.onDrv f).nvm = d.nvm := rfl
@[simp] theorem Dev.onDrv_kiln (d : Dev) (f : Drive → Drive) : (d.onDrv f).kiln = d.kiln := rfl
@[simp] theorem Dev.onDrv_ncp (d : Dev) (f : Drive → Drive) : (d.onDrv f).ncp = d.ncp := rfl
@[simp] theorem Dev.onDrv_hsp (d : Dev) (f : Drive → Drive) : (d.onDrv f).hsp = d.hsp := rfl
@[simp] theorem Dev.onDrv_msp (d : Dev) (f : Drive → Drive) : (d.onDrv f).msp = d.msp := rfl
@[simp] theorem Dev.onDrv_evr (d : Dev) (f : Drive → Drive) : (d.onDrv f).evr = d.evr := rfl
@[simp] theorem Dev.onDrv_qs (d : Dev) (f : Drive → Drive) : (d.onDrv f).qs = d.qs := rfl
@[simp] theorem Dev.onDrv_tim (d : Dev) (f : Drive → Drive) : (d.onDrv f).tim = d.tim := rfl
@[simp] theorem Dev.onDrv_pmu (d : Dev) (f : Drive → Drive) : (d.onDrv f).pmu = d.pmu := rfl
@[simp] theorem Dev.onDrv_th (d : Dev) (f : Drive → Drive) : (d.onDrv f).th = d.th := rfl
@[simp] theorem Dev.onDrv_pin (d : Dev) (f : Drive → Drive) : (d.onDrv f).pin = d.pin := rfl
@[simp] theorem Dev.onDrv_bus (d : Dev) (f : Drive → Drive) : (d.onDrv f).bus = d.bus := rfl
@[simp] theorem Dev.onDrv_cyc (d : Dev) (f : Drive → Drive) : (d.onDrv f).cyc = d.cyc := rfl

@[simp] theorem Dev.onTx_mode (d : Dev) (f : Vector ZoneTx 24 → Vector ZoneTx 24) : (d.onTx f).mode = d.mode := rfl
@[simp] theorem Dev.onTx_tb (d : Dev) (f : Vector ZoneTx 24 → Vector ZoneTx 24) : (d.onTx f).tb = d.tb := rfl
@[simp] theorem Dev.onTx_drv (d : Dev) (f : Vector ZoneTx 24 → Vector ZoneTx 24) : (d.onTx f).drv = d.drv := rfl
@[simp] theorem Dev.onTx_tx (d : Dev) (f : Vector ZoneTx 24 → Vector ZoneTx 24) : (d.onTx f).tx = f d.tx := rfl
@[simp] theorem Dev.onTx_rx (d : Dev) (f : Vector ZoneTx 24 → Vector ZoneTx 24) : (d.onTx f).rx = d.rx := rfl
@[simp] theorem Dev.onTx_lau (d : Dev) (f : Vector ZoneTx 24 → Vector ZoneTx 24) : (d.onTx f).lau = d.lau := rfl
@[simp] theorem Dev.onTx_prb (d : Dev) (f : Vector ZoneTx 24 → Vector ZoneTx 24) : (d.onTx f).prb = d.prb := rfl
@[simp] theorem Dev.onTx_sf (d : Dev) (f : Vector ZoneTx 24 → Vector ZoneTx 24) : (d.onTx f).sf = d.sf := rfl
@[simp] theorem Dev.onTx_hf (d : Dev) (f : Vector ZoneTx 24 → Vector ZoneTx 24) : (d.onTx f).hf = d.hf := rfl
@[simp] theorem Dev.onTx_acc (d : Dev) (f : Vector ZoneTx 24 → Vector ZoneTx 24) : (d.onTx f).acc = d.acc := rfl
@[simp] theorem Dev.onTx_stp (d : Dev) (f : Vector ZoneTx 24 → Vector ZoneTx 24) : (d.onTx f).stp = d.stp := rfl
@[simp] theorem Dev.onTx_uhf (d : Dev) (f : Vector ZoneTx 24 → Vector ZoneTx 24) : (d.onTx f).uhf = d.uhf := rfl
@[simp] theorem Dev.onTx_key (d : Dev) (f : Vector ZoneTx 24 → Vector ZoneTx 24) : (d.onTx f).key = d.key := rfl
@[simp] theorem Dev.onTx_room (d : Dev) (f : Vector ZoneTx 24 → Vector ZoneTx 24) : (d.onTx f).room = d.room := rfl
@[simp] theorem Dev.onTx_cask (d : Dev) (f : Vector ZoneTx 24 → Vector ZoneTx 24) : (d.onTx f).cask = d.cask := rfl
@[simp] theorem Dev.onTx_cl (d : Dev) (f : Vector ZoneTx 24 → Vector ZoneTx 24) : (d.onTx f).cl = d.cl := rfl
@[simp] theorem Dev.onTx_nvm (d : Dev) (f : Vector ZoneTx 24 → Vector ZoneTx 24) : (d.onTx f).nvm = d.nvm := rfl
@[simp] theorem Dev.onTx_kiln (d : Dev) (f : Vector ZoneTx 24 → Vector ZoneTx 24) : (d.onTx f).kiln = d.kiln := rfl
@[simp] theorem Dev.onTx_ncp (d : Dev) (f : Vector ZoneTx 24 → Vector ZoneTx 24) : (d.onTx f).ncp = d.ncp := rfl
@[simp] theorem Dev.onTx_hsp (d : Dev) (f : Vector ZoneTx 24 → Vector ZoneTx 24) : (d.onTx f).hsp = d.hsp := rfl
@[simp] theorem Dev.onTx_msp (d : Dev) (f : Vector ZoneTx 24 → Vector ZoneTx 24) : (d.onTx f).msp = d.msp := rfl
@[simp] theorem Dev.onTx_evr (d : Dev) (f : Vector ZoneTx 24 → Vector ZoneTx 24) : (d.onTx f).evr = d.evr := rfl
@[simp] theorem Dev.onTx_qs (d : Dev) (f : Vector ZoneTx 24 → Vector ZoneTx 24) : (d.onTx f).qs = d.qs := rfl
@[simp] theorem Dev.onTx_tim (d : Dev) (f : Vector ZoneTx 24 → Vector ZoneTx 24) : (d.onTx f).tim = d.tim := rfl
@[simp] theorem Dev.onTx_pmu (d : Dev) (f : Vector ZoneTx 24 → Vector ZoneTx 24) : (d.onTx f).pmu = d.pmu := rfl
@[simp] theorem Dev.onTx_th (d : Dev) (f : Vector ZoneTx 24 → Vector ZoneTx 24) : (d.onTx f).th = d.th := rfl
@[simp] theorem Dev.onTx_pin (d : Dev) (f : Vector ZoneTx 24 → Vector ZoneTx 24) : (d.onTx f).pin = d.pin := rfl
@[simp] theorem Dev.onTx_bus (d : Dev) (f : Vector ZoneTx 24 → Vector ZoneTx 24) : (d.onTx f).bus = d.bus := rfl
@[simp] theorem Dev.onTx_cyc (d : Dev) (f : Vector ZoneTx 24 → Vector ZoneTx 24) : (d.onTx f).cyc = d.cyc := rfl

@[simp] theorem Dev.onRx_mode (d : Dev) (f : Rx → Rx) : (d.onRx f).mode = d.mode := rfl
@[simp] theorem Dev.onRx_tb (d : Dev) (f : Rx → Rx) : (d.onRx f).tb = d.tb := rfl
@[simp] theorem Dev.onRx_drv (d : Dev) (f : Rx → Rx) : (d.onRx f).drv = d.drv := rfl
@[simp] theorem Dev.onRx_tx (d : Dev) (f : Rx → Rx) : (d.onRx f).tx = d.tx := rfl
@[simp] theorem Dev.onRx_rx (d : Dev) (f : Rx → Rx) : (d.onRx f).rx = f d.rx := rfl
@[simp] theorem Dev.onRx_lau (d : Dev) (f : Rx → Rx) : (d.onRx f).lau = d.lau := rfl
@[simp] theorem Dev.onRx_prb (d : Dev) (f : Rx → Rx) : (d.onRx f).prb = d.prb := rfl
@[simp] theorem Dev.onRx_sf (d : Dev) (f : Rx → Rx) : (d.onRx f).sf = d.sf := rfl
@[simp] theorem Dev.onRx_hf (d : Dev) (f : Rx → Rx) : (d.onRx f).hf = d.hf := rfl
@[simp] theorem Dev.onRx_acc (d : Dev) (f : Rx → Rx) : (d.onRx f).acc = d.acc := rfl
@[simp] theorem Dev.onRx_stp (d : Dev) (f : Rx → Rx) : (d.onRx f).stp = d.stp := rfl
@[simp] theorem Dev.onRx_uhf (d : Dev) (f : Rx → Rx) : (d.onRx f).uhf = d.uhf := rfl
@[simp] theorem Dev.onRx_key (d : Dev) (f : Rx → Rx) : (d.onRx f).key = d.key := rfl
@[simp] theorem Dev.onRx_room (d : Dev) (f : Rx → Rx) : (d.onRx f).room = d.room := rfl
@[simp] theorem Dev.onRx_cask (d : Dev) (f : Rx → Rx) : (d.onRx f).cask = d.cask := rfl
@[simp] theorem Dev.onRx_cl (d : Dev) (f : Rx → Rx) : (d.onRx f).cl = d.cl := rfl
@[simp] theorem Dev.onRx_nvm (d : Dev) (f : Rx → Rx) : (d.onRx f).nvm = d.nvm := rfl
@[simp] theorem Dev.onRx_kiln (d : Dev) (f : Rx → Rx) : (d.onRx f).kiln = d.kiln := rfl
@[simp] theorem Dev.onRx_ncp (d : Dev) (f : Rx → Rx) : (d.onRx f).ncp = d.ncp := rfl
@[simp] theorem Dev.onRx_hsp (d : Dev) (f : Rx → Rx) : (d.onRx f).hsp = d.hsp := rfl
@[simp] theorem Dev.onRx_msp (d : Dev) (f : Rx → Rx) : (d.onRx f).msp = d.msp := rfl
@[simp] theorem Dev.onRx_evr (d : Dev) (f : Rx → Rx) : (d.onRx f).evr = d.evr := rfl
@[simp] theorem Dev.onRx_qs (d : Dev) (f : Rx → Rx) : (d.onRx f).qs = d.qs := rfl
@[simp] theorem Dev.onRx_tim (d : Dev) (f : Rx → Rx) : (d.onRx f).tim = d.tim := rfl
@[simp] theorem Dev.onRx_pmu (d : Dev) (f : Rx → Rx) : (d.onRx f).pmu = d.pmu := rfl
@[simp] theorem Dev.onRx_th (d : Dev) (f : Rx → Rx) : (d.onRx f).th = d.th := rfl
@[simp] theorem Dev.onRx_pin (d : Dev) (f : Rx → Rx) : (d.onRx f).pin = d.pin := rfl
@[simp] theorem Dev.onRx_bus (d : Dev) (f : Rx → Rx) : (d.onRx f).bus = d.bus := rfl
@[simp] theorem Dev.onRx_cyc (d : Dev) (f : Rx → Rx) : (d.onRx f).cyc = d.cyc := rfl

@[simp] theorem Dev.onLau_mode (d : Dev) (f : Lauter → Lauter) : (d.onLau f).mode = d.mode := rfl
@[simp] theorem Dev.onLau_tb (d : Dev) (f : Lauter → Lauter) : (d.onLau f).tb = d.tb := rfl
@[simp] theorem Dev.onLau_drv (d : Dev) (f : Lauter → Lauter) : (d.onLau f).drv = d.drv := rfl
@[simp] theorem Dev.onLau_tx (d : Dev) (f : Lauter → Lauter) : (d.onLau f).tx = d.tx := rfl
@[simp] theorem Dev.onLau_rx (d : Dev) (f : Lauter → Lauter) : (d.onLau f).rx = d.rx := rfl
@[simp] theorem Dev.onLau_lau (d : Dev) (f : Lauter → Lauter) : (d.onLau f).lau = f d.lau := rfl
@[simp] theorem Dev.onLau_prb (d : Dev) (f : Lauter → Lauter) : (d.onLau f).prb = d.prb := rfl
@[simp] theorem Dev.onLau_sf (d : Dev) (f : Lauter → Lauter) : (d.onLau f).sf = d.sf := rfl
@[simp] theorem Dev.onLau_hf (d : Dev) (f : Lauter → Lauter) : (d.onLau f).hf = d.hf := rfl
@[simp] theorem Dev.onLau_acc (d : Dev) (f : Lauter → Lauter) : (d.onLau f).acc = d.acc := rfl
@[simp] theorem Dev.onLau_stp (d : Dev) (f : Lauter → Lauter) : (d.onLau f).stp = d.stp := rfl
@[simp] theorem Dev.onLau_uhf (d : Dev) (f : Lauter → Lauter) : (d.onLau f).uhf = d.uhf := rfl
@[simp] theorem Dev.onLau_key (d : Dev) (f : Lauter → Lauter) : (d.onLau f).key = d.key := rfl
@[simp] theorem Dev.onLau_room (d : Dev) (f : Lauter → Lauter) : (d.onLau f).room = d.room := rfl
@[simp] theorem Dev.onLau_cask (d : Dev) (f : Lauter → Lauter) : (d.onLau f).cask = d.cask := rfl
@[simp] theorem Dev.onLau_cl (d : Dev) (f : Lauter → Lauter) : (d.onLau f).cl = d.cl := rfl
@[simp] theorem Dev.onLau_nvm (d : Dev) (f : Lauter → Lauter) : (d.onLau f).nvm = d.nvm := rfl
@[simp] theorem Dev.onLau_kiln (d : Dev) (f : Lauter → Lauter) : (d.onLau f).kiln = d.kiln := rfl
@[simp] theorem Dev.onLau_ncp (d : Dev) (f : Lauter → Lauter) : (d.onLau f).ncp = d.ncp := rfl
@[simp] theorem Dev.onLau_hsp (d : Dev) (f : Lauter → Lauter) : (d.onLau f).hsp = d.hsp := rfl
@[simp] theorem Dev.onLau_msp (d : Dev) (f : Lauter → Lauter) : (d.onLau f).msp = d.msp := rfl
@[simp] theorem Dev.onLau_evr (d : Dev) (f : Lauter → Lauter) : (d.onLau f).evr = d.evr := rfl
@[simp] theorem Dev.onLau_qs (d : Dev) (f : Lauter → Lauter) : (d.onLau f).qs = d.qs := rfl
@[simp] theorem Dev.onLau_tim (d : Dev) (f : Lauter → Lauter) : (d.onLau f).tim = d.tim := rfl
@[simp] theorem Dev.onLau_pmu (d : Dev) (f : Lauter → Lauter) : (d.onLau f).pmu = d.pmu := rfl
@[simp] theorem Dev.onLau_th (d : Dev) (f : Lauter → Lauter) : (d.onLau f).th = d.th := rfl
@[simp] theorem Dev.onLau_pin (d : Dev) (f : Lauter → Lauter) : (d.onLau f).pin = d.pin := rfl
@[simp] theorem Dev.onLau_bus (d : Dev) (f : Lauter → Lauter) : (d.onLau f).bus = d.bus := rfl
@[simp] theorem Dev.onLau_cyc (d : Dev) (f : Lauter → Lauter) : (d.onLau f).cyc = d.cyc := rfl

@[simp] theorem Dev.onPrb_mode (d : Dev) (f : Probe → Probe) : (d.onPrb f).mode = d.mode := rfl
@[simp] theorem Dev.onPrb_tb (d : Dev) (f : Probe → Probe) : (d.onPrb f).tb = d.tb := rfl
@[simp] theorem Dev.onPrb_drv (d : Dev) (f : Probe → Probe) : (d.onPrb f).drv = d.drv := rfl
@[simp] theorem Dev.onPrb_tx (d : Dev) (f : Probe → Probe) : (d.onPrb f).tx = d.tx := rfl
@[simp] theorem Dev.onPrb_rx (d : Dev) (f : Probe → Probe) : (d.onPrb f).rx = d.rx := rfl
@[simp] theorem Dev.onPrb_lau (d : Dev) (f : Probe → Probe) : (d.onPrb f).lau = d.lau := rfl
@[simp] theorem Dev.onPrb_prb (d : Dev) (f : Probe → Probe) : (d.onPrb f).prb = f d.prb := rfl
@[simp] theorem Dev.onPrb_sf (d : Dev) (f : Probe → Probe) : (d.onPrb f).sf = d.sf := rfl
@[simp] theorem Dev.onPrb_hf (d : Dev) (f : Probe → Probe) : (d.onPrb f).hf = d.hf := rfl
@[simp] theorem Dev.onPrb_acc (d : Dev) (f : Probe → Probe) : (d.onPrb f).acc = d.acc := rfl
@[simp] theorem Dev.onPrb_stp (d : Dev) (f : Probe → Probe) : (d.onPrb f).stp = d.stp := rfl
@[simp] theorem Dev.onPrb_uhf (d : Dev) (f : Probe → Probe) : (d.onPrb f).uhf = d.uhf := rfl
@[simp] theorem Dev.onPrb_key (d : Dev) (f : Probe → Probe) : (d.onPrb f).key = d.key := rfl
@[simp] theorem Dev.onPrb_room (d : Dev) (f : Probe → Probe) : (d.onPrb f).room = d.room := rfl
@[simp] theorem Dev.onPrb_cask (d : Dev) (f : Probe → Probe) : (d.onPrb f).cask = d.cask := rfl
@[simp] theorem Dev.onPrb_cl (d : Dev) (f : Probe → Probe) : (d.onPrb f).cl = d.cl := rfl
@[simp] theorem Dev.onPrb_nvm (d : Dev) (f : Probe → Probe) : (d.onPrb f).nvm = d.nvm := rfl
@[simp] theorem Dev.onPrb_kiln (d : Dev) (f : Probe → Probe) : (d.onPrb f).kiln = d.kiln := rfl
@[simp] theorem Dev.onPrb_ncp (d : Dev) (f : Probe → Probe) : (d.onPrb f).ncp = d.ncp := rfl
@[simp] theorem Dev.onPrb_hsp (d : Dev) (f : Probe → Probe) : (d.onPrb f).hsp = d.hsp := rfl
@[simp] theorem Dev.onPrb_msp (d : Dev) (f : Probe → Probe) : (d.onPrb f).msp = d.msp := rfl
@[simp] theorem Dev.onPrb_evr (d : Dev) (f : Probe → Probe) : (d.onPrb f).evr = d.evr := rfl
@[simp] theorem Dev.onPrb_qs (d : Dev) (f : Probe → Probe) : (d.onPrb f).qs = d.qs := rfl
@[simp] theorem Dev.onPrb_tim (d : Dev) (f : Probe → Probe) : (d.onPrb f).tim = d.tim := rfl
@[simp] theorem Dev.onPrb_pmu (d : Dev) (f : Probe → Probe) : (d.onPrb f).pmu = d.pmu := rfl
@[simp] theorem Dev.onPrb_th (d : Dev) (f : Probe → Probe) : (d.onPrb f).th = d.th := rfl
@[simp] theorem Dev.onPrb_pin (d : Dev) (f : Probe → Probe) : (d.onPrb f).pin = d.pin := rfl
@[simp] theorem Dev.onPrb_bus (d : Dev) (f : Probe → Probe) : (d.onPrb f).bus = d.bus := rfl
@[simp] theorem Dev.onPrb_cyc (d : Dev) (f : Probe → Probe) : (d.onPrb f).cyc = d.cyc := rfl

@[simp] theorem Dev.onSf_mode (d : Dev) (f : Surface → Surface) : (d.onSf f).mode = d.mode := rfl
@[simp] theorem Dev.onSf_tb (d : Dev) (f : Surface → Surface) : (d.onSf f).tb = d.tb := rfl
@[simp] theorem Dev.onSf_drv (d : Dev) (f : Surface → Surface) : (d.onSf f).drv = d.drv := rfl
@[simp] theorem Dev.onSf_tx (d : Dev) (f : Surface → Surface) : (d.onSf f).tx = d.tx := rfl
@[simp] theorem Dev.onSf_rx (d : Dev) (f : Surface → Surface) : (d.onSf f).rx = d.rx := rfl
@[simp] theorem Dev.onSf_lau (d : Dev) (f : Surface → Surface) : (d.onSf f).lau = d.lau := rfl
@[simp] theorem Dev.onSf_prb (d : Dev) (f : Surface → Surface) : (d.onSf f).prb = d.prb := rfl
@[simp] theorem Dev.onSf_sf (d : Dev) (f : Surface → Surface) : (d.onSf f).sf = f d.sf := rfl
@[simp] theorem Dev.onSf_hf (d : Dev) (f : Surface → Surface) : (d.onSf f).hf = d.hf := rfl
@[simp] theorem Dev.onSf_acc (d : Dev) (f : Surface → Surface) : (d.onSf f).acc = d.acc := rfl
@[simp] theorem Dev.onSf_stp (d : Dev) (f : Surface → Surface) : (d.onSf f).stp = d.stp := rfl
@[simp] theorem Dev.onSf_uhf (d : Dev) (f : Surface → Surface) : (d.onSf f).uhf = d.uhf := rfl
@[simp] theorem Dev.onSf_key (d : Dev) (f : Surface → Surface) : (d.onSf f).key = d.key := rfl
@[simp] theorem Dev.onSf_room (d : Dev) (f : Surface → Surface) : (d.onSf f).room = d.room := rfl
@[simp] theorem Dev.onSf_cask (d : Dev) (f : Surface → Surface) : (d.onSf f).cask = d.cask := rfl
@[simp] theorem Dev.onSf_cl (d : Dev) (f : Surface → Surface) : (d.onSf f).cl = d.cl := rfl
@[simp] theorem Dev.onSf_nvm (d : Dev) (f : Surface → Surface) : (d.onSf f).nvm = d.nvm := rfl
@[simp] theorem Dev.onSf_kiln (d : Dev) (f : Surface → Surface) : (d.onSf f).kiln = d.kiln := rfl
@[simp] theorem Dev.onSf_ncp (d : Dev) (f : Surface → Surface) : (d.onSf f).ncp = d.ncp := rfl
@[simp] theorem Dev.onSf_hsp (d : Dev) (f : Surface → Surface) : (d.onSf f).hsp = d.hsp := rfl
@[simp] theorem Dev.onSf_msp (d : Dev) (f : Surface → Surface) : (d.onSf f).msp = d.msp := rfl
@[simp] theorem Dev.onSf_evr (d : Dev) (f : Surface → Surface) : (d.onSf f).evr = d.evr := rfl
@[simp] theorem Dev.onSf_qs (d : Dev) (f : Surface → Surface) : (d.onSf f).qs = d.qs := rfl
@[simp] theorem Dev.onSf_tim (d : Dev) (f : Surface → Surface) : (d.onSf f).tim = d.tim := rfl
@[simp] theorem Dev.onSf_pmu (d : Dev) (f : Surface → Surface) : (d.onSf f).pmu = d.pmu := rfl
@[simp] theorem Dev.onSf_th (d : Dev) (f : Surface → Surface) : (d.onSf f).th = d.th := rfl
@[simp] theorem Dev.onSf_pin (d : Dev) (f : Surface → Surface) : (d.onSf f).pin = d.pin := rfl
@[simp] theorem Dev.onSf_bus (d : Dev) (f : Surface → Surface) : (d.onSf f).bus = d.bus := rfl
@[simp] theorem Dev.onSf_cyc (d : Dev) (f : Surface → Surface) : (d.onSf f).cyc = d.cyc := rfl

@[simp] theorem Dev.onHf_mode (d : Dev) (f : Hf → Hf) : (d.onHf f).mode = d.mode := rfl
@[simp] theorem Dev.onHf_tb (d : Dev) (f : Hf → Hf) : (d.onHf f).tb = d.tb := rfl
@[simp] theorem Dev.onHf_drv (d : Dev) (f : Hf → Hf) : (d.onHf f).drv = d.drv := rfl
@[simp] theorem Dev.onHf_tx (d : Dev) (f : Hf → Hf) : (d.onHf f).tx = d.tx := rfl
@[simp] theorem Dev.onHf_rx (d : Dev) (f : Hf → Hf) : (d.onHf f).rx = d.rx := rfl
@[simp] theorem Dev.onHf_lau (d : Dev) (f : Hf → Hf) : (d.onHf f).lau = d.lau := rfl
@[simp] theorem Dev.onHf_prb (d : Dev) (f : Hf → Hf) : (d.onHf f).prb = d.prb := rfl
@[simp] theorem Dev.onHf_sf (d : Dev) (f : Hf → Hf) : (d.onHf f).sf = d.sf := rfl
@[simp] theorem Dev.onHf_hf (d : Dev) (f : Hf → Hf) : (d.onHf f).hf = f d.hf := rfl
@[simp] theorem Dev.onHf_acc (d : Dev) (f : Hf → Hf) : (d.onHf f).acc = d.acc := rfl
@[simp] theorem Dev.onHf_stp (d : Dev) (f : Hf → Hf) : (d.onHf f).stp = d.stp := rfl
@[simp] theorem Dev.onHf_uhf (d : Dev) (f : Hf → Hf) : (d.onHf f).uhf = d.uhf := rfl
@[simp] theorem Dev.onHf_key (d : Dev) (f : Hf → Hf) : (d.onHf f).key = d.key := rfl
@[simp] theorem Dev.onHf_room (d : Dev) (f : Hf → Hf) : (d.onHf f).room = d.room := rfl
@[simp] theorem Dev.onHf_cask (d : Dev) (f : Hf → Hf) : (d.onHf f).cask = d.cask := rfl
@[simp] theorem Dev.onHf_cl (d : Dev) (f : Hf → Hf) : (d.onHf f).cl = d.cl := rfl
@[simp] theorem Dev.onHf_nvm (d : Dev) (f : Hf → Hf) : (d.onHf f).nvm = d.nvm := rfl
@[simp] theorem Dev.onHf_kiln (d : Dev) (f : Hf → Hf) : (d.onHf f).kiln = d.kiln := rfl
@[simp] theorem Dev.onHf_ncp (d : Dev) (f : Hf → Hf) : (d.onHf f).ncp = d.ncp := rfl
@[simp] theorem Dev.onHf_hsp (d : Dev) (f : Hf → Hf) : (d.onHf f).hsp = d.hsp := rfl
@[simp] theorem Dev.onHf_msp (d : Dev) (f : Hf → Hf) : (d.onHf f).msp = d.msp := rfl
@[simp] theorem Dev.onHf_evr (d : Dev) (f : Hf → Hf) : (d.onHf f).evr = d.evr := rfl
@[simp] theorem Dev.onHf_qs (d : Dev) (f : Hf → Hf) : (d.onHf f).qs = d.qs := rfl
@[simp] theorem Dev.onHf_tim (d : Dev) (f : Hf → Hf) : (d.onHf f).tim = d.tim := rfl
@[simp] theorem Dev.onHf_pmu (d : Dev) (f : Hf → Hf) : (d.onHf f).pmu = d.pmu := rfl
@[simp] theorem Dev.onHf_th (d : Dev) (f : Hf → Hf) : (d.onHf f).th = d.th := rfl
@[simp] theorem Dev.onHf_pin (d : Dev) (f : Hf → Hf) : (d.onHf f).pin = d.pin := rfl
@[simp] theorem Dev.onHf_bus (d : Dev) (f : Hf → Hf) : (d.onHf f).bus = d.bus := rfl
@[simp] theorem Dev.onHf_cyc (d : Dev) (f : Hf → Hf) : (d.onHf f).cyc = d.cyc := rfl

@[simp] theorem Dev.onAcc_mode (d : Dev) (f : AccCfg → AccCfg) : (d.onAcc f).mode = d.mode := rfl
@[simp] theorem Dev.onAcc_tb (d : Dev) (f : AccCfg → AccCfg) : (d.onAcc f).tb = d.tb := rfl
@[simp] theorem Dev.onAcc_drv (d : Dev) (f : AccCfg → AccCfg) : (d.onAcc f).drv = d.drv := rfl
@[simp] theorem Dev.onAcc_tx (d : Dev) (f : AccCfg → AccCfg) : (d.onAcc f).tx = d.tx := rfl
@[simp] theorem Dev.onAcc_rx (d : Dev) (f : AccCfg → AccCfg) : (d.onAcc f).rx = d.rx := rfl
@[simp] theorem Dev.onAcc_lau (d : Dev) (f : AccCfg → AccCfg) : (d.onAcc f).lau = d.lau := rfl
@[simp] theorem Dev.onAcc_prb (d : Dev) (f : AccCfg → AccCfg) : (d.onAcc f).prb = d.prb := rfl
@[simp] theorem Dev.onAcc_sf (d : Dev) (f : AccCfg → AccCfg) : (d.onAcc f).sf = d.sf := rfl
@[simp] theorem Dev.onAcc_hf (d : Dev) (f : AccCfg → AccCfg) : (d.onAcc f).hf = d.hf := rfl
@[simp] theorem Dev.onAcc_acc (d : Dev) (f : AccCfg → AccCfg) : (d.onAcc f).acc = f d.acc := rfl
@[simp] theorem Dev.onAcc_stp (d : Dev) (f : AccCfg → AccCfg) : (d.onAcc f).stp = d.stp := rfl
@[simp] theorem Dev.onAcc_uhf (d : Dev) (f : AccCfg → AccCfg) : (d.onAcc f).uhf = d.uhf := rfl
@[simp] theorem Dev.onAcc_key (d : Dev) (f : AccCfg → AccCfg) : (d.onAcc f).key = d.key := rfl
@[simp] theorem Dev.onAcc_room (d : Dev) (f : AccCfg → AccCfg) : (d.onAcc f).room = d.room := rfl
@[simp] theorem Dev.onAcc_cask (d : Dev) (f : AccCfg → AccCfg) : (d.onAcc f).cask = d.cask := rfl
@[simp] theorem Dev.onAcc_cl (d : Dev) (f : AccCfg → AccCfg) : (d.onAcc f).cl = d.cl := rfl
@[simp] theorem Dev.onAcc_nvm (d : Dev) (f : AccCfg → AccCfg) : (d.onAcc f).nvm = d.nvm := rfl
@[simp] theorem Dev.onAcc_kiln (d : Dev) (f : AccCfg → AccCfg) : (d.onAcc f).kiln = d.kiln := rfl
@[simp] theorem Dev.onAcc_ncp (d : Dev) (f : AccCfg → AccCfg) : (d.onAcc f).ncp = d.ncp := rfl
@[simp] theorem Dev.onAcc_hsp (d : Dev) (f : AccCfg → AccCfg) : (d.onAcc f).hsp = d.hsp := rfl
@[simp] theorem Dev.onAcc_msp (d : Dev) (f : AccCfg → AccCfg) : (d.onAcc f).msp = d.msp := rfl
@[simp] theorem Dev.onAcc_evr (d : Dev) (f : AccCfg → AccCfg) : (d.onAcc f).evr = d.evr := rfl
@[simp] theorem Dev.onAcc_qs (d : Dev) (f : AccCfg → AccCfg) : (d.onAcc f).qs = d.qs := rfl
@[simp] theorem Dev.onAcc_tim (d : Dev) (f : AccCfg → AccCfg) : (d.onAcc f).tim = d.tim := rfl
@[simp] theorem Dev.onAcc_pmu (d : Dev) (f : AccCfg → AccCfg) : (d.onAcc f).pmu = d.pmu := rfl
@[simp] theorem Dev.onAcc_th (d : Dev) (f : AccCfg → AccCfg) : (d.onAcc f).th = d.th := rfl
@[simp] theorem Dev.onAcc_pin (d : Dev) (f : AccCfg → AccCfg) : (d.onAcc f).pin = d.pin := rfl
@[simp] theorem Dev.onAcc_bus (d : Dev) (f : AccCfg → AccCfg) : (d.onAcc f).bus = d.bus := rfl
@[simp] theorem Dev.onAcc_cyc (d : Dev) (f : AccCfg → AccCfg) : (d.onAcc f).cyc = d.cyc := rfl

@[simp] theorem Dev.onStp_mode (d : Dev) (f : Steep → Steep) : (d.onStp f).mode = d.mode := rfl
@[simp] theorem Dev.onStp_tb (d : Dev) (f : Steep → Steep) : (d.onStp f).tb = d.tb := rfl
@[simp] theorem Dev.onStp_drv (d : Dev) (f : Steep → Steep) : (d.onStp f).drv = d.drv := rfl
@[simp] theorem Dev.onStp_tx (d : Dev) (f : Steep → Steep) : (d.onStp f).tx = d.tx := rfl
@[simp] theorem Dev.onStp_rx (d : Dev) (f : Steep → Steep) : (d.onStp f).rx = d.rx := rfl
@[simp] theorem Dev.onStp_lau (d : Dev) (f : Steep → Steep) : (d.onStp f).lau = d.lau := rfl
@[simp] theorem Dev.onStp_prb (d : Dev) (f : Steep → Steep) : (d.onStp f).prb = d.prb := rfl
@[simp] theorem Dev.onStp_sf (d : Dev) (f : Steep → Steep) : (d.onStp f).sf = d.sf := rfl
@[simp] theorem Dev.onStp_hf (d : Dev) (f : Steep → Steep) : (d.onStp f).hf = d.hf := rfl
@[simp] theorem Dev.onStp_acc (d : Dev) (f : Steep → Steep) : (d.onStp f).acc = d.acc := rfl
@[simp] theorem Dev.onStp_stp (d : Dev) (f : Steep → Steep) : (d.onStp f).stp = f d.stp := rfl
@[simp] theorem Dev.onStp_uhf (d : Dev) (f : Steep → Steep) : (d.onStp f).uhf = d.uhf := rfl
@[simp] theorem Dev.onStp_key (d : Dev) (f : Steep → Steep) : (d.onStp f).key = d.key := rfl
@[simp] theorem Dev.onStp_room (d : Dev) (f : Steep → Steep) : (d.onStp f).room = d.room := rfl
@[simp] theorem Dev.onStp_cask (d : Dev) (f : Steep → Steep) : (d.onStp f).cask = d.cask := rfl
@[simp] theorem Dev.onStp_cl (d : Dev) (f : Steep → Steep) : (d.onStp f).cl = d.cl := rfl
@[simp] theorem Dev.onStp_nvm (d : Dev) (f : Steep → Steep) : (d.onStp f).nvm = d.nvm := rfl
@[simp] theorem Dev.onStp_kiln (d : Dev) (f : Steep → Steep) : (d.onStp f).kiln = d.kiln := rfl
@[simp] theorem Dev.onStp_ncp (d : Dev) (f : Steep → Steep) : (d.onStp f).ncp = d.ncp := rfl
@[simp] theorem Dev.onStp_hsp (d : Dev) (f : Steep → Steep) : (d.onStp f).hsp = d.hsp := rfl
@[simp] theorem Dev.onStp_msp (d : Dev) (f : Steep → Steep) : (d.onStp f).msp = d.msp := rfl
@[simp] theorem Dev.onStp_evr (d : Dev) (f : Steep → Steep) : (d.onStp f).evr = d.evr := rfl
@[simp] theorem Dev.onStp_qs (d : Dev) (f : Steep → Steep) : (d.onStp f).qs = d.qs := rfl
@[simp] theorem Dev.onStp_tim (d : Dev) (f : Steep → Steep) : (d.onStp f).tim = d.tim := rfl
@[simp] theorem Dev.onStp_pmu (d : Dev) (f : Steep → Steep) : (d.onStp f).pmu = d.pmu := rfl
@[simp] theorem Dev.onStp_th (d : Dev) (f : Steep → Steep) : (d.onStp f).th = d.th := rfl
@[simp] theorem Dev.onStp_pin (d : Dev) (f : Steep → Steep) : (d.onStp f).pin = d.pin := rfl
@[simp] theorem Dev.onStp_bus (d : Dev) (f : Steep → Steep) : (d.onStp f).bus = d.bus := rfl
@[simp] theorem Dev.onStp_cyc (d : Dev) (f : Steep → Steep) : (d.onStp f).cyc = d.cyc := rfl

@[simp] theorem Dev.onUhf_mode (d : Dev) (f : Uhf → Uhf) : (d.onUhf f).mode = d.mode := rfl
@[simp] theorem Dev.onUhf_tb (d : Dev) (f : Uhf → Uhf) : (d.onUhf f).tb = d.tb := rfl
@[simp] theorem Dev.onUhf_drv (d : Dev) (f : Uhf → Uhf) : (d.onUhf f).drv = d.drv := rfl
@[simp] theorem Dev.onUhf_tx (d : Dev) (f : Uhf → Uhf) : (d.onUhf f).tx = d.tx := rfl
@[simp] theorem Dev.onUhf_rx (d : Dev) (f : Uhf → Uhf) : (d.onUhf f).rx = d.rx := rfl
@[simp] theorem Dev.onUhf_lau (d : Dev) (f : Uhf → Uhf) : (d.onUhf f).lau = d.lau := rfl
@[simp] theorem Dev.onUhf_prb (d : Dev) (f : Uhf → Uhf) : (d.onUhf f).prb = d.prb := rfl
@[simp] theorem Dev.onUhf_sf (d : Dev) (f : Uhf → Uhf) : (d.onUhf f).sf = d.sf := rfl
@[simp] theorem Dev.onUhf_hf (d : Dev) (f : Uhf → Uhf) : (d.onUhf f).hf = d.hf := rfl
@[simp] theorem Dev.onUhf_acc (d : Dev) (f : Uhf → Uhf) : (d.onUhf f).acc = d.acc := rfl
@[simp] theorem Dev.onUhf_stp (d : Dev) (f : Uhf → Uhf) : (d.onUhf f).stp = d.stp := rfl
@[simp] theorem Dev.onUhf_uhf (d : Dev) (f : Uhf → Uhf) : (d.onUhf f).uhf = f d.uhf := rfl
@[simp] theorem Dev.onUhf_key (d : Dev) (f : Uhf → Uhf) : (d.onUhf f).key = d.key := rfl
@[simp] theorem Dev.onUhf_room (d : Dev) (f : Uhf → Uhf) : (d.onUhf f).room = d.room := rfl
@[simp] theorem Dev.onUhf_cask (d : Dev) (f : Uhf → Uhf) : (d.onUhf f).cask = d.cask := rfl
@[simp] theorem Dev.onUhf_cl (d : Dev) (f : Uhf → Uhf) : (d.onUhf f).cl = d.cl := rfl
@[simp] theorem Dev.onUhf_nvm (d : Dev) (f : Uhf → Uhf) : (d.onUhf f).nvm = d.nvm := rfl
@[simp] theorem Dev.onUhf_kiln (d : Dev) (f : Uhf → Uhf) : (d.onUhf f).kiln = d.kiln := rfl
@[simp] theorem Dev.onUhf_ncp (d : Dev) (f : Uhf → Uhf) : (d.onUhf f).ncp = d.ncp := rfl
@[simp] theorem Dev.onUhf_hsp (d : Dev) (f : Uhf → Uhf) : (d.onUhf f).hsp = d.hsp := rfl
@[simp] theorem Dev.onUhf_msp (d : Dev) (f : Uhf → Uhf) : (d.onUhf f).msp = d.msp := rfl
@[simp] theorem Dev.onUhf_evr (d : Dev) (f : Uhf → Uhf) : (d.onUhf f).evr = d.evr := rfl
@[simp] theorem Dev.onUhf_qs (d : Dev) (f : Uhf → Uhf) : (d.onUhf f).qs = d.qs := rfl
@[simp] theorem Dev.onUhf_tim (d : Dev) (f : Uhf → Uhf) : (d.onUhf f).tim = d.tim := rfl
@[simp] theorem Dev.onUhf_pmu (d : Dev) (f : Uhf → Uhf) : (d.onUhf f).pmu = d.pmu := rfl
@[simp] theorem Dev.onUhf_th (d : Dev) (f : Uhf → Uhf) : (d.onUhf f).th = d.th := rfl
@[simp] theorem Dev.onUhf_pin (d : Dev) (f : Uhf → Uhf) : (d.onUhf f).pin = d.pin := rfl
@[simp] theorem Dev.onUhf_bus (d : Dev) (f : Uhf → Uhf) : (d.onUhf f).bus = d.bus := rfl
@[simp] theorem Dev.onUhf_cyc (d : Dev) (f : Uhf → Uhf) : (d.onUhf f).cyc = d.cyc := rfl

@[simp] theorem Dev.onKey_mode (d : Dev) (f : Island → Island) : (d.onKey f).mode = d.mode := rfl
@[simp] theorem Dev.onKey_tb (d : Dev) (f : Island → Island) : (d.onKey f).tb = d.tb := rfl
@[simp] theorem Dev.onKey_drv (d : Dev) (f : Island → Island) : (d.onKey f).drv = d.drv := rfl
@[simp] theorem Dev.onKey_tx (d : Dev) (f : Island → Island) : (d.onKey f).tx = d.tx := rfl
@[simp] theorem Dev.onKey_rx (d : Dev) (f : Island → Island) : (d.onKey f).rx = d.rx := rfl
@[simp] theorem Dev.onKey_lau (d : Dev) (f : Island → Island) : (d.onKey f).lau = d.lau := rfl
@[simp] theorem Dev.onKey_prb (d : Dev) (f : Island → Island) : (d.onKey f).prb = d.prb := rfl
@[simp] theorem Dev.onKey_sf (d : Dev) (f : Island → Island) : (d.onKey f).sf = d.sf := rfl
@[simp] theorem Dev.onKey_hf (d : Dev) (f : Island → Island) : (d.onKey f).hf = d.hf := rfl
@[simp] theorem Dev.onKey_acc (d : Dev) (f : Island → Island) : (d.onKey f).acc = d.acc := rfl
@[simp] theorem Dev.onKey_stp (d : Dev) (f : Island → Island) : (d.onKey f).stp = d.stp := rfl
@[simp] theorem Dev.onKey_uhf (d : Dev) (f : Island → Island) : (d.onKey f).uhf = d.uhf := rfl
@[simp] theorem Dev.onKey_key (d : Dev) (f : Island → Island) : (d.onKey f).key = f d.key := rfl
@[simp] theorem Dev.onKey_room (d : Dev) (f : Island → Island) : (d.onKey f).room = d.room := rfl
@[simp] theorem Dev.onKey_cask (d : Dev) (f : Island → Island) : (d.onKey f).cask = d.cask := rfl
@[simp] theorem Dev.onKey_cl (d : Dev) (f : Island → Island) : (d.onKey f).cl = d.cl := rfl
@[simp] theorem Dev.onKey_nvm (d : Dev) (f : Island → Island) : (d.onKey f).nvm = d.nvm := rfl
@[simp] theorem Dev.onKey_kiln (d : Dev) (f : Island → Island) : (d.onKey f).kiln = d.kiln := rfl
@[simp] theorem Dev.onKey_ncp (d : Dev) (f : Island → Island) : (d.onKey f).ncp = d.ncp := rfl
@[simp] theorem Dev.onKey_hsp (d : Dev) (f : Island → Island) : (d.onKey f).hsp = d.hsp := rfl
@[simp] theorem Dev.onKey_msp (d : Dev) (f : Island → Island) : (d.onKey f).msp = d.msp := rfl
@[simp] theorem Dev.onKey_evr (d : Dev) (f : Island → Island) : (d.onKey f).evr = d.evr := rfl
@[simp] theorem Dev.onKey_qs (d : Dev) (f : Island → Island) : (d.onKey f).qs = d.qs := rfl
@[simp] theorem Dev.onKey_tim (d : Dev) (f : Island → Island) : (d.onKey f).tim = d.tim := rfl
@[simp] theorem Dev.onKey_pmu (d : Dev) (f : Island → Island) : (d.onKey f).pmu = d.pmu := rfl
@[simp] theorem Dev.onKey_th (d : Dev) (f : Island → Island) : (d.onKey f).th = d.th := rfl
@[simp] theorem Dev.onKey_pin (d : Dev) (f : Island → Island) : (d.onKey f).pin = d.pin := rfl
@[simp] theorem Dev.onKey_bus (d : Dev) (f : Island → Island) : (d.onKey f).bus = d.bus := rfl
@[simp] theorem Dev.onKey_cyc (d : Dev) (f : Island → Island) : (d.onKey f).cyc = d.cyc := rfl

@[simp] theorem Dev.onRoom_mode (d : Dev) (f : Room → Room) : (d.onRoom f).mode = d.mode := rfl
@[simp] theorem Dev.onRoom_tb (d : Dev) (f : Room → Room) : (d.onRoom f).tb = d.tb := rfl
@[simp] theorem Dev.onRoom_drv (d : Dev) (f : Room → Room) : (d.onRoom f).drv = d.drv := rfl
@[simp] theorem Dev.onRoom_tx (d : Dev) (f : Room → Room) : (d.onRoom f).tx = d.tx := rfl
@[simp] theorem Dev.onRoom_rx (d : Dev) (f : Room → Room) : (d.onRoom f).rx = d.rx := rfl
@[simp] theorem Dev.onRoom_lau (d : Dev) (f : Room → Room) : (d.onRoom f).lau = d.lau := rfl
@[simp] theorem Dev.onRoom_prb (d : Dev) (f : Room → Room) : (d.onRoom f).prb = d.prb := rfl
@[simp] theorem Dev.onRoom_sf (d : Dev) (f : Room → Room) : (d.onRoom f).sf = d.sf := rfl
@[simp] theorem Dev.onRoom_hf (d : Dev) (f : Room → Room) : (d.onRoom f).hf = d.hf := rfl
@[simp] theorem Dev.onRoom_acc (d : Dev) (f : Room → Room) : (d.onRoom f).acc = d.acc := rfl
@[simp] theorem Dev.onRoom_stp (d : Dev) (f : Room → Room) : (d.onRoom f).stp = d.stp := rfl
@[simp] theorem Dev.onRoom_uhf (d : Dev) (f : Room → Room) : (d.onRoom f).uhf = d.uhf := rfl
@[simp] theorem Dev.onRoom_key (d : Dev) (f : Room → Room) : (d.onRoom f).key = d.key := rfl
@[simp] theorem Dev.onRoom_room (d : Dev) (f : Room → Room) : (d.onRoom f).room = f d.room := rfl
@[simp] theorem Dev.onRoom_cask (d : Dev) (f : Room → Room) : (d.onRoom f).cask = d.cask := rfl
@[simp] theorem Dev.onRoom_cl (d : Dev) (f : Room → Room) : (d.onRoom f).cl = d.cl := rfl
@[simp] theorem Dev.onRoom_nvm (d : Dev) (f : Room → Room) : (d.onRoom f).nvm = d.nvm := rfl
@[simp] theorem Dev.onRoom_kiln (d : Dev) (f : Room → Room) : (d.onRoom f).kiln = d.kiln := rfl
@[simp] theorem Dev.onRoom_ncp (d : Dev) (f : Room → Room) : (d.onRoom f).ncp = d.ncp := rfl
@[simp] theorem Dev.onRoom_hsp (d : Dev) (f : Room → Room) : (d.onRoom f).hsp = d.hsp := rfl
@[simp] theorem Dev.onRoom_msp (d : Dev) (f : Room → Room) : (d.onRoom f).msp = d.msp := rfl
@[simp] theorem Dev.onRoom_evr (d : Dev) (f : Room → Room) : (d.onRoom f).evr = d.evr := rfl
@[simp] theorem Dev.onRoom_qs (d : Dev) (f : Room → Room) : (d.onRoom f).qs = d.qs := rfl
@[simp] theorem Dev.onRoom_tim (d : Dev) (f : Room → Room) : (d.onRoom f).tim = d.tim := rfl
@[simp] theorem Dev.onRoom_pmu (d : Dev) (f : Room → Room) : (d.onRoom f).pmu = d.pmu := rfl
@[simp] theorem Dev.onRoom_th (d : Dev) (f : Room → Room) : (d.onRoom f).th = d.th := rfl
@[simp] theorem Dev.onRoom_pin (d : Dev) (f : Room → Room) : (d.onRoom f).pin = d.pin := rfl
@[simp] theorem Dev.onRoom_bus (d : Dev) (f : Room → Room) : (d.onRoom f).bus = d.bus := rfl
@[simp] theorem Dev.onRoom_cyc (d : Dev) (f : Room → Room) : (d.onRoom f).cyc = d.cyc := rfl

@[simp] theorem Dev.onCask_mode (d : Dev) (f : Cask → Cask) : (d.onCask f).mode = d.mode := rfl
@[simp] theorem Dev.onCask_tb (d : Dev) (f : Cask → Cask) : (d.onCask f).tb = d.tb := rfl
@[simp] theorem Dev.onCask_drv (d : Dev) (f : Cask → Cask) : (d.onCask f).drv = d.drv := rfl
@[simp] theorem Dev.onCask_tx (d : Dev) (f : Cask → Cask) : (d.onCask f).tx = d.tx := rfl
@[simp] theorem Dev.onCask_rx (d : Dev) (f : Cask → Cask) : (d.onCask f).rx = d.rx := rfl
@[simp] theorem Dev.onCask_lau (d : Dev) (f : Cask → Cask) : (d.onCask f).lau = d.lau := rfl
@[simp] theorem Dev.onCask_prb (d : Dev) (f : Cask → Cask) : (d.onCask f).prb = d.prb := rfl
@[simp] theorem Dev.onCask_sf (d : Dev) (f : Cask → Cask) : (d.onCask f).sf = d.sf := rfl
@[simp] theorem Dev.onCask_hf (d : Dev) (f : Cask → Cask) : (d.onCask f).hf = d.hf := rfl
@[simp] theorem Dev.onCask_acc (d : Dev) (f : Cask → Cask) : (d.onCask f).acc = d.acc := rfl
@[simp] theorem Dev.onCask_stp (d : Dev) (f : Cask → Cask) : (d.onCask f).stp = d.stp := rfl
@[simp] theorem Dev.onCask_uhf (d : Dev) (f : Cask → Cask) : (d.onCask f).uhf = d.uhf := rfl
@[simp] theorem Dev.onCask_key (d : Dev) (f : Cask → Cask) : (d.onCask f).key = d.key := rfl
@[simp] theorem Dev.onCask_room (d : Dev) (f : Cask → Cask) : (d.onCask f).room = d.room := rfl
@[simp] theorem Dev.onCask_cask (d : Dev) (f : Cask → Cask) : (d.onCask f).cask = f d.cask := rfl
@[simp] theorem Dev.onCask_cl (d : Dev) (f : Cask → Cask) : (d.onCask f).cl = d.cl := rfl
@[simp] theorem Dev.onCask_nvm (d : Dev) (f : Cask → Cask) : (d.onCask f).nvm = d.nvm := rfl
@[simp] theorem Dev.onCask_kiln (d : Dev) (f : Cask → Cask) : (d.onCask f).kiln = d.kiln := rfl
@[simp] theorem Dev.onCask_ncp (d : Dev) (f : Cask → Cask) : (d.onCask f).ncp = d.ncp := rfl
@[simp] theorem Dev.onCask_hsp (d : Dev) (f : Cask → Cask) : (d.onCask f).hsp = d.hsp := rfl
@[simp] theorem Dev.onCask_msp (d : Dev) (f : Cask → Cask) : (d.onCask f).msp = d.msp := rfl
@[simp] theorem Dev.onCask_evr (d : Dev) (f : Cask → Cask) : (d.onCask f).evr = d.evr := rfl
@[simp] theorem Dev.onCask_qs (d : Dev) (f : Cask → Cask) : (d.onCask f).qs = d.qs := rfl
@[simp] theorem Dev.onCask_tim (d : Dev) (f : Cask → Cask) : (d.onCask f).tim = d.tim := rfl
@[simp] theorem Dev.onCask_pmu (d : Dev) (f : Cask → Cask) : (d.onCask f).pmu = d.pmu := rfl
@[simp] theorem Dev.onCask_th (d : Dev) (f : Cask → Cask) : (d.onCask f).th = d.th := rfl
@[simp] theorem Dev.onCask_pin (d : Dev) (f : Cask → Cask) : (d.onCask f).pin = d.pin := rfl
@[simp] theorem Dev.onCask_bus (d : Dev) (f : Cask → Cask) : (d.onCask f).bus = d.bus := rfl
@[simp] theorem Dev.onCask_cyc (d : Dev) (f : Cask → Cask) : (d.onCask f).cyc = d.cyc := rfl

@[simp] theorem Dev.onCl_mode (d : Dev) (f : CaskLink → CaskLink) : (d.onCl f).mode = d.mode := rfl
@[simp] theorem Dev.onCl_tb (d : Dev) (f : CaskLink → CaskLink) : (d.onCl f).tb = d.tb := rfl
@[simp] theorem Dev.onCl_drv (d : Dev) (f : CaskLink → CaskLink) : (d.onCl f).drv = d.drv := rfl
@[simp] theorem Dev.onCl_tx (d : Dev) (f : CaskLink → CaskLink) : (d.onCl f).tx = d.tx := rfl
@[simp] theorem Dev.onCl_rx (d : Dev) (f : CaskLink → CaskLink) : (d.onCl f).rx = d.rx := rfl
@[simp] theorem Dev.onCl_lau (d : Dev) (f : CaskLink → CaskLink) : (d.onCl f).lau = d.lau := rfl
@[simp] theorem Dev.onCl_prb (d : Dev) (f : CaskLink → CaskLink) : (d.onCl f).prb = d.prb := rfl
@[simp] theorem Dev.onCl_sf (d : Dev) (f : CaskLink → CaskLink) : (d.onCl f).sf = d.sf := rfl
@[simp] theorem Dev.onCl_hf (d : Dev) (f : CaskLink → CaskLink) : (d.onCl f).hf = d.hf := rfl
@[simp] theorem Dev.onCl_acc (d : Dev) (f : CaskLink → CaskLink) : (d.onCl f).acc = d.acc := rfl
@[simp] theorem Dev.onCl_stp (d : Dev) (f : CaskLink → CaskLink) : (d.onCl f).stp = d.stp := rfl
@[simp] theorem Dev.onCl_uhf (d : Dev) (f : CaskLink → CaskLink) : (d.onCl f).uhf = d.uhf := rfl
@[simp] theorem Dev.onCl_key (d : Dev) (f : CaskLink → CaskLink) : (d.onCl f).key = d.key := rfl
@[simp] theorem Dev.onCl_room (d : Dev) (f : CaskLink → CaskLink) : (d.onCl f).room = d.room := rfl
@[simp] theorem Dev.onCl_cask (d : Dev) (f : CaskLink → CaskLink) : (d.onCl f).cask = d.cask := rfl
@[simp] theorem Dev.onCl_cl (d : Dev) (f : CaskLink → CaskLink) : (d.onCl f).cl = f d.cl := rfl
@[simp] theorem Dev.onCl_nvm (d : Dev) (f : CaskLink → CaskLink) : (d.onCl f).nvm = d.nvm := rfl
@[simp] theorem Dev.onCl_kiln (d : Dev) (f : CaskLink → CaskLink) : (d.onCl f).kiln = d.kiln := rfl
@[simp] theorem Dev.onCl_ncp (d : Dev) (f : CaskLink → CaskLink) : (d.onCl f).ncp = d.ncp := rfl
@[simp] theorem Dev.onCl_hsp (d : Dev) (f : CaskLink → CaskLink) : (d.onCl f).hsp = d.hsp := rfl
@[simp] theorem Dev.onCl_msp (d : Dev) (f : CaskLink → CaskLink) : (d.onCl f).msp = d.msp := rfl
@[simp] theorem Dev.onCl_evr (d : Dev) (f : CaskLink → CaskLink) : (d.onCl f).evr = d.evr := rfl
@[simp] theorem Dev.onCl_qs (d : Dev) (f : CaskLink → CaskLink) : (d.onCl f).qs = d.qs := rfl
@[simp] theorem Dev.onCl_tim (d : Dev) (f : CaskLink → CaskLink) : (d.onCl f).tim = d.tim := rfl
@[simp] theorem Dev.onCl_pmu (d : Dev) (f : CaskLink → CaskLink) : (d.onCl f).pmu = d.pmu := rfl
@[simp] theorem Dev.onCl_th (d : Dev) (f : CaskLink → CaskLink) : (d.onCl f).th = d.th := rfl
@[simp] theorem Dev.onCl_pin (d : Dev) (f : CaskLink → CaskLink) : (d.onCl f).pin = d.pin := rfl
@[simp] theorem Dev.onCl_bus (d : Dev) (f : CaskLink → CaskLink) : (d.onCl f).bus = d.bus := rfl
@[simp] theorem Dev.onCl_cyc (d : Dev) (f : CaskLink → CaskLink) : (d.onCl f).cyc = d.cyc := rfl

@[simp] theorem Dev.onNvm_mode (d : Dev) (f : Nvm → Nvm) : (d.onNvm f).mode = d.mode := rfl
@[simp] theorem Dev.onNvm_tb (d : Dev) (f : Nvm → Nvm) : (d.onNvm f).tb = d.tb := rfl
@[simp] theorem Dev.onNvm_drv (d : Dev) (f : Nvm → Nvm) : (d.onNvm f).drv = d.drv := rfl
@[simp] theorem Dev.onNvm_tx (d : Dev) (f : Nvm → Nvm) : (d.onNvm f).tx = d.tx := rfl
@[simp] theorem Dev.onNvm_rx (d : Dev) (f : Nvm → Nvm) : (d.onNvm f).rx = d.rx := rfl
@[simp] theorem Dev.onNvm_lau (d : Dev) (f : Nvm → Nvm) : (d.onNvm f).lau = d.lau := rfl
@[simp] theorem Dev.onNvm_prb (d : Dev) (f : Nvm → Nvm) : (d.onNvm f).prb = d.prb := rfl
@[simp] theorem Dev.onNvm_sf (d : Dev) (f : Nvm → Nvm) : (d.onNvm f).sf = d.sf := rfl
@[simp] theorem Dev.onNvm_hf (d : Dev) (f : Nvm → Nvm) : (d.onNvm f).hf = d.hf := rfl
@[simp] theorem Dev.onNvm_acc (d : Dev) (f : Nvm → Nvm) : (d.onNvm f).acc = d.acc := rfl
@[simp] theorem Dev.onNvm_stp (d : Dev) (f : Nvm → Nvm) : (d.onNvm f).stp = d.stp := rfl
@[simp] theorem Dev.onNvm_uhf (d : Dev) (f : Nvm → Nvm) : (d.onNvm f).uhf = d.uhf := rfl
@[simp] theorem Dev.onNvm_key (d : Dev) (f : Nvm → Nvm) : (d.onNvm f).key = d.key := rfl
@[simp] theorem Dev.onNvm_room (d : Dev) (f : Nvm → Nvm) : (d.onNvm f).room = d.room := rfl
@[simp] theorem Dev.onNvm_cask (d : Dev) (f : Nvm → Nvm) : (d.onNvm f).cask = d.cask := rfl
@[simp] theorem Dev.onNvm_cl (d : Dev) (f : Nvm → Nvm) : (d.onNvm f).cl = d.cl := rfl
@[simp] theorem Dev.onNvm_nvm (d : Dev) (f : Nvm → Nvm) : (d.onNvm f).nvm = f d.nvm := rfl
@[simp] theorem Dev.onNvm_kiln (d : Dev) (f : Nvm → Nvm) : (d.onNvm f).kiln = d.kiln := rfl
@[simp] theorem Dev.onNvm_ncp (d : Dev) (f : Nvm → Nvm) : (d.onNvm f).ncp = d.ncp := rfl
@[simp] theorem Dev.onNvm_hsp (d : Dev) (f : Nvm → Nvm) : (d.onNvm f).hsp = d.hsp := rfl
@[simp] theorem Dev.onNvm_msp (d : Dev) (f : Nvm → Nvm) : (d.onNvm f).msp = d.msp := rfl
@[simp] theorem Dev.onNvm_evr (d : Dev) (f : Nvm → Nvm) : (d.onNvm f).evr = d.evr := rfl
@[simp] theorem Dev.onNvm_qs (d : Dev) (f : Nvm → Nvm) : (d.onNvm f).qs = d.qs := rfl
@[simp] theorem Dev.onNvm_tim (d : Dev) (f : Nvm → Nvm) : (d.onNvm f).tim = d.tim := rfl
@[simp] theorem Dev.onNvm_pmu (d : Dev) (f : Nvm → Nvm) : (d.onNvm f).pmu = d.pmu := rfl
@[simp] theorem Dev.onNvm_th (d : Dev) (f : Nvm → Nvm) : (d.onNvm f).th = d.th := rfl
@[simp] theorem Dev.onNvm_pin (d : Dev) (f : Nvm → Nvm) : (d.onNvm f).pin = d.pin := rfl
@[simp] theorem Dev.onNvm_bus (d : Dev) (f : Nvm → Nvm) : (d.onNvm f).bus = d.bus := rfl
@[simp] theorem Dev.onNvm_cyc (d : Dev) (f : Nvm → Nvm) : (d.onNvm f).cyc = d.cyc := rfl

@[simp] theorem Dev.onKiln_mode (d : Dev) (f : Kiln → Kiln) : (d.onKiln f).mode = d.mode := rfl
@[simp] theorem Dev.onKiln_tb (d : Dev) (f : Kiln → Kiln) : (d.onKiln f).tb = d.tb := rfl
@[simp] theorem Dev.onKiln_drv (d : Dev) (f : Kiln → Kiln) : (d.onKiln f).drv = d.drv := rfl
@[simp] theorem Dev.onKiln_tx (d : Dev) (f : Kiln → Kiln) : (d.onKiln f).tx = d.tx := rfl
@[simp] theorem Dev.onKiln_rx (d : Dev) (f : Kiln → Kiln) : (d.onKiln f).rx = d.rx := rfl
@[simp] theorem Dev.onKiln_lau (d : Dev) (f : Kiln → Kiln) : (d.onKiln f).lau = d.lau := rfl
@[simp] theorem Dev.onKiln_prb (d : Dev) (f : Kiln → Kiln) : (d.onKiln f).prb = d.prb := rfl
@[simp] theorem Dev.onKiln_sf (d : Dev) (f : Kiln → Kiln) : (d.onKiln f).sf = d.sf := rfl
@[simp] theorem Dev.onKiln_hf (d : Dev) (f : Kiln → Kiln) : (d.onKiln f).hf = d.hf := rfl
@[simp] theorem Dev.onKiln_acc (d : Dev) (f : Kiln → Kiln) : (d.onKiln f).acc = d.acc := rfl
@[simp] theorem Dev.onKiln_stp (d : Dev) (f : Kiln → Kiln) : (d.onKiln f).stp = d.stp := rfl
@[simp] theorem Dev.onKiln_uhf (d : Dev) (f : Kiln → Kiln) : (d.onKiln f).uhf = d.uhf := rfl
@[simp] theorem Dev.onKiln_key (d : Dev) (f : Kiln → Kiln) : (d.onKiln f).key = d.key := rfl
@[simp] theorem Dev.onKiln_room (d : Dev) (f : Kiln → Kiln) : (d.onKiln f).room = d.room := rfl
@[simp] theorem Dev.onKiln_cask (d : Dev) (f : Kiln → Kiln) : (d.onKiln f).cask = d.cask := rfl
@[simp] theorem Dev.onKiln_cl (d : Dev) (f : Kiln → Kiln) : (d.onKiln f).cl = d.cl := rfl
@[simp] theorem Dev.onKiln_nvm (d : Dev) (f : Kiln → Kiln) : (d.onKiln f).nvm = d.nvm := rfl
@[simp] theorem Dev.onKiln_kiln (d : Dev) (f : Kiln → Kiln) : (d.onKiln f).kiln = f d.kiln := rfl
@[simp] theorem Dev.onKiln_ncp (d : Dev) (f : Kiln → Kiln) : (d.onKiln f).ncp = d.ncp := rfl
@[simp] theorem Dev.onKiln_hsp (d : Dev) (f : Kiln → Kiln) : (d.onKiln f).hsp = d.hsp := rfl
@[simp] theorem Dev.onKiln_msp (d : Dev) (f : Kiln → Kiln) : (d.onKiln f).msp = d.msp := rfl
@[simp] theorem Dev.onKiln_evr (d : Dev) (f : Kiln → Kiln) : (d.onKiln f).evr = d.evr := rfl
@[simp] theorem Dev.onKiln_qs (d : Dev) (f : Kiln → Kiln) : (d.onKiln f).qs = d.qs := rfl
@[simp] theorem Dev.onKiln_tim (d : Dev) (f : Kiln → Kiln) : (d.onKiln f).tim = d.tim := rfl
@[simp] theorem Dev.onKiln_pmu (d : Dev) (f : Kiln → Kiln) : (d.onKiln f).pmu = d.pmu := rfl
@[simp] theorem Dev.onKiln_th (d : Dev) (f : Kiln → Kiln) : (d.onKiln f).th = d.th := rfl
@[simp] theorem Dev.onKiln_pin (d : Dev) (f : Kiln → Kiln) : (d.onKiln f).pin = d.pin := rfl
@[simp] theorem Dev.onKiln_bus (d : Dev) (f : Kiln → Kiln) : (d.onKiln f).bus = d.bus := rfl
@[simp] theorem Dev.onKiln_cyc (d : Dev) (f : Kiln → Kiln) : (d.onKiln f).cyc = d.cyc := rfl

@[simp] theorem Dev.onNcp_mode (d : Dev) (f : Ncp → Ncp) : (d.onNcp f).mode = d.mode := rfl
@[simp] theorem Dev.onNcp_tb (d : Dev) (f : Ncp → Ncp) : (d.onNcp f).tb = d.tb := rfl
@[simp] theorem Dev.onNcp_drv (d : Dev) (f : Ncp → Ncp) : (d.onNcp f).drv = d.drv := rfl
@[simp] theorem Dev.onNcp_tx (d : Dev) (f : Ncp → Ncp) : (d.onNcp f).tx = d.tx := rfl
@[simp] theorem Dev.onNcp_rx (d : Dev) (f : Ncp → Ncp) : (d.onNcp f).rx = d.rx := rfl
@[simp] theorem Dev.onNcp_lau (d : Dev) (f : Ncp → Ncp) : (d.onNcp f).lau = d.lau := rfl
@[simp] theorem Dev.onNcp_prb (d : Dev) (f : Ncp → Ncp) : (d.onNcp f).prb = d.prb := rfl
@[simp] theorem Dev.onNcp_sf (d : Dev) (f : Ncp → Ncp) : (d.onNcp f).sf = d.sf := rfl
@[simp] theorem Dev.onNcp_hf (d : Dev) (f : Ncp → Ncp) : (d.onNcp f).hf = d.hf := rfl
@[simp] theorem Dev.onNcp_acc (d : Dev) (f : Ncp → Ncp) : (d.onNcp f).acc = d.acc := rfl
@[simp] theorem Dev.onNcp_stp (d : Dev) (f : Ncp → Ncp) : (d.onNcp f).stp = d.stp := rfl
@[simp] theorem Dev.onNcp_uhf (d : Dev) (f : Ncp → Ncp) : (d.onNcp f).uhf = d.uhf := rfl
@[simp] theorem Dev.onNcp_key (d : Dev) (f : Ncp → Ncp) : (d.onNcp f).key = d.key := rfl
@[simp] theorem Dev.onNcp_room (d : Dev) (f : Ncp → Ncp) : (d.onNcp f).room = d.room := rfl
@[simp] theorem Dev.onNcp_cask (d : Dev) (f : Ncp → Ncp) : (d.onNcp f).cask = d.cask := rfl
@[simp] theorem Dev.onNcp_cl (d : Dev) (f : Ncp → Ncp) : (d.onNcp f).cl = d.cl := rfl
@[simp] theorem Dev.onNcp_nvm (d : Dev) (f : Ncp → Ncp) : (d.onNcp f).nvm = d.nvm := rfl
@[simp] theorem Dev.onNcp_kiln (d : Dev) (f : Ncp → Ncp) : (d.onNcp f).kiln = d.kiln := rfl
@[simp] theorem Dev.onNcp_ncp (d : Dev) (f : Ncp → Ncp) : (d.onNcp f).ncp = f d.ncp := rfl
@[simp] theorem Dev.onNcp_hsp (d : Dev) (f : Ncp → Ncp) : (d.onNcp f).hsp = d.hsp := rfl
@[simp] theorem Dev.onNcp_msp (d : Dev) (f : Ncp → Ncp) : (d.onNcp f).msp = d.msp := rfl
@[simp] theorem Dev.onNcp_evr (d : Dev) (f : Ncp → Ncp) : (d.onNcp f).evr = d.evr := rfl
@[simp] theorem Dev.onNcp_qs (d : Dev) (f : Ncp → Ncp) : (d.onNcp f).qs = d.qs := rfl
@[simp] theorem Dev.onNcp_tim (d : Dev) (f : Ncp → Ncp) : (d.onNcp f).tim = d.tim := rfl
@[simp] theorem Dev.onNcp_pmu (d : Dev) (f : Ncp → Ncp) : (d.onNcp f).pmu = d.pmu := rfl
@[simp] theorem Dev.onNcp_th (d : Dev) (f : Ncp → Ncp) : (d.onNcp f).th = d.th := rfl
@[simp] theorem Dev.onNcp_pin (d : Dev) (f : Ncp → Ncp) : (d.onNcp f).pin = d.pin := rfl
@[simp] theorem Dev.onNcp_bus (d : Dev) (f : Ncp → Ncp) : (d.onNcp f).bus = d.bus := rfl
@[simp] theorem Dev.onNcp_cyc (d : Dev) (f : Ncp → Ncp) : (d.onNcp f).cyc = d.cyc := rfl

@[simp] theorem Dev.onHsp_mode (d : Dev) (f : Hsp → Hsp) : (d.onHsp f).mode = d.mode := rfl
@[simp] theorem Dev.onHsp_tb (d : Dev) (f : Hsp → Hsp) : (d.onHsp f).tb = d.tb := rfl
@[simp] theorem Dev.onHsp_drv (d : Dev) (f : Hsp → Hsp) : (d.onHsp f).drv = d.drv := rfl
@[simp] theorem Dev.onHsp_tx (d : Dev) (f : Hsp → Hsp) : (d.onHsp f).tx = d.tx := rfl
@[simp] theorem Dev.onHsp_rx (d : Dev) (f : Hsp → Hsp) : (d.onHsp f).rx = d.rx := rfl
@[simp] theorem Dev.onHsp_lau (d : Dev) (f : Hsp → Hsp) : (d.onHsp f).lau = d.lau := rfl
@[simp] theorem Dev.onHsp_prb (d : Dev) (f : Hsp → Hsp) : (d.onHsp f).prb = d.prb := rfl
@[simp] theorem Dev.onHsp_sf (d : Dev) (f : Hsp → Hsp) : (d.onHsp f).sf = d.sf := rfl
@[simp] theorem Dev.onHsp_hf (d : Dev) (f : Hsp → Hsp) : (d.onHsp f).hf = d.hf := rfl
@[simp] theorem Dev.onHsp_acc (d : Dev) (f : Hsp → Hsp) : (d.onHsp f).acc = d.acc := rfl
@[simp] theorem Dev.onHsp_stp (d : Dev) (f : Hsp → Hsp) : (d.onHsp f).stp = d.stp := rfl
@[simp] theorem Dev.onHsp_uhf (d : Dev) (f : Hsp → Hsp) : (d.onHsp f).uhf = d.uhf := rfl
@[simp] theorem Dev.onHsp_key (d : Dev) (f : Hsp → Hsp) : (d.onHsp f).key = d.key := rfl
@[simp] theorem Dev.onHsp_room (d : Dev) (f : Hsp → Hsp) : (d.onHsp f).room = d.room := rfl
@[simp] theorem Dev.onHsp_cask (d : Dev) (f : Hsp → Hsp) : (d.onHsp f).cask = d.cask := rfl
@[simp] theorem Dev.onHsp_cl (d : Dev) (f : Hsp → Hsp) : (d.onHsp f).cl = d.cl := rfl
@[simp] theorem Dev.onHsp_nvm (d : Dev) (f : Hsp → Hsp) : (d.onHsp f).nvm = d.nvm := rfl
@[simp] theorem Dev.onHsp_kiln (d : Dev) (f : Hsp → Hsp) : (d.onHsp f).kiln = d.kiln := rfl
@[simp] theorem Dev.onHsp_ncp (d : Dev) (f : Hsp → Hsp) : (d.onHsp f).ncp = d.ncp := rfl
@[simp] theorem Dev.onHsp_hsp (d : Dev) (f : Hsp → Hsp) : (d.onHsp f).hsp = f d.hsp := rfl
@[simp] theorem Dev.onHsp_msp (d : Dev) (f : Hsp → Hsp) : (d.onHsp f).msp = d.msp := rfl
@[simp] theorem Dev.onHsp_evr (d : Dev) (f : Hsp → Hsp) : (d.onHsp f).evr = d.evr := rfl
@[simp] theorem Dev.onHsp_qs (d : Dev) (f : Hsp → Hsp) : (d.onHsp f).qs = d.qs := rfl
@[simp] theorem Dev.onHsp_tim (d : Dev) (f : Hsp → Hsp) : (d.onHsp f).tim = d.tim := rfl
@[simp] theorem Dev.onHsp_pmu (d : Dev) (f : Hsp → Hsp) : (d.onHsp f).pmu = d.pmu := rfl
@[simp] theorem Dev.onHsp_th (d : Dev) (f : Hsp → Hsp) : (d.onHsp f).th = d.th := rfl
@[simp] theorem Dev.onHsp_pin (d : Dev) (f : Hsp → Hsp) : (d.onHsp f).pin = d.pin := rfl
@[simp] theorem Dev.onHsp_bus (d : Dev) (f : Hsp → Hsp) : (d.onHsp f).bus = d.bus := rfl
@[simp] theorem Dev.onHsp_cyc (d : Dev) (f : Hsp → Hsp) : (d.onHsp f).cyc = d.cyc := rfl

@[simp] theorem Dev.onMsp_mode (d : Dev) (f : Msp → Msp) : (d.onMsp f).mode = d.mode := rfl
@[simp] theorem Dev.onMsp_tb (d : Dev) (f : Msp → Msp) : (d.onMsp f).tb = d.tb := rfl
@[simp] theorem Dev.onMsp_drv (d : Dev) (f : Msp → Msp) : (d.onMsp f).drv = d.drv := rfl
@[simp] theorem Dev.onMsp_tx (d : Dev) (f : Msp → Msp) : (d.onMsp f).tx = d.tx := rfl
@[simp] theorem Dev.onMsp_rx (d : Dev) (f : Msp → Msp) : (d.onMsp f).rx = d.rx := rfl
@[simp] theorem Dev.onMsp_lau (d : Dev) (f : Msp → Msp) : (d.onMsp f).lau = d.lau := rfl
@[simp] theorem Dev.onMsp_prb (d : Dev) (f : Msp → Msp) : (d.onMsp f).prb = d.prb := rfl
@[simp] theorem Dev.onMsp_sf (d : Dev) (f : Msp → Msp) : (d.onMsp f).sf = d.sf := rfl
@[simp] theorem Dev.onMsp_hf (d : Dev) (f : Msp → Msp) : (d.onMsp f).hf = d.hf := rfl
@[simp] theorem Dev.onMsp_acc (d : Dev) (f : Msp → Msp) : (d.onMsp f).acc = d.acc := rfl
@[simp] theorem Dev.onMsp_stp (d : Dev) (f : Msp → Msp) : (d.onMsp f).stp = d.stp := rfl
@[simp] theorem Dev.onMsp_uhf (d : Dev) (f : Msp → Msp) : (d.onMsp f).uhf = d.uhf := rfl
@[simp] theorem Dev.onMsp_key (d : Dev) (f : Msp → Msp) : (d.onMsp f).key = d.key := rfl
@[simp] theorem Dev.onMsp_room (d : Dev) (f : Msp → Msp) : (d.onMsp f).room = d.room := rfl
@[simp] theorem Dev.onMsp_cask (d : Dev) (f : Msp → Msp) : (d.onMsp f).cask = d.cask := rfl
@[simp] theorem Dev.onMsp_cl (d : Dev) (f : Msp → Msp) : (d.onMsp f).cl = d.cl := rfl
@[simp] theorem Dev.onMsp_nvm (d : Dev) (f : Msp → Msp) : (d.onMsp f).nvm = d.nvm := rfl
@[simp] theorem Dev.onMsp_kiln (d : Dev) (f : Msp → Msp) : (d.onMsp f).kiln = d.kiln := rfl
@[simp] theorem Dev.onMsp_ncp (d : Dev) (f : Msp → Msp) : (d.onMsp f).ncp = d.ncp := rfl
@[simp] theorem Dev.onMsp_hsp (d : Dev) (f : Msp → Msp) : (d.onMsp f).hsp = d.hsp := rfl
@[simp] theorem Dev.onMsp_msp (d : Dev) (f : Msp → Msp) : (d.onMsp f).msp = f d.msp := rfl
@[simp] theorem Dev.onMsp_evr (d : Dev) (f : Msp → Msp) : (d.onMsp f).evr = d.evr := rfl
@[simp] theorem Dev.onMsp_qs (d : Dev) (f : Msp → Msp) : (d.onMsp f).qs = d.qs := rfl
@[simp] theorem Dev.onMsp_tim (d : Dev) (f : Msp → Msp) : (d.onMsp f).tim = d.tim := rfl
@[simp] theorem Dev.onMsp_pmu (d : Dev) (f : Msp → Msp) : (d.onMsp f).pmu = d.pmu := rfl
@[simp] theorem Dev.onMsp_th (d : Dev) (f : Msp → Msp) : (d.onMsp f).th = d.th := rfl
@[simp] theorem Dev.onMsp_pin (d : Dev) (f : Msp → Msp) : (d.onMsp f).pin = d.pin := rfl
@[simp] theorem Dev.onMsp_bus (d : Dev) (f : Msp → Msp) : (d.onMsp f).bus = d.bus := rfl
@[simp] theorem Dev.onMsp_cyc (d : Dev) (f : Msp → Msp) : (d.onMsp f).cyc = d.cyc := rfl

@[simp] theorem Dev.onEvr_mode (d : Dev) (f : Evr → Evr) : (d.onEvr f).mode = d.mode := rfl
@[simp] theorem Dev.onEvr_tb (d : Dev) (f : Evr → Evr) : (d.onEvr f).tb = d.tb := rfl
@[simp] theorem Dev.onEvr_drv (d : Dev) (f : Evr → Evr) : (d.onEvr f).drv = d.drv := rfl
@[simp] theorem Dev.onEvr_tx (d : Dev) (f : Evr → Evr) : (d.onEvr f).tx = d.tx := rfl
@[simp] theorem Dev.onEvr_rx (d : Dev) (f : Evr → Evr) : (d.onEvr f).rx = d.rx := rfl
@[simp] theorem Dev.onEvr_lau (d : Dev) (f : Evr → Evr) : (d.onEvr f).lau = d.lau := rfl
@[simp] theorem Dev.onEvr_prb (d : Dev) (f : Evr → Evr) : (d.onEvr f).prb = d.prb := rfl
@[simp] theorem Dev.onEvr_sf (d : Dev) (f : Evr → Evr) : (d.onEvr f).sf = d.sf := rfl
@[simp] theorem Dev.onEvr_hf (d : Dev) (f : Evr → Evr) : (d.onEvr f).hf = d.hf := rfl
@[simp] theorem Dev.onEvr_acc (d : Dev) (f : Evr → Evr) : (d.onEvr f).acc = d.acc := rfl
@[simp] theorem Dev.onEvr_stp (d : Dev) (f : Evr → Evr) : (d.onEvr f).stp = d.stp := rfl
@[simp] theorem Dev.onEvr_uhf (d : Dev) (f : Evr → Evr) : (d.onEvr f).uhf = d.uhf := rfl
@[simp] theorem Dev.onEvr_key (d : Dev) (f : Evr → Evr) : (d.onEvr f).key = d.key := rfl
@[simp] theorem Dev.onEvr_room (d : Dev) (f : Evr → Evr) : (d.onEvr f).room = d.room := rfl
@[simp] theorem Dev.onEvr_cask (d : Dev) (f : Evr → Evr) : (d.onEvr f).cask = d.cask := rfl
@[simp] theorem Dev.onEvr_cl (d : Dev) (f : Evr → Evr) : (d.onEvr f).cl = d.cl := rfl
@[simp] theorem Dev.onEvr_nvm (d : Dev) (f : Evr → Evr) : (d.onEvr f).nvm = d.nvm := rfl
@[simp] theorem Dev.onEvr_kiln (d : Dev) (f : Evr → Evr) : (d.onEvr f).kiln = d.kiln := rfl
@[simp] theorem Dev.onEvr_ncp (d : Dev) (f : Evr → Evr) : (d.onEvr f).ncp = d.ncp := rfl
@[simp] theorem Dev.onEvr_hsp (d : Dev) (f : Evr → Evr) : (d.onEvr f).hsp = d.hsp := rfl
@[simp] theorem Dev.onEvr_msp (d : Dev) (f : Evr → Evr) : (d.onEvr f).msp = d.msp := rfl
@[simp] theorem Dev.onEvr_evr (d : Dev) (f : Evr → Evr) : (d.onEvr f).evr = f d.evr := rfl
@[simp] theorem Dev.onEvr_qs (d : Dev) (f : Evr → Evr) : (d.onEvr f).qs = d.qs := rfl
@[simp] theorem Dev.onEvr_tim (d : Dev) (f : Evr → Evr) : (d.onEvr f).tim = d.tim := rfl
@[simp] theorem Dev.onEvr_pmu (d : Dev) (f : Evr → Evr) : (d.onEvr f).pmu = d.pmu := rfl
@[simp] theorem Dev.onEvr_th (d : Dev) (f : Evr → Evr) : (d.onEvr f).th = d.th := rfl
@[simp] theorem Dev.onEvr_pin (d : Dev) (f : Evr → Evr) : (d.onEvr f).pin = d.pin := rfl
@[simp] theorem Dev.onEvr_bus (d : Dev) (f : Evr → Evr) : (d.onEvr f).bus = d.bus := rfl
@[simp] theorem Dev.onEvr_cyc (d : Dev) (f : Evr → Evr) : (d.onEvr f).cyc = d.cyc := rfl

@[simp] theorem Dev.onQs_mode (d : Dev) (f : Queues → Queues) : (d.onQs f).mode = d.mode := rfl
@[simp] theorem Dev.onQs_tb (d : Dev) (f : Queues → Queues) : (d.onQs f).tb = d.tb := rfl
@[simp] theorem Dev.onQs_drv (d : Dev) (f : Queues → Queues) : (d.onQs f).drv = d.drv := rfl
@[simp] theorem Dev.onQs_tx (d : Dev) (f : Queues → Queues) : (d.onQs f).tx = d.tx := rfl
@[simp] theorem Dev.onQs_rx (d : Dev) (f : Queues → Queues) : (d.onQs f).rx = d.rx := rfl
@[simp] theorem Dev.onQs_lau (d : Dev) (f : Queues → Queues) : (d.onQs f).lau = d.lau := rfl
@[simp] theorem Dev.onQs_prb (d : Dev) (f : Queues → Queues) : (d.onQs f).prb = d.prb := rfl
@[simp] theorem Dev.onQs_sf (d : Dev) (f : Queues → Queues) : (d.onQs f).sf = d.sf := rfl
@[simp] theorem Dev.onQs_hf (d : Dev) (f : Queues → Queues) : (d.onQs f).hf = d.hf := rfl
@[simp] theorem Dev.onQs_acc (d : Dev) (f : Queues → Queues) : (d.onQs f).acc = d.acc := rfl
@[simp] theorem Dev.onQs_stp (d : Dev) (f : Queues → Queues) : (d.onQs f).stp = d.stp := rfl
@[simp] theorem Dev.onQs_uhf (d : Dev) (f : Queues → Queues) : (d.onQs f).uhf = d.uhf := rfl
@[simp] theorem Dev.onQs_key (d : Dev) (f : Queues → Queues) : (d.onQs f).key = d.key := rfl
@[simp] theorem Dev.onQs_room (d : Dev) (f : Queues → Queues) : (d.onQs f).room = d.room := rfl
@[simp] theorem Dev.onQs_cask (d : Dev) (f : Queues → Queues) : (d.onQs f).cask = d.cask := rfl
@[simp] theorem Dev.onQs_cl (d : Dev) (f : Queues → Queues) : (d.onQs f).cl = d.cl := rfl
@[simp] theorem Dev.onQs_nvm (d : Dev) (f : Queues → Queues) : (d.onQs f).nvm = d.nvm := rfl
@[simp] theorem Dev.onQs_kiln (d : Dev) (f : Queues → Queues) : (d.onQs f).kiln = d.kiln := rfl
@[simp] theorem Dev.onQs_ncp (d : Dev) (f : Queues → Queues) : (d.onQs f).ncp = d.ncp := rfl
@[simp] theorem Dev.onQs_hsp (d : Dev) (f : Queues → Queues) : (d.onQs f).hsp = d.hsp := rfl
@[simp] theorem Dev.onQs_msp (d : Dev) (f : Queues → Queues) : (d.onQs f).msp = d.msp := rfl
@[simp] theorem Dev.onQs_evr (d : Dev) (f : Queues → Queues) : (d.onQs f).evr = d.evr := rfl
@[simp] theorem Dev.onQs_qs (d : Dev) (f : Queues → Queues) : (d.onQs f).qs = f d.qs := rfl
@[simp] theorem Dev.onQs_tim (d : Dev) (f : Queues → Queues) : (d.onQs f).tim = d.tim := rfl
@[simp] theorem Dev.onQs_pmu (d : Dev) (f : Queues → Queues) : (d.onQs f).pmu = d.pmu := rfl
@[simp] theorem Dev.onQs_th (d : Dev) (f : Queues → Queues) : (d.onQs f).th = d.th := rfl
@[simp] theorem Dev.onQs_pin (d : Dev) (f : Queues → Queues) : (d.onQs f).pin = d.pin := rfl
@[simp] theorem Dev.onQs_bus (d : Dev) (f : Queues → Queues) : (d.onQs f).bus = d.bus := rfl
@[simp] theorem Dev.onQs_cyc (d : Dev) (f : Queues → Queues) : (d.onQs f).cyc = d.cyc := rfl

@[simp] theorem Dev.onTim_mode (d : Dev) (f : Timers → Timers) : (d.onTim f).mode = d.mode := rfl
@[simp] theorem Dev.onTim_tb (d : Dev) (f : Timers → Timers) : (d.onTim f).tb = d.tb := rfl
@[simp] theorem Dev.onTim_drv (d : Dev) (f : Timers → Timers) : (d.onTim f).drv = d.drv := rfl
@[simp] theorem Dev.onTim_tx (d : Dev) (f : Timers → Timers) : (d.onTim f).tx = d.tx := rfl
@[simp] theorem Dev.onTim_rx (d : Dev) (f : Timers → Timers) : (d.onTim f).rx = d.rx := rfl
@[simp] theorem Dev.onTim_lau (d : Dev) (f : Timers → Timers) : (d.onTim f).lau = d.lau := rfl
@[simp] theorem Dev.onTim_prb (d : Dev) (f : Timers → Timers) : (d.onTim f).prb = d.prb := rfl
@[simp] theorem Dev.onTim_sf (d : Dev) (f : Timers → Timers) : (d.onTim f).sf = d.sf := rfl
@[simp] theorem Dev.onTim_hf (d : Dev) (f : Timers → Timers) : (d.onTim f).hf = d.hf := rfl
@[simp] theorem Dev.onTim_acc (d : Dev) (f : Timers → Timers) : (d.onTim f).acc = d.acc := rfl
@[simp] theorem Dev.onTim_stp (d : Dev) (f : Timers → Timers) : (d.onTim f).stp = d.stp := rfl
@[simp] theorem Dev.onTim_uhf (d : Dev) (f : Timers → Timers) : (d.onTim f).uhf = d.uhf := rfl
@[simp] theorem Dev.onTim_key (d : Dev) (f : Timers → Timers) : (d.onTim f).key = d.key := rfl
@[simp] theorem Dev.onTim_room (d : Dev) (f : Timers → Timers) : (d.onTim f).room = d.room := rfl
@[simp] theorem Dev.onTim_cask (d : Dev) (f : Timers → Timers) : (d.onTim f).cask = d.cask := rfl
@[simp] theorem Dev.onTim_cl (d : Dev) (f : Timers → Timers) : (d.onTim f).cl = d.cl := rfl
@[simp] theorem Dev.onTim_nvm (d : Dev) (f : Timers → Timers) : (d.onTim f).nvm = d.nvm := rfl
@[simp] theorem Dev.onTim_kiln (d : Dev) (f : Timers → Timers) : (d.onTim f).kiln = d.kiln := rfl
@[simp] theorem Dev.onTim_ncp (d : Dev) (f : Timers → Timers) : (d.onTim f).ncp = d.ncp := rfl
@[simp] theorem Dev.onTim_hsp (d : Dev) (f : Timers → Timers) : (d.onTim f).hsp = d.hsp := rfl
@[simp] theorem Dev.onTim_msp (d : Dev) (f : Timers → Timers) : (d.onTim f).msp = d.msp := rfl
@[simp] theorem Dev.onTim_evr (d : Dev) (f : Timers → Timers) : (d.onTim f).evr = d.evr := rfl
@[simp] theorem Dev.onTim_qs (d : Dev) (f : Timers → Timers) : (d.onTim f).qs = d.qs := rfl
@[simp] theorem Dev.onTim_tim (d : Dev) (f : Timers → Timers) : (d.onTim f).tim = f d.tim := rfl
@[simp] theorem Dev.onTim_pmu (d : Dev) (f : Timers → Timers) : (d.onTim f).pmu = d.pmu := rfl
@[simp] theorem Dev.onTim_th (d : Dev) (f : Timers → Timers) : (d.onTim f).th = d.th := rfl
@[simp] theorem Dev.onTim_pin (d : Dev) (f : Timers → Timers) : (d.onTim f).pin = d.pin := rfl
@[simp] theorem Dev.onTim_bus (d : Dev) (f : Timers → Timers) : (d.onTim f).bus = d.bus := rfl
@[simp] theorem Dev.onTim_cyc (d : Dev) (f : Timers → Timers) : (d.onTim f).cyc = d.cyc := rfl

@[simp] theorem Dev.onPmu_mode (d : Dev) (f : Pmu → Pmu) : (d.onPmu f).mode = d.mode := rfl
@[simp] theorem Dev.onPmu_tb (d : Dev) (f : Pmu → Pmu) : (d.onPmu f).tb = d.tb := rfl
@[simp] theorem Dev.onPmu_drv (d : Dev) (f : Pmu → Pmu) : (d.onPmu f).drv = d.drv := rfl
@[simp] theorem Dev.onPmu_tx (d : Dev) (f : Pmu → Pmu) : (d.onPmu f).tx = d.tx := rfl
@[simp] theorem Dev.onPmu_rx (d : Dev) (f : Pmu → Pmu) : (d.onPmu f).rx = d.rx := rfl
@[simp] theorem Dev.onPmu_lau (d : Dev) (f : Pmu → Pmu) : (d.onPmu f).lau = d.lau := rfl
@[simp] theorem Dev.onPmu_prb (d : Dev) (f : Pmu → Pmu) : (d.onPmu f).prb = d.prb := rfl
@[simp] theorem Dev.onPmu_sf (d : Dev) (f : Pmu → Pmu) : (d.onPmu f).sf = d.sf := rfl
@[simp] theorem Dev.onPmu_hf (d : Dev) (f : Pmu → Pmu) : (d.onPmu f).hf = d.hf := rfl
@[simp] theorem Dev.onPmu_acc (d : Dev) (f : Pmu → Pmu) : (d.onPmu f).acc = d.acc := rfl
@[simp] theorem Dev.onPmu_stp (d : Dev) (f : Pmu → Pmu) : (d.onPmu f).stp = d.stp := rfl
@[simp] theorem Dev.onPmu_uhf (d : Dev) (f : Pmu → Pmu) : (d.onPmu f).uhf = d.uhf := rfl
@[simp] theorem Dev.onPmu_key (d : Dev) (f : Pmu → Pmu) : (d.onPmu f).key = d.key := rfl
@[simp] theorem Dev.onPmu_room (d : Dev) (f : Pmu → Pmu) : (d.onPmu f).room = d.room := rfl
@[simp] theorem Dev.onPmu_cask (d : Dev) (f : Pmu → Pmu) : (d.onPmu f).cask = d.cask := rfl
@[simp] theorem Dev.onPmu_cl (d : Dev) (f : Pmu → Pmu) : (d.onPmu f).cl = d.cl := rfl
@[simp] theorem Dev.onPmu_nvm (d : Dev) (f : Pmu → Pmu) : (d.onPmu f).nvm = d.nvm := rfl
@[simp] theorem Dev.onPmu_kiln (d : Dev) (f : Pmu → Pmu) : (d.onPmu f).kiln = d.kiln := rfl
@[simp] theorem Dev.onPmu_ncp (d : Dev) (f : Pmu → Pmu) : (d.onPmu f).ncp = d.ncp := rfl
@[simp] theorem Dev.onPmu_hsp (d : Dev) (f : Pmu → Pmu) : (d.onPmu f).hsp = d.hsp := rfl
@[simp] theorem Dev.onPmu_msp (d : Dev) (f : Pmu → Pmu) : (d.onPmu f).msp = d.msp := rfl
@[simp] theorem Dev.onPmu_evr (d : Dev) (f : Pmu → Pmu) : (d.onPmu f).evr = d.evr := rfl
@[simp] theorem Dev.onPmu_qs (d : Dev) (f : Pmu → Pmu) : (d.onPmu f).qs = d.qs := rfl
@[simp] theorem Dev.onPmu_tim (d : Dev) (f : Pmu → Pmu) : (d.onPmu f).tim = d.tim := rfl
@[simp] theorem Dev.onPmu_pmu (d : Dev) (f : Pmu → Pmu) : (d.onPmu f).pmu = f d.pmu := rfl
@[simp] theorem Dev.onPmu_th (d : Dev) (f : Pmu → Pmu) : (d.onPmu f).th = d.th := rfl
@[simp] theorem Dev.onPmu_pin (d : Dev) (f : Pmu → Pmu) : (d.onPmu f).pin = d.pin := rfl
@[simp] theorem Dev.onPmu_bus (d : Dev) (f : Pmu → Pmu) : (d.onPmu f).bus = d.bus := rfl
@[simp] theorem Dev.onPmu_cyc (d : Dev) (f : Pmu → Pmu) : (d.onPmu f).cyc = d.cyc := rfl

@[simp] theorem Dev.onTh_mode (d : Dev) (f : Thermal → Thermal) : (d.onTh f).mode = d.mode := rfl
@[simp] theorem Dev.onTh_tb (d : Dev) (f : Thermal → Thermal) : (d.onTh f).tb = d.tb := rfl
@[simp] theorem Dev.onTh_drv (d : Dev) (f : Thermal → Thermal) : (d.onTh f).drv = d.drv := rfl
@[simp] theorem Dev.onTh_tx (d : Dev) (f : Thermal → Thermal) : (d.onTh f).tx = d.tx := rfl
@[simp] theorem Dev.onTh_rx (d : Dev) (f : Thermal → Thermal) : (d.onTh f).rx = d.rx := rfl
@[simp] theorem Dev.onTh_lau (d : Dev) (f : Thermal → Thermal) : (d.onTh f).lau = d.lau := rfl
@[simp] theorem Dev.onTh_prb (d : Dev) (f : Thermal → Thermal) : (d.onTh f).prb = d.prb := rfl
@[simp] theorem Dev.onTh_sf (d : Dev) (f : Thermal → Thermal) : (d.onTh f).sf = d.sf := rfl
@[simp] theorem Dev.onTh_hf (d : Dev) (f : Thermal → Thermal) : (d.onTh f).hf = d.hf := rfl
@[simp] theorem Dev.onTh_acc (d : Dev) (f : Thermal → Thermal) : (d.onTh f).acc = d.acc := rfl
@[simp] theorem Dev.onTh_stp (d : Dev) (f : Thermal → Thermal) : (d.onTh f).stp = d.stp := rfl
@[simp] theorem Dev.onTh_uhf (d : Dev) (f : Thermal → Thermal) : (d.onTh f).uhf = d.uhf := rfl
@[simp] theorem Dev.onTh_key (d : Dev) (f : Thermal → Thermal) : (d.onTh f).key = d.key := rfl
@[simp] theorem Dev.onTh_room (d : Dev) (f : Thermal → Thermal) : (d.onTh f).room = d.room := rfl
@[simp] theorem Dev.onTh_cask (d : Dev) (f : Thermal → Thermal) : (d.onTh f).cask = d.cask := rfl
@[simp] theorem Dev.onTh_cl (d : Dev) (f : Thermal → Thermal) : (d.onTh f).cl = d.cl := rfl
@[simp] theorem Dev.onTh_nvm (d : Dev) (f : Thermal → Thermal) : (d.onTh f).nvm = d.nvm := rfl
@[simp] theorem Dev.onTh_kiln (d : Dev) (f : Thermal → Thermal) : (d.onTh f).kiln = d.kiln := rfl
@[simp] theorem Dev.onTh_ncp (d : Dev) (f : Thermal → Thermal) : (d.onTh f).ncp = d.ncp := rfl
@[simp] theorem Dev.onTh_hsp (d : Dev) (f : Thermal → Thermal) : (d.onTh f).hsp = d.hsp := rfl
@[simp] theorem Dev.onTh_msp (d : Dev) (f : Thermal → Thermal) : (d.onTh f).msp = d.msp := rfl
@[simp] theorem Dev.onTh_evr (d : Dev) (f : Thermal → Thermal) : (d.onTh f).evr = d.evr := rfl
@[simp] theorem Dev.onTh_qs (d : Dev) (f : Thermal → Thermal) : (d.onTh f).qs = d.qs := rfl
@[simp] theorem Dev.onTh_tim (d : Dev) (f : Thermal → Thermal) : (d.onTh f).tim = d.tim := rfl
@[simp] theorem Dev.onTh_pmu (d : Dev) (f : Thermal → Thermal) : (d.onTh f).pmu = d.pmu := rfl
@[simp] theorem Dev.onTh_th (d : Dev) (f : Thermal → Thermal) : (d.onTh f).th = f d.th := rfl
@[simp] theorem Dev.onTh_pin (d : Dev) (f : Thermal → Thermal) : (d.onTh f).pin = d.pin := rfl
@[simp] theorem Dev.onTh_bus (d : Dev) (f : Thermal → Thermal) : (d.onTh f).bus = d.bus := rfl
@[simp] theorem Dev.onTh_cyc (d : Dev) (f : Thermal → Thermal) : (d.onTh f).cyc = d.cyc := rfl

@[simp] theorem Dev.onPin_mode (d : Dev) (f : Pins → Pins) : (d.onPin f).mode = d.mode := rfl
@[simp] theorem Dev.onPin_tb (d : Dev) (f : Pins → Pins) : (d.onPin f).tb = d.tb := rfl
@[simp] theorem Dev.onPin_drv (d : Dev) (f : Pins → Pins) : (d.onPin f).drv = d.drv := rfl
@[simp] theorem Dev.onPin_tx (d : Dev) (f : Pins → Pins) : (d.onPin f).tx = d.tx := rfl
@[simp] theorem Dev.onPin_rx (d : Dev) (f : Pins → Pins) : (d.onPin f).rx = d.rx := rfl
@[simp] theorem Dev.onPin_lau (d : Dev) (f : Pins → Pins) : (d.onPin f).lau = d.lau := rfl
@[simp] theorem Dev.onPin_prb (d : Dev) (f : Pins → Pins) : (d.onPin f).prb = d.prb := rfl
@[simp] theorem Dev.onPin_sf (d : Dev) (f : Pins → Pins) : (d.onPin f).sf = d.sf := rfl
@[simp] theorem Dev.onPin_hf (d : Dev) (f : Pins → Pins) : (d.onPin f).hf = d.hf := rfl
@[simp] theorem Dev.onPin_acc (d : Dev) (f : Pins → Pins) : (d.onPin f).acc = d.acc := rfl
@[simp] theorem Dev.onPin_stp (d : Dev) (f : Pins → Pins) : (d.onPin f).stp = d.stp := rfl
@[simp] theorem Dev.onPin_uhf (d : Dev) (f : Pins → Pins) : (d.onPin f).uhf = d.uhf := rfl
@[simp] theorem Dev.onPin_key (d : Dev) (f : Pins → Pins) : (d.onPin f).key = d.key := rfl
@[simp] theorem Dev.onPin_room (d : Dev) (f : Pins → Pins) : (d.onPin f).room = d.room := rfl
@[simp] theorem Dev.onPin_cask (d : Dev) (f : Pins → Pins) : (d.onPin f).cask = d.cask := rfl
@[simp] theorem Dev.onPin_cl (d : Dev) (f : Pins → Pins) : (d.onPin f).cl = d.cl := rfl
@[simp] theorem Dev.onPin_nvm (d : Dev) (f : Pins → Pins) : (d.onPin f).nvm = d.nvm := rfl
@[simp] theorem Dev.onPin_kiln (d : Dev) (f : Pins → Pins) : (d.onPin f).kiln = d.kiln := rfl
@[simp] theorem Dev.onPin_ncp (d : Dev) (f : Pins → Pins) : (d.onPin f).ncp = d.ncp := rfl
@[simp] theorem Dev.onPin_hsp (d : Dev) (f : Pins → Pins) : (d.onPin f).hsp = d.hsp := rfl
@[simp] theorem Dev.onPin_msp (d : Dev) (f : Pins → Pins) : (d.onPin f).msp = d.msp := rfl
@[simp] theorem Dev.onPin_evr (d : Dev) (f : Pins → Pins) : (d.onPin f).evr = d.evr := rfl
@[simp] theorem Dev.onPin_qs (d : Dev) (f : Pins → Pins) : (d.onPin f).qs = d.qs := rfl
@[simp] theorem Dev.onPin_tim (d : Dev) (f : Pins → Pins) : (d.onPin f).tim = d.tim := rfl
@[simp] theorem Dev.onPin_pmu (d : Dev) (f : Pins → Pins) : (d.onPin f).pmu = d.pmu := rfl
@[simp] theorem Dev.onPin_th (d : Dev) (f : Pins → Pins) : (d.onPin f).th = d.th := rfl
@[simp] theorem Dev.onPin_pin (d : Dev) (f : Pins → Pins) : (d.onPin f).pin = f d.pin := rfl
@[simp] theorem Dev.onPin_bus (d : Dev) (f : Pins → Pins) : (d.onPin f).bus = d.bus := rfl
@[simp] theorem Dev.onPin_cyc (d : Dev) (f : Pins → Pins) : (d.onPin f).cyc = d.cyc := rfl

@[simp] theorem Dev.onBus_mode (d : Dev) (f : Bus → Bus) : (d.onBus f).mode = d.mode := rfl
@[simp] theorem Dev.onBus_tb (d : Dev) (f : Bus → Bus) : (d.onBus f).tb = d.tb := rfl
@[simp] theorem Dev.onBus_drv (d : Dev) (f : Bus → Bus) : (d.onBus f).drv = d.drv := rfl
@[simp] theorem Dev.onBus_tx (d : Dev) (f : Bus → Bus) : (d.onBus f).tx = d.tx := rfl
@[simp] theorem Dev.onBus_rx (d : Dev) (f : Bus → Bus) : (d.onBus f).rx = d.rx := rfl
@[simp] theorem Dev.onBus_lau (d : Dev) (f : Bus → Bus) : (d.onBus f).lau = d.lau := rfl
@[simp] theorem Dev.onBus_prb (d : Dev) (f : Bus → Bus) : (d.onBus f).prb = d.prb := rfl
@[simp] theorem Dev.onBus_sf (d : Dev) (f : Bus → Bus) : (d.onBus f).sf = d.sf := rfl
@[simp] theorem Dev.onBus_hf (d : Dev) (f : Bus → Bus) : (d.onBus f).hf = d.hf := rfl
@[simp] theorem Dev.onBus_acc (d : Dev) (f : Bus → Bus) : (d.onBus f).acc = d.acc := rfl
@[simp] theorem Dev.onBus_stp (d : Dev) (f : Bus → Bus) : (d.onBus f).stp = d.stp := rfl
@[simp] theorem Dev.onBus_uhf (d : Dev) (f : Bus → Bus) : (d.onBus f).uhf = d.uhf := rfl
@[simp] theorem Dev.onBus_key (d : Dev) (f : Bus → Bus) : (d.onBus f).key = d.key := rfl
@[simp] theorem Dev.onBus_room (d : Dev) (f : Bus → Bus) : (d.onBus f).room = d.room := rfl
@[simp] theorem Dev.onBus_cask (d : Dev) (f : Bus → Bus) : (d.onBus f).cask = d.cask := rfl
@[simp] theorem Dev.onBus_cl (d : Dev) (f : Bus → Bus) : (d.onBus f).cl = d.cl := rfl
@[simp] theorem Dev.onBus_nvm (d : Dev) (f : Bus → Bus) : (d.onBus f).nvm = d.nvm := rfl
@[simp] theorem Dev.onBus_kiln (d : Dev) (f : Bus → Bus) : (d.onBus f).kiln = d.kiln := rfl
@[simp] theorem Dev.onBus_ncp (d : Dev) (f : Bus → Bus) : (d.onBus f).ncp = d.ncp := rfl
@[simp] theorem Dev.onBus_hsp (d : Dev) (f : Bus → Bus) : (d.onBus f).hsp = d.hsp := rfl
@[simp] theorem Dev.onBus_msp (d : Dev) (f : Bus → Bus) : (d.onBus f).msp = d.msp := rfl
@[simp] theorem Dev.onBus_evr (d : Dev) (f : Bus → Bus) : (d.onBus f).evr = d.evr := rfl
@[simp] theorem Dev.onBus_qs (d : Dev) (f : Bus → Bus) : (d.onBus f).qs = d.qs := rfl
@[simp] theorem Dev.onBus_tim (d : Dev) (f : Bus → Bus) : (d.onBus f).tim = d.tim := rfl
@[simp] theorem Dev.onBus_pmu (d : Dev) (f : Bus → Bus) : (d.onBus f).pmu = d.pmu := rfl
@[simp] theorem Dev.onBus_th (d : Dev) (f : Bus → Bus) : (d.onBus f).th = d.th := rfl
@[simp] theorem Dev.onBus_pin (d : Dev) (f : Bus → Bus) : (d.onBus f).pin = d.pin := rfl
@[simp] theorem Dev.onBus_bus (d : Dev) (f : Bus → Bus) : (d.onBus f).bus = f d.bus := rfl
@[simp] theorem Dev.onBus_cyc (d : Dev) (f : Bus → Bus) : (d.onBus f).cyc = d.cyc := rfl

@[simp] theorem Dev.onCyc_mode (d : Dev) (f : Cyc → Cyc) : (d.onCyc f).mode = d.mode := rfl
@[simp] theorem Dev.onCyc_tb (d : Dev) (f : Cyc → Cyc) : (d.onCyc f).tb = d.tb := rfl
@[simp] theorem Dev.onCyc_drv (d : Dev) (f : Cyc → Cyc) : (d.onCyc f).drv = d.drv := rfl
@[simp] theorem Dev.onCyc_tx (d : Dev) (f : Cyc → Cyc) : (d.onCyc f).tx = d.tx := rfl
@[simp] theorem Dev.onCyc_rx (d : Dev) (f : Cyc → Cyc) : (d.onCyc f).rx = d.rx := rfl
@[simp] theorem Dev.onCyc_lau (d : Dev) (f : Cyc → Cyc) : (d.onCyc f).lau = d.lau := rfl
@[simp] theorem Dev.onCyc_prb (d : Dev) (f : Cyc → Cyc) : (d.onCyc f).prb = d.prb := rfl
@[simp] theorem Dev.onCyc_sf (d : Dev) (f : Cyc → Cyc) : (d.onCyc f).sf = d.sf := rfl
@[simp] theorem Dev.onCyc_hf (d : Dev) (f : Cyc → Cyc) : (d.onCyc f).hf = d.hf := rfl
@[simp] theorem Dev.onCyc_acc (d : Dev) (f : Cyc → Cyc) : (d.onCyc f).acc = d.acc := rfl
@[simp] theorem Dev.onCyc_stp (d : Dev) (f : Cyc → Cyc) : (d.onCyc f).stp = d.stp := rfl
@[simp] theorem Dev.onCyc_uhf (d : Dev) (f : Cyc → Cyc) : (d.onCyc f).uhf = d.uhf := rfl
@[simp] theorem Dev.onCyc_key (d : Dev) (f : Cyc → Cyc) : (d.onCyc f).key = d.key := rfl
@[simp] theorem Dev.onCyc_room (d : Dev) (f : Cyc → Cyc) : (d.onCyc f).room = d.room := rfl
@[simp] theorem Dev.onCyc_cask (d : Dev) (f : Cyc → Cyc) : (d.onCyc f).cask = d.cask := rfl
@[simp] theorem Dev.onCyc_cl (d : Dev) (f : Cyc → Cyc) : (d.onCyc f).cl = d.cl := rfl
@[simp] theorem Dev.onCyc_nvm (d : Dev) (f : Cyc → Cyc) : (d.onCyc f).nvm = d.nvm := rfl
@[simp] theorem Dev.onCyc_kiln (d : Dev) (f : Cyc → Cyc) : (d.onCyc f).kiln = d.kiln := rfl
@[simp] theorem Dev.onCyc_ncp (d : Dev) (f : Cyc → Cyc) : (d.onCyc f).ncp = d.ncp := rfl
@[simp] theorem Dev.onCyc_hsp (d : Dev) (f : Cyc → Cyc) : (d.onCyc f).hsp = d.hsp := rfl
@[simp] theorem Dev.onCyc_msp (d : Dev) (f : Cyc → Cyc) : (d.onCyc f).msp = d.msp := rfl
@[simp] theorem Dev.onCyc_evr (d : Dev) (f : Cyc → Cyc) : (d.onCyc f).evr = d.evr := rfl
@[simp] theorem Dev.onCyc_qs (d : Dev) (f : Cyc → Cyc) : (d.onCyc f).qs = d.qs := rfl
@[simp] theorem Dev.onCyc_tim (d : Dev) (f : Cyc → Cyc) : (d.onCyc f).tim = d.tim := rfl
@[simp] theorem Dev.onCyc_pmu (d : Dev) (f : Cyc → Cyc) : (d.onCyc f).pmu = d.pmu := rfl
@[simp] theorem Dev.onCyc_th (d : Dev) (f : Cyc → Cyc) : (d.onCyc f).th = d.th := rfl
@[simp] theorem Dev.onCyc_pin (d : Dev) (f : Cyc → Cyc) : (d.onCyc f).pin = d.pin := rfl
@[simp] theorem Dev.onCyc_bus (d : Dev) (f : Cyc → Cyc) : (d.onCyc f).bus = d.bus := rfl
@[simp] theorem Dev.onCyc_cyc (d : Dev) (f : Cyc → Cyc) : (d.onCyc f).cyc = f d.cyc := rfl

end Sys2Proof.Machine
end

