-- ==== Sys2Proof/Laws/Reply.lean ====
section
/-! SUPPORT. What the completion of a command leaves: its tag DONE and its reply at the end of what RSPQ held. -/

namespace Sys2Proof.Machine
open Sys2Proof

theorem Frame.qs_eq {m : Nat} {d e : Dev} (h : Frame m d e) (hm : m.testBit 22 = false) : e.qs = d.qs := h .qs hm

theorem Frame.ncp_eq {m : Nat} {d e : Dev} (h : Frame m d e) (hm : m.testBit 18 = false) : e.ncp = d.ncp := h .ncp hm

theorem Frame.tim_eq {m : Nat} {d e : Dev} (h : Frame m d e) (hm : m.testBit 23 = false) : e.tim = d.tim := h .tim hm

theorem msgHost_rspq (k : Nat) (d : Dev) : (msgHost k d).qs = d.qs := (msgHost_frame k d).qs_eq rfl

theorem evqLost_rspq (k : Nat) (d : Dev) : (evqLost k d).qs.rspq = d.qs.rspq := by
  unfold evqLost
  split
  · rfl
  · rw [msgHost_rspq]; rfl

theorem afterCommit_qs (q : QId) (silent wm : Bool) (d : Dev) : (afterCommit q silent wm d).qs = d.qs :=
  (afterCommit_frame q silent wm d).qs_eq rfl

/-- An item of EVQ leaves RSPQ alone. -/
theorem pushItem_evq_rspq (silent : Bool) (ws : List Word) (d : Dev) : (pushItem .evq silent ws d).qs.rspq = d.qs.rspq := by
  unfold pushItem
  simp only [if_true]
  split
  · rw [afterCommit_qs]
    show (evqLost _ _).qs.rspq = _
    rw [evqLost_rspq]; rfl
  · rw [evqLost_rspq]
    show (evqLost _ _).qs.rspq = _
    rw [evqLost_rspq]; rfl

/-- An item of RSPQ goes behind what RSPQ held, or is lost. -/
theorem pushItem_rspq_items (silent : Bool) (ws : List Word) (d : Dev) :
    (pushItem .rspq silent ws d).qs.rspq.items = if 4 * ws.length + d.qs.rspq.used ≤ QId.rspq.cap then d.qs.rspq.items ++ [ws]
      else d.qs.rspq.items := by
  have e : pushItem .rspq silent ws d = if 4 * ws.length + d.qs.rspq.used ≤ QId.rspq.cap then
      afterCommit .rspq silent d.qs.rspq.wm (onQueue .rspq (fun x => { x with items := x.items ++ [ws], poisoned := false }.setWm QId.rspq.cap) d)
    else onQueue .rspq (fun x => { x with lost := satInc 65535 x.lost }) d := rfl
  rw [e]
  split
  · rw [afterCommit_qs]; rfl
  · rfl

theorem pushDiag_rspq (code : Nat) (b : List Byte) (d : Dev) : (pushDiag code b d).qs.rspq = d.qs.rspq := pushItem_evq_rspq _ _ _

theorem pushItem_ncp (q : QId) (silent : Bool) (ws : List Word) (d : Dev) : (pushItem q silent ws d).ncp = d.ncp :=
  (pushItem_frame q silent ws d).ncp_eq rfl

theorem pushDiag_ncp (code : Nat) (b : List Byte) (d : Dev) : (pushDiag code b d).ncp = d.ncp := (pushDiag_frame code b d).ncp_eq rfl

theorem upd_same {α : Type} {n : Nat} (v : Vector α n) (i : Fin n) (f : α → α) : (upd v i f)[i] = f v[i] := by simp [upd]

/-- A completion leaves its tag DONE. -/
theorem completeOne_tag {tag : Fin 32} {c : Cmd} {d : Dev} (st : Status) (p : List Byte) (h : d.cmd tag = some c) :
    (completeOne tag st p d).ncp.tags[tag] = .done c.resv (if c.opc = 4 then 0xFF else st.code) := by
  unfold completeOne
  rw [h]
  simp only []
  exact upd_same _ _ _

theorem upd_other {α : Type} {n : Nat} (v : Vector α n) (i j : Fin n) (f : α → α) (h : j ≠ i) : (upd v i f)[j] = v[j] := by
  simp only [upd, Fin.getElem_fin]
  exact Vector.getElem_set_ne _ _ (fun e => h (Fin.ext e.symm))

/-- A completion of any tag keeps a tag that is DONE. -/
theorem completeOne_done {tag t : Fin 32} {d : Dev} {r k : Nat} (st : Status) (p : List Byte) (h : d.ncp.tags[tag] = .done r k) :
    (completeOne t st p d).ncp.tags[tag] = .done r k := by
  unfold completeOne
  split
  · exact h
  · rename_i c hc
    have ht : tag ≠ t := by
      intro e
      subst e
      unfold Dev.cmd at hc
      rw [h] at hc
      cases hc
    show (upd _ t _)[tag] = _
    rw [upd_other _ _ _ _ ht]
    split <;> simp [pushDiag_ncp, pushItem_ncp, h]

/-- A completion puts its reply behind what RSPQ held, where there is room. -/
theorem completeOne_items {tag : Fin 32} {c : Cmd} {d : Dev} (st : Status) (p : List Byte) (h : d.cmd tag = some c)
    (room : 4 * ((replyWords tag c st p d).length + 1) + d.qs.rspq.used ≤ QId.rspq.cap) :
    ∃ w, (completeOne tag st p d).qs.rspq.items = d.qs.rspq.items ++ [w :: replyWords tag c st p d] := by
  refine ⟨header 1 ((replyWords tag c st p d).length + 1) (replyGen c.opc d), ?_⟩
  unfold completeOne
  rw [h]
  simp only []
  change (ite _ _ _ : Dev).qs.rspq.items = _
  rw [apply_ite (fun e : Dev => e.qs.rspq.items), pushDiag_rspq, ite_self, pushItem_rspq_items, if_pos (by simpa [replyWords] using room)]
  rfl

/-- A completion takes nothing from RSPQ. -/
theorem completeOne_append (tag : Fin 32) (st : Status) (p : List Byte) (d : Dev) :
    ∃ l, (completeOne tag st p d).qs.rspq.items = d.qs.rspq.items ++ l := by
  unfold completeOne
  split
  · exact ⟨[], (List.append_nil _).symm⟩
  · change ∃ l, (ite _ _ _ : Dev).qs.rspq.items = _
    rw [apply_ite (fun e : Dev => e.qs.rspq.items), pushDiag_rspq, ite_self, pushItem_rspq_items]
    split
    · exact ⟨_, rfl⟩
    · exact ⟨[], (List.append_nil _).symm⟩

/-- What completions keep: a tag that is DONE, and the items of RSPQ at its head. -/
theorem settleAborts_keeps {t : Fin 32} {tag : Fin 32} {d : Dev} {r k : Nat} (st : Status) (h : d.ncp.tags[tag] = .done r k) :
    (settleAborts t st d).ncp.tags[tag] = .done r k ∧ ∃ l, (settleAborts t st d).qs.rspq.items = d.qs.rspq.items ++ l := by
  unfold settleAborts
  extract_lets u f e
  have he : e.ncp.tags[tag] = .done r k := h
  have hi : ∃ l, e.qs.rspq.items = d.qs.rspq.items ++ l := ⟨[], (List.append_nil _).symm⟩
  clear_value e f
  induction f generalizing e with
  | nil => exact ⟨he, hi⟩
  | cons a f ih =>
    refine ih _ (completeOne_done _ _ he) ?_
    obtain ⟨l, hl⟩ := hi
    obtain ⟨l2, hl2⟩ := completeOne_append a.tag (if a.count ≥ 1 then .ok else .notPending)
      [byteOf a.target, byteOf a.tstatus, byteOf a.count, 0] e
    exact ⟨l ++ l2, by rw [hl2, hl, List.append_assoc]⟩

theorem sweep_keeps {tag : Fin 32} {r k : Nat} (n : Nat) {d : Dev} (h : d.ncp.tags[tag] = .done r k) :
    (sweep n d).ncp.tags[tag] = .done r k ∧ ∃ l, (sweep n d).qs.rspq.items = d.qs.rspq.items ++ l := by
  induction n generalizing d with
  | zero => exact ⟨h, [], (List.append_nil _).symm⟩
  | succ n ih =>
    cases hu : d.unlisted with
    | some t =>
      simp only [sweep, hu]
      obtain ⟨l1, h1⟩ := completeOne_append t .badOpcode [] d
      obtain ⟨h2, l2, e2⟩ := settleAborts_keeps (t := t) .badOpcode (completeOne_done (t := t) .badOpcode [] h)
      obtain ⟨h3, l3, e3⟩ := ih h2
      exact ⟨h3, l1 ++ l2 ++ l3, by rw [e3, e2, h1, List.append_assoc, List.append_assoc, List.append_assoc]⟩
    | none =>
      simp only [sweep, hu]
      exact ⟨h, [], (List.append_nil _).symm⟩

/-- A command that completes has replied (R507, R509, R593). -/
theorem complete_replied {tag : Fin 32} {c : Cmd} {d : Dev} (st : Status) (p : List Byte) (h : d.cmd tag = some c) :
    Replied tag c st p d (complete tag st p d) := by
  unfold complete
  rw [if_pos (by rw [h]; rfl)]
  have h1 := completeOne_tag st p h
  obtain ⟨h2, l2, e2⟩ := settleAborts_keeps (t := tag) st h1
  obtain ⟨h3, l3, e3⟩ := sweep_keeps 32 h2
  refine ⟨h3, fun room => ?_⟩
  obtain ⟨w, e1⟩ := completeOne_items st p h room
  exact ⟨w, l2 ++ l3, by rw [e3, e2, e1]; simp⟩

/-- A reply stated of a state that agrees with another in RSPQ and in time. -/
theorem Replied.of_eq {tag : Fin 32} {c : Cmd} {st : Status} {p : List Byte} {d x e : Dev} (hq : x.qs = d.qs) (ht : x.tim = d.tim)
    (h : Replied tag c st p x e) : Replied tag c st p d e := by
  unfold Replied replyWords Dev.now at h ⊢
  rw [hq, ht] at h
  exact h

/-- The command of a startable tag. -/
theorem startable_cmd {d : Dev} {opc : Nat} {tag : Fin 32} {c : Cmd} (h : d.startable opc tag = some c) :
    d.cmd tag = some c ∧ c.opc = opc ∧ c.phase = .fresh ∧ d.isHeld tag = false := by
  unfold Dev.startable at h
  split at h
  · rename_i x hx
    split at h
    · rename_i hp
      cases h
      exact ⟨hx, hp⟩
    · cases h
  · cases h

/-- A command that can be carried out is handed to its own rule, or refused for its length (R514). -/
theorem begin_ready {opc : Nat} {tag : Fin 32} {c : Cmd} {d : Dev} (len : Nat → Bool) (k : Cmd → Dev → Dev) (h : Ready opc tag c d) :
    begin_ opc tag len k d = if len c.payload.length then k c d else fail tag .badParam d := by
  unfold begin_
  rw [h.1, h.2.1]
  rfl

theorem inMode_ready {opc : Nat} {tag : Fin 32} {c : Cmd} {d : Dev} (k : Dev → Dev) (h : Ready opc tag c d) :
    inMode tag c k d = k d := by
  unfold inMode
  rw [(startable_cmd h.1).2.1, h.2.2]

end Sys2Proof.Machine
end

