-- ==== Sys2Proof/Machine/Package.lean ====
section
/-! DEFINITION. The ball map: the grid of the package, the edge regions of the Kettles, the coil balls and the balls of the inner square
(R744 to R747). -/

namespace Sys2Proof.Machine
open Sys2Proof

/-- A place of the array: row index and column, 1 to 41 each (R744). -/
abbrev Ball := Nat × Nat

/-- The row letters A to Y that are used (R744). -/
def rowLetters : List Char := ['A', 'B', 'C', 'D', 'E', 'F', 'G', 'H', 'J', 'K', 'L', 'M', 'N', 'P', 'T', 'U', 'V', 'W', 'Y']

/-- The name of a row by its index (R744). -/
def rowName (i : Nat) : List Char :=
  let l (n : Nat) : List Char := (rowLetters[n]?).toList
  if i ≤ 19 then l (i - 1) else if i ≤ 38 then 'A' :: l (i - 20) else 'B' :: l (i - 39)

/-- The name of a ball: row letters and column number (R744). -/
def Ball.name (b : Ball) : String := String.ofList (rowName b.1) ++ toString b.2

/-- Ring `r` at position `j` of a Kettle's edge region (R745). -/
def ringBall (k : Fin 4) (r j : Nat) : Ball :=
  match k with
  | 0 => (r, 1 + j)
  | 1 => (1 + j, 42 - r)
  | 2 => (42 - r, 41 - j)
  | 3 => (41 - j, r)

/-- Position of a coil in its Kettle's region (R745). -/
def coilPos (i : Nat) : Nat := 3 * (i % 24 / 2) + i % 24 % 2

/-- CPn and CNn (R745). -/
def coilBalls (c : Fin 192) : Ball × Ball :=
  let k : Fin 4 := ⟨c.val / 48, by omega⟩
  let i := c.val % 48
  let r := if i < 24 then 1 else 3
  (ringBall k r (coilPos i), ringBall k (r + 1) (coilPos i))

/-- What a ball carries (R745 to R747). -/
inductive BallFn where
  | cp (c : Nat) | cn (c : Nat) | vdrv | pgnd | gnd | vmain | lxa | vcr | lxb | var | pgndr | vio | vbkp
  | cask (n : Nat) | cgnd | cvdd | cbkp | uant (n : Nat) | rf (n : Nat) | clock (n : Nat) | digital (n : Nat) | ktest (n : Nat) | dnc
deriving DecidableEq, Repr

/-- A ball of a Kettle's edge region (R745). -/
def edgeFn (k : Fin 4) (r j : Nat) : BallFn :=
  if j = 36 then .gnd
  else if j % 3 = 2 then (if r = 2 then .vdrv else if r = 4 then .gnd else .pgnd)
  else
    let n := 48 * k.val + 2 * (j / 3) + j % 3 + (if r ≤ 2 then 0 else 24)
    if r % 2 = 1 then .cp n else .cn n

/-- Balls of one row index, columns `a` to `b`. -/
def rowRun (row a b : Nat) : List Ball := (List.range (b + 1 - a)).map fun i => (row, a + i)

/-- Each of some balls with its number. -/
def numbered (f : Nat → BallFn) (l : List Ball) : List (Ball × BallFn) := l.mapIdx fun i b => (b, f i)

/-- The balls of the inner square by function (R746). Sense inputs are numbered in the order VSENSE_L, VSENSE_N, ISENSE0P to ISENSE3N, and
then CASK_SEAL_N, CASK_ATX, CASK_ARX; RF balls UTX, PA_EN, PA_RAMP; digital balls in the order of the table's rows. -/
def innerBalls : List (Ball × BallFn) :=
  numbered (fun _ => .vmain) (rowRun 28 10 17 ++ rowRun 29 10 17) ++
  numbered (fun _ => .lxa) (rowRun 28 19 24 ++ rowRun 29 19 24) ++
  numbered (fun _ => .vcr) (rowRun 30 19 26 ++ rowRun 31 19 26) ++
  numbered (fun _ => .lxb) (rowRun 28 26 28 ++ rowRun 29 26 28) ++
  numbered (fun _ => .var) (rowRun 30 28 31 ++ rowRun 31 28 31) ++
  numbered (fun _ => .pgndr) (rowRun 32 10 25) ++
  numbered (fun _ => .vio) (rowRun 32 27 32 ++ rowRun 33 27 32) ++
  numbered (fun _ => .vbkp) (rowRun 30 10 11) ++
  numbered .cask ([(11, 6), (11, 8), (11, 10), (11, 11), (11, 13), (11, 14), (13, 10), (13, 11), (13, 13), (13, 14)] ++ rowRun 13 6 8) ++
  numbered (fun _ => .cgnd) ([(11, 7), (11, 9), (11, 12)] ++ rowRun 12 10 13 ++ [(13, 12)]) ++
  numbered (fun _ => .cvdd) (rowRun 14 6 9) ++
  numbered (fun _ => .cbkp) (rowRun 14 10 11) ++
  numbered .uant ((List.range 12).map fun n => (12 + n, 35)) ++
  numbered .rf [(25, 35), (27, 35), (28, 35)] ++
  numbered .clock [(7, 20), (7, 21), (7, 24), (7, 25)] ++
  numbered .digital (rowRun 9 10 14 ++ rowRun 9 20 27 ++ rowRun 10 10 14 ++ [(10, 20), (10, 22), (10, 23), (10, 24)]) ++
  numbered .ktest (rowRun 7 30 33) ++
  numbered (fun _ => .dnc) (rowRun 36 6 37)

/-- The edge region that a ball lies in, with its ring and position (R745). -/
def edgeOf (b : Ball) : Option (Fin 4 × Nat × Nat) :=
  if b.1 ≤ 4 ∧ b.2 ≤ 37 then some (0, b.1, b.2 - 1)
  else if 38 ≤ b.2 ∧ b.1 ≤ 37 then some (1, 42 - b.2, b.1 - 1)
  else if 38 ≤ b.1 ∧ 5 ≤ b.2 then some (2, 42 - b.1, 41 - b.2)
  else if b.2 ≤ 4 ∧ 5 ≤ b.1 then some (3, b.2, 41 - b.1)
  else none

/-- What a ball of the array carries; one that is not named is GND (R745 to R747). -/
def ballFn (b : Ball) : BallFn :=
  match edgeOf b with
  | some (k, r, j) => edgeFn k r j
  | none => ((innerBalls.find? fun x => decide (x.1 = b)).map (·.2)).getD .gnd

end Sys2Proof.Machine
end

