-- ==== Sys2Proof/WellFormed.lean ====
section
/-! DEFINITION. Operands that the hardware can give to a command: every number in the width of the field, the wire or the table that it
comes from. The other operands are bounded by their types. -/

namespace Sys2Proof
open Sys2Proof.Machine

/-- The operand fits `k` bits. -/
def fits (k n : Nat) : Bool := decide (n < 2 ^ k)

/-- Addresses of HSP have 4 bits, host window offsets 12, and a frame ends within the eight bits of a byte (R539 to R549). -/
def hspOk (addr extra : Nat) : Bool := fits 4 addr && decide (extra < 8)

/-- Every entry number is one of the 512 (R281). -/
def entriesOk (l : List Nat) : Bool := l.all fun i => decide (i < 512)

/-- A reading of Steep: 10 bits of amplitude and 6 of phase (R384). -/
def sweepOk (rs : Vector (Nat × Nat) 192) : Bool := rs.toList.all fun r => fits 10 r.1 && fits 6 r.2

/-- A sample of the ADC: 14 bits (R184). -/
def adcOk (x : Int) : Bool := decide (-8192 ≤ x) && decide (x ≤ 8191)

/-- Samples of the ADC. -/
def wordsOk (ws : AdcWords) : Bool := ws.all fun xs => xs.all adcOk

/-- I or Q of a sample word (R189). -/
def iqOk (x : Int) : Bool := decide (-16383 ≤ x) && decide (x ≤ 16383)

/-- The operands of a command lie in their ranges. -/
def Instr.wf : Instr → Bool
  | .registerWrite _ a v => fits 32 a && fits 32 v
  | .rcFieldRead _ a => fits 32 a
  | .tbCfgWrite _ v => fits 32 v
  | .pcmpTgtWrite _ v => fits 32 v
  | .filtWrite _ p => fits 2 p
  | .agcModeWrite _ agc gfix => fits 2 agc && fits 3 gfix
  | .adcOverrange _ x ws => adcOk x && wordsOk ws
  | .agcWindowEnd _ ws => ws.all fun x => wordsOk x.2
  | .templateCrossing _ tid var xs => fits 4 tid && fits 2 var && xs.all fun x => iqOk x.1 && iqOk x.2
  | .detectionDeclare _ mag phase frac => fits 16 mag && fits 11 phase && fits 3 frac
  | .lzReq _ cls m => fits 2 cls && fits 14 m
  | .probeEngChange v => fits 4 v
  | .zoneClose _ cause => decide (1 ≤ cause) && decide (cause ≤ 7)
  | .rxAck _ ack => fits 2 ack
  | .presenceCheck _ missing => entriesOk missing
  | .accPing _ missing => entriesOk missing
  | .accKeepPing _ pings => entriesOk (pings.map (·.1))
  | .steepSweepEnd rs => sweepOk rs
  | .steepConfirmEnd rs => sweepOk rs
  | .adjParamRead id => fits 8 id
  | .adjParamStage id _ => fits 8 id
  | .clQryRead _ q arg => fits 3 q && fits 10 arg
  | .statusFrame addr op _ extra _ => hspOk addr extra && fits 4 op && (decide (op = 0) || decide (6 ≤ op))
  | .pktWr addr _ extra => hspOk addr extra
  | .pktRd addr _ extra => hspOk addr extra
  | .pktReread addr _ extra => hspOk addr extra
  | .regRd addr off nm1 _ extra => hspOk addr extra && fits 12 off && fits 8 nm1
  | .regWr addr _ extra => hspOk addr extra
  | .mspEntryPush v => fits 32 v
  | .xipMiss _ off => decide (off < 0x8000000)
  | .xipLineFill data => decide (data.length = 32)
  | .xipInvalidate xcfg => xcfg.all (fits 32)
  | .evrEoi _ n => fits 9 n
  | .evrDoorbell _ n tgt => fits 9 n && fits 3 tgt
  | .sourceTargetWrite _ t => fits 3 t
  | .gtCtlWrite _ _ v => fits 32 v
  | .flashEraseDone _ us => fits 24 us
  | .caskCycleEnd ns _ => fits 32 ns
  | .vmainFall mv => decide (mv < 9000)
  | .vmainSag mv => decide (9000 ≤ mv) && decide (mv ≤ 10200)
  | .vmainQualified mv => decide (10200 < mv)
  | .vbkpOkRise mv => decide (2400 ≤ mv)
  | .vbkpOkFall mv => decide (mv < 2300)
  | .bkpLowChange low mv => if low then decide (mv < 2700) else decide (2800 ≤ mv)
  | .fkillAssert | .fkillDeassert | .probeResume | .setMode .. | .drainEnd | .transitionLegComplete | .bkpReturn | .vioMeasure ..
  | .sysrstAssert | .sysrstDeassert | .bootDone .. | .bootFail | .m3WakeMatch | .qualify .. | .qualifyTestEnd | .sourceEdge ..
  | .sourceQualLoss .. | .holdoverExpiry | .tbCapGo | .pcmpFire .. | .binBoundary .. | .timebaseCfg .. | .qmapRead ..
  | .txCommit .. | .commitApply .. | .fieldWrite .. | .fieldRampEnd .. | .driveLinkRefresh .. | .limiterReeval ..
  | .backstopMeasure .. | .swkillWrite .. | .driverFault .. | .kettleFaultClear .. | .ronMonitorScan .. | .rearm ..
  | .rearmTestEnd .. | .calibrateCoils .. | .calibrateDone .. | .invalidRunEnd .. | .hclr
  | .peakSearchEnd .. | .lzDpop .. | .engineGrant | .probeSlotBoundary .. | .prbBclr | .presenceUpdateStep | .zoneOpen ..
  | .zoneCloseDone .. | .holdTimeExpiry .. | .zoneWaitTimeout .. | .snapshot .. | .snapshotReleaseTimeout .. | .surfaceStart ..
  | .frameSend .. | .frameTxEnd .. | .listenWindowOpen .. | .listenWindowClose .. | .frameRxEnd .. | .frameAbandon ..
  | .powerOnWaitEnd .. | .lateReplyWaitEnd .. | .zoneExchange .. | .hfConfig .. | .cardInfo .. | .workStopBeforeDeadline ..
  | .commandDeadline .. | .commandGuard .. | .accRound .. | .accConfig .. | .accExchange .. | .accPower .. | .accInfo ..
  | .accRampLimit .. | .accLostBudget .. | .steepSweepStart .. | .steepConfirmStart .. | .steepConfig .. | .uhfHop ..
  | .uhfCarrierWrite .. | .uhfTxkillWrite .. | .uhfAcfgWrite .. | .uhfHopDone | .uhfCalEnd .. | .uhfDwellExpiry ..
  | .cancellerTrack .. | .residualExcursion .. | .residualPersist .. | .coexGntChange .. | .coexGntTimeout .. | .coexDecision ..
  | .coexReqChange .. | .coexHoldMax | .coexBackoffEnd | .aerialWaitLimit .. | .radioConfig .. | .calibrateUhf ..
  | .roomInventory .. | .roomConfig .. | .roomAccess .. | .roomAuth .. | .uhfTagReply .. | .uhfSlotEmpty | .onceMaxMs ..
  | .roomUpdateStep | .sealChange .. | .caskTimedCommit | .caskRegsTimer | .caskPowerFail | .caskPowerOn ..
  | .caskSupplySwitch .. | .caskQuery | .adjIdent | .adjLive | .adjStageDiscard | .adjCommit | .adjFrameTimeout
  | .caskFrameReceive .. | .caskLinkTimeout | .caskQueryTimeout | .caskRead .. | .getStatus .. | .echo .. | .echoHoldEnd ..
  | .abort .. | .kwathesTest .. | .mspEntryEnd .. | .mspSlaveFrame .. | .mspEnWrite .. | .xipInvalidateDone | .sourceMessage ..
  | .sourceLineChange .. | .evrClaim .. | .moderationTimeout .. | .evrSourceFault .. | .queuePush .. | .queueDataRead ..
  | .queueDropRest .. | .queueFlush .. | .tscLRead .. | .gtCntWrite .. | .gtCmpWrite .. | .gtCompareFire .. | .zoneTimerFire ..
  | .keyLoad .. | .keyUnload .. | .keyInfo .. | .crypto .. | .random .. | .ksGo .. | .ksOpComplete .. | .ksRefusalEnd
  | .entropyFail | .entropyRetest .. | .idleTimerExpiry .. | .domainPowerDownDone .. | .domainWakeReady .. | .domainWakeFail ..
  | .powerPolicy .. | .guardRailStep | .kilnRoMeasure .. | .kilnRefMeasure .. | .kilnRonAverage .. | .kilnGuardLower
  | .kilnDayBoundary | .kilnSurveyDue | .kilnSurvey .. | .kilnRead .. | .imageWrite .. | .imageCommit .. | .extLoad ..
  | .extControl .. | .configStore .. | .flashProgramDone .. | .tempMeasure .. | .lpxStable | .lpxStop | .wtxWaitLimit ..
  | .revisitExpiry .. | .failedChannelRetry .. | .caskEraseDone | .caskSupplyRecover | .caskHoldReset .. | .adjBadCommand .. => true

end Sys2Proof
end

