-- ==== Sys2Proof/Tests/Slice0.lean ====
section
/-! SUPPORT. Tests: well-formedness, check values and worked examples of the manual, and for each obligation states and operands that
meet the premises of each of its clauses. -/

namespace Sys2Proof.Tests
open Sys2Proof Sys2Proof.Machine
set_option Elab.async false

/-! ## Helpers -/

/-- The state after reset with the device changed. -/
def st (f : Dev → Dev) : State := { State.reset with dev := f State.reset.dev }

/-- In mode `m`, with no transition under way. -/
def inM (m : Mode) (d : Dev) : Dev := d.onMode fun x => { x with cur := m, run := none, regSvc := true }

/-- With `c` in flight under tag 3. -/
def has (c : Cmd) (d : Dev) : Dev := d.onNcp fun n => { n with tags := upd n.tags 3 fun _ => .active c }

/-- In mode `m` with `c` in flight under tag 3. -/
def run (m : Mode) (c : Cmd) : State := st fun d => has c (inM m d)

/-- At the BCLK cycle `n`. -/
def atT (n : Nat) (d : Dev) : Dev := d.onTim fun t => { t with tsc := BitVec.ofNat 64 n }

/-- With every domain powered. -/
def allUp (d : Dev) : Dev := d.onPmu fun p => { p with dom := p.dom.map fun m => { m with p := .up } }

/-- With coil `c` changed. -/
def coil (c : Fin 192) (f : Coil → Coil) (d : Dev) : Dev := d.onDrv fun v => { v with coil := upd v.coil c f }

/-- With Kettle `k` changed. -/
def ket (k : Fin 4) (f : Kettle → Kettle) (d : Dev) : Dev := d.onDrv fun v => { v with ket := upd v.ket k f }

/-- With the transmitter of zone `n` changed. -/
def ztx (n : Fin 24) (f : ZoneTx → ZoneTx) (d : Dev) : Dev := d.onTx fun v => upd v n f

/-- With receive channel `c` changed. -/
def rxch (c : Fin 192) (f : RxCh → RxCh) (d : Dev) : Dev := d.onRx fun x => { x with ch := upd x.ch c f }

/-- With the receive side of zone `n` changed. -/
def zrx (n : Fin 24) (f : ZoneRx → ZoneRx) (d : Dev) : Dev := d.onRx fun x => { x with zone := upd x.zone n f }

/-- With zone engine `n` changed. -/
def zeng (n : Fin 24) (f : ZoneEng → ZoneEng) (d : Dev) : Dev := d.onSf fun x => { x with zone := upd x.zone n f }

/-- With zone `n` of Lauter changed. -/
def lz (n : Fin 24) (f : LZone → LZone) (d : Dev) : Dev := d.onLau fun x => { x with zone := upd x.zone n f }

/-- With the framer of zone `n` changed. -/
def fr (n : Fin 24) (f : Framer → Framer) (d : Dev) : Dev := d.onHf fun x => { x with fr := upd x.fr n f }

/-- With presence entry `i` in place. -/
def entry (i : Fin 512) (e : Entry) (d : Dev) : Dev := d.onSf fun x => { x with entry := upd x.entry i fun _ => some e }

/-- Where no command was accepted earlier, none is ahead on any entry. -/
theorem aheadOn_nil {d : Dev} {tag : Fin 32} {c : Cmd} (hc : d.cmd tag = some c)
    (h : ∀ t : Fin 32, ((d.cmd t).any fun e => decide (e.order < c.order)) = false) (j : Nat) : d.aheadOn tag j = [] := by
  unfold Dev.aheadOn
  rw [hc]
  exact List.filter_eq_nil_iff.mpr fun t _ ht => by simp [h t] at ht

/-- What stands at an index of a table with one entry. -/
theorem get_one {N : Nat} {v : Vector (Option Entry) N} {i : Fin N} {e : Entry}
    (h : v = upd (Vector.replicate N none) i fun _ => some e) (k : Fin N) : v[k] = if k = i then some e else none := by
  subst h
  by_cases hk : k = i
  · simp [upd, hk]
  · have hv : ¬ i.val = k.val := fun x => hk (Fin.ext x.symm)
    simp only [upd, Fin.getElem_fin, Vector.getElem_set, hv, hk, if_false, Vector.getElem_replicate]

/-- A list without repeats of which only one element can pass. -/
theorem filter_one {α : Type} [BEq α] [LawfulBEq α] {l : List α} (hl : l.Nodup) {f : α → Bool} {i : α} (hi : i ∈ l) (hf : f i = true)
    (h : ∀ k, k ≠ i → f k = false) : l.filter f = [i] := by
  have e : l.filter f = l.filter fun k => k == i := by
    apply List.filter_congr
    intro k _
    by_cases hk : k = i
    · simp [hk, hf]
    · simp [h k hk, hk]
  rw [e, List.filter_beq, List.Nodup.count hl]
  simp [hi]

/-- The entries of a zone, the table having one. -/
theorem onZ_one {d : Dev} {i : Fin 512} {e : Entry} {n : Fin 24} (h : d.sf.entry = upd (Vector.replicate 512 none) i fun _ => some e)
    (hz : e.zone = some n) : d.sf.onZ n = [i.val] := by
  unfold Surface.onZ
  rw [filter_one (i := i) (List.nodup_finRange 512) (List.mem_finRange i)]
  · rfl
  · simp only [get_one h, if_true, hz, decide_true]
  · intro k hk
    simp only [get_one h, hk, if_false]

/-- The entries of a zone, the table being empty. -/
theorem onZ_empty {d : Dev} (h : d.sf.entry = Vector.replicate 512 none) (n : Fin 24) : d.sf.onZ n = [] := by
  unfold Surface.onZ
  rw [List.filter_eq_nil_iff.mpr]
  · rfl
  · intro k _
    rw [h]
    simp

/-- What the table holds at an index. -/
theorem at_one {d : Dev} {i : Fin 512} {e : Entry} (h : d.sf.entry = upd (Vector.replicate 512 none) i fun _ => some e) (k : Nat) :
    d.sf.at k = if k = i.val then some e else none := by
  unfold Surface.at
  split
  · next hk =>
    have := get_one h ⟨k, hk⟩
    simp only [Fin.getElem_fin] at this
    rw [this]
    by_cases x : k = i.val <;> simp [Fin.ext_iff, x]
  · next hk =>
    have := i.isLt
    rw [if_neg (by omega)]

/-- Nobody waits where the one entry does not. -/
theorem waitList_one {d : Dev} {i : Fin 512} {e : Entry} (h : d.sf.entry = upd (Vector.replicate 512 none) i fun _ => some e)
    (hs : e.state ≠ .waiting) : d.waitList = [] := by
  unfold Dev.waitList
  dsimp only
  rw [List.filter_eq_nil_iff.mpr]
  · rfl
  · intro k _
    rw [at_one h]
    by_cases x : k = i.val <;> simp [x, hs]

/-- A stream cipher gives no more than it takes. -/
theorem ctrB_length (key : List Nat) (w c : Nat) (bs : List (List Nat)) : (ctrB key w c bs).length ≤ (bs.map List.length).sum := by
  induction bs generalizing c with
  | nil => simp [ctrB]
  | cons b bs ih =>
    simp only [ctrB, List.length_append, List.map_cons, List.sum_cons, xorB, List.length_zipWith]
    have := ih ((c / 256 ^ w) * 256 ^ w + (c + 1) % 256 ^ w)
    omega

/-- The parts of a blob. -/
theorem cut_parts (a b c d : List Nat) (ha : a.length = 16) (hb : b.length = 12) (hc : c.length = 52) :
    (a ++ b ++ c ++ d).take 16 = a ∧ ((a ++ b ++ c ++ d).drop 16).take 12 = b ∧ ((a ++ b ++ c ++ d).drop 28).take 52 = c ∧
    (a ++ b ++ c ++ d).drop 80 = d := by
  simp [List.drop_append, ha, hb, hc, List.drop_eq_nil_of_le]

/-- The header of a blob of an HMAC key of 52 bytes. -/
def blobHdr : List Nat := [0x4B, 0x42, 1, 3, 52, 0, 4, 0, 0, 0, 0, 0, 0, 0, 0, 0]

/-- A blob whose tag is right whatever the wrapping key is. -/
def blob : List Nat :=
  blobHdr ++ List.replicate 12 0 ++ List.replicate 52 0 ++ gcmTag dwk (List.replicate 12 0) blobHdr (List.replicate 52 0)

/-- A message of at most 52 bytes under a good tag passes. -/
theorem gcm_passes (K iv a c : List Nat) (h : ((blocks16 c).map List.length).sum = 52) :
    ∃ m, gcmDec K iv a c (gcmTag K iv a c) = some m ∧ m.drop 52 = [] := by
  refine ⟨_, ?_, List.drop_eq_nil_of_le (h ▸ ctrB_length K 4 (beVal (iv ++ [0, 0, 0, 2])) (blocks16 c))⟩
  simp [gcmDec]

/-- What a header and a message that passes give. -/
theorem openBlob_of (a b c d m : List Nat) (ha : a.length = 16) (hb : b.length = 12) (hc : c.length = 52)
    (h : gcmDec dwk b a c d = some m) (hm : m.drop 52 = []) (hh : a = blobHdr) : (openBlob (a ++ b ++ c ++ d)).isSome = true := by
  obtain ⟨e1, e2, e3, e4⟩ := cut_parts a b c d ha hb hc
  unfold openBlob
  simp only [e1, e2, e3, e4, h]
  subst hh
  simp [blobHdr, hm, klenOk]

/-- The blob opens. -/
theorem openBlob_blob : openBlob blob = some ((openBlob blob).getD {}) := by
  obtain ⟨m, h, hm⟩ := gcm_passes dwk (List.replicate 12 0) blobHdr (List.replicate 52 0) (by decide +kernel)
  have := openBlob_of _ _ _ _ m (by decide) (by decide) (by decide) h hm rfl
  unfold blob
  generalize openBlob _ = o at this
  cases o with
  | none => cases this
  | some k => rfl


/-- An image of 196 bytes of KIND 1 as one big-endian number, signed with a key whose digest is `keyDigest` (R705, R706). -/
def fwImage : Nat := 0x4b57494d010100000000000004000000ff0000000000000000000000000000009f64a747e1b97f131fabb6b447296c9b6f0201e79fb3c5356e6c77e89b6a806a8e533b6fa0bf7b4625bb30667c01fb607ef9f8b8a80fef5b300628703187b2a373eb1dbde03318366d069f83a6f5900053c73633cb041b21c55e1a86c1f400b451590b7a515140d2d784c85608668fdfef8c82fd1f5be52421554a0dc3d033ed8d98915442635d185143984f9307721682acf59165e5796e6548b063616dd76101020304

/-- An image of KIND 2 for module 9, signed with the same key. -/
def modImage : Nat := 0x4b57494d010202000000000004000000090000000000000000100000000000009f64a747e1b97f131fabb6b447296c9b6f0201e79fb3c5356e6c77e89b6a806a8e533b6fa0bf7b4625bb30667c01fb607ef9f8b8a80fef5b300628703187b2a373eb1dbde03318366d069f83a6f5900053c73633cb041b21c55e1a86c1f400b451590b7a515140d2d784c85608668fdfef8c82fd1f5be52421554a0dc3d033ed76ab52f56ce90f8e9e2ebc2f6384d982a96d006c53fd8ef1b48a5dabd94b754b01020304

/-- SHA-256 of the public key of the two images. -/
def keyDigest : Nat := 0x2238f0e348c0445a60affd248bfe765db34318c0a10bfc9fc7423170e019d490

/-- Flash with an image from logical sector `base` on. -/
def flashWith (base n : Nat) : List Host.Cell :=
  ((List.range 196).map fun i => (base * sectorBytes + i, BitVec.ofNat 8 (n / 256 ^ (195 - i)))).filter fun x => x.2 ≠ 0xFF

/-- A byte of a logical sector, no sector having been moved. -/
theorem place_fresh {v : Nvm} (hv : v.sect = Vector.ofFn fun i => { phys := i.val }) (a o : Nat) (ha : a < 248) :
    v.place a o = a * sectorBytes + o := by
  simp [Nvm.place, hv, sectNo, Nat.mod_eq_of_lt ha]

/-- What is read in one sector, no sector having been moved. -/
theorem read_fresh {v : Nvm} (hv : v.sect = Vector.ofFn fun i => { phys := i.val }) (f : List Host.Cell) (a o n : Nat) (ha : a < 248)
    (hn : o + n ≤ sectorBytes) : v.read f a o n = memReads flashDflt f (a * sectorBytes + o) n := by
  unfold Nvm.read memReads
  apply List.map_congr_left
  intro i hi
  have := List.mem_range.mp hi
  have h1 : (o + i) / sectorBytes = 0 := Nat.div_eq_of_lt (by omega)
  have h2 : (o + i) % sectorBytes = o + i := Nat.mod_eq_of_lt (by omega)
  simp only [h1, h2, Nat.add_zero, place_fresh hv a _ ha, Nat.add_assoc]

/-- What verification gives for an image of 4 bytes in one sector, no sector having been moved. -/
theorem verifyAt_fresh (s : State) (hv : s.dev.nvm.sect = Vector.ofFn fun i => { phys := i.val }) (k a : Nat) (ha : a < 248)
    (h body : List Byte) (hh : memReads flashDflt s.flash (a * sectorBytes + 0) 192 = h)
    (hb : memReads flashDflt s.flash (a * sectorBytes + 192) 4 = body) (hl : leAt h 12 4 = 4) (hf : formatOk k h = true)
    (hr : s.dev.verify k h body = 0) : s.verifyAt k a = 0 := by
  have e : s.header a = h := by
    rw [State.header, read_fresh hv _ _ _ _ ha (by decide), hh]
  unfold State.verifyAt
  simp only [e, hf, hl, read_fresh hv _ _ _ _ ha (show 192 + 4 ≤ sectorBytes by decide), hb, Bool.not_true, Bool.false_eq_true,
      if_false, hr]

/-- The header of an image. -/
def header (n : Nat) : List Byte := bytesN (be 192 (n / 2 ^ 32))

/-- The image of KIND 2 in flash. -/
theorem modImage_read : memReads flashDflt (flashWith 182 modImage) (182 * sectorBytes + 0) 192 = header modImage ∧
    memReads flashDflt (flashWith 182 modImage) (182 * sectorBytes + 192) 4 = [1, 2, 3, 4] := by decide +kernel

/-- A device that knows the key of the images. -/
def knowing : Dev :=
  (Dev.onKey {} fun k => { k with ih := some (be 32 keyDigest) }).onNvm fun v => { v with kh0 := BitVec.ofNat 256 keyDigest }

/-- What verification asks of the device. -/
theorem verify_congr {d e : Dev} (h1 : d.nvm.kh0 = e.nvm.kh0) (h2 : d.nvm.kh1 = e.nvm.kh1) (h3 : d.nvm.kh0Rev = e.nvm.kh0Rev)
    (h4 : d.nvm.svnFw = e.nvm.svnFw) (h5 : d.nvm.svnMod = e.nvm.svnMod) (h6 : d.key.ih = e.key.ih) (k : Nat) (h b : List Byte) :
    d.verify k h b = e.verify k h b := by
  unfold Dev.verify
  simp only [h1, h2, h3, h4, h5, h6]

/-- The image of KIND 2 verifies. -/
theorem modImage_verifies : knowing.verify 2 (header modImage) [1, 2, 3, 4] = 0 := by decide +kernel

/-- The image of KIND 2 in flash is good for a device that knows its key, no sector having been moved. -/
theorem modImage_good (s : State) (hv : s.dev.nvm.sect = Vector.ofFn fun i => { phys := i.val }) (hf : s.flash = flashWith 182 modImage)
    (h1 : s.dev.nvm.kh0 = knowing.nvm.kh0) (h2 : s.dev.nvm.kh1 = 0) (h3 : s.dev.nvm.kh0Rev = false) (h4 : s.dev.nvm.svnFw = 0)
    (h5 : s.dev.nvm.svnMod = 0) (h6 : s.dev.key.ih = knowing.key.ih) : s.verifyAt 2 182 = 0 :=
  verifyAt_fresh s hv 2 182 (by decide) _ _ (hf ▸ modImage_read.1) (hf ▸ modImage_read.2) (by decide +kernel) (by decide +kernel)
    ((verify_congr h1 h2 h3 h4 h5 h6 _ _ _).trans modImage_verifies)

/-- The image of KIND 1 in flash. -/
theorem fwImage_read : memReads flashDflt (flashWith 2 fwImage) (2 * sectorBytes + 0) 192 = header fwImage ∧
    memReads flashDflt (flashWith 2 fwImage) (2 * sectorBytes + 192) 4 = [1, 2, 3, 4] := by decide +kernel

/-- The image of KIND 1 verifies. -/
theorem fwImage_verifies : knowing.verify 1 (header fwImage) [1, 2, 3, 4] = 0 := by decide +kernel

/-- The image of KIND 1 in flash is good for a device that knows its key, no sector having been moved. -/
theorem fwImage_good (s : State) (hv : s.dev.nvm.sect = Vector.ofFn fun i => { phys := i.val }) (hf : s.flash = flashWith 2 fwImage)
    (h1 : s.dev.nvm.kh0 = knowing.nvm.kh0) (h2 : s.dev.nvm.kh1 = 0) (h3 : s.dev.nvm.kh0Rev = false) (h4 : s.dev.nvm.svnFw = 0)
    (h5 : s.dev.nvm.svnMod = 0) (h6 : s.dev.key.ih = knowing.key.ih) : s.verifyAt 1 2 = 0 :=
  verifyAt_fresh s hv 1 2 (by decide) _ _ (hf ▸ fwImage_read.1) (hf ▸ fwImage_read.2) (by decide +kernel) (by decide +kernel)
    ((verify_congr h1 h2 h3 h4 h5 h6 _ _ _).trans fwImage_verifies)

/-- Power-on with an image in slot A, in force. -/
def bootable : State :=
  { dev := (knowing.onPmu fun p => { p with boot := .running }).onNvm fun v => { v with slotA := .active }
    flash := flashWith 2 fwImage }

/-- The slot that boot takes is the first that verifies. -/
theorem bootSelect_fst (s u : State) (bs : List Bool) (d : Dev)
    (hu : ((bootErase s).on fun d => (d.onNvm fun v => { v with scanned := true }).onKey fun k => { k with derived := true, entOk := true }) = u)
    (hb : bootTries u.dev = (bs, d)) : (bootSelect s).1 = (trySlots bs (u.on fun _ => d)).1 := by
  unfold bootSelect
  simp only [hu, hb]
  generalize trySlots _ _ = r
  obtain ⟨o, t⟩ := r
  cases o <;> rfl

/-- A slot that verifies is taken. -/
theorem trySlots_good (b : Bool) (s : State) (h : s.verifyAt 1 (slotBase b) = 0) : (trySlots [b] s).1 = some b := by
  unfold trySlots
  simp only [h, if_true]

/-- Boot takes slot A. -/
theorem bootable_boots (fs : Vector (Nat × Nat) 48) : (bootSelect (State.foundBy (.bootDone fs) bootable)).1 = some false := by
  rw [bootSelect_fst _ _ [false] _ rfl rfl]
  exact trySlots_good _ _ (fwImage_good _ rfl rfl rfl rfl rfl rfl rfl rfl)

/-- An entry of the layout table without a coil (R140). -/
def absentEntry : List Byte := List.replicate 8 0 ++ List.replicate 6 0xFF ++ [0, 0]

/-- The header of a layout table without coils before its check; EXT is chosen so that an entry leaves the check as it is. -/
def emptyHeader : List Byte := [0x4B, 0x4C, 0x54, 0x31, 1, 0, 192, 0] ++ le 4 0xdb657367 ++ List.replicate 16 0

/-- A layout table without coils. -/
def emptyLayout : List Byte := emptyHeader ++ le 4 0xbdce6677 ++ (List.replicate 192 absentEntry).flatten

/-- A part of a list of equal entries. -/
theorem flatten_part (e : List Byte) (h : e.length = 16) (k n : Nat) (hn : n < k) :
    ((List.replicate k e).flatten.drop (16 * n)).take 16 = e := by
  induction k generalizing n with
  | zero => omega
  | succ k ih =>
    rw [List.replicate_succ, List.flatten_cons]
    cases n with
    | zero => rw [Nat.mul_zero, List.drop_zero, ← h, List.take_left']; rfl
    | succ n =>
      rw [show 16 * (n + 1) = e.length + 16 * n by omega, ← List.drop_drop, List.drop_left' rfl]
      exact ih n (by omega)

/-- Every entry of the layout table without coils. -/
theorem emptyLayout_part (n : Nat) (hn : n < 192) : (emptyLayout.drop (32 + 16 * n)).take 16 = absentEntry := by
  unfold emptyLayout
  rw [← List.drop_drop, List.drop_left' (by decide)]
  exact flatten_part _ (by decide) _ _ hn

/-- A check that the rest of the data leaves as it is. -/
theorem crc32_of (a b : List Byte) (m : Nat) (ha : (nums a).foldl crc32Byte 0xFFFFFFFF = m) (hb : (nums b).foldl crc32Byte m = m) :
    crc32 (nums (a ++ b)) = m ^^^ 0xFFFFFFFF := by
  simp only [nums, crc32, List.map_append, List.foldl_append] at *
  rw [ha, hb]

/-- An entry without a coil leaves the check as it is. -/
theorem crc_fixed (k : Nat) : (List.replicate k (absentEntry.map fun b => b.toNat)).flatten.foldl crc32Byte 1110546824 = 1110546824 :=
    by
  induction k with
  | zero => rfl
  | succ k ih =>
    rw [List.replicate_succ, List.flatten_cons, List.foldl_append,
      show (absentEntry.map fun b => b.toNat).foldl crc32Byte 1110546824 = 1110546824 by decide +kernel, ih]

/-- The check of the layout table without coils. -/
theorem emptyLayout_crc : crc32 (nums (emptyLayout.take 28 ++ emptyLayout.drop 32)) = 0xbdce6677 := by
  have h : emptyLayout.take 28 ++ emptyLayout.drop 32 = emptyHeader ++ (List.replicate 192 absentEntry).flatten := by
    unfold emptyLayout
    generalize (List.replicate 192 absentEntry).flatten = r
    rfl
  have g : (nums emptyHeader).foldl crc32Byte 0xFFFFFFFF = 1110546824 := by decide +kernel
  have f : (nums (List.replicate 192 absentEntry).flatten).foldl crc32Byte 1110546824 = 1110546824 := by
    rw [nums, List.map_flatten, List.map_replicate]
    exact crc_fixed 192
  rw [h]
  exact crc32_of _ _ _ g f

/-- The layout table without coils passes. -/
theorem emptyLayout_ok : layoutOk emptyLayout = true := by
  have e : ∀ n, n < 192 → layoutEntry emptyLayout n = {} := fun n hn => by
    unfold layoutEntry
    rw [emptyLayout_part n hn]
    decide
  unfold layoutOk
  have l : emptyLayout.length = 3104 := by
    unfold emptyLayout
    rw [List.length_append, List.length_flatten, List.map_replicate]
    decide +kernel
  have a1 : (decide (emptyLayout.length = 3104) && decide (emptyLayout.take 8 = [0x4B, 0x4C, 0x54, 0x31, 0x01, 0x00, 192, 0x00]) &&
      ((List.range 16).all fun i => decide (byteAt emptyLayout (12 + i) = 0)) &&
      decide (leAt emptyLayout 28 4 = crc32 (nums (emptyLayout.take 28 ++ emptyLayout.drop 32)))) = true := by
    rw [l, emptyLayout_crc]
    decide +kernel
  have a2 : ((List.range 192).all fun n => entryOk emptyLayout n) = true := by
    rw [List.all_eq_true]
    intro n hn
    have hn := List.mem_range.mp hn
    unfold entryOk
    rw [emptyLayout_part n hn, e n hn]
    decide
  have a3 : neighboursOk emptyLayout = true := by
    unfold neighboursOk
    rw [List.all_eq_true]
    intro n hn
    rw [e n (List.mem_range.mp hn)]
    rfl
  rw [a1, a2, a3]
  rfl

/-- What meets only zeros scores 0. -/
theorem scoreOf_zero (l : List (Cplx × Cplx)) (h : ∀ p ∈ l, p.2 = (0, 0)) : scoreOf l = 0 := by
  have e : (l.map fun p => cabs2 p.2).sum = 0 := by
    induction l with
    | nil => rfl
    | cons p l ih =>
      rw [List.map_cons, List.sum_cons, h p (by simp), ih fun q hq => h q (by simp [hq])]
      rfl
  unfold scoreOf
  simp [e]

/-- A template none of whose slots runs scores 0. -/
theorem score_none {d : Dev} {n : Fin 24} (h : ∀ s,
    d.emptied n s = none) (t : Tmpl) (v : Nat) (xs : List Cplx) : d.score n t v xs = 0 := by
  unfold Dev.score
  apply scoreOf_zero
  intro p hp
  simp only [Tmpl.meets, List.mem_flatMap, List.mem_map] at hp
  obtain ⟨_, _, _, _, rfl⟩ := hp
  simp [Dev.slotWords, h, foldedWord, csum]

/-- No slot runs where the zone has no engine. -/
theorem emptied_none {d : Dev} {n : Fin 24} (h : d.lau.zoneEngs n = []) (s : Nat) : d.emptied n s = none := by
  unfold Dev.emptied
  rw [h]
  rfl

/-! ## Well-formedness -/

/-- Each check of well-formedness refuses a term (the limits are those of the fields that `Instr.wf` names). -/
theorem test_ill_formed :
    ([.registerWrite .sc (2 ^ 32) 0, .registerWrite .sc 0 (2 ^ 32), .rcFieldRead .sc (2 ^ 32), .tbCfgWrite false (2 ^ 32),
      .pcmpTgtWrite 0 (2 ^ 32), .filtWrite 0 4, .agcModeWrite 0 4 0, .agcModeWrite 0 0 8, .templateCrossing 0 16 0 [],
      .templateCrossing 0 0 4 [], .templateCrossing 0 0 0 [(16384, 0)], .detectionDeclare 0 65536 0 0, .detectionDeclare 0 0 2048 0,
      .detectionDeclare 0 0 0 32, .lzReq 0 4 0, .lzReq 0 0 16384, .probeEngChange 16, .zoneClose 0 0, .zoneClose 0 8, .rxAck 0 4,
      .presenceCheck 0 [512], .accPing 0 [512], .accKeepPing 0 [(512, none)], .steepSweepEnd (Vector.replicate 192 (1024, 0)),
      .steepConfirmEnd (Vector.replicate 192 (0, 64))] : List Instr).all (fun i => !i.wf) = true := by decide

/-- The same of the remaining checks. -/
theorem test_ill_formed_more :
    ([.adcOverrange 0 8192 [], .adcOverrange 0 0 [[-8193]], .agcWindowEnd 0 [(0, [[8192]])],
      .adjParamRead 256, .adjParamStage 256 0, .clQryRead .sc 8 0, .clQryRead .sc 0 1024, .statusFrame 16 0 0 0 none,
      .statusFrame 0 16 0 0 none, .statusFrame 0 1 0 0 none, .statusFrame 0 0 0 8 none, .pktWr 0 [] 8, .pktRd 16 0 0, .pktReread 16 0 0,
      .regRd 0 4096 0 0 0, .regRd 0 0 256 0 0, .regWr 16 [] 0, .regWr 0 [] 8, .mspEntryPush (2 ^ 32), .xipMiss 0 (2 ^ 27),
      .xipLineFill [0], .xipInvalidate (some (2 ^ 32)), .evrEoi 0 512, .evrDoorbell 0 512 0, .evrDoorbell 0 0 8,
      .sourceTargetWrite 0 8, .gtCtlWrite .sc 0 (2 ^ 32), .flashEraseDone true (2 ^ 24), .caskCycleEnd (2 ^ 32) [],
      .vmainFall 9000, .vmainSag 8999, .vmainSag 10201, .vmainQualified 10200, .vbkpOkRise 2399, .vbkpOkFall 2300,
      .bkpLowChange true 2700, .bkpLowChange false 2799] : List Instr).all (fun i => !i.wf) = true := by decide

/-- Terms at the limits are well formed. -/
theorem test_well_formed :
    ([.registerWrite .sc (2 ^ 32 - 1) (2 ^ 32 - 1), .filtWrite 23 3, .statusFrame 15 15 0 7 none, .evrEoi 5 511, .zoneClose 23 7,
      .presenceCheck 0 [511], .vmainSag 9000, .vmainFall 8999, .bkpLowChange false 2800] : List Instr).all Instr.wf = true := by decide

/-! ## Check values and worked examples of the manual -/

/-- The check value of the packet CRC (R504). -/
theorem test_crc16_check : crc16 [0x31, 0x32, 0x33, 0x34, 0x35, 0x36, 0x37, 0x38, 0x39] = 0x29B1 := by decide +kernel

/-- The check value of the CRC of the links (R345). -/
theorem test_crc345_check : crc345 [0x31, 0x32, 0x33, 0x34, 0x35, 0x36, 0x37, 0x38, 0x39] = 0x906E := by decide +kernel

/-- The engines of the worked example of chapter 06: 6 for probing, 15 in TRACK and 3 in RECOG make 30. -/
theorem test_engines_of_the_example : 6 + 15 * LClass.track.need + 3 * LClass.recog.need = 30 := by decide

/-- The worked example of chapter 10, step 3: coil 69 at SA 540 against BA 612 triggers, coil 70 at ΔA −23 does not (R392). -/
theorem test_steep_example :
    (({ state := .armed, hasB := true, ba := 612, bp := 20, sa := 540, sp := 20 } : StpC).trig {} = true) ∧
    (({ state := .armed, hasB := true, ba := 612, bp := 20, sa := 589, sp := 20 } : StpC).trig {} = false) := by decide

/-- Balls that chapter 23 names: CP0 at A1 and CN0 at B1, CP24 at C1, VDRV at B3 and VMAIN at AJ10, UANT0 at M35, DNC at AV6, GND at
position 36 of a Kettle's region (R745, R746). -/
theorem test_balls :
    coilBalls 0 = ((1, 1), (2, 1)) ∧ coilBalls 24 = ((3, 1), (4, 1)) ∧ ballFn (1, 1) = .cp 0 ∧ ballFn (2, 1) = .cn 0 ∧
    ballFn (3, 1) = .cp 24 ∧ ballFn (2, 3) = .vdrv ∧ ballFn (28, 10) = .vmain ∧ ballFn (12, 35) = .uant 0 ∧ ballFn (36, 6) = .dnc ∧
    ballFn (1, 37) = .gnd ∧ Ball.name (1, 1) = "A1" ∧ Ball.name (28, 10) = "AJ10" ∧ Ball.name (36, 6) = "AV6" := by decide +kernel

/-- The totals of R745 for one Kettle, and of R746: 96 coil balls, 12 VDRV, 24 PGND and 16 GND; and 192 balls of the inner square that
have another function than GND, no two of them one place. -/
theorem test_ball_totals :
    (let fs := (List.range 148).map fun k => edgeFn 0 (k / 37 + 1) (k % 37)
     fs.countP (fun f => match f with | .cp _ | .cn _ => true | _ => false) = 96 ∧ fs.count .vdrv = 12 ∧ fs.count .pgnd = 24 ∧
     fs.count .gnd = 16 ∧ innerBalls.length = 88 + 27 + 15 + 30 + 32 ∧
     (innerBalls.map fun x => 64 * x.1.1 + x.1.2).Nodup) := by decide +kernel

/-- The table gives no bits, so no word spells a command. -/
theorem test_no_words : decodeTableWord 32 0 = none ∧ decodeTableWord 8 7 = none := by decide

/-- The machine comes out of power-on reset in M2, with every bridge off, and waits for VIO (R46, R657). -/
theorem test_reset : State.reset.dev.mode.cur = .m2 ∧ State.reset.dev.pmu.boot = .waitVio ∧ State.reset.pending = [] := by decide

/-- A step takes the command at the front of the queue: TXKILL first, then what waited behind it. -/
theorem test_step_takes_the_front :
    (match step { State.reset with pending := [.uhfTxkillWrite true, .hclr] } with
      | .next t => t.dev.uhf.txkill && decide (t.pending = [.hclr])
      | _ => false) = true := by decide +kernel

/-! ## Premises that can be met -/

def s2_0 : State := st fun d => d.onCyc fun c => { c with slot := 6 }
def s2_1 : State := State.reset
def s2_2 : State := st fun d => d.onCyc fun c => { c with slot := 3 }
def s2_3 : State := st fun d => d.onCyc fun c => { c with slot := 1 }

/-- States and operands that meet the premises of each clause of `Obligations.CommandsFindTheirPlace`. -/
theorem witness_CommandsFindTheirPlace :
    (∃ (i : Instr) (s : State), portOf i = none ∧ 6 ≤ s.dev.cyc.slot) ∧
    (∃ (i : Instr) (s : State), portOf i = none ∧ s.dev.cyc.slot < 6) ∧
    (∃ (i : Instr) (p : Fin 6) (s : State), portOf i = some p ∧ s.dev.cyc.slot ≤ p.val) ∧
    (∃ (i : Instr) (p : Fin 6) (s : State), portOf i = some p ∧ p.val < s.dev.cyc.slot) ∧
    (∃ (i : Instr), portOf i = none) :=
  ⟨⟨(.sourceQualLoss true), s2_0,
    by decide +kernel⟩,
   ⟨(.sourceQualLoss true), s2_1,
    by decide +kernel⟩,
   ⟨(.lzDpop 14), 3, s2_2,
    by decide +kernel⟩,
   ⟨.hclr, 0, s2_3,
    by decide +kernel⟩,
   ⟨(.sourceQualLoss true),
    by decide +kernel⟩⟩

def s3_0 : State := State.reset

/-- States and operands that meet the premises of each clause of `Obligations.IdleStepCountsTime`. -/
theorem witness_IdleStepCountsTime :
    (∃ (s : State), s.pending = []) :=
  ⟨s3_0,
    by decide +kernel⟩

def s5_0 : State := State.reset
def t5_0 : State := (match step State.reset with | .next x => x | _ => State.reset)

/-- States and operands that meet the premises of each clause of `Obligations.StepKeepsMemoryForm`. -/
theorem witness_StepKeepsMemoryForm :
    (∃ (s : State) (t : State), step s = .next t ∧ s.memWf = true) :=
  ⟨s5_0, t5_0,
    rfl, by decide +kernel⟩

def s7_0 : State := { State.reset with flash := [(0, 0)], dev := State.reset.dev.onNvm fun v => { v with jobs := [{ ops := [.erase 0], who := .spare }] } }
def t7_0 : State := (match exec (.flashEraseDone true 0) s7_0 with | .next x => x | _ => s7_0)

/-- States and operands that meet the premises of each clause of `Obligations.OnlyTheControllerWritesFlash`. -/
theorem witness_OnlyTheControllerWritesFlash :
    (∃ (i : Instr) (s : State) (t : State), exec i s = .next t ∧ t.flash ≠ s.flash) :=
  ⟨(.flashEraseDone true 0), s7_0, t7_0,
    rfl, by decide +kernel⟩

def s8_0 : State := st fun d => (atT 4339200 d).onTb fun t => { t with zc := { last := some 0 } }
def s8_1 : State := st fun d => ((atT 4339200 d).onTb fun t => { t with cask := { last := some 0 } }).onCl fun c => { c with link := true, cycle := List.replicate 60 255 }
def s8_2 : State := st fun d => (atT 2000000 d).onTb fun t => { t with zc := { last := some 0, period := some 3300000 } }
def s8_3 : State := State.reset
def s8_4 : State := st fun d => (atT 6508800 d).onTb fun t => { t with zc := { last := some 0, ok := true }, src := .zc, state := .locked }
def s8_5 : State := st fun d => d.onTb fun t => { t with state := .holdover, holdCyc := 4, phc := BitVec.ofNat 56 (4 * 2 ^ 40) }

/-- States and operands that meet the premises of each clause of `Obligations.TimeBaseSourcesQualifyAndFail`. -/
theorem witness_TimeBaseSourcesQualifyAndFail :
    (∃ (stable : Nat) (width : Nat) (l : Nat) (s : State), (∃ s0, State.foundBy (.sourceEdge true true stable width) s0 = s) ∧
        s.dev.bclk = true ∧ s.dev.tb.cfg.srcsel ≠ 3 ∧ s.dev.tb.zcCfg.zmode = 0 ∧ s.dev.tb.zcCfg.deglitch ≤ stable ∧
        s.dev.tb.zc.last = some l ∧ 3286944 ≤ s.dev.now - l ∧ s.dev.now - l ≤ 4820851 ∧
        s.dev.tb.zc.per s.dev.tb.cfg.vfreq ≤ 4 * (s.dev.now - l)) ∧
    (∃ (stable : Nat) (width : Nat) (l : Nat) (s : State), (∃ s0, State.foundBy (.sourceEdge false true stable width) s0 = s) ∧
        s.dev.bclk = true ∧ s.dev.tb.cfg.srcsel ≠ 3 ∧ s.dev.cl.link = true ∧ s.dev.cl.vpres = true ∧ s.dev.tb.cask.last = some l ∧
        3286944 ≤ s.dev.now - l ∧ s.dev.now - l ≤ 4820851 ∧ s.dev.tb.cask.per s.dev.tb.cfg.vfreq ≤ 4 * (s.dev.now - l)) ∧
    (∃ (rise : Bool) (stable : Nat) (width : Nat) (l : Nat) (s : State), (∃ s0,
        State.foundBy (.sourceEdge true rise stable width) s0 = s) ∧ s.dev.bclk = true ∧ s.dev.tb.cfg.srcsel ≠ 3 ∧
        s.dev.tb.zcCfg.zmode < 2 ∧ rise = decide (s.dev.tb.zcCfg.zmode = 0) ∧ s.dev.tb.zcCfg.deglitch ≤ stable ∧
        s.dev.tb.zc.last = some l ∧ s.dev.tb.zc.per s.dev.tb.cfg.vfreq ≤ 4 * (s.dev.now - l) ∧ s.dev.now - l < 3286944) ∧
    (∃ (rise : Bool) (stable : Nat) (width : Nat) (s : State), (∃ s0, State.foundBy (.sourceEdge true rise stable width) s0 = s) ∧
        (rise ≠ decide (s.dev.tb.zcCfg.zmode = 0) ∨ stable < s.dev.tb.zcCfg.deglitch)) ∧
    (∃ (zc : Bool) (l : Nat) (s : State), (∃ s0, State.foundBy (.sourceQualLoss zc) s0 = s) ∧ (s.dev.tb.edgeSrc zc).last = some l ∧
        (s.dev.tb.edgeSrc zc).ok = true ∧ 3 * (s.dev.tb.edgeSrc zc).per s.dev.tb.cfg.vfreq ≤ 2 * (s.dev.now - l)) ∧
    (∃ (s : State), (∃ s0, State.foundBy .holdoverExpiry s0 = s) ∧ s.dev.tb.state = .holdover ∧
        s.dev.tb.holdCyc ≤ (s.dev.tb.phc - s.dev.tb.holdPhc).toNat / 2 ^ 40) :=
  ⟨⟨20, 5, 0, (State.foundBy (.sourceEdge true true 20 5) s8_0),
    ⟨s8_0, rfl⟩, by decide +kernel⟩,
   ⟨20, 5, 0, (State.foundBy (.sourceEdge false true 20 5) s8_1),
    ⟨s8_1, rfl⟩, by decide +kernel⟩,
   ⟨true, 20, 5, 0, (State.foundBy (.sourceEdge true true 20 5) s8_2),
    ⟨s8_2, rfl⟩, by decide +kernel⟩,
   ⟨false, 20, 5, (State.foundBy (.sourceEdge true false 20 5) s8_3),
    ⟨s8_3, rfl⟩, by decide +kernel⟩,
   ⟨true, 0, (State.foundBy (.sourceQualLoss true) s8_4),
    ⟨s8_4, rfl⟩, by decide +kernel⟩,
   ⟨(State.foundBy .holdoverExpiry s8_5),
    ⟨s8_5, rfl⟩, by decide +kernel⟩⟩

def s9_0 : State := State.reset
def s9_1 : State := State.reset

/-- States and operands that meet the premises of each clause of `Obligations.TimeBaseRegistersTakeTheirValues`. -/
theorem witness_TimeBaseRegistersTakeTheirValues :
    (∃ (v : Nat) (s : State), (∃ s0, State.foundBy (.tbCfgWrite false v) s0 = s) ∧ tbCfgOk v = true) ∧
    (∃ (v : Nat) (s : State), (∃ s0, State.foundBy (.tbCfgWrite true v) s0 = s) ∧ bits v 1 0 ≠ 3) :=
  ⟨⟨(({} : TbCfg).word), (State.foundBy (.tbCfgWrite false (({} : TbCfg).word)) s9_0),
    ⟨s9_0, rfl⟩, by decide +kernel⟩,
   ⟨0x1002, (State.foundBy (.tbCfgWrite true 0x1002) s9_1),
    ⟨s9_1, rfl⟩, by decide +kernel⟩⟩

def s10_0 : State := st fun d => d.onTb fun t => { t with pcmp := upd t.pcmp 3 fun c => { c with en := true } }
def s10_1 : State := st fun d => d.onTb fun t => { t with pcmp := upd t.pcmp 31 fun c => { c with en := true } }
def s10_2 : State := st fun d => d.onTb fun t => { t with pcmp := upd t.pcmp 3 fun c => { c with en := true, per := 100 } }

/-- States and operands that meet the premises of each clause of `Obligations.PhaseComparesFireOnce`. -/
theorem witness_PhaseComparesFireOnce :
    (∃ (n : Fin 32) (v : Nat) (s : State), (∃ s0, State.foundBy (.pcmpTgtWrite n v) s0 = s) ∧
        (s.dev.tb.pcmp[n].en = false ∨ passed s.dev.phc (word v) = false)) ∧
    (∃ (n : Fin 32) (v : Nat) (s : State), (∃ s0, State.foundBy (.pcmpTgtWrite n v) s0 = s) ∧ s.dev.tb.pcmp[n].en = true ∧
        passed s.dev.phc (word v) = true) ∧
    (∃ (n : Fin 32) (s : State), (∃ s0, State.foundBy (.pcmpFire n) s0 = s) ∧ s.dev.pcmpDue n = true ∧ s.dev.tb.firstDue n = true) :=
  ⟨⟨3, 0x80000000, (State.foundBy (.pcmpTgtWrite 3 0x80000000) s10_0),
    ⟨s10_0, rfl⟩, by decide +kernel⟩,
   ⟨31, 0, (State.foundBy (.pcmpTgtWrite 31 0) s10_1),
    ⟨s10_1, rfl⟩, by decide +kernel⟩,
   ⟨3, (State.foundBy (.pcmpFire 3) s10_2),
    ⟨s10_2, rfl⟩, by decide +kernel⟩⟩

def s11_0 : State := st fun d => d.onTb fun t => { t with phc := BitVec.ofNat 56 (1024 * 2 ^ 24) }
def c11_1 : Cmd := { opc := 7, payload := le 4 (({} : TbCfg).word) ++ le 4 0x100 ++ [1, 0, 0, 0] }
def s11_1 : State := run .m4 c11_1
def c11_2 : Cmd := { opc := 0x92, payload := [byteOf 1, byteOf 23] }
def s11_2 : State := run .m4 c11_2

/-- States and operands that meet the premises of each clause of `Obligations.QuietMapAndItsCommands`. -/
theorem witness_QuietMapAndItsCommands :
    (∃ (ms : List BinMeas) (s : State), (∃ s0, State.foundBy (.binBoundary ms) s0 = s) ∧ s.dev.phase / 1024 ≠ s.dev.tb.bin) ∧
    (∃ (tag : Fin 32) (c : Cmd) (cfg : Nat) (zc : Nat) (s : State), Ready 0x07 tag c s.dev ∧
        (∃ s0, State.foundBy (.timebaseCfg tag) s0 = s) ∧ (s.dev.mode.cur = .m4 ∨ s.dev.mode.cur = .m9) ∧ cfg < 2 ^ 27 ∧ zc < 2 ^ 22 ∧
        tbCfgOk cfg = true ∧ c.payload = le 4 cfg ++ le 4 zc ++ [1, 0, 0, 0]) ∧
    (∃ (tag : Fin 32) (c : Cmd) (b : Fin 2) (g : Fin 24) (s : State), Ready 0x92 tag c s.dev ∧
        (∃ s0, State.foundBy (.qmapRead tag) s0 = s) ∧ c.payload = [byteOf b.val, byteOf g.val]) :=
  ⟨⟨[], (State.foundBy (.binBoundary []) s11_0),
    ⟨s11_0, rfl⟩, by decide +kernel⟩,
   ⟨3, c11_1, (({} : TbCfg).word), 0x100, (State.foundBy (.timebaseCfg 3) s11_1),
    by unfold Ready; decide +kernel, ⟨s11_1, rfl⟩, by decide +kernel⟩,
   ⟨3, c11_2, 1, 23, (State.foundBy (.qmapRead 3) s11_2),
    by unfold Ready; decide +kernel, ⟨s11_2, rfl⟩, by decide +kernel⟩⟩

def s12_0 : State := st fun d => (allUp (inM .m4 d)).onNvm fun v => { v with fwRuns := true }
def s12_1 : State := State.reset
def s12_2 : State := st fun d => (allUp (inM .m4 d)).onNvm fun v => { v with fwRuns := true }
def s12_3 : State := st fun d => (allUp (inM .m4 d)).onNvm fun v => { v with fwRuns := true }
def s12_4 : State := st fun d => (allUp (inM .m4 d)).onNvm fun v => { v with fwRuns := true }
def s12_5 : State := st fun d => ((allUp (inM .m4 d)).onNvm fun v => { v with fwRuns := true }) |>.onBus fun b => { b with rcRead := [0, 8, 16, 24].map (rcKey 0x2007001C) }
def s12_6 : State := st fun d => (allUp (inM .m4 d)).onNvm fun v => { v with fwRuns := true }

/-- States and operands that meet the premises of each clause of `Obligations.CoreAccessesReachTheirWord`. -/
theorem witness_CoreAccessesReachTheirWord :
    (∃ (a : Nat) (v : Nat) (s : State), (∃ s0, State.foundBy (.registerWrite .sc a v) s0 = s) ∧ s.memWf = true ∧ inSram a 4 = true ∧
        a % 4 = 0 ∧ s.dev.codeRuns .sc = true ∧ s.dev.stalled .sc = false ∧
        (s.dev.pmu.dom[Fin.ofNat 49 (2 + (a - sramBase) / 0x80000)]).p = .up) ∧
    (∃ (m : Master) (off : Nat) (v : Nat) (s : State), (m = .sc ∨ (∃ k, m = .zc k)) ∧
        (∃ s0, State.foundBy (.registerWrite m (0x24000000 + off) v) s0 = s) ∧ off < 0x10000) ∧
    (∃ (a : Nat) (s : State), (∃ s0, State.foundBy (.rcFieldRead .sc a) s0 = s) ∧ inSram a 4 = true ∧ a % 4 = 0 ∧
        s.dev.codeRuns .sc = true ∧ s.dev.stalled .sc = false ∧ (s.dev.pmu.dom[Fin.ofNat 49 (2 + (a - sramBase) / 0x80000)]).p = .up) ∧
    (∃ (s : State), (∃ s0, State.foundBy (.rcFieldRead .sc 0x20070008) s0 = s) ∧ s.dev.codeRuns .sc = true ∧
        s.dev.stalled .sc = false) ∧
    (∃ (s : State), (∃ s0, State.foundBy (.rcFieldRead .sc 0x2007001C) s0 = s) ∧ s.dev.codeRuns .sc = true ∧
        s.dev.stalled .sc = false ∧ s.dev.bus.rcRead = []) ∧
    (∃ (s : State), (∃ s0, State.foundBy (.rcFieldRead .sc 0x2007001C) s0 = s) ∧ s.dev.codeRuns .sc = true ∧
        s.dev.stalled .sc = false ∧ ((∀ f ∈ [0, 8, 16, 24], rcKey 0x2007001C f ∈ s.dev.bus.rcRead))) ∧
    (∃ (a : Nat) (s : State), (∃ s0, State.foundBy (.rcFieldRead .sc a) s0 = s) ∧ regionOf a = none ∧ s.dev.codeRuns .sc = true ∧
        s.dev.stalled .sc = false) :=
  ⟨⟨(sramBase + 0x100), 0x12345678, (State.foundBy (.registerWrite .sc (sramBase + 0x100) 0x12345678) s12_0),
    ⟨s12_0, rfl⟩, by decide +kernel⟩,
   ⟨.sc, 0xFFFC, 1, (State.foundBy (.registerWrite .sc (0x24000000 + 0xFFFC) 1) s12_1),
    .inl rfl, ⟨s12_1, rfl⟩, by decide +kernel⟩,
   ⟨(sramBase + 0x5FFFFC), (State.foundBy (.rcFieldRead .sc (sramBase + 0x5FFFFC)) s12_2),
    ⟨s12_2, rfl⟩, by decide +kernel⟩,
   ⟨(State.foundBy (.rcFieldRead .sc 0x20070008) s12_3),
    ⟨s12_3, rfl⟩, by decide +kernel⟩,
   ⟨(State.foundBy (.rcFieldRead .sc 0x2007001C) s12_4),
    ⟨s12_4, rfl⟩, by decide +kernel⟩,
   ⟨(State.foundBy (.rcFieldRead .sc 0x2007001C) s12_5),
    ⟨s12_5, rfl⟩, by decide +kernel⟩,
   ⟨0x50000000, (State.foundBy (.rcFieldRead .sc 0x50000000) s12_6),
    ⟨s12_6, rfl⟩, by decide +kernel⟩⟩

def c13_0 : Cmd := { opc := 2, payload := [9, 0] }
def s13_0 : State := run .m4 c13_0
def c13_1 : Cmd := { opc := 2, payload := [4, 0] }
def s13_1 : State := run .m4 c13_1
def r13_2 : Trans := { draining := true, left := .m4, legs := [.m9] }
def s13_2 : State := st fun d => (inM .m4 d).onMode fun m => { m with run := some r13_2 }
def s13_3 : State := st fun d => (inM .m4 d).onMode fun m => { m with run := some ({ left := .m4, legs := [.m9] }) }
def s13_4 : State := st (inM .m3)

/-- States and operands that meet the premises of each clause of `Obligations.TransitionsStartAndComplete`. -/
theorem witness_TransitionsStartAndComplete :
    (∃ (tag : Fin 32) (c : Cmd) (tgt : Mode) (legs : List Mode) (s : State), Ready 0x02 tag c s.dev ∧
        (∃ s0, State.foundBy (.setMode tag) s0 = s) ∧ tgt ≠ .m0 ∧ tgt ≠ .m1 ∧ c.payload = [byteOf tgt.code, 0] ∧ c.deadline = 0 ∧
        s.dev.busy = false ∧ s.dev.reach s.dev.mode.cur false tgt = some legs ∧ legs ≠ []) ∧
    (∃ (tag : Fin 32) (c : Cmd) (s : State), Ready 0x02 tag c s.dev ∧ (∃ s0, State.foundBy (.setMode tag) s0 = s) ∧
        4 ≤ s.dev.mode.cur.code ∧ s.dev.mode.cur ≠ .m11 ∧ c.payload = [byteOf s.dev.mode.cur.code, 0] ∧ c.deadline = 0 ∧
        s.dev.busy = false ∧ (s.dev.mode.cur.surface = false ∨ s.dev.drv.layoutOk = true)) ∧
    (∃ (r : Trans) (s : State), (∃ s0, State.foundBy .drainEnd s0 = s) ∧ s.dev.mode.run = some r ∧ r.draining = true ∧
        s.dev.workTags r.ends = []) ∧
    (∃ (r : Trans) (m : Mode) (s : State), (∃ s0, State.foundBy .transitionLegComplete s0 = s) ∧ s.dev.mode.run = some r ∧
        r.draining = false ∧ r.at_ ≠ .m2 ∧ m ≠ .m2 ∧ r.legs = [m] ∧ s.dev.mode.pending = none ∧ s.dev.islandBusy = false) ∧
    (∃ (s : State), (∃ s0, State.foundBy .m3WakeMatch s0 = s) ∧ s.dev.mode.cur = .m3 ∧ s.dev.mode.run = none) :=
  ⟨⟨3, c13_0, .m9, [.m9], (State.foundBy (.setMode 3) s13_0),
    by unfold Ready; decide +kernel, ⟨s13_0, rfl⟩, by decide +kernel⟩,
   ⟨3, c13_1, (State.foundBy (.setMode 3) s13_1),
    by unfold Ready; decide +kernel, ⟨s13_1, rfl⟩, by decide +kernel⟩,
   ⟨r13_2, (State.foundBy .drainEnd s13_2),
    ⟨s13_2, rfl⟩, by decide +kernel⟩,
   ⟨({ left := .m4, legs := [.m9] }), .m9, (State.foundBy .transitionLegComplete s13_3),
    ⟨s13_3, rfl⟩, by decide +kernel⟩,
   ⟨(State.foundBy .m3WakeMatch s13_4),
    ⟨s13_4, rfl⟩, by decide +kernel⟩⟩

def s14_0 : State := st fun d => (inM .m4 d).onPmu fun p => { p with vbkpOk := true }
def s14_1 : State := st (inM .m4)
def s14_2 : State := st (inM .m4)
def s14_3 : State := st (inM .m4)
def s14_4 : State := st fun d => (inM .m1 d).onPmu fun p => { p with vbkpOk := true, dom := p.dom.map fun m => { m with p := .down } }
def s14_5 : State := st (inM .m0)
def s14_6 : State := State.reset
def s14_7 : State := st (inM .m0)
def s14_8 : State := st (inM .m1)
def s14_9 : State := st (inM .m4)

/-- States and operands that meet the premises of each clause of `Obligations.SuppliesGovernTheMode`. -/
theorem witness_SuppliesGovernTheMode :
    (∃ (mv : Nat) (s : State), (∃ s0, State.foundBy (.vmainFall mv) s0 = s) ∧ mv < 9000 ∧ s.dev.mode.cur ≠ .m0 ∧ s.dev.mode.cur ≠ .m1 ∧
        s.dev.pmu.vbkpOk = true) ∧
    (∃ (mv : Nat) (s : State), (∃ s0, State.foundBy (.vmainFall mv) s0 = s) ∧ mv < 9000 ∧ s.dev.mode.cur ≠ .m0 ∧ s.dev.mode.cur ≠ .m1 ∧
        s.dev.pmu.vbkpOk = false) ∧
    (∃ (mv : Nat) (s : State), (∃ s0, State.foundBy (.vmainFall mv) s0 = s) ∧ 9000 ≤ mv) ∧
    (∃ (mv : Nat) (s : State), (∃ s0, State.foundBy (.vmainSag mv) s0 = s) ∧ 9000 ≤ mv ∧ mv ≤ 10200 ∧ s.dev.mode.cur ≠ .m0 ∧
        s.dev.mode.cur ≠ .m1) ∧
    (∃ (s : State), (∃ s0, State.foundBy .bkpReturn s0 = s) ∧ s.dev.mode.cur = .m1) ∧
    (∃ (mv : Nat) (s : State), (∃ s0, State.foundBy (.vmainQualified mv) s0 = s) ∧ 10200 < mv ∧ s.dev.mode.cur = .m0) ∧
    (∃ (mv : Nat) (s : State), (∃ s0, State.foundBy (.vioMeasure mv) s0 = s) ∧ s.dev.mode.cur = .m2 ∧ s.dev.pmu.boot = .waitVio ∧
        1620 ≤ mv ∧ mv ≤ 1980) ∧
    (∃ (mv : Nat) (s : State), (∃ s0, State.foundBy (.vbkpOkRise mv) s0 = s) ∧ 2400 ≤ mv ∧ s.dev.mode.cur = .m0) ∧
    (∃ (mv : Nat) (s : State), (∃ s0, State.foundBy (.vbkpOkFall mv) s0 = s) ∧ mv < 2300 ∧ s.dev.mode.cur = .m1) ∧
    (∃ (low : Bool) (mv : Nat) (s : State), (∃ s0, State.foundBy (.bkpLowChange low mv) s0 = s) ∧ s.dev.mode.cur ≠ .m0 ∧
        s.dev.mode.cur ≠ .m1 ∧ s.dev.pmu.bkpLow ≠ low ∧ ((low = true → mv < 2700)) ∧ ((low = false → 2800 ≤ mv))) :=
  ⟨⟨8990, (State.foundBy (.vmainFall 8990) s14_0),
    ⟨s14_0, rfl⟩, by decide +kernel⟩,
   ⟨8990, (State.foundBy (.vmainFall 8990) s14_1),
    ⟨s14_1, rfl⟩, by decide +kernel⟩,
   ⟨10000, (State.foundBy (.vmainFall 10000) s14_2),
    ⟨s14_2, rfl⟩, by decide +kernel⟩,
   ⟨10000, (State.foundBy (.vmainSag 10000) s14_3),
    ⟨s14_3, rfl⟩, by decide +kernel⟩,
   ⟨(State.foundBy .bkpReturn s14_4),
    ⟨s14_4, rfl⟩, by decide +kernel⟩,
   ⟨12000, (State.foundBy (.vmainQualified 12000) s14_5),
    ⟨s14_5, rfl⟩, by decide +kernel⟩,
   ⟨1620, (State.foundBy (.vioMeasure 1620) s14_6),
    ⟨s14_6, rfl⟩, by decide +kernel⟩,
   ⟨3000, (State.foundBy (.vbkpOkRise 3000) s14_7),
    ⟨s14_7, rfl⟩, by decide +kernel⟩,
   ⟨2200, (State.foundBy (.vbkpOkFall 2200) s14_8),
    ⟨s14_8, rfl⟩, by decide +kernel⟩,
   ⟨true, 2600, (State.foundBy (.bkpLowChange true 2600) s14_9),
    ⟨s14_9, rfl⟩, by decide +kernel⟩⟩

def s15_0 : State := st (inM .m4)
def s15_1 : State := st fun d => d.onPmu fun p => { p with boot := .held }
def r15_2 : Trans := { cause := 3, at_ := .m2, legs := [.m4] }
def s15_2 : State := bootable
def r15_3 : Trans := { cause := 3, at_ := .m2, legs := [.m4] }
def s15_3 : State := st fun d => d.onPmu fun p => { p with boot := .running }

/-- States and operands that meet the premises of each clause of `Obligations.ResetsAndBoot`. -/
theorem witness_ResetsAndBoot :
    (∃ (s : State), (∃ s0, State.foundBy .sysrstAssert s0 = s) ∧ s.dev.mode.cur ≠ .m0 ∧ s.dev.mode.cur ≠ .m1) ∧
    (∃ (s : State), (∃ s0, State.foundBy .sysrstDeassert s0 = s) ∧ s.dev.pmu.boot = .held) ∧
    (∃ (fs : Vector (Nat × Nat) 48) (b : Bool) (r : Trans) (s : State), (bootSelect s).1 = some b ∧
        (∃ s0, State.foundBy (.bootDone fs) s0 = s) ∧ s.dev.mode.cur = .m2 ∧ s.dev.pmu.boot = .running ∧ s.dev.mode.run = some r) ∧
    (∃ (r : Trans) (s : State), (∃ s0, State.foundBy .bootFail s0 = s) ∧ s.dev.mode.cur = .m2 ∧ s.dev.pmu.boot = .running ∧
        s.dev.mode.run = some r ∧ (bootSelect s).1 = none) :=
  ⟨⟨(State.foundBy .sysrstAssert s15_0),
    ⟨s15_0, rfl⟩, by decide +kernel⟩,
   ⟨(State.foundBy .sysrstDeassert s15_1),
    ⟨s15_1, rfl⟩, by decide +kernel⟩,
   ⟨(Vector.replicate 48 (0, 0)), false, r15_2, (State.foundBy (.bootDone (Vector.replicate 48 (0, 0))) s15_2),
    bootable_boots _, ⟨s15_2, rfl⟩, by decide +kernel⟩,
   ⟨r15_3, (State.foundBy .bootFail s15_3),
    ⟨s15_3, rfl⟩, by decide +kernel⟩⟩

def s16_0 : State := State.reset
def s16_1 : State := State.reset
def s16_3 : State := st fun d => d.onPin fun p => { p with fkill := true }
def s16_4 : State := st fun d => (atT (msT 1) d).onPin fun p => { p with resumeAt := some 0 }

/-- States and operands that meet the premises of each clause of `Obligations.KillsTurnEveryBridgeOff`. -/
theorem witness_KillsTurnEveryBridgeOff :
    (∃ (s : State), (∃ s0, State.foundBy .fkillAssert s0 = s) ∧ s.dev.pin.fkill = false) ∧
    (∃ (s : State), (∃ s0, State.foundBy (.swkillWrite true) s0 = s) ∧ s.dev.drv.swkill = false) ∧
    (∃ (s : State), (∃ s0, State.foundBy .fkillDeassert s0 = s) ∧ s.dev.pin.fkill = true) ∧
    (∃ (t0 : Nat) (s : State), (∃ s0, State.foundBy .probeResume s0 = s) ∧ s.dev.pin.resumeAt = some t0 ∧ s.dev.pin.fkill = false ∧
        t0 + msT 1 ≤ s.dev.now) :=
  ⟨⟨(State.foundBy .fkillAssert s16_0),
    ⟨s16_0, rfl⟩, by decide +kernel⟩,
   ⟨(State.foundBy (.swkillWrite true) s16_1),
    ⟨s16_1, rfl⟩, by decide +kernel⟩,
   ⟨(State.foundBy .fkillDeassert s16_3),
    ⟨s16_3, rfl⟩, by decide +kernel⟩,
   ⟨0, (State.foundBy .probeResume s16_4),
    ⟨s16_4, rfl⟩, by decide +kernel⟩⟩

def s17_0 : State := st (inM .m4)
def s17_1 : State := st fun d => fr 5 (fun f => { f with tx := .sending }) (inM .m7 d)
def ws17_2 : List TxW := [{ coil := 17, role := 1, amp := 40 }]
def s17_2 : State := st fun d => ztx 5 (fun t => { t with due := some [{ coil := 17, role := 1, amp := 40 }] })
    (coil 17 (fun c => { c with lay := { present := true, nb := [18] }, role := .free, owner := some 5 }) (atT 4000 (inM .m7 d)))
def ws17_3 : List TxW := [{ coil := 17, role := 1, amp := 40 }]
def s17_3 : State := st fun d => ztx 5 (fun t => { t with due := some [{ coil := 17, role := 1, amp := 40 }] }) (atT 4000 (inM .m7 d))
def ws17_4 : List TxW := [{ coil := 17, role := 1, amp := 40 }]
def s17_4 : State := st fun d => (ztx 5 (fun t => { t with due := some [{ coil := 17, role := 1, amp := 40 }] })
    (coil 17 (fun c => { c with lay := { present := true, nb := [18] }, role := .free, owner := some 5 })
    (atT 4000 ((inM .m7 d).onPrb fun p => { p with en := true })))).onDrv fun v => { v with ket := v.ket.map fun k => { k with warnNow := true }, probeRsv := 200, layoutOk := true }
def s17_5 : State := st fun d => ztx 5 (fun t => { t with cur := [{ coil := 17, role := 1, amp := 40 }], early := true })
    (coil 17 (fun c => { c with lay := { present := true, nb := [18] }, role := .free, owner := some 5 }) (inM .m7 d))
def s17_6 : State := st fun d => ztx 5 (fun t => { t with cur := [{ coil := 17, role := 1, amp := 40 }] })
    (coil 17 (fun c => { c with lay := { present := true, nb := [18] }, role := .free, owner := some 5 }) (inM .m7 d))
def s17_7 : State := st fun d => ztx 6 (fun t => { t with on := true })
    (ztx 5 (fun t => { t with cur := [{ coil := 17, role := 1, amp := 40 }] })
    (coil 18 (fun c => { c with role := .active, owner := some 6 })
    (coil 17 (fun c => { c with lay := { present := true, nb := [18] }, role := .active, owner := some 5 }) (inM .m7 d))))
def s17_8 : State := st fun d => ztx 6 (fun t => { t with on := true, rampNow := .rising })
    (ztx 5 (fun t => { t with cur := [{ coil := 17, role := 1, amp := 40 }] })
    (coil 18 (fun c => { c with role := .active, owner := some 6 })
    (coil 17 (fun c => { c with lay := { present := true, nb := [18] }, role := .active, owner := some 5 }) (inM .m7 d))))
def s17_9 : State := st (inM .m4)
def s17_10 : State := st fun d => ztx 5 (fun t => { t with cur := [{ coil := 17, role := 1, amp := 40 }], on := true, field := true, rampNow := .none, rampLen := 0 }) (coil 17 (fun c => { c with lay := { present := true, nb := [18] }, role := .free, owner := some 5 }) (inM .m7 d))
def s17_11 : State := st fun d => (ztx 5 (fun t => { t with cur := [{ coil := 17, role := 1, amp := 40 }], on := true, field := true, rampNow := .none, rampLen := 0 }) (coil 17 (fun c => { c with lay := { present := true, nb := [18] }, role := .free, owner := some 5 }) (inM .m7 d))).onDrv fun v => { v with swkill := true }
def s17_12 : State := st fun d => ztx 5 (fun t => { t with cur := [{ coil := 17, role := 1, amp := 40 }], on := true, field := true, rampNow := .rising, rampLen := 0 }) (coil 17 (fun c => { c with lay := { present := true, nb := [18] }, role := .free, owner := some 5 }) (inM .m7 d))
def s17_13 : State := st fun d => ztx 5 (fun t => { t with cur := [{ coil := 17, role := 1, amp := 40 }], on := true, field := true, rampNow := .falling, rampLen := 0 }) (coil 17 (fun c => { c with lay := { present := true, nb := [18] }, role := .free, owner := some 5 }) (inM .m7 d))
def s17_14 : State := st fun d => zeng 5 (fun z => { z with state := .closing })
    (ztx 5 (fun t => { t with cur := [{ coil := 17, role := 1, amp := 40 }], on := true, field := true, rampNow := .falling, rampLen := 0 }) (coil 17 (fun c => { c with lay := { present := true, nb := [18] }, role := .free, owner := some 5 }) (inM .m7 d)))

/-- States and operands that meet the premises of each clause of `Obligations.CommitsApplyAndFieldsRamp`. -/
theorem witness_CommitsApplyAndFieldsRamp :
    (∃ (n : Fin 24) (s : State), (∃ s0, State.foundBy (.txCommit n) s0 = s) ∧ s.dev.hf.fr[n].tx ≠ .sending) ∧
    (∃ (n : Fin 24) (s : State), (∃ s0, State.foundBy (.txCommit n) s0 = s) ∧ s.dev.hf.fr[n].tx = .sending) ∧
    (∃ (n : Fin 24) (cur : List (Fin 192 × Nat)) (ws : List TxW) (s : State), (∃ s0, State.foundBy (.commitApply n cur) s0 = s) ∧
        s.dev.tx[n].due = some ws ∧ usedTx ws = ws ∧ carrierAfter s.dev.tx[n].dueT ≤ s.dev.now ∧ s.dev.dueBelow n = [] ∧
        s.dev.ruleCode n ws = 0 ∧ (s.dev.limit n ws).refuse = false) ∧
    (∃ (n : Fin 24) (cur : List (Fin 192 × Nat)) (ws : List TxW) (s : State), (∃ s0, State.foundBy (.commitApply n cur) s0 = s) ∧
        s.dev.tx[n].due = some ws ∧ usedTx ws = ws ∧ carrierAfter s.dev.tx[n].dueT ≤ s.dev.now ∧ s.dev.dueBelow n = [] ∧
        s.dev.ruleCode n ws ≠ 0 ∧ s.dev.sf.zone[n].entry = none) ∧
    (∃ (n : Fin 24) (cur : List (Fin 192 × Nat)) (ws : List TxW) (s : State), (∃ s0, State.foundBy (.commitApply n cur) s0 = s) ∧
        s.dev.tx[n].due = some ws ∧ usedTx ws = ws ∧ carrierAfter s.dev.tx[n].dueT ≤ s.dev.now ∧ s.dev.dueBelow n = [] ∧
        s.dev.ruleCode n ws = 0 ∧ (s.dev.limit n ws).refuse = true) ∧
    (∃ (n : Fin 24) (cur : List (Fin 192 × Nat)) (s : State), (∃ s0, State.foundBy (.commitApply n cur) s0 = s) ∧
        s.dev.tx[n].due = none ∧ s.dev.tx[n].early = true) ∧
    (∃ (n : Fin 24) (s : State), (∃ s0, State.foundBy (.fieldWrite n true) s0 = s) ∧ s.dev.mode.cur.surface = true ∧
        s.dev.killed = false ∧ s.dev.tx[n].on = false ∧ s.dev.rivals n = []) ∧
    (∃ (n : Fin 24) (m : Fin 24) (s : State), (∃ s0, State.foundBy (.fieldWrite n true) s0 = s) ∧ s.dev.mode.cur.surface = true ∧
        s.dev.killed = false ∧ s.dev.tx[n].on = false ∧ m ∈ s.dev.rivals n ∧ s.dev.yields n m = false ∧ s.dev.sf.zone[n].entry = none) ∧
    (∃ (n : Fin 24) (s : State), (∃ s0, State.foundBy (.fieldWrite n true) s0 = s) ∧ s.dev.mode.cur.surface = true ∧
        s.dev.killed = false ∧ s.dev.tx[n].on = false ∧ ((∀ m ∈ s.dev.rivals n, s.dev.yields n m = true))) ∧
    (∃ (n : Fin 24) (s : State), (∃ s0, State.foundBy (.fieldWrite n true) s0 = s) ∧ s.dev.mode.cur.surface = false) ∧
    (∃ (n : Fin 24) (s : State), (∃ s0, State.foundBy (.fieldWrite n false) s0 = s) ∧ s.dev.killed = false ∧ s.dev.tx[n].on = true ∧
        s.dev.tx[n].rampNow ≠ .falling) ∧
    (∃ (n : Fin 24) (s : State), (∃ s0, State.foundBy (.fieldWrite n false) s0 = s) ∧ s.dev.killed = true ∧ s.dev.tx[n].on = true) ∧
    (∃ (n : Fin 24) (s : State), (∃ s0, State.foundBy (.fieldRampEnd n) s0 = s) ∧ s.dev.tx[n].rampNow = .rising ∧
        s.dev.tx[n].on = true ∧ s.dev.tx[n].rampT + s.dev.tx[n].rampLen ≤ s.dev.now) ∧
    (∃ (n : Fin 24) (s : State), (∃ s0, State.foundBy (.fieldRampEnd n) s0 = s) ∧ s.dev.tx[n].rampNow = .falling ∧
        s.dev.tx[n].rampT + s.dev.tx[n].rampLen ≤ s.dev.now ∧ s.dev.sf.zone[n].state ≠ .closing) ∧
    (∃ (n : Fin 24) (s : State), (∃ s0, State.foundBy (.fieldRampEnd n) s0 = s) ∧ s.dev.tx[n].rampNow = .falling ∧
        s.dev.tx[n].rampT + s.dev.tx[n].rampLen ≤ s.dev.now ∧ s.dev.sf.zone[n].state = .closing) :=
  ⟨⟨5, (State.foundBy (.txCommit 5) s17_0),
    ⟨s17_0, rfl⟩, by decide +kernel⟩,
   ⟨5, (State.foundBy (.txCommit 5) s17_1),
    ⟨s17_1, rfl⟩, by decide +kernel⟩,
   ⟨5, ([(17, 90)]), ws17_2, (State.foundBy (.commitApply 5 ([(17, 90)])) s17_2),
    ⟨s17_2, rfl⟩, by decide +kernel⟩,
   ⟨5, [], ws17_3, (State.foundBy (.commitApply 5 []) s17_3),
    ⟨s17_3, rfl⟩, by decide +kernel⟩,
   ⟨5, [], ws17_4, (State.foundBy (.commitApply 5 []) s17_4),
    ⟨s17_4, rfl⟩, by decide +kernel⟩,
   ⟨5, ([(17, 90)]), (State.foundBy (.commitApply 5 ([(17, 90)])) s17_5),
    ⟨s17_5, rfl⟩, by decide +kernel⟩,
   ⟨5, (State.foundBy (.fieldWrite 5 true) s17_6),
    ⟨s17_6, rfl⟩, by decide +kernel⟩,
   ⟨5, 6, (State.foundBy (.fieldWrite 5 true) s17_7),
    ⟨s17_7, rfl⟩, by decide +kernel⟩,
   ⟨5, (State.foundBy (.fieldWrite 5 true) s17_8),
    ⟨s17_8, rfl⟩, by decide +kernel⟩,
   ⟨5, (State.foundBy (.fieldWrite 5 true) s17_9),
    ⟨s17_9, rfl⟩, by decide +kernel⟩,
   ⟨5, (State.foundBy (.fieldWrite 5 false) s17_10),
    ⟨s17_10, rfl⟩, by decide +kernel⟩,
   ⟨5, (State.foundBy (.fieldWrite 5 false) s17_11),
    ⟨s17_11, rfl⟩, by decide +kernel⟩,
   ⟨5, (State.foundBy (.fieldRampEnd 5) s17_12),
    ⟨s17_12, rfl⟩, by decide +kernel⟩,
   ⟨5, (State.foundBy (.fieldRampEnd 5) s17_13),
    ⟨s17_13, rfl⟩, by decide +kernel⟩,
   ⟨5, (State.foundBy (.fieldRampEnd 5) s17_14),
    ⟨s17_14, rfl⟩, by decide +kernel⟩⟩

def s18_0 : State := st fun d => ket 2 (fun k => { k with parked := true }) (allUp (inM .m4 d))
def s18_1 : State := st fun d => ket 2 (fun k => { k with linkNow := true, link := true }) (allUp (inM .m4 d))
def s18_2 : State := st (inM .m4)
def m18_3 : PowerMeas := { coils := [17], kets := Vector.replicate 4 100, tot := 400 }
def s18_3 : State := st fun d => ztx 5 (fun t => { t with cur := [{ coil := 17, role := 1, amp := 40 }], on := true, field := true, driving := true, scale := 256 }) (coil 17 (fun c => { c with lay := { present := true, nb := [18] }, role := .free, owner := some 5 }) (inM .m7 d))
def m18_4 : PowerMeas := { coils := [17], kets := Vector.replicate 4 100, tot := 400 }
def s18_4 : State := st fun d => ztx 5 (fun t => { t with cur := [{ coil := 17, role := 1, amp := 40 }], on := true, field := true, driving := true, scale := 130 }) (coil 17 (fun c => { c with lay := { present := true, nb := [18] }, role := .free, owner := some 5 }) (inM .m7 d))

/-- States and operands that meet the premises of each clause of `Obligations.LinksAndLimits`. -/
theorem witness_LinksAndLimits :
    (∃ (k : Fin 4) (s : State), (∃ s0, State.foundBy (.driveLinkRefresh k) s0 = s) ∧ s.dev.linkRuns k = true ∧
        (s.dev.drv.ket[k]).linkNow = false) ∧
    (∃ (k : Fin 4) (s : State), (∃ s0, State.foundBy (.driveLinkRefresh k) s0 = s) ∧ s.dev.linkRuns k = true ∧
        (s.dev.drv.ket[k]).linkNow = true) ∧
    (∃ (ks : Vector (Nat × Int) 4) (cur : List (Fin 192 × Nat)) (s : State), (∃ s0, State.foundBy (.limiterReeval ks cur) s0 = s) ∧
        ((∀ n : Fin 24, (s.dev.hf.fr[n]).overT = none))) ∧
    (∃ (m : PowerMeas) (s : State), (∃ s0, State.foundBy (.backstopMeasure m) s0 = s) ∧ s.dev.mode.qual = none ∧ m.tot < 2 ^ 14 ∧
        ((∀ k : Fin 4, m.kets[k] < 2 ^ 12)) ∧ ((∀ n ∈ s.dev.overZones m, s.dev.tx[n].minScale + 16 ≤ s.dev.tx[n].scale))) ∧
    (∃ (m : PowerMeas) (n : Fin 24) (s : State), (∃ s0, State.foundBy (.backstopMeasure m) s0 = s) ∧ s.dev.mode.qual = none ∧
        n ∈ s.dev.overZones m ∧ s.dev.tx[n].scale < s.dev.tx[n].minScale + 16) :=
  ⟨⟨2, (State.foundBy (.driveLinkRefresh 2) s18_0),
    ⟨s18_0, rfl⟩, by decide +kernel⟩,
   ⟨2, (State.foundBy (.driveLinkRefresh 2) s18_1),
    ⟨s18_1, rfl⟩, by decide +kernel⟩,
   ⟨(Vector.replicate 4 (100, 40)), ([(17, 90)]), (State.foundBy (.limiterReeval (Vector.replicate 4 (100, 40)) ([(17, 90)])) s18_2),
    ⟨s18_2, rfl⟩, by decide +kernel⟩,
   ⟨m18_3, (State.foundBy (.backstopMeasure m18_3) s18_3),
    ⟨s18_3, rfl⟩, by decide +kernel⟩,
   ⟨m18_4, 5, (State.foundBy (.backstopMeasure m18_4) s18_4),
    ⟨s18_4, rfl⟩, by decide +kernel⟩⟩

def s19_0 : State := st fun d => coil 17 (fun c => { c with lay := { present := true, nb := [18] }, role := .free, owner := some 5 })
    (inM .m7 d)
def s19_1 : State := st (inM .m7)
def s19_2 : State := st fun d => ket 1 (fun k => { k with uv := true, uvNow := true }) (inM .m7 d)
def s19_3 : State := st fun d => coil 17 (fun c => { c with lay := { present := true, nb := [18] }, role := .free, owner := some 5 })
    (inM .m7 d)
def s19_4 : State := st fun d => (coil 17 fun c => { c with role := .fault, oc := true }) (inM .m7 d)
def s19_5 : State := st fun d => (coil 17 fun c => { c with role := .fault, oc := true, latched := true }) (inM .m7 d)
def s19_6 : State := st fun d => (coil 17 fun c => { c with role := .fault, oc := true, rearm := true }) (inM .m7 d)
def s19_7 : State := st fun d => (coil 17 fun c => { c with role := .fault, oc := true, rearm := true }) (inM .m7 d)

/-- States and operands that meet the premises of each clause of `Obligations.FaultsHoldCoilsOffUntilRearm`. -/
theorem witness_FaultsHoldCoilsOffUntilRearm :
    (∃ (c : Fin 192) (f : CoilFault) (s : State), (∃ s0, State.foundBy (.driverFault (.coil c f)) s0 = s) ∧
        (s.dev.drv.coil[c]).role ≠ .absent ∧ ((s.dev.drv.coil[c]).role ≠ .fault ∨ (s.dev.drv.coil[c]).rearm = true) ∧
        (f ≠ .opn ∨ ((s.dev.drv.coil[c]).word.en = true ∧ 32 ≤ (s.dev.drv.coil[c]).word.amp)) ∧ s.dev.drv.calAmp c = none ∧
        s.dev.mode.qual = none) ∧
    (∃ (k : Fin 4) (f : KetFault) (v : Nat) (x : Int) (s : State), (∃ s0, State.foundBy (.driverFault (.kettle k f v x)) s0 = s) ∧
        (s.dev.drv.ket[k]).has f = false ∧ f.met v x = true ∧ (f ≠ .link ∨ (s.dev.drv.ket[k]).parked = false) ∧
        s.dev.mode.qual = none) ∧
    (∃ (k : Fin 4) (f : KetFault) (v : Nat) (x : Int) (s : State), (∃ s0, State.foundBy (.kettleFaultClear k f v x) s0 = s) ∧
        (s.dev.drv.ket[k]).has f = true ∧ f.ended v x = true ∧ (f ≠ .link ∨ s.dev.linkRuns k = true)) ∧
    (∃ (cs : List (Fin 192)) (s : State), (∃ s0, State.foundBy (.ronMonitorScan cs) s0 = s) ∧ s.dev.mode.qual = none) ∧
    (∃ (c : Fin 192) (s : State), (∃ s0, State.foundBy (.rearm c) s0 = s) ∧ (s.dev.drv.coil[c]).role = .fault ∧
        (s.dev.drv.coil[c]).latched = false ∧ (s.dev.drv.coil[c]).rearm = false ∧ s.dev.mode.cur.hfAllowed = true ∧
        s.dev.mode.cur ≠ .m3) ∧
    (∃ (c : Fin 192) (s : State), (∃ s0, State.foundBy (.rearm c) s0 = s) ∧ (s.dev.drv.coil[c]).latched = true) ∧
    (∃ (c : Fin 192) (s : State), (∃ s0, State.foundBy (.rearmTestEnd c false false false) s0 = s) ∧ (s.dev.drv.coil[c]).rearm = true) ∧
    (∃ (c : Fin 192) (s : State), (∃ s0, State.foundBy (.rearmTestEnd c true false false) s0 = s) ∧ (s.dev.drv.coil[c]).rearm = true) :=
  ⟨⟨17, .oc, (State.foundBy (.driverFault (.coil 17 .oc)) s19_0),
    ⟨s19_0, rfl⟩, by decide +kernel⟩,
   ⟨1, .uv, 700, 40, (State.foundBy (.driverFault (.kettle 1 .uv 700 40)) s19_1),
    ⟨s19_1, rfl⟩, by decide +kernel⟩,
   ⟨1, .uv, 800, 40, (State.foundBy (.kettleFaultClear 1 .uv 800 40) s19_2),
    ⟨s19_2, rfl⟩, by decide +kernel⟩,
   ⟨[17], (State.foundBy (.ronMonitorScan [17]) s19_3),
    ⟨s19_3, rfl⟩, by decide +kernel⟩,
   ⟨17, (State.foundBy (.rearm 17) s19_4),
    ⟨s19_4, rfl⟩, by decide +kernel⟩,
   ⟨17, (State.foundBy (.rearm 17) s19_5),
    ⟨s19_5, rfl⟩, by decide +kernel⟩,
   ⟨17, (State.foundBy (.rearmTestEnd 17 false false false) s19_6),
    ⟨s19_6, rfl⟩, by decide +kernel⟩,
   ⟨17, (State.foundBy (.rearmTestEnd 17 true false false) s19_7),
    ⟨s19_7, rfl⟩, by decide +kernel⟩⟩

def c20_0 : Cmd := { opc := 0x80, payload := [1, byteOf 1, byteOf 10, byteOf 17] }
def s20_0 : State := run .m9 c20_0
def c20_1 : Cmd := { opc := 0x80, payload := [1, 0, 10, 17], phase := .coilSet }
def r20_1 : CalRun := { tag := 3, first := 10, last := 17 }
def s20_1 : State := st fun d => (has c20_1 (inM .m9 d)).onDrv (fun v => { v with calRun := some r20_1, seq := some { tag := 3, survey := false, todo := [] } })
def c20_2 : Cmd := { opc := 0x94, payload := List.replicate 12 0 }
def s20_2 : State := run .m10 c20_2
def c20_3 : Cmd := { opc := 0x94, payload := [1, 0, 100, 0, 17, 17, 40, 0, 0, 0, 0, 0] }
def s20_3 : State := st fun d => has c20_3 (coil 17 (fun c => { c with lay := { present := true, nb := [18] }, role := .free, owner := some 5 }) ((inM .m10 d).onDrv fun v => { v with layoutOk := true }))
def q20_4 : Qual := { test := 1, duration := 100, first := 17, last := 17, level := 40, tag := some 3 }
def c20_4 : Cmd := { opc := 0x94, payload := [1, 0, 100, 0, 17, 17, 40, 0, 0, 0, 0, 0], phase := .test }
def s20_4 : State := st fun d => has c20_4 (coil 17 (fun c => { c with lay := { present := true, nb := [18] }, role := .free, owner := some 5 }) (atT (msT 100) ((inM .m10 d).onMode fun m => { m with qual := some q20_4 })))
def q20_5 : Qual := { test := 1, duration := 100, first := 17, last := 17, level := 40, tag := some 3, hold := true }
def c20_5 : Cmd := { opc := 0x94, payload := [1, 1, 100, 0, 17, 17, 40, 0, 0, 0, 0, 0], phase := .test }
def s20_5 : State := st fun d => has c20_5 (coil 17 (fun c => { c with lay := { present := true, nb := [18] }, role := .free, owner := some 5 }) (atT (msT 100) ((inM .m10 d).onMode fun m => { m with qual := some q20_5 })))

/-- States and operands that meet the premises of each clause of `Obligations.CoilsAreCalibratedAndTested`. -/
theorem witness_CoilsAreCalibratedAndTested :
    (∃ (tag : Fin 32) (c : Cmd) (store : Nat) (first : Nat) (last : Nat) (s : State), Ready 0x80 tag c s.dev ∧
        (∃ s0, State.foundBy (.calibrateCoils tag) s0 = s) ∧ store < 2 ∧ first ≤ last ∧ last ≤ 191 ∧
        c.payload = [1, byteOf store, byteOf first, byteOf last] ∧ s.dev.drv.calRun = none ∧ s.dev.surveyAhead c.order = false) ∧
    (∃ (r : CalRun) (c : Cmd) (s : State), (∃ s0, State.foundBy .calibrateDone s0 = s) ∧ s.dev.drv.calRun = some r ∧ r.store = false ∧
        s.dev.seqDone r.tag = true ∧ s.dev.cmd r.tag = some c ∧ c.stopReq = false) ∧
    (∃ (tag : Fin 32) (draw : Nat) (c : Cmd) (s : State), Ready 0x94 tag c s.dev ∧ (∃ s0, State.foundBy (.qualify tag draw) s0 = s) ∧
        c.payload = List.replicate 12 0 ∧ s.dev.mode.cur = .m10 ∧ s.dev.mode.qual = none) ∧
    (∃ (tag : Fin 32) (draw : Nat) (c : Cmd) (k : Fin 192) (s : State), Ready 0x94 tag c s.dev ∧
        (∃ s0, State.foundBy (.qualify tag draw) s0 = s) ∧ c.payload.length = 12 ∧ s.dev.mode.cur = .m10 ∧ s.dev.mode.qual = none ∧
        s.dev.fade = none ∧ s.dev.qualOk c.payload = true ∧ byteAt c.payload 0 = 1 ∧ (byteAt c.payload 1).testBit 0 = false ∧
        c.deadline = 0 ∧ s.dev.drv.layoutOk = true ∧ s.dev.killed = false ∧ ((∀ j : Fin 4, (s.dev.drv.ket[j]).off = false)) ∧
        byteAt c.payload 4 ≤ k.val ∧ k.val ≤ byteAt c.payload 5 ∧ (s.dev.drv.coil[k]).role ≠ .absent ∧
        (s.dev.drv.coil[k]).role ≠ .fault) ∧
    (∃ (q : Qual) (tag : Fin 32) (c : Cmd) (s : State), (∃ s0, State.foundBy .qualifyTestEnd s0 = s) ∧ s.dev.mode.qual = some q ∧
        q.hf = true ∧ q.hold = false ∧ q.start + msT q.duration + q.len ≤ s.dev.now ∧ q.tag = some tag ∧ s.dev.cmd tag = some c) ∧
    (∃ (q : Qual) (tag : Fin 32) (c : Cmd) (s : State), (∃ s0, State.foundBy .qualifyTestEnd s0 = s) ∧ s.dev.mode.qual = some q ∧
        q.hf = true ∧ q.hold = true ∧ q.start + q.len ≤ s.dev.now ∧ q.tag = some tag ∧ s.dev.cmd tag = some c) :=
  ⟨⟨3, c20_0, 1, 10, 17, (State.foundBy (.calibrateCoils 3) s20_0),
    by unfold Ready; decide +kernel, ⟨s20_0, rfl⟩, by decide +kernel⟩,
   ⟨r20_1, c20_1, (State.foundBy .calibrateDone s20_1),
    ⟨s20_1, rfl⟩, by decide +kernel⟩,
   ⟨3, 0, c20_2, (State.foundBy (.qualify 3 0) s20_2),
    by unfold Ready; decide +kernel, ⟨s20_2, rfl⟩, by decide +kernel⟩,
   ⟨3, 0, c20_3, 17, (State.foundBy (.qualify 3 0) s20_3),
    by unfold Ready; decide +kernel, ⟨s20_3, rfl⟩, by decide +kernel⟩,
   ⟨q20_4, 3, c20_4, (State.foundBy .qualifyTestEnd s20_4),
    ⟨s20_4, rfl⟩, by decide +kernel⟩,
   ⟨q20_5, 3, c20_5, (State.foundBy .qualifyTestEnd s20_5),
    ⟨s20_5, rfl⟩, by decide +kernel⟩⟩

def s21_0 : State := st fun d => coil 17 (fun c => { c with role := .free }) (rxch 17 (fun x => { x with badT := none })
    (allUp (inM .m4 d)))
def s21_1 : State := st fun d => coil 17 (fun c => { c with role := .active, owner := some 5 })
    (rxch 17 (fun x => { x with badT := none }) (allUp (inM .m7 d)))
def s21_2 : State := State.reset
def s21_3 : State := st fun d => atT (16 * 8192) (coil 17 (fun c => { c with role := .free })
    (rxch 17 (fun x => { x with badT := none }) (allUp (inM .m4 d))))
def s21_4 : State := st fun d => atT 16 (coil 17 (fun c => { c with role := .free }) (rxch 17 (fun x => { x with badT := none })
    (allUp (inM .m4 d))))
def s21_5 : State := st fun d => atT (16 * 8192) (coil 17 (fun c => { c with role := .active, owner := some 5 })
    (rxch 17 (fun x => { x with badT := none }) (allUp (inM .m7 d))))
def s21_6 : State := State.reset
def s21_8 : State := State.reset
def s21_9 : State := State.reset
def s21_10 : State := State.reset

/-- States and operands that meet the premises of each clause of `Obligations.ReceiveChannelsFollowTheirControls`. -/
theorem witness_ReceiveChannelsFollowTheirControls :
    (∃ (c : Fin 192) (x : Int) (ws : AdcWords) (s : State), (∃ s0, State.foundBy (.adcOverrange c x ws) s0 = s) ∧
        (s.dev.pmu.dom[hfrxDom c]).p = .up ∧ 98 * 8192 ≤ 100 * x.natAbs ∧ s.dev.setOf c = none ∧ (s.dev.rx.ch[c]).saved = none ∧
        0 < (s.dev.rx.ch[c]).gain) ∧
    (∃ (c : Fin 192) (n : Fin 24) (x : Int) (ws : AdcWords) (s : State), (∃ s0, State.foundBy (.adcOverrange c x ws) s0 = s) ∧
        (s.dev.pmu.dom[hfrxDom c]).p = .up ∧ 98 * 8192 ≤ 100 * x.natAbs ∧ s.dev.setOf c = some n) ∧
    (∃ (c : Fin 192) (x : Int) (s : State), (∃ s0, State.foundBy (.adcOverrange c x []) s0 = s) ∧ 100 * x.natAbs < 98 * 8192) ∧
    (∃ (c : Fin 192) (ws : List (Fin 192 × AdcWords)) (s : State), (∃ s0, State.foundBy (.agcWindowEnd c ws) s0 = s) ∧
        s.dev.alwaysInv c = false ∧ s.dev.setOf c = none ∧ (s.dev.rx.ch[c]).saved = none ∧
        s.dev.rx.agcWin ≤ s.dev.validIn [c] (s.dev.rx.ch[c]).winT s.dev.now) ∧
    (∃ (c : Fin 192) (ws : List (Fin 192 × AdcWords)) (s : State), (∃ s0, State.foundBy (.agcWindowEnd c ws) s0 = s) ∧
        s.dev.setOf c = none ∧ s.dev.validIn [c] (s.dev.rx.ch[c]).winT s.dev.now < s.dev.rx.agcWin) ∧
    (∃ (c : Fin 192) (n : Fin 24) (ws : List (Fin 192 × AdcWords)) (s : State), (∃ s0, State.foundBy (.agcWindowEnd c ws) s0 = s) ∧
        s.dev.alwaysInv c = false ∧ s.dev.setOf c = some n ∧ (s.dev.rx.zone[n]).agc = 0 ∧ (s.dev.rx.zone[n]).frozen = false ∧
        (s.dev.rx.zone[n]).gain < 6 ∧ s.dev.rx.agcWin ≤ s.dev.validIn (s.dev.members n) (s.dev.rx.zone[n]).winT s.dev.now ∧
        16 * (ws.map fun x => peakOf x.2).foldl max 0 < s.dev.rx.lowTh * 8192) ∧
    (∃ (c : Fin 192) (s : State), (∃ s0, State.foundBy (.invalidRunEnd c) s0 = s) ∧ (s.dev.rx.ch[c]).invEnd ≤ s.dev.now) ∧
    (∃ (n : Fin 24) (p : Nat) (s : State), (∃ s0, State.foundBy (.filtWrite n p) s0 = s) ∧ p ≤ 2) ∧
    (∃ (n : Fin 24) (gfix : Nat) (s : State), (∃ s0, State.foundBy (.agcModeWrite n 2 gfix) s0 = s) ∧ gfix < 7 ∧
        (s.dev.rx.zone[n]).gain ≠ gfix) ∧
    (∃ (n : Fin 24) (gfix : Nat) (s : State), (∃ s0, State.foundBy (.agcModeWrite n 0 gfix) s0 = s) ∧ gfix < 7) :=
  ⟨⟨17, 8191, [], (State.foundBy (.adcOverrange 17 8191 []) s21_0),
    ⟨s21_0, rfl⟩, by decide +kernel⟩,
   ⟨17, 5, (-8192), [], (State.foundBy (.adcOverrange 17 (-8192) []) s21_1),
    ⟨s21_1, rfl⟩, by decide +kernel⟩,
   ⟨17, 8027, (State.foundBy (.adcOverrange 17 8027 []) s21_2),
    ⟨s21_2, rfl⟩, by decide +kernel⟩,
   ⟨17, [], (State.foundBy (.agcWindowEnd 17 []) s21_3),
    ⟨s21_3, rfl⟩, by decide +kernel⟩,
   ⟨17, [], (State.foundBy (.agcWindowEnd 17 []) s21_4),
    ⟨s21_4, rfl⟩, by decide +kernel⟩,
   ⟨17, 5, [], (State.foundBy (.agcWindowEnd 17 []) s21_5),
    ⟨s21_5, rfl⟩, by decide +kernel⟩,
   ⟨17, (State.foundBy (.invalidRunEnd 17) s21_6),
    ⟨s21_6, rfl⟩, by decide +kernel⟩,
   ⟨5, 2, (State.foundBy (.filtWrite 5 2) s21_8),
    ⟨s21_8, rfl⟩, by decide +kernel⟩,
   ⟨5, 6, (State.foundBy (.agcModeWrite 5 2 6) s21_9),
    ⟨s21_9, rfl⟩, by decide +kernel⟩,
   ⟨5, 6, (State.foundBy (.agcModeWrite 5 0 6) s21_10),
    ⟨s21_10, rfl⟩, by decide +kernel⟩⟩

def s22_0 : State := st fun d => coil 17 (fun c => { c with role := .active, owner := some 5 })
    (rxch 17 (fun x => { x with badT := none }) (allUp ((lz 5 (fun z => { z with cls := .recog, listen := true })
    ((atT 320000 (inM .m7 d)).onLau fun l => { l with eng := upd l.eng 9 fun e => { e with cls := .recog, zone := some 5, folds := [(0, 0)] } })).onLau fun l => { l with lib := true })))
def s22_1 : State := st fun d => (fun d => (lz 5 (fun z => { z with cls := .recog, listen := true }) d).onLau fun l => { l with lib := true }) ((atT 320000 (inM .m7 d)).onLau fun l => { l with eng := upd l.eng 9 fun e => { e with cls := .recog, zone := some 5, folds := [(0, 0)] } })
def s22_2 : State := State.reset
def s22_3 : State := st fun d => lz 5 (fun z => { z with search := [{ tid := 1, var := 0, score := 700, th := 460, quiet := false, phc := 9, tsc := 9 }] }) (atT 1000 (inM .m7 d))
def b22_4 : Cross := { tid := 1, var := 0, score := 700, th := 460, quiet := false, phc := 9, tsc := 9 }
def s22_4 : State := st fun d => lz 5 (fun z => { z with search := [{ tid := 1, var := 0, score := 700, th := 460, quiet := false, phc := 9, tsc := 9 }], due := some 900 }) (atT 1000 (inM .m7 d))

/-- States and operands that meet the premises of each clause of `Obligations.DetectionsAreSearchedAndDeclared`. -/
theorem witness_DetectionsAreSearchedAndDeclared :
    (∃ (n : Fin 24) (tid : Nat) (var : Nat) (xs : List Cplx) (u : Tmpl) (s : State), (∃ s0,
        State.foundBy (.templateCrossing n tid var xs) s0 = s) ∧ tmpl tid = some u ∧ s.dev.lau.lib = true ∧ s.dev.runs n u = true ∧
        (s.dev.lau.zone[n]).hold = false ∧ (s.dev.lau.zone[n]).due = none ∧
        ((s.dev.lau.zone[n]).listen = true ∨ (s.dev.lau.zone[n]).crossed tid ≠ none) ∧ 7 * u.span ≤ 8 * s.dev.validWords n u) ∧
    (∃ (n : Fin 24) (tid : Nat) (var : Nat) (xs : List Cplx) (u : Tmpl) (s : State), (∃ s0,
        State.foundBy (.templateCrossing n tid var xs) s0 = s) ∧ tmpl tid = some u ∧ s.dev.lau.lib = true ∧ s.dev.runs n u = true ∧
        (s.dev.lau.zone[n]).listen = true ∧ (s.dev.lau.zone[n]).hold = false ∧ (s.dev.lau.zone[n]).due = none ∧
        (s.dev.lau.zone[n]).crossed tid = none ∧ 8 * s.dev.validWords n u < 7 * u.span) ∧
    (∃ (n : Fin 24) (tid : Nat) (var : Nat) (xs : List Cplx) (u : Tmpl) (s : State),
        s.dev.score n u (if tid = 14 then var % 3 else 0) xs < s.dev.threshold n u ∧
        (∃ s0, State.foundBy (.templateCrossing n tid var xs) s0 = s) ∧ tmpl tid = some u ∧ (s.dev.lau.zone[n]).crossed tid = none) ∧
    (∃ (n : Fin 24) (s : State), (∃ s0, State.foundBy (.peakSearchEnd n) s0 = s) ∧ (s.dev.lau.zone[n]).search ≠ [] ∧
        (s.dev.lau.zone[n]).due = none ∧ (16 * s.dev.lau.peakWin ≤ s.dev.now - (s.dev.lau.zone[n]).lastMax ∨ 4096 ≤ s.dev.now - (s.dev.lau.zone[n]).firstAt)) ∧
    (∃ (n : Fin 24) (mag : Nat) (phase : Nat) (frac : Nat) (t0 : Nat) (b : Cross) (s : State), (∃ s0,
        State.foundBy (.detectionDeclare n mag phase frac) s0 = s) ∧ (s.dev.lau.zone[n]).due = some t0 ∧ t0 ≤ s.dev.now ∧
        bestOf (s.dev.lau.zone[n]).search = some b ∧ (s.dev.hf.fr[n]).abandT ≠ some s.dev.now) :=
  ⟨⟨5, 1, 0, [], (⟨1, [0], 1, 512, 0, 300, 460⟩), (State.foundBy (.templateCrossing 5 1 0 []) s22_0),
    ⟨s22_0, rfl⟩, by decide +kernel⟩,
   ⟨5, 1, 0, [], (⟨1, [0], 1, 512, 0, 300, 460⟩), (State.foundBy (.templateCrossing 5 1 0 []) s22_1),
    ⟨s22_1, rfl⟩, by decide +kernel⟩,
   ⟨5, 1, 0, ([(100, 0)]), (⟨1, [0], 1, 512, 0, 300, 460⟩), (State.foundBy (.templateCrossing 5 1 0 ([(100, 0)])) s22_2),
    by rw [score_none (emptied_none (by decide +kernel))]; decide +kernel, ⟨s22_2, rfl⟩, by decide +kernel⟩,
   ⟨5, (State.foundBy (.peakSearchEnd 5) s22_3),
    ⟨s22_3, rfl⟩, by decide +kernel⟩,
   ⟨5, 300, 100, 7, 900, b22_4, (State.foundBy (.detectionDeclare 5 300 100 7) s22_4),
    ⟨s22_4, rfl⟩, by decide +kernel⟩⟩

def s23_0 : State := st fun d => zeng 5 (fun z => { z with state := .opened, entry := some 7, identified := true }) (inM .m7 d)
def s23_1 : State := st fun d => lz 5 (fun z => { z with hold := true })
    (zeng 5 (fun z => { z with state := .opened, entry := some 7, identified := true }) (inM .m7 d))
def s23_2 : State := st fun d => (zeng 5 (fun z => { z with state := .opened, entry := some 7, identified := true })
    (lz 3 (fun z => { z with wait := some { cls := .recog, tmask := 0, held := false, since := 100 } })
    (lz 2 (fun z => { z with wait := some { cls := .recog, tmask := 0, held := false, since := 200 } })
    (lz 9 (fun z => { z with wait := some { cls := .recog, tmask := 0, held := false, since := 200 } })
    (atT 200 (inM .m7 d)))))).onLau fun l => { l with order := [3, 2, 9] }
def r23_3 : LReq := { cls := .recog, tmask := 0, held := false, since := 0 }
def s23_3 : State := st fun d => (lz 5 (fun z => { z with wait := some r23_3 })
    (zeng 5 (fun z => { z with state := .opened, entry := some 7, identified := true })
    (inM .m7 d))).onLau fun l => { l with order := [5] }
def s23_4 : State := st (inM .m4)
def s23_5 : State := st (inM .m4)
def s23_6 : State := st (inM .m7)

/-- States and operands that meet the premises of each clause of `Obligations.EnginesAndBurstsAreGranted`. -/
theorem witness_EnginesAndBurstsAreGranted :
    (∃ (n : Fin 24) (m : Nat) (s : State), (∃ s0, State.foundBy (.lzReq n 2 m) s0 = s) ∧ (s.dev.sf.zone[n]).state = .opened ∧
        trackRefuse (m % 16384) ≠ 0) ∧
    (∃ (n : Fin 24) (m : Nat) (s : State), (∃ s0, State.foundBy (.lzReq n 1 m) s0 = s) ∧ (s.dev.sf.zone[n]).state = .opened ∧
        (s.dev.lau.zone[n]).hold = true) ∧
    (∃ (n : Fin 24) (m : Nat) (a : List (Fin 24)) (b : List (Fin 24)) (s : State), (∃ s0, State.foundBy (.lzReq n 1 m) s0 = s) ∧
        (s.dev.sf.zone[n]).state = .opened ∧ (s.dev.lau.zone[n]).hold = false ∧ (s.dev.lau.zone[n]).cls = .none ∧
        s.dev.lau.order.filter (fun k => k ≠ n) = a ++ b ∧ ((∀ k ∈ a, ∃ r, (s.dev.lau.zone[k]).wait = some r ∧
        (r.since < s.dev.now ∨ k < n))) ∧ ((∀ k, b.head? = some k → ∃ r, (s.dev.lau.zone[k]).wait = some r ∧ s.dev.now ≤ r.since ∧
        n ≤ k))) ∧
    (∃ (n : Fin 24) (rest : List (Fin 24)) (r : LReq) (s : State), (∃ s0, State.foundBy .engineGrant s0 = s) ∧
        s.dev.lau.order = n :: rest ∧ s.dev.lau.probing = false ∧ (s.dev.lau.zone[n]).wait = some r ∧
        r.cls.need ≤ s.dev.lau.freeEng.length + (s.dev.lau.zone[n]).cls.need) ∧
    (∃ (v : Nat) (s : State), (∃ s0, State.foundBy (.probeEngChange v) s0 = s) ∧ 2 ≤ v ∧ v ≤ 8) ∧
    (∃ (v : Nat) (s : State), (∃ s0, State.foundBy (.probeEngChange v) s0 = s) ∧ (v < 2 ∨ 8 < v)) ∧
    (∃ (rs : List Reading) (s : State), (∃ s0, State.foundBy (.probeSlotBoundary rs) s0 = s) ∧ s.dev.mode.cur.surface = true) :=
  ⟨⟨5, 0, (State.foundBy (.lzReq 5 2 0) s23_0),
    ⟨s23_0, rfl⟩, by decide +kernel⟩,
   ⟨5, 0, (State.foundBy (.lzReq 5 1 0) s23_1),
    ⟨s23_1, rfl⟩, by decide +kernel⟩,
   ⟨5, 0, ([3, 2]), [9], (State.foundBy (.lzReq 5 1 0) s23_2),
    ⟨s23_2, rfl⟩, by decide +kernel⟩,
   ⟨5, [], r23_3, (State.foundBy .engineGrant s23_3),
    ⟨s23_3, rfl⟩, by decide +kernel⟩,
   ⟨8, (State.foundBy (.probeEngChange 8) s23_4),
    ⟨s23_4, rfl⟩, by decide +kernel⟩,
   ⟨9, (State.foundBy (.probeEngChange 9) s23_5),
    ⟨s23_5, rfl⟩, by decide +kernel⟩,
   ⟨[], (State.foundBy (.probeSlotBoundary []) s23_6),
    ⟨s23_6, rfl⟩, by decide +kernel⟩⟩

def s24_0 : State := st fun d => coil 17 (fun c => { c with role := .free })
    (zeng 5 (fun z => { z with coilk := upd z.coilk 0 fun _ => (17, 1), entry := some 7 }) (inM .m7 d))
def s24_1 : State := st fun d => coil 17 (fun c => { c with role := .fault })
    (zeng 5 (fun z => { z with coilk := upd z.coilk 0 fun _ => (17, 1), entry := some 7 }) (inM .m7 d))
def s24_2 : State := st fun d => zeng 5 (fun z => { z with state := .opened, entry := some 7, identified := true })
    (entry 7 { zone := some 5, state := .opened, proto := 11, uid := [1, 2, 3, 4, 5, 6, 7, 8], coils := [17] } (inM .m7 d))
def s24_3 : State := st fun d => zeng 5 (fun z => { z with state := .opened, entry := some 7, identified := true })
    (entry 7 { zone := some 5, state := .opened, proto := 11, uid := [1, 2, 3, 4, 5, 6, 7, 8], coils := [17] } (atT (msT 600)
    (inM .m7 d)))
def s24_4 : State := st fun d => zeng 5 (fun z => { z with state := .closing, entry := some 7 })
    (entry 7 { zone := some 5, state := .opened, proto := 11, uid := [1, 2, 3, 4, 5, 6, 7, 8], coils := [17] } (inM .m7 d))

/-- States and operands that meet the premises of each clause of `Obligations.ZonesOpenAndClose`. -/
theorem witness_ZonesOpenAndClose :
    (∃ (n : Fin 24) (s : State), (∃ s0, State.foundBy (.zoneOpen n) s0 = s) ∧ (s.dev.sf.zone[n]).state = .free ∧
        s.dev.openable n = true) ∧
    (∃ (n : Fin 24) (s : State), (∃ s0, State.foundBy (.zoneOpen n) s0 = s) ∧ (s.dev.sf.zone[n]).state = .free ∧
        s.dev.openable n = false ∧ (s.dev.sf.zone[n]).reserved = false) ∧
    (∃ (n : Fin 24) (cause : Nat) (s : State), (∃ s0, State.foundBy (.zoneClose n cause) s0 = s) ∧ (s.dev.sf.zone[n]).state = .opened) ∧
    (∃ (n : Fin 24) (s : State), s.dev.zoneIdle n = true ∧ (∃ s0, State.foundBy (.holdTimeExpiry n) s0 = s) ∧
        (s.dev.sf.zone[n]).state = .opened ∧ (s.dev.sf.zone[n]).identified = true ∧
        msT s.dev.sf.holdMs ≤ s.dev.now - (s.dev.sf.zone[n]).lastUse) ∧
    (∃ (n : Fin 24) (s : State), (∃ s0, State.foundBy (.zoneCloseDone n) s0 = s) ∧ (s.dev.sf.zone[n]).state = .closing ∧
        s.dev.tx[n].on = false) :=
  ⟨⟨5, (State.foundBy (.zoneOpen 5) s24_0),
    ⟨s24_0, rfl⟩, by decide +kernel⟩,
   ⟨5, (State.foundBy (.zoneOpen 5) s24_1),
    ⟨s24_1, rfl⟩, by decide +kernel⟩,
   ⟨5, 1, (State.foundBy (.zoneClose 5 1) s24_2),
    ⟨s24_2, rfl⟩, by decide +kernel⟩,
   ⟨5, (State.foundBy (.holdTimeExpiry 5) s24_3),
    by unfold Dev.zoneIdle; rw [onZ_one (d := (State.foundBy (.holdTimeExpiry 5) s24_3).dev) (i := 7) (e :=
        { zone := some 5, state := .opened, proto := 11, uid := [1, 2, 3, 4, 5, 6, 7, 8], coils := [17] }) rfl rfl]; decide +kernel,
        ⟨s24_3, rfl⟩, by decide +kernel⟩,
   ⟨5, (State.foundBy (.zoneCloseDone 5) s24_4),
    ⟨s24_4, rfl⟩, by decide +kernel⟩⟩

def c25_0 : Cmd := { opc := 0x18, payload := [7, 0, 0, 0, 0, 0, 0, 0, 1], phase := .zone, entry := 7 }
def s25_0 : State := st fun d => has c25_0 (atT (msT 300) (inM .m7 d))
def c25_1 : Cmd := { opc := 0x10, payload := le 2 500 ++ le 2 200 ++ [byteOf 1, byteOf 2, 0, 0] }
def s25_1 : State := run .m7 c25_1
def s25_2 : State := st fun d => (entry 7 { zone := some 5, state := .opened, proto := 11, uid := [1, 2, 3, 4, 5, 6, 7, 8], coils := [17] } (inM .m7 d)).onSf fun x => { x with newPolicy := some ((400, 100, true, 3)) }
def e25_3 : Entry := { zone := some 5, state := .opened, proto := 11, uid := [1, 2, 3, 4, 5, 6, 7, 8], coils := [17] }
def s25_3 : State := st fun d => (zeng 5 (fun z => { z with state := .opened, entry := some 7, identified := true })
    (entry 7 { zone := some 5, state := .opened, proto := 11, uid := [1, 2, 3, 4, 5, 6, 7, 8], coils := [17] } (inM .m7 d))).onSf fun x => { x with pend := [.gone 7 9] }

/-- States and operands that meet the premises of each clause of `Obligations.PresencePolicyAndEntries`. -/
theorem witness_PresencePolicyAndEntries :
    (∃ (tag : Fin 32) (c : Cmd) (s : State), (∃ s0, State.foundBy (.zoneWaitTimeout tag) s0 = s) ∧ s.dev.cmd tag = some c ∧ c.opc ≠ 4 ∧
        c.phase = .zone ∧ c.deadline = 0 ∧ msT s.dev.sf.zwaitMs ≤ s.dev.now - c.waitT) ∧
    (∃ (tag : Fin 32) (c : Cmd) (hold : Nat) (wait : Nat) (auto_ : Nat) (act : Nat) (s : State), Ready 0x10 tag c s.dev ∧
        (∃ s0, State.foundBy (.surfaceStart tag) s0 = s) ∧ hold ≤ 60000 ∧ 1 ≤ wait ∧ wait ≤ 5000 ∧ auto_ ≤ 1 ∧ 1 ≤ act ∧ act ≤ 9 ∧
        c.payload = le 2 hold ++ le 2 wait ++ [byteOf auto_, byteOf act, 0, 0]) ∧
    (∃ (p : Nat × Nat × Bool × Nat) (s : State), s.dev.waitList = [] ∧ (∃ s0, State.foundBy .presenceUpdateStep s0 = s) ∧
        (s.dev.room.lastRoom = true ∨ s.dev.presDue = false ∨ s.dev.roomDue = false) ∧ s.dev.sf.pend = [] ∧
        s.dev.sf.newPolicy = some p) ∧
    (∃ (i : Fin 512) (e : Entry) (phc : Word) (s : State), ((∀ (j : Fin 512) (x : Entry), s.dev.sf.entry[j] = some x →
        j = i ∨ x.state ≠ .waiting)) ∧ (∃ s0, State.foundBy .presenceUpdateStep s0 = s) ∧
        (s.dev.room.lastRoom = true ∨ s.dev.presDue = false ∨ s.dev.roomDue = false) ∧ s.dev.sf.pend = [.gone i.val phc] ∧
        s.dev.sf.entry[i] = some e) :=
  ⟨⟨3, c25_0, (State.foundBy (.zoneWaitTimeout 3) s25_0),
    ⟨s25_0, rfl⟩, by decide +kernel⟩,
   ⟨3, c25_1, 500, 200, 1, 2, (State.foundBy (.surfaceStart 3) s25_1),
    by unfold Ready; decide +kernel, ⟨s25_1, rfl⟩, by decide +kernel⟩,
   ⟨((400, 100, true, 3)), (State.foundBy .presenceUpdateStep s25_2),
    waitList_one (i := 7) (e := { zone := some 5, state := .opened, proto := 11, uid := [1, 2, 3, 4, 5, 6, 7, 8], coils := [17] }) rfl (by decide), ⟨s25_2, rfl⟩, by decide +kernel⟩,
   ⟨7, e25_3, 9, (State.foundBy .presenceUpdateStep s25_3),
    fun j x h => by rw [get_one (v := (State.foundBy .presenceUpdateStep s25_3).dev.sf.entry) (i := 7) (e :=
        e25_3) rfl] at h; split at h <;> simp_all [e25_3], ⟨s25_3, rfl⟩, by decide +kernel⟩⟩

def c26_0 : Cmd := { opc := 5, payload := [byteOf 3, 3, 0, 0, 0, 0, 0, 0] }
def s26_0 : State := run .m7 c26_0
def c26_1 : Cmd := { opc := 5, payload := [byteOf 3, 1, 0, 0, 0, 0, 0, 0] }
def s26_1 : State := st fun d => has c26_1 ((inM .m7 d).onSf fun v => { v with entry := Vector.replicate 512 (some { uid := List.replicate 16 1 }) })
def s26_2 : State := st fun d => (atT (msT 1000)
    (inM .m7 d)).onSf fun v => { v with snap := upd v.snap 1 fun _ => some ({ hasPres := true }) }

/-- States and operands that meet the premises of each clause of `Obligations.SnapshotsFreezeTables`. -/
theorem witness_SnapshotsFreezeTables :
    (∃ (tag : Fin 32) (c : Cmd) (table : Nat) (b : Fin 2) (s : State), Ready 0x05 tag c s.dev ∧
        (∃ s0, State.foundBy (.snapshot tag) s0 = s) ∧ 1 ≤ table ∧ table ≤ 3 ∧ c.payload = [byteOf table, 3, 0, 0, 0, 0, 0, 0] ∧
        ((List.finRange 2).find? fun k => (s.dev.sf.snap[k]).isNone) = some b) ∧
    (∃ (tag : Fin 32) (c : Cmd) (table : Nat) (b : Fin 2) (s : State), Ready 0x05 tag c s.dev ∧
        (∃ s0, State.foundBy (.snapshot tag) s0 = s) ∧ 1 ≤ table ∧ table ≤ 3 ∧ c.payload = [byteOf table, 1, 0, 0, 0, 0, 0, 0] ∧
        ((List.finRange 2).find? fun k => (s.dev.sf.snap[k]).isNone) = some b ∧
        ((s.dev.frozenAt tag.val table).reply b.val (if table.testBit 0 then 0 else 512)).2 = false) ∧
    (∃ (b : Fin 2) (x : Snap) (s : State), (∃ s0, State.foundBy (.snapshotReleaseTimeout b) s0 = s) ∧ s.dev.sf.snap[b] = some x ∧
        x.named + msT 1000 ≤ s.dev.now) :=
  ⟨⟨3, c26_0, 3, 0, (State.foundBy (.snapshot 3) s26_0),
    by unfold Ready; decide +kernel, ⟨s26_0, rfl⟩, by decide +kernel⟩,
   ⟨3, c26_1, 3, 0, (State.foundBy (.snapshot 3) s26_1),
    by unfold Ready; decide +kernel, ⟨s26_1, rfl⟩, by decide +kernel⟩,
   ⟨1, ({ hasPres := true }), (State.foundBy (.snapshotReleaseTimeout 1) s26_2),
    ⟨s26_2, rfl⟩, by decide +kernel⟩⟩

def s27_0 : State := st fun d => zeng 5 (fun z => { z with state := .opened, entry := some 7, identified := true }) (inM .m7 d)
def s27_1 : State := st fun d => lz 5 (fun z => { z with hold := true })
    (zeng 5 (fun z => { z with state := .opened, entry := some 7, identified := true }) (inM .m7 d))
def s27_2 : State := st fun d => fr 5 (fun f => { f with tx := .sending })
    (zeng 5 (fun z => { z with state := .opened, entry := some 7, identified := true }) (inM .m7 d))
def s27_3 : State := st fun d => fr 5 (fun f => { f with winFrom := some 0 })
    (zeng 5 (fun z => { z with state := .opened, entry := some 7, identified := true }) (atT 40000 (inM .m7 d)))
def s27_4 : State := st fun d => fr 5 (fun f => { f with winFrom := some 0 }) (lz 5 (fun z => { z with listen := true })
    (zeng 5 (fun z => { z with state := .opened, entry := some 7, identified := true }) (atT 40000 (inM .m7 d))))

/-- States and operands that meet the premises of each clause of `Obligations.FramesAreSentAndAwaited`. -/
theorem witness_FramesAreSentAndAwaited :
    (∃ (n : Fin 24) (s : State), (∃ s0, State.foundBy (.frameSend n) s0 = s) ∧ (s.dev.sf.zone[n]).state = .opened ∧
        (s.dev.hf.fr[n]).tx ≠ .sending ∧ (s.dev.lau.zone[n]).hold = false) ∧
    (∃ (n : Fin 24) (s : State), (∃ s0, State.foundBy (.frameSend n) s0 = s) ∧ (s.dev.sf.zone[n]).state = .opened ∧
        (s.dev.hf.fr[n]).tx ≠ .sending ∧ (s.dev.lau.zone[n]).hold = true) ∧
    (∃ (n : Fin 24) (s : State), (∃ s0, State.foundBy (.frameTxEnd n) s0 = s) ∧ (s.dev.hf.fr[n]).tx = .sending ∧
        (s.dev.hf.fr[n]).slots.head? ≠ some .sensf) ∧
    (∃ (n : Fin 24) (t0 : Nat) (s : State), (∃ s0, State.foundBy (.listenWindowOpen n) s0 = s) ∧ (s.dev.hf.fr[n]).winFrom = some t0 ∧
        (s.dev.hf.fr[n]).tx = .idle ∧ (s.dev.lau.zone[n]).listen = false ∧ 16 * (s.dev.hf.fr[n]).wopen ≤ s.dev.now - t0) ∧
    (∃ (n : Fin 24) (t0 : Nat) (s : State), (∃ s0, State.foundBy (.listenWindowClose n) s0 = s) ∧ (s.dev.hf.fr[n]).winFrom = some t0 ∧
        (s.dev.lau.zone[n]).listen = true ∧ (s.dev.lau.zone[n]).hold = false ∧ 256 * (s.dev.hf.fr[n]).wclose ≤ s.dev.now - t0 ∧
        (s.dev.hf.fr[n]).det = false ∧ (s.dev.lau.zone[n]).search = [] ∧ (s.dev.hf.fr[n]).slots = [] ∧ (s.dev.hf.fr[n]).seek = none) :=
  ⟨⟨5, (State.foundBy (.frameSend 5) s27_0),
    ⟨s27_0, rfl⟩, by decide +kernel⟩,
   ⟨5, (State.foundBy (.frameSend 5) s27_1),
    ⟨s27_1, rfl⟩, by decide +kernel⟩,
   ⟨5, (State.foundBy (.frameTxEnd 5) s27_2),
    ⟨s27_2, rfl⟩, by decide +kernel⟩,
   ⟨5, 0, (State.foundBy (.listenWindowOpen 5) s27_3),
    ⟨s27_3, rfl⟩, by decide +kernel⟩,
   ⟨5, 0, (State.foundBy (.listenWindowClose 5) s27_4),
    ⟨s27_4, rfl⟩, by decide +kernel⟩⟩

def x28_0 : RxFrame := { data := [1, 2], lastBits := 0, crc := [], par := [], cod := false, coll := none }
def s28_0 : State := st fun d => lz 5 (fun z => { z with hold := true, listen := true })
    (zeng 5 (fun z => { z with state := .opened, entry := some 7, identified := true }) (inM .m7 d))
def x28_1 : RxFrame := { data := [1, 2], lastBits := 0, crc := [], par := [], cod := false, coll := none }
def s28_1 : State := st fun d => fr 5 (fun f => { f with crcRx := false, par := false })
    (lz 5 (fun z => { z with hold := true, listen := true })
    (zeng 5 (fun z => { z with state := .opened, entry := some 7, identified := true }) (inM .m7 d)))
def x28_2 : RxFrame := { data := [1, 2], lastBits := 0, crc := [], par := [], cod := false, coll := none }
def s28_2 : State := st fun d => fr 5 (fun f => { f with tTech := 0x3E, demod := some { tid := 1, var := 0, tsc := 0, frac := 0, phase := 0 } }) (lz 5 (fun z => { z with hold := true, listen := true }) (zeng 5 (fun z => { z with state := .opened, entry := some 7, identified := true }) (inM .m7 d)))
def x28_3 : RxFrame := { data := [1, 2], lastBits := 0, crc := [], par := [], cod := false, coll := none }
def s28_3 : State := st fun d => fr 5 (fun f => { f with held0 := true, held1 := true })
    (lz 5 (fun z => { z with hold := true, listen := true })
    (zeng 5 (fun z => { z with state := .opened, entry := some 7, identified := true }) (inM .m7 d)))
def s28_5 : State := st (inM .m4)
def s28_6 : State := st fun d => fr 5 (fun f => { f with powEnd := some 9 })
    (zeng 5 (fun z => { z with state := .opened, entry := some 7, identified := true }) (atT 40000 (inM .m7 d)))
def s28_7 : State := st fun d => zeng 5 (fun z => { z with state := .opened, entry := some 7, identified := true })
    (entry 7 { zone := some 5, state := .opened, proto := 11, uid := [1, 2, 3, 4, 5, 6, 7, 8], coils := [17] } (atT (msT 50)
    (inM .m7 d)))
def e28_8 : Entry := { zone := some 5, state := .opened, proto := 11, uid := [1, 2], card := { late := some (1, 2) } }
def s28_8 : State := st fun d => entry 7 e28_8 (inM .m7 d)

/-- States and operands that meet the premises of each clause of `Obligations.FramesAreReceivedAndCardsChecked`. -/
theorem witness_FramesAreReceivedAndCardsChecked :
    (∃ (n : Fin 24) (x : RxFrame) (s : State), (∃ s0, State.foundBy (.frameRxEnd n x .none false) s0 = s) ∧
        (s.dev.lau.zone[n]).hold = true ∧ (s.dev.hf.fr[n]).held0 = false ∧ (s.dev.hf.fr[n]).held1 = false ∧
        (s.dev.hf.fr[n]).heldSend = false ∧ (s.dev.hf.fr[n]).seek = none ∧ s.dev.heard n x = x) ∧
    (∃ (n : Fin 24) (x : RxFrame) (proto : Nat) (uid : List Byte) (card : Card) (acc : Acc) (b : Nat) (s : State),
        s.dev.lateOn n = none ∧ s.dev.entryWith n uid = none ∧
        (∃ s0, State.foundBy (.frameRxEnd n x (.ident proto uid card acc) false) s0 = s) ∧ (s.dev.lau.zone[n]).hold = true ∧
        (s.dev.hf.fr[n]).held0 = false ∧ (s.dev.hf.fr[n]).held1 = false ∧ (s.dev.hf.fr[n]).heldSend = false ∧
        (s.dev.hf.fr[n]).seek = none ∧ s.dev.heard n x = x ∧ (s.dev.sf.zone[n]).module = none ∧
        (s.dev.hf.fr[n]).ignores (((s.dev.hf.fr[n]).demod.map Demod.tid).getD 0) = false ∧ (s.dev.hf.fr[n]).crcRx = false ∧
        (s.dev.hf.fr[n]).par = false ∧ x.cod = false ∧ x.coll = none ∧ uidOk proto uid = true ∧ techBit proto = some b ∧
        (s.dev.hf.fr[n]).tTech.testBit b = true ∧ s.dev.identDue n uid = false ∧ (s.dev.sf.zone[n]).found < 4) ∧
    (∃ (n : Fin 24) (x : RxFrame) (r : FwResult) (s : State), (∃ s0, State.foundBy (.frameRxEnd n x r false) s0 = s) ∧
        (s.dev.lau.zone[n]).hold = true ∧ (s.dev.hf.fr[n]).held0 = false ∧ (s.dev.hf.fr[n]).held1 = false ∧
        (s.dev.hf.fr[n]).heldSend = false ∧ (s.dev.hf.fr[n]).seek = none ∧ (s.dev.sf.zone[n]).module = none ∧
        (s.dev.hf.fr[n]).ignores (((s.dev.hf.fr[n]).demod.map Demod.tid).getD 0) = true) ∧
    (∃ (n : Fin 24) (x : RxFrame) (r : FwResult) (s : State), (∃ s0, State.foundBy (.frameRxEnd n x r false) s0 = s) ∧
        (s.dev.lau.zone[n]).hold = true ∧ (s.dev.hf.fr[n]).held0 = true ∧ (s.dev.hf.fr[n]).held1 = true ∧
        (s.dev.hf.fr[n]).heldSend = false) ∧
    (∃ (n : Fin 24) (s : State), (∃ s0, State.foundBy (.frameAbandon n) s0 = s) ∧ (s.dev.hf.fr[n]).heldSend = false) ∧
    (∃ (n : Fin 24) (t0 : Nat) (s : State), (∃ s0, State.foundBy (.powerOnWaitEnd n) s0 = s) ∧ (s.dev.hf.fr[n]).powEnd = some t0 ∧
        t0 ≤ s.dev.now ∧ (s.dev.sf.zone[n]).state = .opened) ∧
    (∃ (n : Fin 24) (s : State), s.dev.checkDue n false = true ∧ s.dev.checked n false ≠ [] ∧
        (∃ s0, State.foundBy (.presenceCheck n []) s0 = s)) ∧
    (∃ (i : Fin 512) (e : Entry) (s : State), (∃ s0, State.foundBy (.lateReplyWaitEnd i) s0 = s) ∧ s.dev.sf.entry[i] = some e ∧
        e.card.late.isSome = true) :=
  ⟨⟨5, x28_0, (State.foundBy (.frameRxEnd 5 x28_0 .none false) s28_0),
    ⟨s28_0, rfl⟩, by decide +kernel⟩,
   ⟨5, x28_1, 1, ([1, 2, 3, 4]), {}, {}, 0, (State.foundBy (.frameRxEnd 5 x28_1 (.ident 1 ([1, 2, 3, 4]) {} {}) false) s28_1),
    by unfold Dev.lateOn; rw [onZ_empty rfl]; rfl, by unfold Dev.entryWith; rw [onZ_empty rfl]; rfl, ⟨s28_1, rfl⟩, by decide +kernel⟩,
   ⟨5, x28_2, .none, (State.foundBy (.frameRxEnd 5 x28_2 .none false) s28_2),
    ⟨s28_2, rfl⟩, by decide +kernel⟩,
   ⟨5, x28_3, .none, (State.foundBy (.frameRxEnd 5 x28_3 .none false) s28_3),
    ⟨s28_3, rfl⟩, by decide +kernel⟩,
   ⟨5, (State.foundBy (.frameAbandon 5) s28_5),
    ⟨s28_5, rfl⟩, by decide +kernel⟩,
   ⟨5, 9, (State.foundBy (.powerOnWaitEnd 5) s28_6),
    ⟨s28_6, rfl⟩, by decide +kernel⟩,
   ⟨5, (State.foundBy (.presenceCheck 5 []) s28_7),
    by unfold Dev.checkDue; rw [onZ_one (d := (State.foundBy (.presenceCheck 5 []) s28_7).dev) (i := 7) (e :=
        { zone := some 5, state := .opened, proto := 11, uid := [1, 2, 3, 4, 5, 6, 7, 8], coils := [17] }) rfl rfl]; decide +kernel,
        by unfold Dev.checked; rw [onZ_one (d := (State.foundBy (.presenceCheck 5 []) s28_7).dev) (i := 7) (e :=
        { zone := some 5, state := .opened, proto := 11, uid := [1, 2, 3, 4, 5, 6, 7, 8], coils := [17] }) rfl rfl]; decide +kernel,
        ⟨s28_7, rfl⟩⟩,
   ⟨7, e28_8, (State.foundBy (.lateReplyWaitEnd 7) s28_8),
    ⟨s28_8, rfl⟩, by decide +kernel⟩⟩

def c29_0 : Cmd := { opc := 0x18, payload := [7, 0, 0, 0, 0, 0, 0, 0, 0x02, 0x20] }
def x29_0 : XStep := { treq := 0, l0 := 40, l1 := 40, bound := 100, fld2 := none, act := none, ping := none, sent := 1, wrote := false, acked := false, res := .running, present := true }
def e29_0 : Entry := { zone := some 5, state := .opened, proto := 11, uid := [1, 2, 3, 4, 5, 6, 7, 8], coils := [17] }
def s29_0 : State := st fun d => has c29_0 (zeng 5 (fun z => { z with state := .opened, entry := some 7, identified := true })
    (entry 7 { zone := some 5, state := .opened, proto := 11, uid := [1, 2, 3, 4, 5, 6, 7, 8], coils := [17] } (inM .m7 d)))
def c29_1 : Cmd := { opc := 0x18, payload := [7, 0, 0, 0, 0, 0, 0, 0, 0x02, 0x20], phase := .frames, entry := 7 }
def x29_1 : XStep := { treq := 0, l0 := 40, l1 := 40, bound := 100, fld2 := none, act := none, ping := none, sent := 1, wrote := false, acked := false, res := .valid [1, 2] 0 0 0, present := true }
def e29_1 : Entry := { zone := some 5, state := .opened, proto := 11, uid := [1, 2, 3, 4, 5, 6, 7, 8], coils := [17] }
def s29_1 : State := st fun d => has c29_1 (zeng 5 (fun z => { z with state := .opened, entry := some 7, identified := true })
    (entry 7 { zone := some 5, state := .opened, proto := 11, uid := [1, 2, 3, 4, 5, 6, 7, 8], coils := [17] } (inM .m7 d)))
def c29_2 : Cmd := { opc := 0x18, payload := [7, 0, 0, 0, 0, 0, 0, 0, 0x02, 0x20], phase := .frames, entry := 7 }
def x29_2 : XStep := { treq := 0, l0 := 40, l1 := 40, bound := 100, fld2 := none, act := none, ping := none, sent := 0, wrote := false, acked := false, res := .noResp, present := true }
def e29_2 : Entry := { zone := some 5, state := .opened, proto := 11, uid := [1, 2, 3, 4, 5, 6, 7, 8], coils := [17] }
def s29_2 : State := st fun d => has c29_2 (zeng 5 (fun z => { z with state := .opened, entry := some 7, identified := true })
    (entry 7 { zone := some 5, state := .opened, proto := 11, uid := [1, 2, 3, 4, 5, 6, 7, 8], coils := [17] } (inM .m7 d)))
def c29_3 : Cmd := { opc := 0x11, payload := [byteOf 31, byteOf 6, 1, 1, byteOf 50, 2, 1, 0, 30, 60, 0, 0] }
def s29_3 : State := run .m7 c29_3
def c29_4 : Cmd := { opc := 0x12, payload := [7, 0] }
def e29_4 : Entry := { zone := some 5, state := .opened, proto := 11, uid := [1, 2, 3, 4, 5, 6, 7, 8], coils := [17] }
def s29_4 : State := st fun d => has c29_4 (entry 7 { zone := some 5, state := .opened, proto := 11, uid := [1, 2, 3, 4, 5, 6, 7, 8], coils := [17] } (inM .m7 d))

/-- States and operands that meet the premises of each clause of `Obligations.CardCommandsReply`. -/
theorem witness_CardCommandsReply :
    (∃ (tag : Fin 32) (c : Cmd) (x : XStep) (i : Nat) (e : Entry) (n : Fin 24) (s : State), Ready 0x18 tag c s.dev ∧
        ((∀ j, s.dev.aheadOn tag j = [])) ∧ (∃ s0, State.foundBy (.zoneExchange tag x) s0 = s) ∧ 9 ≤ c.payload.length ∧
        c.payload.length ≤ 4104 ∧ exchangeOk c.payload = true ∧ c.deadline = 0 ∧ s.dev.entryOf (leAt c.payload 0 2) = some (i, e) ∧
        e.state = .opened ∧ e.zone = some n ∧ e.card.late = none ∧ check5 c e = false ∧ needsAct c e = false ∧
        s.dev.fldPass (isWrite c e) (s.dev.hf.fr[n]).fld = true ∧ x.res = .running) ∧
    (∃ (tag : Fin 32) (c : Cmd) (x : XStep) (data : List Byte) (lb : Nat) (hdr : Nat) (ec : Nat) (i : Fin 512) (e : Entry)
        (s : State), (∃ s0, State.foundBy (.zoneExchange tag x) s0 = s) ∧ s.dev.cmd tag = some c ∧ c.opc = 0x18 ∧ c.phase = .frames ∧
        s.dev.started c = true ∧ c.entry = i.val ∧ s.dev.sf.entry[i] = some e ∧ x.res = .valid data lb hdr ec ∧ data.length ≤ 4096) ∧
    (∃ (tag : Fin 32) (c : Cmd) (x : XStep) (i : Fin 512) (e : Entry) (s : State), (∃ s0, State.foundBy (.zoneExchange tag x) s0 = s) ∧
        s.dev.cmd tag = some c ∧ c.opc = 0x18 ∧ c.phase = .frames ∧ s.dev.started c = true ∧ c.entry = i.val ∧
        s.dev.sf.entry[i] = some e ∧ x.res = .noResp ∧ x.sent = 0 ∧ x.present = true ∧ c.retries = 0 ∧
        ((c.writeSent || x.wrote) && !x.acked) = false) ∧
    (∃ (tag : Fin 32) (c : Cmd) (tech : Nat) (rate : Nat) (pw : Nat) (s : State), Ready 0x11 tag c s.dev ∧
        (∃ s0, State.foundBy (.hfConfig tag) s0 = s) ∧ tech ≤ 31 ∧ rate ≤ 6 ∧ 10 ≤ pw ∧ pw ≤ 100 ∧
        c.payload = [byteOf tech, byteOf rate, 1, 1, byteOf pw, 2, 1, 0, 30, 60, 0, 0]) ∧
    (∃ (tag : Fin 32) (c : Cmd) (i : Nat) (e : Entry) (s : State), Ready 0x12 tag c s.dev ∧ ((∀ j, s.dev.aheadOn tag j = [])) ∧
        (∃ s0, State.foundBy (.cardInfo tag) s0 = s) ∧ c.payload.length = 2 ∧ s.dev.entryOf (leAt c.payload 0 2) = some (i, e) ∧
        e.card.late = none ∧ e.uid ≠ [] ∧ e.proto ≠ 14) :=
  ⟨⟨3, c29_0, x29_0, 7, e29_0, 5, (State.foundBy (.zoneExchange 3 x29_0) s29_0),
    by unfold Ready; decide +kernel, aheadOn_nil (c := c29_0) (by decide +kernel) (by decide +kernel), ⟨s29_0, rfl⟩, by decide +kernel⟩,
   ⟨3, c29_1, x29_1, ([1, 2]), 0, 0, 0, 7, e29_1, (State.foundBy (.zoneExchange 3 x29_1) s29_1),
    ⟨s29_1, rfl⟩, by decide +kernel⟩,
   ⟨3, c29_2, x29_2, 7, e29_2, (State.foundBy (.zoneExchange 3 x29_2) s29_2),
    ⟨s29_2, rfl⟩, by decide +kernel⟩,
   ⟨3, c29_3, 31, 6, 50, (State.foundBy (.hfConfig 3) s29_3),
    by unfold Ready; decide +kernel, ⟨s29_3, rfl⟩, by decide +kernel⟩,
   ⟨3, c29_4, 7, e29_4, (State.foundBy (.cardInfo 3) s29_4),
    by unfold Ready; decide +kernel, aheadOn_nil (c := c29_4) (by decide +kernel) (by decide +kernel), ⟨s29_4, rfl⟩, by decide +kernel⟩⟩

def c30_0 : Cmd := { opc := 0x32, payload := [7, 0, 1, 0, 0, 0, 0, 0, 1], phase := .frames, entry := 7 }
def x30_0 : XStep := { treq := 0, l0 := 40, l1 := 40, bound := 100, fld2 := none, act := none, ping := none, sent := 1, wrote := false, acked := false, res := .valid [1, 2] 0 0 0, present := true }
def e30_0 : Entry := { zone := some 5, state := .opened, proto := 14, uid := [1, 2, 3, 4, 5, 6, 7, 8], coils := [17], acc := { power := 1, pwr := 3 } }
def s30_0 : State := st fun d => has c30_0 (entry 7 e30_0 (zeng 5 (fun z => { z with state := .opened, entry := some 7, identified := true }) (inM .m7 d)))
def c30_1 : Cmd := { opc := 0x30, payload := [7, 0, 4, 7] }
def e30_1 : Entry := { zone := some 5, state := .opened, proto := 14, uid := [1, 2, 3, 4, 5, 6, 7, 8], coils := [17], acc := { power := 1, pwr := 3 } }
def s30_1 : State := st fun d => has c30_1 (entry 7 e30_1 (zeng 5 (fun z => { z with state := .opened, entry := some 7, identified := true }) (inM .m7 d)))
def c30_2 : Cmd := { opc := 0x30, payload := [7, 0, 4, 7], phase := .slots, entry := 7 }
def s30_2 : State := st fun d => has c30_2 (zeng 5 (fun z => { z with state := .opened, entry := some 7, identified := true })
    (inM .m7 d))
def c30_3 : Cmd := { opc := 0x31, payload := [byteOf 3, byteOf 4] ++ le 2 3000 ++ le 2 1000 ++ [byteOf 50, 0] }
def s30_3 : State := run .m7 c30_3
def c30_4 : Cmd := { opc := 0x34, payload := [7, 0] }
def e30_4 : Entry := { zone := some 5, state := .opened, proto := 14, uid := [1, 2, 3, 4, 5, 6, 7, 8], coils := [17], acc := { power := 1, pwr := 3 } }
def s30_4 : State := st fun d => has c30_4 (entry 7 e30_4 (inM .m7 d))

/-- States and operands that meet the premises of each clause of `Obligations.AccessoryCommandsReply`. -/
theorem witness_AccessoryCommandsReply :
    (∃ (tag : Fin 32) (c : Cmd) (x : XStep) (data : List Byte) (lb : Nat) (hdr : Nat) (ec : Nat) (i : Fin 512) (e : Entry)
        (s : State), (∃ s0, State.foundBy (.accExchange tag x) s0 = s) ∧ s.dev.cmd tag = some c ∧ c.opc = 0x32 ∧ c.phase = .frames ∧
        s.dev.started c = true ∧ c.entry = i.val ∧ s.dev.sf.entry[i] = some e ∧ x.res = .valid data lb hdr ec ∧ data.length ≤ 4096) ∧
    (∃ (tag : Fin 32) (c : Cmd) (i : Nat) (e : Entry) (n : Fin 24) (s : State), Ready 0x30 tag c s.dev ∧
        ((∀ j, s.dev.aheadOn tag j = [])) ∧ (∃ s0, State.foundBy (.accRound tag) s0 = s) ∧ c.payload.length = 4 ∧
        byteAt c.payload 2 ≤ 4 ∧ 1 ≤ byteAt c.payload 3 ∧ byteAt c.payload 3 ≤ 7 ∧ s.dev.entryOf (leAt c.payload 0 2) = some (i, e) ∧
        e.card.late = none ∧ e.state = .opened ∧ e.zone = some n ∧ e.proto = 14 ∧ (s.dev.sf.zone[n]).state = .opened ∧
        (s.dev.lau.zone[n]).hold = false ∧ (s.dev.hf.fr[n]).tx = .idle) ∧
    (∃ (tag : Fin 32) (c : Cmd) (s : State), (∃ s0, State.foundBy (.accRound tag) s0 = s) ∧ s.dev.cmd tag = some c ∧ c.opc = 0x30 ∧
        c.phase = .slots ∧ c.stopReq = false ∧ s.dev.rounding tag = false ∧ s.dev.sf.pend = []) ∧
    (∃ (tag : Fin 32) (c : Cmd) (fl : Nat) (q : Nat) (pz : Nat) (ramp : Nat) (keep : Nat) (s : State), Ready 0x31 tag c s.dev ∧
        (∃ s0, State.foundBy (.accConfig tag) s0 = s) ∧ fl ≤ 3 ∧ q ≤ 4 ∧ 100 ≤ pz ∧ pz ≤ 3000 ∧ 20 ≤ ramp ∧ ramp ≤ 1000 ∧ 10 ≤ keep ∧
        keep ≤ 50 ∧ c.payload = [byteOf fl, byteOf q] ++ le 2 pz ++ le 2 ramp ++ [byteOf keep, 0]) ∧
    (∃ (tag : Fin 32) (c : Cmd) (i : Nat) (e : Entry) (s : State), Ready 0x34 tag c s.dev ∧ ((∀ j, s.dev.aheadOn tag j = [])) ∧
        (∃ s0, State.foundBy (.accInfo tag) s0 = s) ∧ c.payload.length = 2 ∧ s.dev.entryOf (leAt c.payload 0 2) = some (i, e) ∧
        e.card.late = none ∧ e.uid ≠ [] ∧ e.proto = 14) :=
  ⟨⟨3, c30_0, x30_0, ([1, 2]), 0, 0, 0, 7, e30_0, (State.foundBy (.accExchange 3 x30_0) s30_0),
    ⟨s30_0, rfl⟩, by decide +kernel⟩,
   ⟨3, c30_1, 7, e30_1, 5, (State.foundBy (.accRound 3) s30_1),
    by unfold Ready; decide +kernel, aheadOn_nil (c := c30_1) (by decide +kernel) (by decide +kernel), ⟨s30_1, rfl⟩, by decide +kernel⟩,
   ⟨3, c30_2, (State.foundBy (.accRound 3) s30_2),
    ⟨s30_2, rfl⟩, by decide +kernel⟩,
   ⟨3, c30_3, 3, 4, 3000, 1000, 50, (State.foundBy (.accConfig 3) s30_3),
    by unfold Ready; decide +kernel, ⟨s30_3, rfl⟩, by decide +kernel⟩,
   ⟨3, c30_4, 7, e30_4, (State.foundBy (.accInfo 3) s30_4),
    by unfold Ready; decide +kernel, aheadOn_nil (c := c30_4) (by decide +kernel) (by decide +kernel), ⟨s30_4, rfl⟩, by decide +kernel⟩⟩

def c31_0 : Cmd := { opc := 0x33, payload := [7, 0, 1, 0, 0, 0, 0, 0], phase := .ramp, entry := 7 }
def a31_0 : AccStep := { act := none, pings := [], done := some true }
def e31_0 : Entry := { zone := some 5, state := .opened, proto := 14, uid := [1, 2, 3, 4, 5, 6, 7, 8], coils := [17], acc := { power := 1, pwr := 3 } }
def s31_0 : State := st fun d => has c31_0 (entry 7 e31_0 (zeng 5 (fun z => { z with state := .opened, entry := some 7, identified := true }) (inM .m7 d)))
def c31_1 : Cmd := { opc := 0x33, payload := [7, 0, 1, 0, 0, 0, 0, 0], phase := .ramp, entry := 7 }
def e31_1 : Entry := { zone := some 5, state := .opened, proto := 14, uid := [1, 2, 3, 4, 5, 6, 7, 8], coils := [17], acc := { power := 1, pwr := 1 } }
def s31_1 : State := st fun d => has c31_1 (entry 7 e31_1 (zeng 5 (fun z => { z with state := .opened, entry := some 7, identified := true }) (atT (msT 200) (inM .m7 d))))
def e31_2 : Entry := { zone := some 5, state := .opened, proto := 14, uid := [1, 2, 3, 4, 5, 6, 7, 8], coils := [17], acc := { power := 2, pwr := 3 } }
def s31_2 : State := st fun d => entry 7 e31_2 (zeng 5 (fun z => { z with state := .opened, entry := some 7, identified := true })
    (atT (msT 20) (inM .m7 d)))
def e31_3 : Entry := { zone := some 5, state := .opened, proto := 14, uid := [1, 2, 3, 4, 5, 6, 7, 8], coils := [17], acc := { power := 2, pwr := 1, lowSince := some 0 } }
def s31_3 : State := st fun d => entry 7 e31_3 (zeng 5 (fun z => { z with state := .opened, entry := some 7, identified := true })
    (atT (msT 500) (inM .m7 d)))
def s31_4 : State := st fun d => entry 7 { zone := some 5, state := .opened, proto := 14, uid := [1, 2, 3, 4, 5, 6, 7, 8], coils := [17], acc := { power := 0, pwr := 3 } } (zeng 5 (fun z => { z with state := .opened, entry := some 7, identified := true }) (atT (msT 50) (inM .m7 d)))

/-- States and operands that meet the premises of each clause of `Obligations.PowerDeliveryStartsAndIsKept`. -/
theorem witness_PowerDeliveryStartsAndIsKept :
    (∃ (tag : Fin 32) (c : Cmd) (a : AccStep) (i : Fin 512) (e : Entry) (n : Fin 24) (s : State), ((∀ k ∈ s.dev.powered n,
        2 ≤ s.dev.pwrOf k)) ∧ (∃ s0, State.foundBy (.accPower tag a) s0 = s) ∧ s.dev.cmd tag = some c ∧ c.opc = 0x33 ∧
        c.phase = .ramp ∧ c.stopReq = false ∧ c.entry = i.val ∧ s.dev.sf.entry[i] = some e ∧ e.zone = some n ∧ e.acc.power = 1 ∧
        a.pings = [] ∧ a.done = some true) ∧
    (∃ (tag : Fin 32) (c : Cmd) (i : Fin 512) (e : Entry) (s : State), (∃ s0, State.foundBy (.accRampLimit tag) s0 = s) ∧
        s.dev.cmd tag = some c ∧ c.opc = 0x33 ∧ c.phase = .ramp ∧ c.entry = i.val ∧ s.dev.sf.entry[i] = some e ∧ e.acc.power = 1 ∧
        e.acc.pwr < 2 ∧ msT s.dev.acc.rampMs ≤ s.dev.now - e.acc.rampStart) ∧
    (∃ (n : Fin 24) (i : Fin 512) (p : Nat) (e : Entry) (s : State), i.val ∈ s.dev.fed n ∧
        (∃ s0, State.foundBy (.accKeepPing n [(i.val, some p)]) s0 = s) ∧ s.dev.sf.entry[i] = some e ∧
        msT s.dev.acc.keepMs ≤ s.dev.now - (s.dev.hf.fr[n]).lastPing) ∧
    (∃ (i : Fin 512) (e : Entry) (t0 : Nat) (n : Fin 24) (s : State), (∃ s0, State.foundBy (.accLostBudget i) s0 = s) ∧
        s.dev.sf.entry[i] = some e ∧ e.acc.lowSince = some t0 ∧ e.zone = some n ∧ e.acc.power = 2 ∧ msT 500 ≤ s.dev.now - t0) ∧
    (∃ (n : Fin 24) (s : State), s.dev.checkDue n true = true ∧ s.dev.powered n = [] ∧ s.dev.checked n true ≠ [] ∧
        (∃ s0, State.foundBy (.accPing n []) s0 = s)) :=
  ⟨⟨3, c31_0, a31_0, 7, e31_0, 5, (State.foundBy (.accPower 3 a31_0) s31_0),
    by unfold Dev.powered; rw [onZ_one (d := (State.foundBy (.accPower 3 a31_0) s31_0).dev) (i := 7) (e :=
        e31_0) rfl rfl]; decide +kernel, ⟨s31_0, rfl⟩, by decide +kernel⟩,
   ⟨3, c31_1, 7, e31_1, (State.foundBy (.accRampLimit 3) s31_1),
    ⟨s31_1, rfl⟩, by decide +kernel⟩,
   ⟨5, 7, 2, e31_2, (State.foundBy (.accKeepPing 5 [((7 : Fin 512).val, some 2)]) s31_2),
    by unfold Dev.fed; rw [onZ_one (d := (State.foundBy (.accKeepPing 5 [((7 : Fin 512).val, some 2)]) s31_2).dev) (i := 7) (e :=
        e31_2) rfl rfl]; decide +kernel, ⟨s31_2, rfl⟩, by decide +kernel⟩,
   ⟨7, e31_3, 0, 5, (State.foundBy (.accLostBudget 7) s31_3),
    ⟨s31_3, rfl⟩, by decide +kernel⟩,
   ⟨5, (State.foundBy (.accPing 5 []) s31_4),
    by unfold Dev.checkDue; rw [onZ_one (d := (State.foundBy (.accPing 5 []) s31_4).dev) (i := 7) (e :=
        { zone := some 5, state := .opened, proto := 14, uid := [1, 2, 3, 4, 5, 6, 7, 8], coils := [17], acc := { power := 0, pwr := 3 } }) rfl rfl]; decide +kernel, by unfold Dev.powered; rw [onZ_one (d := (State.foundBy (.accPing 5 []) s31_4).dev) (i := 7) (e := { zone := some 5, state := .opened, proto := 14, uid := [1, 2, 3, 4, 5, 6, 7, 8], coils := [17], acc := { power := 0, pwr := 3 } }) rfl rfl]; decide +kernel, by unfold Dev.checked; rw [onZ_one (d := (State.foundBy (.accPing 5 []) s31_4).dev) (i := 7) (e := { zone := some 5, state := .opened, proto := 14, uid := [1, 2, 3, 4, 5, 6, 7, 8], coils := [17], acc := { power := 0, pwr := 3 } }) rfl rfl]; decide +kernel, ⟨s31_4, rfl⟩⟩⟩

def s32_0 : State := st fun d => (inM .m3 d).onStp fun x => { x with stage := .waiting }
def s32_1 : State := st fun d => ((inM .m3 d).onPmu fun p => { p with lp := 200 }).onStp fun x => { x with stage := .sweep, sched := [(0, 17)] }
def s32_2 : State := st fun d => ((inM .m3 d).onPmu fun p => { p with lp := 200 }).onStp fun x => { x with stage := .waiting, trig := some ([17], 0) }
def s32_3 : State := st fun d => ((inM .m3 d).onPmu fun p => { p with lp := 200 }).onStp fun x => { x with stage := .confirm, sched := [(0, 17)], coil := upd x.coil 17 fun _ => { state := .armed, hasB := true, ba := 100, sa := 180 }, trig := some ([17], 0) }
def s32_4 : State := st fun d => ((inM .m3 d).onPmu fun p => { p with lp := 200 }).onStp fun x => { x with stage := .confirm, sched := [(0, 17)], coil := upd x.coil 17 fun _ => { state := .learn, hasB := true, ba := 100, sa := 180 }, trig := some ([17], 0) }
def c32_5 : Cmd := { opc := 0x72, payload := List.replicate 12 0 }
def s32_5 : State := run .m4 c32_5
def c32_6 : Cmd := { opc := 0x72, payload := [1, 25, 8, 12, 24, 3, 8, 48, 2, 6, 0, 0] }
def s32_6 : State := run .m4 c32_6
def c32_7 : Cmd := { opc := 0x72, payload := 2 :: List.replicate 11 0 }
def s32_7 : State := run .m4 c32_7

/-- States and operands that meet the premises of each clause of `Obligations.SteepSweepsAndConfirms`. -/
theorem witness_SteepSweepsAndConfirms :
    (∃ (v : Vector Nat 4) (s : State), (∃ s0, State.foundBy (.steepSweepStart v) s0 = s) ∧ s.dev.mode.cur = .m3 ∧ s.dev.busy = false ∧
        s.dev.stp.stage = .waiting ∧ s.dev.stp.trig = none ∧ s.dev.stp.nextAt ≤ s.dev.pmu.lp) ∧
    (∃ (rs : Vector (Nat × Nat) 192) (s : State), (∃ s0, State.foundBy (.steepSweepEnd rs) s0 = s) ∧ s.dev.mode.cur = .m3 ∧
        s.dev.stp.stage = .sweep ∧ s.dev.swept s.dev.stp.slots = true) ∧
    (∃ (v : Vector Nat 4) (hit : List (Fin 192)) (t0 : Nat) (s : State), (∃ s0, State.foundBy (.steepConfirmStart v) s0 = s) ∧
        s.dev.stp.trig = some (hit, t0) ∧ s.dev.mode.cur = .m3 ∧ s.dev.busy = false ∧ s.dev.stp.stage = .waiting ∧
        s.dev.stp.cfg.confMs * 32768 ≤ 1000 * (s.dev.pmu.lp - t0) ∧ s.dev.sweepBlocked v = false) ∧
    (∃ (rs : Vector (Nat × Nat) 192) (hit : List (Fin 192)) (t0 : Nat) (c : Fin 192) (s : State), (∃ s0,
        State.foundBy (.steepConfirmEnd rs) s0 = s) ∧ s.dev.stp.trig = some (hit, t0) ∧ s.dev.mode.cur = .m3 ∧ s.dev.busy = false ∧
        s.dev.stp.stage = .confirm ∧ s.dev.swept (s.dev.stp.confSlots hit) = true ∧ c ∈ s.dev.stp.confCoils hit ∧ c ∈ hit ∧
        ((s.dev.stp.put (readingsOf (s.dev.stp.confCoils hit) rs)).coil[c]).trig s.dev.stp.cfg = true) ∧
    (∃ (rs : Vector (Nat × Nat) 192) (hit : List (Fin 192)) (t0 : Nat) (s : State), (∃ s0,
        State.foundBy (.steepConfirmEnd rs) s0 = s) ∧ s.dev.stp.trig = some (hit, t0) ∧ s.dev.mode.cur = .m3 ∧
        s.dev.stp.stage = .confirm ∧ s.dev.swept (s.dev.stp.confSlots hit) = true ∧
        ((∀ c ∈ s.dev.stp.confCoils hit, c ∈ hit →
        ((s.dev.stp.put (readingsOf (s.dev.stp.confCoils hit) rs)).coil[c]).trig s.dev.stp.cfg = false))) ∧
    (∃ (tag : Fin 32) (c : Cmd) (s : State), Ready 0x72 tag c s.dev ∧ (∃ s0, State.foundBy (.steepConfig tag) s0 = s) ∧
        c.payload = List.replicate 12 0) ∧
    (∃ (tag : Fin 32) (c : Cmd) (s : State), Ready 0x72 tag c s.dev ∧ (∃ s0, State.foundBy (.steepConfig tag) s0 = s) ∧
        c.payload.length = 12 ∧ byteAt c.payload 0 = 1 ∧ zeros c.payload [10, 11] = true ∧ steepOk c.payload = true ∧
        s.dev.mode.cur = .m4) ∧
    (∃ (tag : Fin 32) (c : Cmd) (s : State), Ready 0x72 tag c s.dev ∧ (∃ s0, State.foundBy (.steepConfig tag) s0 = s) ∧
        c.payload = 2 :: List.replicate 11 0 ∧ s.dev.mode.cur = .m4) :=
  ⟨⟨(Vector.replicate 4 1200), (State.foundBy (.steepSweepStart (Vector.replicate 4 1200)) s32_0),
    ⟨s32_0, rfl⟩, by decide +kernel⟩,
   ⟨(Vector.replicate 192 (180, 0)), (State.foundBy (.steepSweepEnd (Vector.replicate 192 (180, 0))) s32_1),
    ⟨s32_1, rfl⟩, by decide +kernel⟩,
   ⟨(Vector.replicate 4 1200), [17], 0, (State.foundBy (.steepConfirmStart (Vector.replicate 4 1200)) s32_2),
    ⟨s32_2, rfl⟩, by decide +kernel⟩,
   ⟨(Vector.replicate 192 (180, 0)), [17], 0, 17, (State.foundBy (.steepConfirmEnd (Vector.replicate 192 (180, 0))) s32_3),
    ⟨s32_3, rfl⟩, by decide +kernel⟩,
   ⟨(Vector.replicate 192 (180, 0)), [17], 0, (State.foundBy (.steepConfirmEnd (Vector.replicate 192 (180, 0))) s32_4),
    ⟨s32_4, rfl⟩, by decide +kernel⟩,
   ⟨3, c32_5, (State.foundBy (.steepConfig 3) s32_5),
    by unfold Ready; decide +kernel, ⟨s32_5, rfl⟩, by decide +kernel⟩,
   ⟨3, c32_6, (State.foundBy (.steepConfig 3) s32_6),
    by unfold Ready; decide +kernel, ⟨s32_6, rfl⟩, by decide +kernel⟩,
   ⟨3, c32_7, (State.foundBy (.steepConfig 3) s32_7),
    by unfold Ready; decide +kernel, ⟨s32_7, rfl⟩, by decide +kernel⟩⟩

def s33_0 : State := st fun d => (inM .m6 d).onUhf fun u => { u with chCfg := upd u.chCfg 4 fun c => { c with en := true } }
def s33_1 : State := st fun d => (inM .m6 d).onUhf fun u => { u with chCfg := upd u.chCfg 4 fun c => { c with en := true }, run := .hop }
def s33_2 : State := st fun d => (atT 20 (inM .m6 d)).onUhf fun u => { u with chCfg := upd u.chCfg 4 fun c => { c with en := true }, ch := upd u.ch 4 (fun c => { c with offT := some 10 }), txc := { revisit := 100 } }
def s33_3 : State := st fun d => (atT 4000 (inM .m6 d)).onUhf fun u => { u with run := .hop }
def s33_4 : State := st fun d => (atT 40000 (inM .m6 d)).onUhf fun u => { u with run := .hop, on := true }
def s33_5 : State := st fun d => (atT (usT 12)
    (inM .m6 d)).onUhf fun u => { u with chCfg := upd u.chCfg 4 fun c => { c with en := true }, ch := upd u.ch 4 fun c => { c with cal := .valid, cancOk := 0xFF }, run := .hop, chan := 4, target := 4, carrier := true, want := true, hold := true }
def s33_6 : State := st fun d => (atT (msT 400) (inM .m6 d)).onUhf fun u => { u with on := true, dwellT := some 0 }
def s33_7 : State := st fun d => (inM .m6 d).onUhf fun u => { u with chCfg := upd u.chCfg 4 fun c => { c with en := true }, ch := upd u.ch 4 fun c => { c with cal := .valid, cancOk := 0xFF }, chan := 4, target := 4 }
def s33_8 : State := st fun d => (inM .m6 d).onUhf fun u => { u with carrier := true, on := true }
def s33_11 : State := st fun d => (inM .m6 d).onUhf fun u => { u with chCfg := upd u.chCfg 4 fun c => { c with en := true } }

/-- States and operands that meet the premises of each clause of `Obligations.TheCarrierHopsAndStops`. -/
theorem witness_TheCarrierHopsAndStops :
    (∃ (c : Fin 64) (s : State), (∃ s0, State.foundBy (.uhfHop c) s0 = s) ∧ s.dev.uhf.txkill = false ∧ s.dev.uhf.busy = false ∧
        s.dev.chUsable c s.dev.uhf.acfg = true ∧ s.dev.uhf.on = false ∧ s.dev.uhf.carrier = false ∧ s.dev.chRefused c = false) ∧
    (∃ (c : Fin 64) (s : State), (∃ s0, State.foundBy (.uhfHop c) s0 = s) ∧ s.dev.uhf.txkill = false ∧ s.dev.uhf.busy = true) ∧
    (∃ (c : Fin 64) (s : State), (∃ s0, State.foundBy (.uhfHop c) s0 = s) ∧ s.dev.uhf.txkill = false ∧ s.dev.uhf.busy = false ∧
        s.dev.chUsable c s.dev.uhf.acfg = true ∧ s.dev.uhf.on = false ∧ s.dev.chRefused c = true) ∧
    (∃ (s : State), (∃ s0, State.foundBy .uhfHopDone s0 = s) ∧ s.dev.uhf.run = .hop ∧ s.dev.uhf.on = false ∧
        s.dev.uhf.runT + usT 12 ≤ s.dev.now ∧ s.dev.uhf.carrier = false ∧ s.dev.uhf.nextHop = none ∧ s.dev.uhf.acfgT = s.dev.uhf.acfg) ∧
    (∃ (s : State), (∃ s0, State.foundBy .uhfHopDone s0 = s) ∧ s.dev.uhf.run = .hop ∧ s.dev.uhf.on = true ∧
        s.dev.uhf.runT + wordsT 1628 ≤ s.dev.now ∧ s.dev.uhf.nextHop = none ∧ s.dev.uhf.acfgT = s.dev.uhf.acfg) ∧
    (∃ (s : State), s.dev.uhf.run = .hop ∧ s.dev.uhf.on = false ∧ s.dev.uhf.runT + usT 12 = s.dev.now ∧ s.dev.mayRamp = true ∧
        s.dev.uhf.nextHop = none ∧ s.dev.uhf.nochan = false ∧ s.dev.chNeed s.dev.uhf.chan s.dev.uhf.acfg = .hop ∧
        s.dev.uhf.acfgT = s.dev.uhf.acfg) ∧
    (∃ (draw : Nat) (s : State), (∃ s0, State.foundBy (.uhfDwellExpiry draw) s0 = s) ∧ s.dev.uhf.on = true ∧ s.dev.dwellOver = true) ∧
    (∃ (s : State), (∃ s0, State.foundBy (.uhfCarrierWrite true) s0 = s) ∧ s.dev.uhf.txkill = false ∧ s.dev.uhf.on = false ∧
        s.dev.uhf.run = .idle ∧ s.dev.mayTransmit = true ∧ s.dev.uhf.nochan = false ∧ s.dev.uhf.revWait = false ∧
        s.dev.uhf.calRun = none ∧ s.dev.uhf.coex.role = 0 ∧ s.dev.chUsable s.dev.uhf.chan s.dev.uhf.acfg = true ∧
        s.dev.chNeed s.dev.uhf.chan s.dev.uhf.acfg = .hop) ∧
    (∃ (s : State), (∃ s0, State.foundBy (.uhfCarrierWrite false) s0 = s) ∧ s.dev.uhf.txkill = false) ∧
    (∃ (a : Fin 8) (s : State), (∃ s0, State.foundBy (.uhfAcfgWrite a) s0 = s) ∧ s.dev.uhf.busy = false ∧ s.dev.uhf.acfg ≠ a ∧
        s.dev.uhf.on = false ∧ s.dev.uhf.carrier = false ∧ s.dev.mode.cur.uhfAllowed = true ∧ s.dev.uhf.nochan = false ∧
        ((∃ k, s.dev.chUsable k a = true))) :=
  ⟨⟨4, (State.foundBy (.uhfHop 4) s33_0),
    ⟨s33_0, rfl⟩, by decide +kernel⟩,
   ⟨4, (State.foundBy (.uhfHop 4) s33_1),
    ⟨s33_1, rfl⟩, by decide +kernel⟩,
   ⟨4, (State.foundBy (.uhfHop 4) s33_2),
    ⟨s33_2, rfl⟩, by decide +kernel⟩,
   ⟨(State.foundBy .uhfHopDone s33_3),
    ⟨s33_3, rfl⟩, by decide +kernel⟩,
   ⟨(State.foundBy .uhfHopDone s33_4),
    ⟨s33_4, rfl⟩, by decide +kernel⟩,
   ⟨s33_5,
    by decide +kernel⟩,
   ⟨7, (State.foundBy (.uhfDwellExpiry 7) s33_6),
    ⟨s33_6, rfl⟩, by decide +kernel⟩,
   ⟨(State.foundBy (.uhfCarrierWrite true) s33_7),
    ⟨s33_7, rfl⟩, by decide +kernel⟩,
   ⟨(State.foundBy (.uhfCarrierWrite false) s33_8),
    ⟨s33_8, rfl⟩, by decide +kernel⟩,
   ⟨5, (State.foundBy (.uhfAcfgWrite 5) s33_11),
    ⟨s33_11, rfl⟩, by decide +kernel⟩⟩

def x34_0 : CalRes := { lock := (300, 300), image := #v[400, 400, 400, 400], pa := 3, resid := #v[-300, -300, -300, -300], part := [1, 2], canc := { code := #v[1, -2, 3, 0], gain := #v[1, 2, 3, 3] } }
def s34_0 : State := st fun d => (inM .m6 d).onUhf fun u => { u with run := .full, on := true, carrier := true, hold := true, want := true }
def x34_1 : CalRes := { lock := (500, 300), image := #v[400, 400, 400, 400], pa := 3, resid := #v[-300, -300, -300, -300], part := [1, 2], canc := { code := #v[1, -2, 3, 0], gain := #v[1, 2, 3, 3] } }
def s34_1 : State := st fun d => (inM .m6 d).onUhf fun u => { u with run := .full, on := true }
def s34_2 : State := st fun d => (atT 1000 (inM .m6 d)).onUhf fun u => { u with on := true, ant := upd u.ant 0 fun a => { a with en := 7 } }
def s34_3 : State := st fun d => (inM .m6 d).onUhf fun u => { u with on := true, ant := upd u.ant 0 fun a => { a with en := 7 } }
def s34_4 : State := st fun d => (atT (msT 1) (inM .m6 d)).onUhf fun u => { u with on := true, resid := upd u.resid 1 fun _ => some 0 }

/-- States and operands that meet the premises of each clause of `Obligations.CancellersAreCalibrated`. -/
theorem witness_CancellersAreCalibrated :
    (∃ (x : CalRes) (s : State), (∃ s0, State.foundBy (.uhfCalEnd x) s0 = s) ∧ s.dev.uhf.run = .full ∧ s.dev.uhf.on = true ∧
        x.fail true (s.dev.uhf.ant[s.dev.uhf.acfg]).en = 0 ∧ s.dev.uhf.calRun = none ∧ s.dev.uhf.nextHop = none ∧
        s.dev.uhf.acfgT = s.dev.uhf.acfg ∧ s.dev.uhf.nochan = false) ∧
    (∃ (x : CalRes) (s : State), (∃ s0, State.foundBy (.uhfCalEnd x) s0 = s) ∧ s.dev.uhf.run = .full ∧ s.dev.uhf.on = true ∧
        s.dev.uhf.calRun = none ∧ s.dev.uhf.nextHop = none ∧ s.dev.uhf.acfgT = s.dev.uhf.acfg ∧
        0 < x.fail true (s.dev.uhf.ant[s.dev.uhf.acfg]).en ∧ x.fail true (s.dev.uhf.ant[s.dev.uhf.acfg]).en < 4) ∧
    (∃ (dir : Vector TrackDir 4) (s : State), (∃ s0, State.foundBy (.cancellerTrack dir) s0 = s) ∧ s.dev.uhf.on = true ∧
        s.dev.uhf.frozen = false ∧ s.dev.uhf.run = .idle ∧ s.dev.uhf.trackT + usT 2 ≤ s.dev.now) ∧
    (∃ (i : Fin 4) (s : State), (∃ s0, State.foundBy (.residualExcursion i true) s0 = s) ∧ s.dev.uhf.on = true ∧
        (s.dev.uhf.ant[s.dev.uhf.acfg]).en.testBit i.val = true ∧ (s.dev.uhf.resid[i]) = none) ∧
    (∃ (i : Fin 4) (t0 : Nat) (s : State), (∃ s0, State.foundBy (.residualPersist i) s0 = s) ∧ (s.dev.uhf.resid[i]) = some t0 ∧
        t0 + msT 1 ≤ s.dev.now) :=
  ⟨⟨x34_0, (State.foundBy (.uhfCalEnd x34_0) s34_0),
    ⟨s34_0, rfl⟩, by decide +kernel⟩,
   ⟨x34_1, (State.foundBy (.uhfCalEnd x34_1) s34_1),
    ⟨s34_1, rfl⟩, by decide +kernel⟩,
   ⟨(#v[.down, .stay, .up, .up]), (State.foundBy (.cancellerTrack (#v[.down, .stay, .up, .up])) s34_2),
    ⟨s34_2, rfl⟩, by decide +kernel⟩,
   ⟨1, (State.foundBy (.residualExcursion 1 true) s34_3),
    ⟨s34_3, rfl⟩, by decide +kernel⟩,
   ⟨1, 0, (State.foundBy (.residualPersist 1) s34_4),
    ⟨s34_4, rfl⟩, by decide +kernel⟩⟩

def s35_0 : State := st fun d => (inM .m6 d).onUhf fun u => { u with coex := { role := 1 }, want := true, reqOut := true, reqT := some 0 }
def s35_1 : State := st fun d => (inM .m6 d).onUhf fun u => { u with coex := { role := 1 }, want := true, reqOut := true, gntIn := true, hold := true, on := true, carrier := true }
def s35_2 : State := st fun d => (atT (msT 1)
    (inM .m6 d)).onUhf fun u => { u with coex := { role := 1 }, want := true, reqOut := true, reqT := some 0 }
def s35_3 : State := st fun d => (inM .m6 d).onUhf fun u => { u with coex := { role := 1 }, want := true, boEnd := some 0 }
def s35_4 : State := st fun d => (inM .m6 d).onUhf fun u => { u with coex := { role := 2 } }
def s35_5 : State := st fun d => (inM .m6 d).onUhf fun u => { u with coex := { role := 2 }, peerPin := true }
def s35_6 : State := st fun d => (inM .m6 d).onUhf fun u => { u with coex := { role := 2 }, peerPin := true, gntDue := true }
def s35_7 : State := st fun d => (inM .m6 d).onUhf fun u => { u with coexNext := some ({ role := 1 }) }
def s35_8 : State := st fun d => (atT (msT 20)
    (inM .m6 d)).onUhf fun u => { u with coex := { role := 2 }, peerReq := true, hold := true, peerT := 0 }

/-- States and operands that meet the premises of each clause of `Obligations.TheAerialIsRequestedAndArbitrated`. -/
theorem witness_TheAerialIsRequestedAndArbitrated :
    (∃ (level : Bool) (s : State), (∃ s0, State.foundBy (.coexGntChange level) s0 = s) ∧ s.dev.mode.cur ≠ .m0 ∧
        s.dev.uhf.coex.role = 1 ∧ (level ^^ s.dev.uhf.coex.pol.testBit 2) = true ∧ s.dev.uhf.reqOut = true ∧ s.dev.uhf.hold = false) ∧
    (∃ (level : Bool) (s : State), (∃ s0, State.foundBy (.coexGntChange level) s0 = s) ∧ s.dev.mode.cur ≠ .m0 ∧
        s.dev.uhf.coex.role = 1 ∧ (level ^^ s.dev.uhf.coex.pol.testBit 2) = false ∧ s.dev.uhf.hold = true) ∧
    (∃ (draw : Nat) (t0 : Nat) (s : State), (∃ s0, State.foundBy (.coexGntTimeout draw) s0 = s) ∧ s.dev.uhf.coex.role = 1 ∧
        s.dev.uhf.reqOut = true ∧ s.dev.uhf.hold = false ∧ s.dev.uhf.reqT = some t0 ∧
        t0 + usT (10 * s.dev.uhf.coex.gntTo) ≤ s.dev.now) ∧
    (∃ (t0 : Nat) (s : State), (∃ s0, State.foundBy .coexBackoffEnd s0 = s) ∧ s.dev.uhf.boEnd = some t0 ∧ t0 ≤ s.dev.now ∧
        s.dev.uhf.coex.role = 1 ∧ s.dev.uhf.want = true ∧ s.dev.uhf.hold = false) ∧
    (∃ (req : Bool) (pri : Bool) (s : State), (∃ s0, State.foundBy (.coexReqChange req pri) s0 = s) ∧ s.dev.mode.cur ≠ .m0 ∧
        s.dev.uhf.coex.role = 2) ∧
    (∃ (draw : Nat) (s : State), (∃ s0, State.foundBy (.coexDecision draw) s0 = s) ∧ s.dev.mode.cur ≠ .m0 ∧ s.dev.uhf.coexNext = none ∧
        s.dev.uhf.coex.role = 2 ∧ s.dev.uhf.peerPin = true ∧ s.dev.uhf.gntOut = false ∧ s.dev.uhf.gntDue = false ∧
        s.dev.uhf.hold = false ∧ s.dev.uhf.want = false ∧ s.dev.carrierOff = true) ∧
    (∃ (draw : Nat) (s : State), (∃ s0, State.foundBy (.coexDecision draw) s0 = s) ∧ s.dev.mode.cur ≠ .m0 ∧ s.dev.uhf.coexNext = none ∧
        s.dev.uhf.coex.role = 2 ∧ s.dev.uhf.peerPin = true ∧ s.dev.uhf.gntOut = false ∧ s.dev.uhf.gntDue = true ∧
        s.dev.carrierOff = true) ∧
    (∃ (draw : Nat) (g : CoexCfg) (s : State), (∃ s0, State.foundBy (.coexDecision draw) s0 = s) ∧ s.dev.mode.cur ≠ .m0 ∧
        s.dev.uhf.coexNext = some g ∧ g.role ≠ 2 ∧ s.dev.uhf.want = false) ∧
    (∃ (s : State), (∃ s0, State.foundBy .coexHoldMax s0 = s) ∧ s.dev.uhf.coex.role = 2 ∧ s.dev.uhf.peerReq = true ∧
        s.dev.uhf.gntOut = false ∧ s.dev.uhf.hold = true ∧ s.dev.uhf.peerT + msT s.dev.uhf.coex.holdMax ≤ s.dev.now) :=
  ⟨⟨true, (State.foundBy (.coexGntChange true) s35_0),
    ⟨s35_0, rfl⟩, by decide +kernel⟩,
   ⟨false, (State.foundBy (.coexGntChange false) s35_1),
    ⟨s35_1, rfl⟩, by decide +kernel⟩,
   ⟨5, 0, (State.foundBy (.coexGntTimeout 5) s35_2),
    ⟨s35_2, rfl⟩, by decide +kernel⟩,
   ⟨0, (State.foundBy .coexBackoffEnd s35_3),
    ⟨s35_3, rfl⟩, by decide +kernel⟩,
   ⟨true, false, (State.foundBy (.coexReqChange true false) s35_4),
    ⟨s35_4, rfl⟩, by decide +kernel⟩,
   ⟨5, (State.foundBy (.coexDecision 5) s35_5),
    ⟨s35_5, rfl⟩, by decide +kernel⟩,
   ⟨5, (State.foundBy (.coexDecision 5) s35_6),
    ⟨s35_6, rfl⟩, by decide +kernel⟩,
   ⟨5, ({ role := 1 }), (State.foundBy (.coexDecision 5) s35_7),
    ⟨s35_7, rfl⟩, by decide +kernel⟩,
   ⟨(State.foundBy .coexHoldMax s35_8),
    ⟨s35_8, rfl⟩, by decide +kernel⟩⟩

def c36_0 : Cmd := { opc := 8, payload := [3, 0, 0, 0] }
def s36_0 : State := run .m4 c36_0
def c36_1 : Cmd := { opc := 8, payload := [4, 1, 0, 0] ++ ([1, 7, 2, 10, 20, 30, 0, 0]) }
def s36_1 : State := run .m4 c36_1
def c36_2 : Cmd := { opc := 0x80, payload := [2, byteOf 3, byteOf 0, byteOf 63] }
def s36_2 : State := st fun d => has c36_2 ((inM .m9 d).onUhf fun u => { u with chCfg := upd u.chCfg 4 fun c => { c with en := true }, coex := { role := 1 } })
def c36_3 : Cmd := { opc := 0x80, payload := [2, 3, 0, 63], phase := .aerial }
def s36_3 : State := st fun d => has c36_3 (atT (msT 1000) (inM .m9 d))
def s36_4 : State := st fun d => (inM .m6 d).onUhf fun u => { u with chCfg := upd u.chCfg 4 fun c => { c with en := true }, revWait := true, txc := { hopMode := 0 } }
def s36_5 : State := st fun d => (inM .m6 d).onUhf fun u => { u with chCfg := upd u.chCfg 4 fun c => { c with en := true }, nochan := true }

/-- States and operands that meet the premises of each clause of `Obligations.TheRadioIsConfiguredAndWaits`. -/
theorem witness_TheRadioIsConfiguredAndWaits :
    (∃ (tag : Fin 32) (c : Cmd) (s : State), Ready 0x08 tag c s.dev ∧ (∃ s0, State.foundBy (.radioConfig tag) s0 = s) ∧
        c.payload = [3, 0, 0, 0]) ∧
    (∃ (tag : Fin 32) (c : Cmd) (p : List Byte) (s : State), Ready 0x08 tag c s.dev ∧ (∃ s0, State.foundBy (.radioConfig tag) s0 = s) ∧
        c.payload = [4, 1, 0, 0] ++ p ∧ p.length = 8 ∧ coexOk p = true ∧ s.dev.mode.cur = .m4) ∧
    (∃ (tag : Fin 32) (c : Cmd) (fl : Nat) (first : Nat) (last : Nat) (k : Fin 64) (rest : List (Fin 64)) (s : State),
        Ready 0x80 tag c s.dev ∧ (∃ s0, State.foundBy (.calibrateUhf tag) s0 = s) ∧ fl ≤ 3 ∧ first ≤ last ∧ last ≤ 63 ∧
        c.payload = [2, byteOf fl, byteOf first, byteOf last] ∧ s.dev.uhf.calRun = none ∧
        (allCh.filter fun j => decide (first ≤ j.val) && decide (j.val ≤ last) && (s.dev.uhf.chCfg[j]).en) = k :: rest ∧
        s.dev.uhf.hold = false ∧ s.dev.uhf.coex.role = 1 ∧ s.dev.uhf.boEnd = none ∧ s.dev.uhf.gntIn = false) ∧
    (∃ (tag : Fin 32) (c : Cmd) (s : State), (∃ s0, State.foundBy (.aerialWaitLimit tag) s0 = s) ∧ s.dev.cmd tag = some c ∧
        c.opc = 0x80 ∧ s.dev.aerialLate c = true) ∧
    (∃ (draw : Nat) (c : Fin 64) (rest : List (Fin 64)) (s : State), (∃ s0, State.foundBy (.revisitExpiry draw) s0 = s) ∧
        s.dev.uhf.revWait = true ∧ s.dev.mode.qual = none ∧ s.dev.permitted = c :: rest ∧ s.dev.uhf.txc.hopMode = 0 ∧
        s.dev.uhf.txkill = false ∧ s.dev.uhf.busy = false ∧ s.dev.uhf.on = false ∧ s.dev.uhf.carrier = false) ∧
    (∃ (draw : Nat) (s : State), (∃ s0, State.foundBy (.failedChannelRetry draw) s0 = s) ∧ s.dev.uhf.nochan = true ∧
        s.dev.usable ≠ [] ∧ s.dev.uhf.carrier = false) :=
  ⟨⟨3, c36_0, (State.foundBy (.radioConfig 3) s36_0),
    by unfold Ready; decide +kernel, ⟨s36_0, rfl⟩, by decide +kernel⟩,
   ⟨3, c36_1, ([1, 7, 2, 10, 20, 30, 0, 0]), (State.foundBy (.radioConfig 3) s36_1),
    by unfold Ready; decide +kernel, ⟨s36_1, rfl⟩, by decide +kernel⟩,
   ⟨3, c36_2, 3, 0, 63, 4, [], (State.foundBy (.calibrateUhf 3) s36_2),
    by unfold Ready; decide +kernel, ⟨s36_2, rfl⟩, by decide +kernel⟩,
   ⟨3, c36_3, (State.foundBy (.aerialWaitLimit 3) s36_3),
    ⟨s36_3, rfl⟩, by decide +kernel⟩,
   ⟨5, 4, [], (State.foundBy (.revisitExpiry 5) s36_4),
    ⟨s36_4, rfl⟩, by decide +kernel⟩,
   ⟨5, (State.foundBy (.failedChannelRetry 5) s36_5),
    ⟨s36_5, rfl⟩, by decide +kernel⟩⟩

def c37_0 : Cmd := { opc := 0x40, payload := List.replicate 12 0 }
def s37_0 : State := run .m6 c37_0
def c37_1 : Cmd := { opc := 0x40, payload := [1, 0, 0, 4, 0, 0, 0, 0, 0, 0, 0, 0] }
def s37_1 : State := st fun d => has c37_1 ((inM .m6 d).onUhf fun u => { u with on := true, hold := true, want := true, carrier := true })
def c37_2 : Cmd := { opc := 0x40, payload := [2, 0, 0, 4, 0, 0, 0, 0, 10, 0, 0, 0], phase := .slots }
def s37_2 : State := st fun d => has c37_2 ((atT (msT 10)
    (inM .m6 d)).onRoom fun r => { r with once := some ({ tag := 3, maxMs := 10 }), inv := some {} })

/-- States and operands that meet the premises of each clause of `Obligations.InventoryRuns`. -/
theorem witness_InventoryRuns :
    (∃ (tag : Fin 32) (c : Cmd) (draw : Nat) (s : State), Ready 0x40 tag c s.dev ∧
        (∃ s0, State.foundBy (.roomInventory tag draw) s0 = s) ∧ c.payload = List.replicate 12 0) ∧
    (∃ (tag : Fin 32) (c : Cmd) (draw : Nat) (s : State), Ready 0x40 tag c s.dev ∧
        (∃ s0, State.foundBy (.roomInventory tag draw) s0 = s) ∧ invOk c.payload = true ∧ 12 ≤ c.payload.length ∧
        byteAt c.payload 0 = 1 ∧ s.dev.room.once = none ∧ s.dev.th.shut = false ∧ s.dev.room.inv = none ∧ s.dev.uhf.on = true ∧
        s.dev.uhf.hold = true ∧ s.dev.uhf.nochan = false) ∧
    (∃ (tag : Fin 32) (c : Cmd) (o : OnceRun) (s : State), (∃ s0, State.foundBy (.onceMaxMs tag) s0 = s) ∧ s.dev.room.once = some o ∧
        o.tag = tag ∧ o.start + msT o.maxMs ≤ s.dev.now ∧ s.dev.cmd tag = some c ∧ c.opc ≠ 4 ∧ s.dev.room.pend = [] ∧
        s.dev.room.stopTags = []) :=
  ⟨⟨3, c37_0, 5, (State.foundBy (.roomInventory 3 5) s37_0),
    by unfold Ready; decide +kernel, ⟨s37_0, rfl⟩, by decide +kernel⟩,
   ⟨3, c37_1, 5, (State.foundBy (.roomInventory 3 5) s37_1),
    by unfold Ready; decide +kernel, ⟨s37_1, rfl⟩, by decide +kernel⟩,
   ⟨3, c37_2, ({ tag := 3, maxMs := 10 }), (State.foundBy (.onceMaxMs 3) s37_2),
    ⟨s37_2, rfl⟩, by decide +kernel⟩⟩

def s38_0 : State := st fun d => ((atT (msT 20)
    (inM .m6 d)).onUhf fun u => { u with ant := upd u.ant 0 (fun a => { a with en := 15 }), on := true, hold := true, want := true, carrier := true }).onRoom fun r => { r with slot := true, inv := some {}, left := 5, qfp := 64, q := 4, cmdEnd := 0 }
def s38_1 : State := st fun d => ((atT (msT 20)
    (inM .m6 d)).onUhf fun u => { u with ant := upd u.ant 0 (fun a => { a with en := 15 }), on := true, hold := true, want := true, carrier := true }).onRoom fun r => { r with slot := true, inv := some {}, left := 5, qfp := 64, q := 4, cmdEnd := msT 19 }
def s38_2 : State := st fun d => ((atT (msT 20)
    (inM .m6 d)).onUhf fun u => { u with ant := upd u.ant 0 (fun a => { a with en := 15 }), on := true, hold := true, want := true, carrier := true }).onRoom fun r => { r with slot := true, inv := some {}, left := 5, qfp := 64, q := 4, cmdEnd := msT 19 }
def r38_3 : RRead := { pc := 0x3000, epc := [1, 2], chan := 4, acfg := 0, rssi := -500, est := none, dq := 0, phc := 9, t := 0 }
def s38_3 : State := st fun d => (atT (msT 10)
    (inM .m6 d)).onRoom fun r => { r with pend := [.read r38_3], cfg := { age := 0 }, act := { age := 0 } }

/-- States and operands that meet the premises of each clause of `Obligations.SlotsAndReadsFillTheRoomTable`. -/
theorem witness_SlotsAndReadsFillTheRoomTable :
    (∃ (p : InvPar) (s : State), (∃ s0, State.foundBy .uhfSlotEmpty s0 = s) ∧ s.dev.inSlot = true ∧ s.dev.slotOver = true ∧
        s.dev.room.inv = some p ∧ s.dev.room.stopTags = [] ∧ s.dev.room.once = none ∧ 3 ≤ s.dev.room.left) ∧
    (∃ (p : InvPar) (rn : Option Nat) (s : State), (∃ s0, State.foundBy (.uhfTagReply (.collided rn)) s0 = s) ∧ s.dev.inSlot = true ∧
        s.dev.room.inv = some p ∧ s.dev.room.stopTags = [] ∧ s.dev.room.once = none ∧ 3 ≤ s.dev.room.left) ∧
    (∃ (p : InvPar) (rn : Nat) (pc : Nat) (epc : List Byte) (power : Vector Int 4) (phase : Vector Int 4) (s : State), (∃ s0,
        State.foundBy (.uhfTagReply (.epc rn pc epc power phase)) s0 = s) ∧ s.dev.inSlot = true ∧ s.dev.room.inv = some p ∧
        s.dev.room.stopTags = [] ∧ s.dev.room.once = none ∧ 3 ≤ s.dev.room.left ∧ epc.length ≤ 62 ∧ s.dev.rxValid ≠ 0) ∧
    (∃ (r : RRead) (s : State), (∃ s0, State.foundBy .roomUpdateStep s0 = s) ∧ s.dev.roomDue = true ∧
        (s.dev.room.lastRoom = false ∨ s.dev.presDue = false) ∧ s.dev.room.pend = [.read r] ∧ s.dev.room.act.age = 0 ∧
        (s.dev.room.table.find? fun x => decide (x.2.pc = r.pc) && decide (x.2.epc = r.epc)) = none ∧
        freeFrom 0 s.dev.room.table < 4096) :=
  ⟨⟨{}, (State.foundBy .uhfSlotEmpty s38_0),
    ⟨s38_0, rfl⟩, by decide +kernel⟩,
   ⟨{}, (some 7), (State.foundBy (.uhfTagReply (.collided (some 7))) s38_1),
    ⟨s38_1, rfl⟩, by decide +kernel⟩,
   ⟨{}, 7, 0x3000, ([1, 2]), (#v[-500, -510, -520, -530]), (#v[0, 100, 200, 300]), (State.foundBy (.uhfTagReply (.epc 7 0x3000 ([1,
       2]) (#v[-500, -510, -520, -530]) (#v[0, 100, 200, 300]))) s38_2),
    ⟨s38_2, rfl⟩, by decide +kernel⟩,
   ⟨r38_3, (State.foundBy .roomUpdateStep s38_3),
    ⟨s38_3, rfl⟩, by decide +kernel⟩⟩

def c39_0 : Cmd := { opc := 0x41, payload := [0, 1] ++ le 2 30 ++ [3, 15, 1, 0] ++ le 2 1500 ++ [0, 0, 1, 0, 2, 0, 3, 0] ++ le 2 0 }
def s39_0 : State := run .m6 c39_0
def c39_1 : Cmd := { opc := 0x41, payload := [1, 1] ++ le 2 30 ++ [3, 15, 1, 0] ++ le 2 1500 ++ [0, 0, 1, 0, 2, 0, 3, 0] ++ le 2 0 }
def s39_1 : State := run .m6 c39_1
def c39_2 : Cmd := { opc := 0x42, payload := [0, 0, 1, 0, 0, 0, 2], phase := .frames }
def x39_2 : RStep := { draw := 5, challenge := [], rssi := -500, ans := .silent }
def s39_2 : State := st fun d => has c39_2 (((atT (msT 20)
    (inM .m6 d)).onUhf fun u => { u with ant := upd u.ant 0 (fun a => { a with en := 15 }), on := true, hold := true, want := true, carrier := true }).onRoom fun r => { r with access := some 3, acc := { stage := .start } })
def c39_3 : Cmd := { opc := 0x43, payload := [0, 0, 5, 0], phase := .frames }
def x39_3 : RStep := { draw := 5, challenge := [], rssi := -500, ans := .silent }
def s39_3 : State := st fun d => has c39_3 (((atT (msT 20)
    (inM .m6 d)).onUhf fun u => { u with ant := upd u.ant 0 (fun a => { a with en := 15 }), on := true, hold := true, want := true, carrier := true }).onRoom fun r => { r with access := some 3, acc := { stage := .start } })
def c39_4 : Cmd := { opc := 0x42, payload := [0, 0, 1, 0, 0, 0, 2], phase := .frames }
def x39_4 : RStep := { draw := 5, challenge := [], rssi := -500, ans := .data ([1, 2, 3, 4]) }
def s39_4 : State := st fun d => has c39_4 (((atT (msT 20)
    (inM .m6 d)).onUhf fun u => { u with ant := upd u.ant 0 (fun a => { a with en := 15 }), on := true, hold := true, want := true, carrier := true }).onRoom fun r => { r with access := some 3, acc := { stage := .op } })
def c39_5 : Cmd := { opc := 0x43, payload := [0, 0, 5, 0], phase := .frames }
def x39_5 : RStep := { draw := 5, challenge := [], rssi := -500, ans := .data (List.replicate 16 7) }
def s39_5 : State := st fun d => has c39_5 (((atT (msT 20)
    (inM .m6 d)).onUhf fun u => { u with ant := upd u.ant 0 (fun a => { a with en := 15 }), on := true, hold := true, want := true, carrier := true }).onRoom fun r => { r with access := some 3, acc := { stage := .op } })

/-- States and operands that meet the premises of each clause of `Obligations.RoomCommandsReply`. -/
theorem witness_RoomCommandsReply :
    (∃ (tag : Fin 32) (c : Cmd) (s : State), Ready 0x41 tag c s.dev ∧ (∃ s0, State.foundBy (.roomConfig tag) s0 = s) ∧
        c.payload.length = 20 ∧ roomCfgOk c.payload = true ∧ byteAt c.payload 0 = 0) ∧
    (∃ (tag : Fin 32) (c : Cmd) (s : State), Ready 0x41 tag c s.dev ∧ (∃ s0, State.foundBy (.roomConfig tag) s0 = s) ∧
        c.payload.length = 20 ∧ roomCfgOk c.payload = true ∧ byteAt c.payload 0 = 1) ∧
    (∃ (tag : Fin 32) (c : Cmd) (x : RStep) (s : State), (∃ s0, State.foundBy (.roomAccess tag x) s0 = s) ∧ s.dev.cmd tag = some c ∧
        c.opc = 0x42 ∧ c.phase = .frames ∧ c.deadline = 0 ∧ c.stopReq = false ∧ s.dev.room.access = some tag ∧ s.dev.roomUp = true ∧
        s.dev.room.acc.stage = .start ∧ x.ans = .silent) ∧
    (∃ (tag : Fin 32) (c : Cmd) (x : RStep) (s : State), (∃ s0, State.foundBy (.roomAuth tag x) s0 = s) ∧ s.dev.cmd tag = some c ∧
        c.opc = 0x43 ∧ c.phase = .frames ∧ c.deadline = 0 ∧ c.stopReq = false ∧ s.dev.room.access = some tag ∧ s.dev.roomUp = true ∧
        s.dev.room.acc.stage = .start ∧ x.ans = .silent) ∧
    (∃ (tag : Fin 32) (c : Cmd) (x : RStep) (l : List Byte) (s : State), (∃ s0, State.foundBy (.roomAccess tag x) s0 = s) ∧
        s.dev.cmd tag = some c ∧ c.opc = 0x42 ∧ c.phase = .frames ∧ byteAt c.payload 2 = 1 ∧ s.dev.room.access = some tag ∧
        s.dev.roomUp = true ∧ s.dev.room.acc.stage = .op ∧ x.ans = .data l ∧ l.length = 2 * byteAt c.payload 6) ∧
    (∃ (tag : Fin 32) (c : Cmd) (x : RStep) (l : List Byte) (s : State), (∃ s0, State.foundBy (.roomAuth tag x) s0 = s) ∧
        s.dev.cmd tag = some c ∧ c.opc = 0x43 ∧ c.phase = .frames ∧ s.dev.room.access = some tag ∧ s.dev.roomUp = true ∧
        s.dev.room.acc.stage = .op ∧ x.ans = .data l ∧ l.length = 16 ∧ s.dev.room.pend = []) :=
  ⟨⟨3, c39_0, (State.foundBy (.roomConfig 3) s39_0),
    by unfold Ready; decide +kernel, ⟨s39_0, rfl⟩, by decide +kernel⟩,
   ⟨3, c39_1, (State.foundBy (.roomConfig 3) s39_1),
    by unfold Ready; decide +kernel, ⟨s39_1, rfl⟩, by decide +kernel⟩,
   ⟨3, c39_2, x39_2, (State.foundBy (.roomAccess 3 x39_2) s39_2),
    ⟨s39_2, rfl⟩, by decide +kernel⟩,
   ⟨3, c39_3, x39_3, (State.foundBy (.roomAuth 3 x39_3) s39_3),
    ⟨s39_3, rfl⟩, by decide +kernel⟩,
   ⟨3, c39_4, x39_4, ([1, 2, 3, 4]), (State.foundBy (.roomAccess 3 x39_4) s39_4),
    ⟨s39_4, rfl⟩, by decide +kernel⟩,
   ⟨3, c39_5, x39_5, (List.replicate 16 7), (State.foundBy (.roomAuth 3 x39_5) s39_5),
    ⟨s39_5, rfl⟩, by decide +kernel⟩⟩

def xs40_0 : List CSample := List.replicate 3 (#v[1000, 200, -200, 100, 0])
def s40_0 : State := st fun d => (inM .m5 d).onCask fun k => { k with phase := .run }
def s40_1 : State := st fun d => (inM .m5 d).onCask fun k => { k with phase := .run }
def s40_2 : State := st fun d => (inM .m5 d).onCask fun k => { k with phase := .run, csec := 900 }
def s40_3 : State := st fun d => (inM .m5 d).onCask fun k => { k with phase := .run }
def s40_4 : State := st fun d => (inM .m5 d).onCask fun k => { k with phase := .run, erase := [(3, 4)] }

/-- States and operands that meet the premises of each clause of `Obligations.CaskMetersAndCommits`. -/
theorem witness_CaskMetersAndCommits :
    (∃ (ns : Nat) (xs : List CSample) (s : State), (∃ s0, State.foundBy (.caskCycleEnd ns xs) s0 = s) ∧ s.dev.cask.phase = .run) ∧
    (∃ (low : Bool) (s : State), (∃ s0, State.foundBy (.sealChange low) s0 = s) ∧ s.dev.cask.phase = .run ∧ s.dev.cask.sealOpen ≠ low) ∧
    (∃ (s : State), (∃ s0, State.foundBy .caskTimedCommit s0 = s) ∧ s.dev.cask.phase = .run ∧
        900 ≤ s.dev.cask.csec - s.dev.cask.comSec ∧ s.dev.cask.erase = []) ∧
    (∃ (s : State), (∃ s0, State.foundBy .caskRegsTimer s0 = s) ∧ s.dev.cask.phase = .run) ∧
    (∃ (r : Fin 12) (c : Fin 8) (rest : List (Fin 12 × Fin 8)) (s : State), (∃ s0, State.foundBy .caskEraseDone s0 = s) ∧
        s.dev.cask.phase = .run ∧ s.dev.cask.erase = (r, c) :: rest ∧ rest.head? ≠ some (r, c)) :=
  ⟨⟨20000000, xs40_0, (State.foundBy (.caskCycleEnd 20000000 xs40_0) s40_0),
    ⟨s40_0, rfl⟩, by decide +kernel⟩,
   ⟨true, (State.foundBy (.sealChange true) s40_1),
    ⟨s40_1, rfl⟩, by decide +kernel⟩,
   ⟨(State.foundBy .caskTimedCommit s40_2),
    ⟨s40_2, rfl⟩, by decide +kernel⟩,
   ⟨(State.foundBy .caskRegsTimer s40_3),
    ⟨s40_3, rfl⟩, by decide +kernel⟩,
   ⟨3, 4, [], (State.foundBy .caskEraseDone s40_4),
    ⟨s40_4, rfl⟩, by decide +kernel⟩⟩

def s41_0 : State := st fun d => (inM .m5 d).onCask fun k => { k with phase := .run }
def s41_1 : State := st fun d => (inM .m5 d).onCask fun k => { k with phase := .failing }
def s41_2 : State := st fun d => (inM .m5 d).onCask fun k => { k with phase := .failing }
def s41_3 : State := State.reset
def s41_4 : State := st fun d => (inM .m5 d).onCask fun k => { k with phase := .run }

/-- States and operands that meet the premises of each clause of `Obligations.CaskSupplies`. -/
theorem witness_CaskSupplies :
    (∃ (s : State), (∃ s0, State.foundBy .caskPowerFail s0 = s) ∧ s.dev.cask.phase = .run) ∧
    (∃ (s : State), (∃ s0, State.foundBy .caskSupplyRecover s0 = s) ∧ s.dev.cask.phase = .failing) ∧
    (∃ (n : Fin 14) (part : Bool) (s : State), (∃ s0, State.foundBy (.caskHoldReset n part) s0 = s) ∧ s.dev.cask.phase = .failing) ∧
    (∃ (rom : Bool) (ram : Bool) (conv : Bool) (cbkp : Bool) (s : State), (∃ s0,
        State.foundBy (.caskPowerOn rom ram conv cbkp) s0 = s) ∧ s.dev.cask.phase = .off) ∧
    (∃ (cbkp : Bool) (s : State), (∃ s0, State.foundBy (.caskSupplySwitch cbkp) s0 = s) ∧ s.dev.cask.phase = .run) :=
  ⟨⟨(State.foundBy .caskPowerFail s41_0),
    ⟨s41_0, rfl⟩, by decide +kernel⟩,
   ⟨(State.foundBy .caskSupplyRecover s41_1),
    ⟨s41_1, rfl⟩, by decide +kernel⟩,
   ⟨13, true, (State.foundBy (.caskHoldReset 13 true) s41_2),
    ⟨s41_2, rfl⟩, by decide +kernel⟩,
   ⟨true, true, true, false, (State.foundBy (.caskPowerOn true true true false) s41_3),
    ⟨s41_3, rfl⟩, by decide +kernel⟩,
   ⟨true, (State.foundBy (.caskSupplySwitch true) s41_4),
    ⟨s41_4, rfl⟩, by decide +kernel⟩⟩

def s42_0 : State := st fun d => (inM .m5 d).onCask fun k => { k with phase := .run, query := some (4, 0) }
def s42_1 : State := st fun d => (inM .m5 d).onCask fun k => { k with phase := .run }
def s42_2 : State := st fun d => (inM .m5 d).onCask fun k => { k with phase := .run }
def s42_3 : State := st fun d => (inM .m5 d).onCask fun k => { k with phase := .run }
def s42_4 : State := st fun d => (inM .m5 d).onCask fun k => { k with phase := .run }
def s42_5 : State := st fun d => (inM .m5 d).onCask fun k => { k with phase := .run }
def s42_6 : State := st fun d => (inM .m5 d).onCask fun k => { k with phase := .run }

/-- States and operands that meet the premises of each clause of `Obligations.CaskAnswers`. -/
theorem witness_CaskAnswers :
    (∃ (q : Nat) (arg : Nat) (data : List Byte) (s : State), (∃ s0, State.foundBy .caskQuery s0 = s) ∧ s.dev.cask.phase = .run ∧
        s.dev.cask.query = some (q, arg) ∧ s.dev.cask.answer q arg = some data) ∧
    (∃ (s : State), (∃ s0, State.foundBy .adjIdent s0 = s) ∧ s.dev.cask.phase = .run) ∧
    (∃ (id : Fin 32) (s : State), (∃ s0, State.foundBy (.adjParamRead id.val) s0 = s) ∧ s.dev.cask.phase = .run) ∧
    (∃ (id : Nat) (s : State), (∃ s0, State.foundBy (.adjParamRead id) s0 = s) ∧ s.dev.cask.phase = .run ∧ 32 ≤ id) ∧
    (∃ (s : State), (∃ s0, State.foundBy .adjLive s0 = s) ∧ s.dev.cask.phase = .run) ∧
    (∃ (s : State), (∃ s0, State.foundBy .adjFrameTimeout s0 = s) ∧ s.dev.cask.phase = .run) ∧
    (∃ (cmd : BitVec 8) (s : State), (∃ s0, State.foundBy (.adjBadCommand cmd) s0 = s) ∧ s.dev.cask.phase = .run ∧
        (cmd.toNat = 0 ∨ 6 < cmd.toNat)) :=
  ⟨⟨4, 0, (CPar.bytes {}), (State.foundBy .caskQuery s42_0),
    ⟨s42_0, rfl⟩, by decide +kernel⟩,
   ⟨(State.foundBy .adjIdent s42_1),
    ⟨s42_1, rfl⟩, by decide +kernel⟩,
   ⟨31, (State.foundBy (.adjParamRead (31 : Fin 32).val) s42_2),
    ⟨s42_2, rfl⟩, by decide +kernel⟩,
   ⟨32, (State.foundBy (.adjParamRead 32) s42_3),
    ⟨s42_3, rfl⟩, by decide +kernel⟩,
   ⟨(State.foundBy .adjLive s42_4),
    ⟨s42_4, rfl⟩, by decide +kernel⟩,
   ⟨(State.foundBy .adjFrameTimeout s42_5),
    ⟨s42_5, rfl⟩, by decide +kernel⟩,
   ⟨7, (State.foundBy (.adjBadCommand 7) s42_6),
    ⟨s42_6, rfl⟩, by decide +kernel⟩⟩

def s43_0 : State := st fun d => (inM .m5 d).onCask fun k => { k with phase := .run, sealOpen := true }
def s43_1 : State := st fun d => (inM .m5 d).onCask fun k => { k with phase := .run }
def s43_2 : State := st fun d => (inM .m5 d).onCask fun k => { k with phase := .run, sealOpen := true }
def s43_3 : State := st fun d => (inM .m5 d).onCask fun k => { k with phase := .run, sealOpen := true, staged := upd k.staged 1 fun _ => some 60 }
def s43_4 : State := st fun d => (inM .m5 d).onCask fun k => { k with phase := .run }

/-- States and operands that meet the premises of each clause of `Obligations.AdjustmentNeedsTheSealOpen`. -/
theorem witness_AdjustmentNeedsTheSealOpen :
    (∃ (id : Nat) (v : Word) (s : State), (∃ s0, State.foundBy (.adjParamStage id v) s0 = s) ∧ s.dev.cask.phase = .run ∧
        s.dev.cask.sealOpen = true ∧ parOk id v = true) ∧
    (∃ (id : Nat) (v : Word) (s : State), (∃ s0, State.foundBy (.adjParamStage id v) s0 = s) ∧ s.dev.cask.phase = .run ∧
        s.dev.cask.sealOpen = false) ∧
    (∃ (s : State), (∃ s0, State.foundBy .adjStageDiscard s0 = s) ∧ s.dev.cask.phase = .run ∧ s.dev.cask.sealOpen = true) ∧
    (∃ (s : State), (∃ s0, State.foundBy .adjCommit s0 = s) ∧ s.dev.cask.phase = .run ∧ s.dev.cask.sealOpen = true ∧
        s.dev.cask.staged.toList.any Option.isSome = true ∧ s.dev.cask.fuses < 512) ∧
    (∃ (s : State), (∃ s0, State.foundBy .adjCommit s0 = s) ∧ s.dev.cask.phase = .run ∧ s.dev.cask.sealOpen = false) :=
  ⟨⟨1, 60, (State.foundBy (.adjParamStage 1 60) s43_0),
    ⟨s43_0, rfl⟩, by decide +kernel⟩,
   ⟨1, 60, (State.foundBy (.adjParamStage 1 60) s43_1),
    ⟨s43_1, rfl⟩, by decide +kernel⟩,
   ⟨(State.foundBy .adjStageDiscard s43_2),
    ⟨s43_2, rfl⟩, by decide +kernel⟩,
   ⟨(State.foundBy .adjCommit s43_3),
    ⟨s43_3, rfl⟩, by decide +kernel⟩,
   ⟨(State.foundBy .adjCommit s43_4),
    ⟨s43_4, rfl⟩, by decide +kernel⟩⟩

def f44_0 : CFrame := { type := 1, bseq := 5, payload := List.replicate 60 7 }
def g44_0 : CFrame := { type := 1, bseq := 5, payload := List.replicate 60 7 }
def s44_0 : State := st fun d => ((inM .m5 (d)).onCask fun k => { k with phase := .run, wire := [f44_0] }).onCl fun l => { l with link := true, bseq := 4 }
def f44_1 : CFrame := { type := 1, bseq := 5, payload := List.replicate 60 7 }
def s44_1 : State := st fun d => ((inM .m5 (d)).onCask fun k => { k with phase := .run, wire := [f44_1] }).onCl fun l => { l with link := true, bseq := 4 }
def f44_2 : CFrame := { type := 1, bseq := 5, payload := List.replicate 60 7 }
def s44_3 : State := st fun d => (atT (msT 50) (inM .m5 d)).onCl fun l => { l with link := true, cycT := some 0 }
def s44_4 : State := st fun d => ((allUp (inM .m5 d)).onNvm fun v => { v with fwRuns := true }).onCask fun k => { k with phase := .run }
def s44_5 : State := st fun d => (atT (msT 5) (inM .m5 d)).onCl fun l => { l with busy := true, owner := some .raw, qcode := 2 }
def c44_6 : Cmd := { opc := 0x50, payload := [1, 0, 0, 0] }
def s44_6 : State := st fun d => has c44_6 ((inM .m5 d).onCl fun l => { l with link := true })

/-- States and operands that meet the premises of each clause of `Obligations.TheCaskLink`. -/
theorem witness_TheCaskLink :
    (∃ (noise : List Byte) (f : CFrame) (g : CFrame) (rest : List CFrame) (s : State), (∃ s0,
        State.foundBy (.caskFrameReceive noise) s0 = s) ∧ s.dev.cask.wire = f :: rest ∧ s.dev.bclk = true ∧
        frameOf (noised noise f.bytes) = some g ∧ g.type = 1 ∧ s.dev.cl.link = true) ∧
    (∃ (noise : List Byte) (f : CFrame) (rest : List CFrame) (s : State), (∃ s0, State.foundBy (.caskFrameReceive noise) s0 = s) ∧
        s.dev.cask.wire = f :: rest ∧ s.dev.bclk = true ∧ frameOf (noised noise f.bytes) = none) ∧
    (∃ (f : CFrame), f.type < 256) ∧
    (∃ (t0 : Nat) (s : State), (∃ s0, State.foundBy .caskLinkTimeout s0 = s) ∧ s.dev.cl.cycT = some t0 ∧ s.dev.cl.link = true ∧
        t0 + msT 50 ≤ s.dev.now) ∧
    (∃ (q : Nat) (arg : Nat) (s : State), (∃ s0, State.foundBy (.clQryRead .sc q arg) s0 = s) ∧ s.dev.codeRuns .sc = true ∧
        s.dev.stalled .sc = false ∧ 1 ≤ q ∧ q ≤ 5 ∧ arg < 1024 ∧ s.dev.cl.busy = false) ∧
    (∃ (s : State), (∃ s0, State.foundBy .caskQueryTimeout s0 = s) ∧ s.dev.cl.busy = true ∧ s.dev.cl.qT + msT 5 ≤ s.dev.now ∧
        s.dev.cl.owner = some .raw ∧ s.dev.cl.catch_ = none ∧ s.dev.nextRead = none) ∧
    (∃ (tag : Fin 32) (c : Cmd) (s : State), Ready 0x50 tag c s.dev ∧ (∃ s0, State.foundBy (.caskRead tag) s0 = s) ∧
        c.payload = [1, 0, 0, 0] ∧ s.dev.cl.link = true) :=
  ⟨⟨[], f44_0, g44_0, [], (State.foundBy (.caskFrameReceive []) s44_0),
    ⟨s44_0, rfl⟩, by decide +kernel⟩,
   ⟨([0, 1]), f44_1, [], (State.foundBy (.caskFrameReceive ([0, 1])) s44_1),
    ⟨s44_1, rfl⟩, by decide +kernel⟩,
   ⟨f44_2,
    by decide +kernel⟩,
   ⟨0, (State.foundBy .caskLinkTimeout s44_3),
    ⟨s44_3, rfl⟩, by decide +kernel⟩,
   ⟨5, 11, (State.foundBy (.clQryRead .sc 5 11) s44_4),
    ⟨s44_4, rfl⟩, by decide +kernel⟩,
   ⟨(State.foundBy .caskQueryTimeout s44_5),
    ⟨s44_5, rfl⟩, by decide +kernel⟩,
   ⟨3, c44_6, (State.foundBy (.caskRead 3) s44_6),
    by unfold Ready; decide +kernel, ⟨s44_6, rfl⟩, by decide +kernel⟩⟩

def c45_0 : Cmd := { opc := 1, payload := [] }
def s45_0 : State := run .m4 c45_0
def c45_1 : Cmd := { opc := 3, payload := [0, 0, 9, 8] }
def s45_1 : State := run .m4 c45_1
def c45_2 : Cmd := { opc := 3, payload := [1, 0, 9, 8], phase := .holdTime }
def s45_2 : State := st fun d => has c45_2 (atT (msT 1) (inM .m4 d))

/-- States and operands that meet the premises of each clause of `Obligations.StatusAndEcho`. -/
theorem witness_StatusAndEcho :
    (∃ (tag : Fin 32) (c : Cmd) (s : State), Ready 0x01 tag c s.dev ∧ (∃ s0, State.foundBy (.getStatus tag) s0 = s) ∧ c.payload = []) ∧
    (∃ (tag : Fin 32) (c : Cmd) (s : State), Ready 0x03 tag c s.dev ∧ (∃ s0, State.foundBy (.echo tag) s0 = s) ∧ 2 ≤ c.payload.length ∧
        c.payload.length ≤ 258 ∧ leAt c.payload 0 2 ≤ 60000 ∧ s.dev.echoDue c = true) ∧
    (∃ (tag : Fin 32) (c : Cmd) (s : State), (∃ s0, State.foundBy (.echoHoldEnd tag) s0 = s) ∧ s.dev.cmd tag = some c ∧ c.opc = 3 ∧
        c.phase = .holdTime ∧ s.dev.echoDue c = true ∧ s.dev.pastDeadline c = false) :=
  ⟨⟨3, c45_0, (State.foundBy (.getStatus 3) s45_0),
    by unfold Ready; decide +kernel, ⟨s45_0, rfl⟩, by decide +kernel⟩,
   ⟨3, c45_1, (State.foundBy (.echo 3) s45_1),
    by unfold Ready; decide +kernel, ⟨s45_1, rfl⟩, by decide +kernel⟩,
   ⟨3, c45_2, (State.foundBy (.echoHoldEnd 3) s45_2),
    ⟨s45_2, rfl⟩, by decide +kernel⟩⟩

def c46_0 : Cmd := { opc := 3, payload := [1, 0], deadline := 1 }
def s46_0 : State := st fun d => has c46_0 (atT (msT 1) (inM .m4 d))
def c46_1 : Cmd := { opc := 3, payload := [1, 0] }
def s46_1 : State := st fun d => has c46_1 (atT (msT 120000) (inM .m4 d))
def c46_2 : Cmd := { opc := 0x18, payload := [7, 0, 0, 0, 0, 0, 0, 0, 1], phase := .frames, entry := 7, deadline := 5 }
def s46_2 : State := st fun d => has c46_2 (entry 7 { zone := some 5, state := .opened, proto := 11, uid := [1, 2, 3, 4, 5, 6, 7, 8], coils := [17] } (atT (msT 5) (inM .m7 d)))
def c46_3 : Cmd := { opc := 0x18, payload := [7, 0, 0, 0, 0, 0, 0, 0, 1], phase := .frames, entry := 7, ext := msT 10001 }
def s46_3 : State := st fun d => has c46_3 (entry 7 { zone := some 5, state := .opened, proto := 11, uid := [1, 2, 3, 4, 5, 6, 7, 8], coils := [17] } (inM .m7 d))
def c46_4 : Cmd := { opc := 4, payload := [byteOf 4, 0] }
def s46_4 : State := run .m4 c46_4
def c46_5 : Cmd := { opc := 4, payload := [byteOf 4, 0] }
def k46_5 : Cmd := { opc := 3, payload := [1, 0], order := 1 }
def s46_5 : State := st fun d => (has c46_5 (inM .m4 d)).onNcp fun n => { n with tags := upd n.tags 4 fun _ => .active k46_5 }

/-- States and operands that meet the premises of each clause of `Obligations.CommandsAreEndedBeforeTheirOwn`. -/
theorem witness_CommandsAreEndedBeforeTheirOwn :
    (∃ (tag : Fin 32) (c : Cmd) (s : State), (∃ s0, State.foundBy (.commandDeadline tag) s0 = s) ∧ s.dev.cmd tag = some c ∧
        c.phase = .fresh ∧ s.dev.pastDeadline c = true) ∧
    (∃ (tag : Fin 32) (c : Cmd) (s : State), (∃ s0, State.foundBy (.commandGuard tag) s0 = s) ∧ s.dev.cmd tag = some c ∧
        c.phase = .fresh ∧ c.deadline = 0 ∧ c.accT + msT 120000 ≤ s.dev.now) ∧
    (∃ (tag : Fin 32) (c : Cmd) (s : State), (∃ s0, State.foundBy (.workStopBeforeDeadline tag) s0 = s) ∧ s.dev.cmd tag = some c ∧
        c.opc = 0x18 ∧ c.phase = .frames ∧ c.writeSent = false ∧ s.dev.inIsland tag = false ∧ c.deadline ≠ 0 ∧
        c.accT + dlT (c.deadline - 1) ≤ s.dev.now) ∧
    (∃ (tag : Fin 32) (c : Cmd) (s : State), (∃ s0, State.foundBy (.wtxWaitLimit tag) s0 = s) ∧ s.dev.cmd tag = some c ∧ c.opc = 0x18 ∧
        c.phase = .frames ∧ c.writeSent = false ∧ c.deadline = 0 ∧ msT 10000 < c.ext) ∧
    (∃ (tag : Fin 32) (x : Fin 32) (c : Cmd) (s : State), Ready 0x04 tag c s.dev ∧ (∃ s0, State.foundBy (.abort tag) s0 = s) ∧
        x ≠ tag ∧ c.payload = [byteOf x.val, 0] ∧ s.dev.cmd x = none) ∧
    (∃ (tag : Fin 32) (x : Fin 32) (c : Cmd) (k : Cmd) (s : State), Ready 0x04 tag c s.dev ∧
        (∃ s0, State.foundBy (.abort tag) s0 = s) ∧ x ≠ tag ∧ c.payload = [byteOf x.val, 0] ∧ s.dev.cmd x = some k ∧ k.phase = .fresh ∧
        k.opc ≠ 4 ∧ s.dev.ncp.aborts = []) :=
  ⟨⟨3, c46_0, (State.foundBy (.commandDeadline 3) s46_0),
    ⟨s46_0, rfl⟩, by decide +kernel⟩,
   ⟨3, c46_1, (State.foundBy (.commandGuard 3) s46_1),
    ⟨s46_1, rfl⟩, by decide +kernel⟩,
   ⟨3, c46_2, (State.foundBy (.workStopBeforeDeadline 3) s46_2),
    ⟨s46_2, rfl⟩, by decide +kernel⟩,
   ⟨3, c46_3, (State.foundBy (.wtxWaitLimit 3) s46_3),
    ⟨s46_3, rfl⟩, by decide +kernel⟩,
   ⟨3, 4, c46_4, (State.foundBy (.abort 3) s46_4),
    by unfold Ready; decide +kernel, ⟨s46_4, rfl⟩, by decide +kernel⟩,
   ⟨3, 4, c46_5, k46_5, (State.foundBy (.abort 3) s46_5),
    by unfold Ready; decide +kernel, ⟨s46_5, rfl⟩, by decide +kernel⟩⟩

def s47_0 : State := st (inM .m4)
def s47_1 : State := st (inM .m4)
def s47_2 : State := st (inM .m4)
def s47_3 : State := st (inM .m4)
def s47_4 : State := st (inM .m4)
def s47_5 : State := Sys2Proof.Tests.st (inM .m4)
def s47_6 : State := st fun d => (inM .m4 d).onQs fun q => { q with rspq := { q.rspq with items := [[0, 0x00008301, 0]] } }
def s47_7 : State := st fun d => (inM .m4 d).onQs fun q => { q with evq := { q.evq with items := [[0, 0x00008301, 0]] } }
def s47_8 : State := st fun d => (inM .m4 d).onQs fun q => { q with rspq := { q.rspq with items := [[0, 0x00008301, 0]] } }
def s47_9 : State := st (inM .m4)
def s47_10 : State := st (inM .m4)

/-- States and operands that meet the premises of each clause of `Obligations.PacketFramesAreServed`. -/
theorem witness_PacketFramesAreServed :
    (∃ (a : Nat) (op : Nat) (n : Nat) (x : Nat) (s : State), (∃ s0, State.foundBy (.statusFrame a op n x none) s0 = s) ∧
        s.dev.svc = .full ∧ a % 16 = s.dev.hsp.addr ∧ x % 8 = 0 ∧ op % 16 < 6) ∧
    (∃ (a : Nat) (op : Nat) (n : Nat) (x : Nat) (k : Fin 8) (s : State), (∃ s0,
        State.foundBy (.statusFrame a op n x (some k)) s0 = s) ∧ s.dev.svc = .full ∧ 0 < k.val) ∧
    (∃ (a : Nat) (op : Nat) (n : Nat) (x : Nat) (s : State), (∃ s0, State.foundBy (.statusFrame a op n x none) s0 = s) ∧
        s.dev.svc = .full ∧ a % 16 = s.dev.hsp.addr ∧ x % 8 = 0 ∧ 6 ≤ op % 16) ∧
    (∃ (a : Nat) (op : Nat) (n : Nat) (x : Nat) (s : State), (∃ s0, State.foundBy (.statusFrame a op n x none) s0 = s) ∧
        s.dev.svc = .full ∧ a % 16 ≠ s.dev.hsp.addr) ∧
    (∃ (a : Nat) (x : Nat) (pkt : List Byte) (s : State), (∃ s0, State.foundBy (.pktWr a pkt x) s0 = s) ∧ s.dev.svc = .full ∧
        a % 16 = s.dev.hsp.addr ∧ x % 8 = 0 ∧ 0 < pkt.length ∧ pkt.length ≤ 4360 ∧ s.dev.ncp.check pkt = none ∧
        (rpl (byteAt pkt 0)).isSome = true ∧ s.dev.unlisted = none) ∧
    (∃ (a : Nat) (x : Nat) (pkt : List Byte) (st : Status) (why : Nat) (s : State), (∃ s0, State.foundBy (.pktWr a pkt x) s0 = s) ∧
        s.dev.svc = .full ∧ a % 16 = s.dev.hsp.addr ∧ x % 8 = 0 ∧ 0 < pkt.length ∧ pkt.length ≤ 4360 ∧
        s.dev.ncp.check pkt = some (st, why) ∧ 0 < s.dev.ncp.refFree) ∧
    (∃ (a : Nat) (n : Nat) (x : Nat) (i : List Word) (rest : List (List Word)) (s : State), (∃ s0,
        State.foundBy (.pktRd a n x) s0 = s) ∧ s.dev.svc = .full ∧ a % 16 = s.dev.hsp.addr ∧ x % 8 = 0 ∧ s.dev.hsp.again = none ∧
        s.dev.qs.rspq.items = i :: rest ∧ s.dev.qs.evq.items = [] ∧ (rspPacket i rest.length).length ≤ n ∧
        (byteAt (rspPacket i rest.length) 1).testBit 6 = false) ∧
    (∃ (a : Nat) (n : Nat) (x : Nat) (i : List Word) (rest : List (List Word)) (s : State), (∃ s0,
        State.foundBy (.pktRd a n x) s0 = s) ∧ s.dev.svc = .full ∧ a % 16 = s.dev.hsp.addr ∧ x % 8 = 0 ∧ s.dev.hsp.again = none ∧
        s.dev.qs.rspq.items = [] ∧ s.dev.qs.evq.items = i :: rest ∧ (evtPacket i rest.length s.dev.qs.loss).length ≤ n) ∧
    (∃ (a : Nat) (n : Nat) (x : Nat) (i : List Word) (rest : List (List Word)) (s : State), (∃ s0,
        State.foundBy (.pktRd a n x) s0 = s) ∧ s.dev.svc = .full ∧ a % 16 = s.dev.hsp.addr ∧ x % 8 = 0 ∧ s.dev.hsp.again = none ∧
        s.dev.qs.rspq.items = i :: rest ∧ s.dev.qs.evq.items = [] ∧ s.dev.qs.evq.flushOpen = false ∧
        n < (rspPacket i rest.length).length) ∧
    (∃ (a : Nat) (n : Nat) (x : Nat) (s : State), (∃ s0, State.foundBy (.pktRd a n x) s0 = s) ∧ s.dev.svc = .full ∧
        a % 16 = s.dev.hsp.addr ∧ x % 8 = 0 ∧ s.dev.hsp.again = none ∧ s.dev.qs.rspq.items = [] ∧ s.dev.qs.evq.items = [] ∧
        nullPacket.length ≤ n) ∧
    (∃ (a : Nat) (n : Nat) (x : Nat) (s : State), (∃ s0, State.foundBy (.pktReread a n x) s0 = s) ∧ s.dev.svc = .full ∧
        a % 16 = s.dev.hsp.addr ∧ x % 8 = 0) :=
  ⟨⟨5, 0, 4, 64, (State.foundBy (.statusFrame 5 0 4 64 none) s47_0),
    ⟨s47_0, rfl⟩, by decide +kernel⟩,
   ⟨5, 0, 4, 61, 5, (State.foundBy (.statusFrame 5 0 4 61 (some 5)) s47_1),
    ⟨s47_1, rfl⟩, by decide +kernel⟩,
   ⟨5, 6, 4, 64, (State.foundBy (.statusFrame 5 6 4 64 none) s47_2),
    ⟨s47_2, rfl⟩, by decide +kernel⟩,
   ⟨4, 0, 4, 64, (State.foundBy (.statusFrame 4 0 4 64 none) s47_3),
    ⟨s47_3, rfl⟩, by decide +kernel⟩,
   ⟨5, 64, (withCrc [1, 3, 0, 0, 0, 0]), (State.foundBy (.pktWr 5 (withCrc [1, 3, 0, 0, 0, 0]) 64) s47_4),
    ⟨s47_4, rfl⟩, by decide +kernel⟩,
   ⟨5, 64, ([1, 2, 3]), .badPacket, 1, (State.foundBy (.pktWr 5 ([1, 2, 3]) 64) s47_5),
    ⟨s47_5, rfl⟩, by decide +kernel⟩,
   ⟨5, 64, 64, ([0, 0x00008301, 0]), [], (State.foundBy (.pktRd 5 64 64) s47_6),
    ⟨s47_6, rfl⟩, by decide +kernel⟩,
   ⟨5, 64, 64, ([0, 0x00008301, 0]), [], (State.foundBy (.pktRd 5 64 64) s47_7),
    ⟨s47_7, rfl⟩, by decide +kernel⟩,
   ⟨5, 4, 64, ([0, 0x00008301, 0]), [], (State.foundBy (.pktRd 5 4 64) s47_8),
    ⟨s47_8, rfl⟩, by decide +kernel⟩,
   ⟨5, 10, 64, (State.foundBy (.pktRd 5 10 64) s47_9),
    ⟨s47_9, rfl⟩, by decide +kernel⟩,
   ⟨5, 8, 64, (State.foundBy (.pktReread 5 8 64) s47_10),
    ⟨s47_10, rfl⟩, by decide +kernel⟩⟩

def s48_0 : State := st (inM .m4)
def s48_1 : State := st (inM .m4)
def s48_2 : State := st (inM .m4)
def s48_3 : State := st (inM .m4)
def s48_4 : State := st (inM .m4)
def s48_5 : State := st (inM .m4)
def s48_6 : State := st (inM .m4)

/-- States and operands that meet the premises of each clause of `Obligations.RegisterFramesAreServed`. -/
theorem witness_RegisterFramesAreServed :
    (∃ (a : Nat) (n : Nat) (x : Nat) (s : State), (∃ s0, State.foundBy (.regRd a 0x000 0 n x) s0 = s) ∧ s.dev.svc = .full ∧
        a % 16 = s.dev.hsp.addr ∧ x % 8 = 0 ∧ 3 ≤ n) ∧
    (∃ (a : Nat) (n : Nat) (x : Nat) (s : State), (∃ s0, State.foundBy (.regRd a 0x010 0 n x) s0 = s) ∧ s.dev.svc = .full ∧
        a % 16 = s.dev.hsp.addr ∧ x % 8 = 0 ∧ 3 ≤ n) ∧
    (∃ (a : Nat) (n : Nat) (x : Nat) (s : State), (∃ s0, State.foundBy (.regRd a 0x100 1 n x) s0 = s) ∧ s.dev.svc = .full ∧
        a % 16 = s.dev.hsp.addr ∧ x % 8 = 0 ∧ 3 ≤ n) ∧
    (∃ (a : Nat) (off : Nat) (nm1 : Nat) (n : Nat) (x : Nat) (s : State), (∃ s0, State.foundBy (.regRd a off nm1 n x) s0 = s) ∧
        s.dev.svc = .full ∧ a % 16 = s.dev.hsp.addr ∧ x % 8 = 0 ∧ 3 ≤ n ∧ off < 65536 ∧ off % 4 ≠ 0) ∧
    (∃ (a : Nat) (v : Nat) (x : Nat) (s : State), (∃ s0, State.foundBy (.regWr a (le 2 0x0A0 ++ [0] ++ le 4 v) x) s0 = s) ∧
        s.dev.svc = .full ∧ a % 16 = s.dev.hsp.addr ∧ x % 8 = 0 ∧ v < 2 ^ 32 ∧ 1 ≤ bits v 3 0 ∧ bits v 3 0 ≤ 14 ∧ 1 ≤ bits v 7 4) ∧
    (∃ (a : Nat) (x : Nat) (s : State), (∃ s0, State.foundBy (.regWr a (le 2 0x0A4 ++ [0] ++ le 4 1) x) s0 = s) ∧ s.dev.svc = .full ∧
        a % 16 = s.dev.hsp.addr ∧ x % 8 = 0) ∧
    (∃ (a : Nat) (x : Nat) (body : List Byte) (s : State), (∃ s0, State.foundBy (.regWr a body x) s0 = s) ∧ s.dev.svc = .full ∧
        a % 16 = s.dev.hsp.addr ∧ x % 8 = 0 ∧ body.length ≠ 3 + 4 * (byteAt body 2 + 1)) :=
  ⟨⟨5, 8, 64, (State.foundBy (.regRd 5 0x000 0 8 64) s48_0),
    ⟨s48_0, rfl⟩, by decide +kernel⟩,
   ⟨5, 8, 64, (State.foundBy (.regRd 5 0x010 0 8 64) s48_1),
    ⟨s48_1, rfl⟩, by decide +kernel⟩,
   ⟨5, 8, 64, (State.foundBy (.regRd 5 0x100 1 8 64) s48_2),
    ⟨s48_2, rfl⟩, by decide +kernel⟩,
   ⟨5, 2, 0, 8, 64, (State.foundBy (.regRd 5 2 0 8 64) s48_3),
    ⟨s48_3, rfl⟩, by decide +kernel⟩,
   ⟨5, 0x5E, 64, (State.foundBy (.regWr 5 (le 2 0x0A0 ++ [0] ++ le 4 0x5E) 64) s48_4),
    ⟨s48_4, rfl⟩, by decide +kernel⟩,
   ⟨5, 64, (State.foundBy (.regWr 5 (le 2 0x0A4 ++ [0] ++ le 4 1) 64) s48_5),
    ⟨s48_5, rfl⟩, by decide +kernel⟩,
   ⟨5, 64, ([16, 0, 1, 1, 2]), (State.foundBy (.regWr 5 ([16, 0, 1, 1, 2]) 64) s48_6),
    ⟨s48_6, rfl⟩, by decide +kernel⟩⟩

def e49_0 : MspEntry := { q0 := 0x00010000, txAddr := sramBase, rxw := 2, rxAddr := sramBase + 0x100 }
def s49_0 : State := st fun d => (allUp (inM .m4 d)).onMsp fun m => { m with qin := #v[0x00010000, BitVec.ofNat 32 sramBase, 2, 0] }
def s49_1 : State := st fun d => (allUp (inM .m4 d)).onMsp fun m => { m with queue := List.replicate 16 { q0 := 0x00010000, txAddr := sramBase, rxw := 2, rxAddr := sramBase + 0x100 } }
def e49_2 : MspEntry := { q0 := 0x00010000, txAddr := sramBase, rxw := 2, rxAddr := sramBase + 0x100 }
def s49_2 : State := st fun d => (allUp (inM .m4 d)).onMsp fun m => { m with queue := [e49_2], busy := true, en := true }
def e49_3 : MspEntry := { q0 := 0x00010000, txAddr := sramBase, rxw := 2, rxAddr := sramBase + 0x100 }
def s49_3 : State := st fun d => (allUp (inM .m4 d)).onMsp fun m => { m with queue := [e49_3], busy := true, en := true }
def e49_4 : MspEntry := { q0 := 0x00010008, txAddr := sramBase, rxw := 2, rxAddr := sramBase + 0x100 }
def s49_4 : State := st fun d => (allUp (inM .m4 d)).onMsp fun m => { m with queue := [e49_4], busy := true, en := true }
def e49_5 : MspEntry := { q0 := 0x00010000, txAddr := sramBase, rxw := 2, rxAddr := sramBase + 0x100 }
def s49_5 : State := st fun d => (allUp (inM .m4 d)).onMsp fun m => { m with queue := [e49_5], en := true, ctl := { msel := false } }
def e49_6 : MspEntry := { q0 := 0x00010000, txAddr := sramBase, rxw := 2, rxAddr := sramBase + 0x100 }
def s49_6 : State := st fun d => (allUp (inM .m4 d)).onMsp fun m => { m with queue := [e49_6], en := true, ctl := { msel := false } }
def e49_7 : MspEntry := { q0 := 0x00010000, txAddr := sramBase, rxw := 2, rxAddr := sramBase + 0x100 }
def s49_7 : State := st fun d => (allUp (inM .m4 d)).onMsp fun m => { m with queue := [e49_7] }
def s49_8 : State := st fun d => (allUp (inM .m4 d)).onMsp fun m => { m with en := true }
def x49_9 : XLine := { tag := 3, data := List.replicate 32 7 }
def s49_9 : State := st fun d => (allUp (inM .m4 d)).onMsp fun m => { m with xen := true, cache := [x49_9] }
def s49_10 : State := st fun d => (allUp (inM .m4 d)).onMsp fun m => { m with xen := true }
def s49_11 : State := st fun d => (allUp (inM .m4 d)).onMsp fun m => { m with xen := false }
def x49_12 : XMiss := { core := 4, off := 96, issued := true }
def s49_12 : State := st fun d => (allUp (inM .m4 d)).onMsp fun m => { m with xen := true, misses := [x49_12] }
def s49_15 : State := st fun d => (allUp (inM .m4 d)).onMsp fun m => { m with invBusy := true }

/-- States and operands that meet the premises of each clause of `Obligations.TheMemoryPortRuns`. -/
theorem witness_TheMemoryPortRuns :
    (∃ (v : Nat) (e : MspEntry) (s : State), (∃ s0, State.foundBy (.mspEntryPush v) s0 = s) ∧
        e = { q0 := s.dev.msp.qin[0], txAddr := s.dev.msp.qin[1].toNat, rxw := bits s.dev.msp.qin[2].toNat 15 0, rxAddr := v } ∧
        v < 2 ^ 32 ∧ s.dev.msp.queue.length < 16 ∧ 0 < e.txw + e.rxw ∧ s.dev.msp.bufOk e.txAddr e.txw = true ∧
        s.dev.msp.bufOk e.rxAddr e.rxw = true) ∧
    (∃ (v : Nat) (s : State), (∃ s0, State.foundBy (.mspEntryPush v) s0 = s) ∧ 16 ≤ s.dev.msp.queue.length) ∧
    (∃ (rx : List Nat) (e : MspEntry) (rest : List MspEntry) (s : State), (∃ s0, State.foundBy (.mspEntryEnd (.ok rx)) s0 = s) ∧
        s.memWf = true ∧ s.dev.msp.queue = e :: rest ∧ s.dev.msp.busy = true ∧ s.dev.mspRan = true ∧ rx.length = e.rxw ∧
        s.dev.msp.fits e.txAddr e.txw = e.txw ∧ s.dev.msp.fits e.rxAddr e.rxw = e.rxw ∧ s.dev.msp.late = none) ∧
    (∃ (rx : List Nat) (e : MspEntry) (rest : List MspEntry) (s : State), (∃ s0, State.foundBy (.mspEntryEnd (.bus rx)) s0 = s) ∧
        s.memWf = true ∧ s.dev.msp.queue = e :: rest ∧ s.dev.msp.busy = true ∧ rx.length ≤ s.dev.msp.fits e.rxAddr e.rxw ∧
        s.dev.msp.late = none) ∧
    (∃ (e : MspEntry) (rest : List MspEntry) (s : State), (∃ s0, State.foundBy (.mspEntryEnd .rserr) s0 = s) ∧
        s.dev.msp.queue = e :: rest ∧ s.dev.msp.busy = true ∧ e.q0.toNat.testBit 3 = true ∧ e.rxw ≠ 0 ∧ s.dev.msp.late = none) ∧
    (∃ (rx : List Nat) (x : Nat) (e : MspEntry) (rest : List MspEntry) (s : State), (∃ s0,
        State.foundBy (.mspSlaveFrame rx x) s0 = s) ∧ s.memWf = true ∧ s.dev.msp.queue = e :: rest ∧ s.dev.msp.ctl.msel = false ∧
        s.dev.msp.en = true ∧ s.dev.msp.busy = false ∧ x % s.dev.msp.ctl.wlen = 0 ∧ rx.length ≤ e.rxw ∧
        rx.length * s.dev.msp.ctl.wlen ≤ 32768 ∧ s.dev.msp.fits e.rxAddr rx.length = rx.length ∧ s.dev.msp.late = none) ∧
    (∃ (rx : List Nat) (x : Nat) (e : MspEntry) (rest : List MspEntry) (s : State), (∃ s0,
        State.foundBy (.mspSlaveFrame rx x) s0 = s) ∧ s.dev.msp.queue = e :: rest ∧ s.dev.msp.ctl.msel = false ∧ s.dev.msp.en = true ∧
        s.dev.msp.busy = false ∧ x % s.dev.msp.ctl.wlen ≠ 0) ∧
    (∃ (e : MspEntry) (rest : List MspEntry) (s : State), (∃ s0, State.foundBy (.mspEnWrite true) s0 = s) ∧ s.dev.msp.ctl.msel = true ∧
        s.dev.msp.misses = [] ∧ s.dev.msp.busy = false ∧ s.dev.msp.queue = e :: rest) ∧
    (∃ (s : State), (∃ s0, State.foundBy (.mspEnWrite false) s0 = s) ∧ s.dev.msp.misses = []) ∧
    (∃ (k : Fin 5) (off : Nat) (x : XLine) (s : State), (∃ s0, State.foundBy (.xipMiss k off) s0 = s) ∧
        (s.dev.msp.misses.any fun y => decide (y.core = k)) = false ∧ off < 0x8000000 ∧ s.dev.msp.xen = true ∧
        s.dev.msp.ctl.msel = true ∧ s.dev.msp.invBusy = false ∧ (s.dev.msp.cache.find? fun y => decide (y.tag = off / 32)) = some x) ∧
    (∃ (k : Fin 5) (off : Nat) (s : State), (∃ s0, State.foundBy (.xipMiss k off) s0 = s) ∧
        (s.dev.msp.misses.any fun y => decide (y.core = k)) = false ∧ off < 0x8000000 ∧ s.dev.msp.xen = true ∧
        s.dev.msp.ctl.msel = true ∧ (s.dev.msp.cache.find? fun y => decide (y.tag = off / 32)) = none) ∧
    (∃ (k : Fin 5) (off : Nat) (s : State), (∃ s0, State.foundBy (.xipMiss k off) s0 = s) ∧
        (s.dev.msp.misses.any fun y => decide (y.core = k)) = false ∧ off < 0x8000000 ∧
        (s.dev.msp.xen = false ∨ s.dev.msp.ctl.msel = false)) ∧
    (∃ (data : List Byte) (x : XMiss) (s : State), (∃ s0, State.foundBy (.xipLineFill data) s0 = s) ∧
        s.dev.msp.misses.find? XMiss.issued = some x ∧ s.dev.msp.invBusy = false ∧ s.dev.mspRan = true ∧ data.length = 32) ∧
    (∃ (s : State), (∃ s0, State.foundBy .xipInvalidateDone s0 = s) ∧ s.dev.msp.invBusy = true) :=
  ⟨⟨(sramBase + 0x100), e49_0, (State.foundBy (.mspEntryPush (sramBase + 0x100)) s49_0),
    ⟨s49_0, rfl⟩, by decide +kernel⟩,
   ⟨sramBase, (State.foundBy (.mspEntryPush sramBase) s49_1),
    ⟨s49_1, rfl⟩, by decide +kernel⟩,
   ⟨([1, 2]), e49_2, [], (State.foundBy (.mspEntryEnd (.ok ([1, 2]))) s49_2),
    ⟨s49_2, rfl⟩, by decide +kernel⟩,
   ⟨[1], e49_3, [], (State.foundBy (.mspEntryEnd (.bus [1])) s49_3),
    ⟨s49_3, rfl⟩, by decide +kernel⟩,
   ⟨e49_4, [], (State.foundBy (.mspEntryEnd .rserr) s49_4),
    ⟨s49_4, rfl⟩, by decide +kernel⟩,
   ⟨([1, 2]), 16, e49_5, [], (State.foundBy (.mspSlaveFrame ([1, 2]) 16) s49_5),
    ⟨s49_5, rfl⟩, by decide +kernel⟩,
   ⟨([1, 2]), 13, e49_6, [], (State.foundBy (.mspSlaveFrame ([1, 2]) 13) s49_6),
    ⟨s49_6, rfl⟩, by decide +kernel⟩,
   ⟨e49_7, [], (State.foundBy (.mspEnWrite true) s49_7),
    ⟨s49_7, rfl⟩, by decide +kernel⟩,
   ⟨(State.foundBy (.mspEnWrite false) s49_8),
    ⟨s49_8, rfl⟩, by decide +kernel⟩,
   ⟨4, 96, x49_9, (State.foundBy (.xipMiss 4 96) s49_9),
    ⟨s49_9, rfl⟩, by decide +kernel⟩,
   ⟨4, 96, (State.foundBy (.xipMiss 4 96) s49_10),
    ⟨s49_10, rfl⟩, by decide +kernel⟩,
   ⟨4, 96, (State.foundBy (.xipMiss 4 96) s49_11),
    ⟨s49_11, rfl⟩, by decide +kernel⟩,
   ⟨(List.replicate 32 9), x49_12, (State.foundBy (.xipLineFill (List.replicate 32 9)) s49_12),
    ⟨s49_12, rfl⟩, by decide +kernel⟩,
   ⟨(State.foundBy .xipInvalidateDone s49_15),
    ⟨s49_15, rfl⟩, by decide +kernel⟩⟩

def s50_0 : State := st fun d => (inM .m4 d).onEvr fun e => { e with priv := upd e.priv 4 fun v => upd v 5 fun x => { x with pend := true }, shared := Vector.replicate 288 {} }
def s50_1 : State := st fun d => (inM .m4 d).onEvr fun e => { e with priv := upd e.priv 4 fun v => upd v 5 fun x => { x with act := true }, shared := Vector.replicate 288 {} }
def s50_2 : State := st fun d => (inM .m4 d).onEvr fun e => { e with shared := Vector.replicate 288 {} }
def s50_3 : State := st fun d => (inM .m4 d).onEvr fun e => { e with priv := upd e.priv 4 fun v => upd v 5 fun x => { x with act := true }, shared := Vector.replicate 288 {} }
def s50_4 : State := st (inM .m4)

/-- States and operands that meet the premises of each clause of `Obligations.SourcesAreClaimedAndCompleted`. -/
theorem witness_SourcesAreClaimedAndCompleted :
    (∃ (g : Fin 6) (n : Nat) (rest : List Nat) (id : SrcId) (s : State), (∃ s0, State.foundBy (.evrClaim g) s0 = s) ∧
        s.dev.active g = none ∧ s.dev.ready g = n :: rest ∧ srcOf g n = some id) ∧
    (∃ (g : Fin 6) (n : Nat) (s : State), (∃ s0, State.foundBy (.evrClaim g) s0 = s) ∧ s.dev.active g = some n) ∧
    (∃ (g : Fin 6) (s : State), (∃ s0, State.foundBy (.evrClaim g) s0 = s) ∧ s.dev.active g = none ∧ s.dev.ready g = []) ∧
    (∃ (g : Fin 6) (n : Nat) (id : SrcId) (s : State), (∃ s0, State.foundBy (.evrEoi g n) s0 = s) ∧ n < 512 ∧ srcOf g n = some id ∧
        s.dev.srcTarget id = g ∧ (s.dev.src id).act = true) ∧
    (∃ (g : Fin 6) (n : Nat) (s : State), ((∀ id, srcOf g n = some id → s.dev.srcTarget id ≠ g ∨ (s.dev.src id).act = false)) ∧
        (∃ s0, State.foundBy (.evrEoi g n) s0 = s) ∧ n < 512) :=
  ⟨⟨4, 5, [], (.priv 4 5), (State.foundBy (.evrClaim 4) s50_0),
    ⟨s50_0, rfl⟩, by decide +kernel⟩,
   ⟨4, 5, (State.foundBy (.evrClaim 4) s50_1),
    ⟨s50_1, rfl⟩, by decide +kernel⟩,
   ⟨4, (State.foundBy (.evrClaim 4) s50_2),
    ⟨s50_2, rfl⟩, by decide +kernel⟩,
   ⟨4, 5, (.priv 4 5), (State.foundBy (.evrEoi 4 5) s50_3),
    ⟨s50_3, rfl⟩, by decide +kernel⟩,
   ⟨4, 5, (State.foundBy (.evrEoi 4 5) s50_4),
    fun id h => by cases (Option.some.inj h); right; decide +kernel, ⟨s50_4, rfl⟩, by decide +kernel⟩⟩

def s51_0 : State := st (inM .m4)
def s51_1 : State := st fun d => (inM .m4 d).onEvr fun e => { e with priv := upd e.priv 4 fun v => upd v 5 fun x => { x with pend := true } }
def s51_2 : State := st fun d => (inM .m4 d).onEvr fun e => { e with priv := upd e.priv 4 fun v => upd v 5 fun x => { x with sense := 1 } }
def s51_4 : State := st (inM .m4)
def s51_5 : State := st (inM .m4)
def s51_6 : State := st (inM .m4)
def s51_7 : State := st fun d => (inM .m4 d).onEvr fun e => { e with shared := upd e.shared 48 fun x => { x with act := true } }
def s51_8 : State := st fun d => (atT (usT 50)
    (inM .m4 d)).onEvr fun e => { e with targets := upd e.targets 4 fun x => { x with time := 50, count := 4, win := .opened 0 } }
def s51_9 : State := st fun d => (atT (msT 1000)
    (inM .m4 d)).onEvr fun e => { e with priv := upd e.priv 4 fun v => upd v 5 fun x => { x with pend := true } }

/-- States and operands that meet the premises of each clause of `Obligations.SourcesBecomePending`. -/
theorem witness_SourcesBecomePending :
    (∃ (id : SrcId) (s : State), (∃ s0, State.foundBy (.sourceMessage id) s0 = s) ∧ id.reserved = false ∧ (s.dev.src id).sense = 0 ∧
        (s.dev.src id).pend = false) ∧
    (∃ (id : SrcId) (g : Fin 6) (s : State), (∃ s0, State.foundBy (.sourceMessage id) s0 = s) ∧ id.reserved = false ∧
        (s.dev.src id).sense = 0 ∧ (s.dev.src id).pend = true ∧ s.dev.srcTarget id = g) ∧
    (∃ (id : SrcId) (s : State), (∃ s0, State.foundBy (.sourceMessage id) s0 = s) ∧ (s.dev.src id).sense ≠ 0) ∧
    (∃ (w : Fin 6) (n : Nat) (g : Nat) (id : SrcId) (s : State), (∃ s0, State.foundBy (.evrDoorbell w n g) s0 = s) ∧ n < 512 ∧ g < 8 ∧
        s.dev.rings w n g = some id ∧ id.reserved = false ∧ (s.dev.src id).sense = 0) ∧
    (∃ (w : Fin 6) (n : Nat) (g : Nat) (s : State), (∃ s0, State.foundBy (.evrDoorbell w n g) s0 = s) ∧ n < 512 ∧ g < 8 ∧
        s.dev.rings w n g = none) ∧
    (∃ (i : Fin 288) (g : Nat) (s : State), (∃ s0, State.foundBy (.sourceTargetWrite i g) s0 = s) ∧ assignable i = true ∧ g ≤ 5 ∧
        (s.dev.evr.shared[i]).act = false) ∧
    (∃ (i : Fin 288) (g : Nat) (s : State), (∃ s0, State.foundBy (.sourceTargetWrite i g) s0 = s) ∧ (s.dev.evr.shared[i]).act = true) ∧
    (∃ (g : Fin 6) (t0 : Nat) (s : State), (∃ s0, State.foundBy (.moderationTimeout g) s0 = s) ∧
        (s.dev.evr.targets[g]).win = .opened t0 ∧ t0 + usT (s.dev.evr.targets[g]).time ≤ s.dev.now) ∧
    (∃ (n : Fin 32) (s : State), (∃ s0, State.foundBy (.evrSourceFault n) s0 = s) ∧ (s.dev.evr.priv[4][n]).pend = true ∧
        (s.dev.evr.priv[4][n]).told = false ∧ (s.dev.evr.priv[4][n]).since + msT 1000 ≤ s.dev.now) :=
  ⟨⟨(.priv 4 5), (State.foundBy (.sourceMessage (.priv 4 5)) s51_0),
    ⟨s51_0, rfl⟩, by decide +kernel⟩,
   ⟨(.priv 4 5), 4, (State.foundBy (.sourceMessage (.priv 4 5)) s51_1),
    ⟨s51_1, rfl⟩, by decide +kernel⟩,
   ⟨(.priv 4 5), (State.foundBy (.sourceMessage (.priv 4 5)) s51_2),
    ⟨s51_2, rfl⟩, by decide +kernel⟩,
   ⟨4, 31, 2, (.priv 2 31), (State.foundBy (.evrDoorbell 4 31 2) s51_4),
    ⟨s51_4, rfl⟩, by decide +kernel⟩,
   ⟨2, 5, 4, (State.foundBy (.evrDoorbell 2 5 4) s51_5),
    ⟨s51_5, rfl⟩, by decide +kernel⟩,
   ⟨48, 5, (State.foundBy (.sourceTargetWrite 48 5) s51_6),
    ⟨s51_6, rfl⟩, by decide +kernel⟩,
   ⟨48, 5, (State.foundBy (.sourceTargetWrite 48 5) s51_7),
    ⟨s51_7, rfl⟩, by decide +kernel⟩,
   ⟨4, 0, (State.foundBy (.moderationTimeout 4) s51_8),
    ⟨s51_8, rfl⟩, by decide +kernel⟩,
   ⟨5, (State.foundBy (.evrSourceFault 5) s51_9),
    ⟨s51_9, rfl⟩, by decide +kernel⟩⟩

def s52_0 : State := st (inM .m4)
def s52_1 : State := st fun d => (inM .m4 d).onQs fun q => { q with evq := { q.evq with part := [0x21], need := 1 } }
def s52_2 : State := st (inM .m4)
def s52_3 : State := st fun d => (inM .m4 d).onQs fun q => { q with cq := upd q.cq 5 fun x => { x with part := [0x21], need := 1 } }
def s52_4 : State := st fun d => (inM .m4 d).onQs fun q => { q with cfg := upd q.cfg 5 fun x => { x with mode := 2, runLeft := 40 } }
def s52_5 : State := st fun d => (inM .m4 d).onQs fun q => { q with cq := upd q.cq 5 fun x => { x with items := [([0x21, 0x99])] } }
def s52_6 : State := st fun d => (inM .m4 d).onQs fun q => { q with cq := upd q.cq 5 fun x => { x with items := [([0x21, 0x99])], openAt := some 1 } }
def s52_7 : State := State.reset
def s52_9 : State := State.reset
def s52_10 : State := State.reset
def d52_11 : Dev := State.dev (st fun d => (inM .m4 d).onQs fun q => { q with cq := upd q.cq 5 fun x => { x with items := [[0x21, 0x99]], part := [0x21], need := 1 } }) |>.onCyc fun c => { c with flushes := [.cq 5] }
def d52_12 : Dev := State.dev (st fun d => (inM .m4 d).onQs fun q => { q with evq := { q.evq with items := [[0x21, 0x99], [0x21, 0x98]], openAt := some 1 } }) |>.onCyc fun c => { c with flushes := [.evq] }

/-- States and operands that meet the premises of each clause of `Obligations.QueuesCarryItems`. -/
theorem witness_QueuesCarryItems :
    (∃ (q : QId) (w : Word) (s : State), (∃ s0, State.foundBy (.queuePush q w) s0 = s) ∧ (q = .evq ∨ q = .rspq) ∧
        (s.dev.queue q).drop = 0 ∧ (s.dev.queue q).need = 0 ∧ q.hdrOk w = true ∧ 4 * hdrWords w + (s.dev.queue q).used ≤ q.cap) ∧
    (∃ (q : QId) (w : Word) (s : State), (∃ s0, State.foundBy (.queuePush q w) s0 = s) ∧ (q = .evq ∨ q = .rspq) ∧
        (s.dev.queue q).drop = 0 ∧ (s.dev.queue q).need = 1) ∧
    (∃ (q : QId) (w : Word) (s : State), (∃ s0, State.foundBy (.queuePush q w) s0 = s) ∧ (q = .evq ∨ q = .rspq) ∧
        (s.dev.queue q).drop = 0 ∧ (s.dev.queue q).need = 0 ∧ q.hdrOk w = false) ∧
    (∃ (n : Fin 24) (w : Word) (s : State), (∃ s0, State.foundBy (.queuePush (.cq n) w) s0 = s) ∧ (s.dev.qs.cq[n]).drop = 0 ∧
        (s.dev.qs.cq[n]).need = 1) ∧
    (∃ (n : Fin 24) (w : Word) (s : State), (∃ s0, State.foundBy (.queuePush (.cq n) w) s0 = s) ∧ (s.dev.qs.cq[n]).drop = 0 ∧
        (s.dev.qs.cq[n]).need = 0 ∧ (s.dev.qs.cfg[n]).mode = 2 ∧ 0 < (s.dev.qs.cfg[n]).runLeft ∧ (s.dev.qs.cq[n]).used + 64 ≤ 2048) ∧
    (∃ (n : Fin 24) (i : List Word) (rest : List (List Word)) (s : State), (∃ s0, State.foundBy (.queueDataRead (.cq n)) s0 = s) ∧
        (s.dev.qs.cq[n]).items = i :: rest ∧ ((s.dev.qs.cq[n]).openAt).getD 0 + 1 < i.length) ∧
    (∃ (n : Fin 24) (i : List Word) (rest : List (List Word)) (s : State), (∃ s0, State.foundBy (.queueDataRead (.cq n)) s0 = s) ∧
        (s.dev.qs.cq[n]).items = i :: rest ∧ ((s.dev.qs.cq[n]).openAt).getD 0 + 1 = i.length) ∧
    (∃ (q : QId) (s : State), (∃ s0, State.foundBy (.queueDataRead q) s0 = s) ∧ (q = .evq ∨ q = .rspq)) ∧
    (∃ (q : QId) (s : State), (∃ s0, State.foundBy (.queueDropRest q) s0 = s) ∧ (q = .evq ∨ q = .rspq)) ∧
    (∃ (q : QId) (s : State), (∃ s0, State.foundBy (.queueFlush q) s0 = s) ∧ q ≠ .rspq) ∧
    (∃ (n : Fin 24) (d : Dev), d.cyc.flushes = [.cq n]) ∧
    (∃ (d : Dev), d.cyc.flushes = [.evq] ∧ d.qs.evq.openAt.isSome = true) :=
  ⟨⟨.evq, 0x21, (State.foundBy (.queuePush .evq 0x21) s52_0),
    ⟨s52_0, rfl⟩, by decide +kernel⟩,
   ⟨.evq, 0x99, (State.foundBy (.queuePush .evq 0x99) s52_1),
    ⟨s52_1, rfl⟩, by decide +kernel⟩,
   ⟨.evq, 0x1F, (State.foundBy (.queuePush .evq 0x1F) s52_2),
    ⟨s52_2, rfl⟩, by decide +kernel⟩,
   ⟨5, 0x99, (State.foundBy (.queuePush (.cq 5) 0x99) s52_3),
    ⟨s52_3, rfl⟩, by decide +kernel⟩,
   ⟨5, 0x99, (State.foundBy (.queuePush (.cq 5) 0x99) s52_4),
    ⟨s52_4, rfl⟩, by decide +kernel⟩,
   ⟨5, ([0x21, 0x99]), [], (State.foundBy (.queueDataRead (.cq 5)) s52_5),
    ⟨s52_5, rfl⟩, by decide +kernel⟩,
   ⟨5, ([0x21, 0x99]), [], (State.foundBy (.queueDataRead (.cq 5)) s52_6),
    ⟨s52_6, rfl⟩, by decide +kernel⟩,
   ⟨.rspq, (State.foundBy (.queueDataRead .rspq) s52_7),
    ⟨s52_7, rfl⟩, by decide +kernel⟩,
   ⟨.rspq, (State.foundBy (.queueDropRest .rspq) s52_9),
    ⟨s52_9, rfl⟩, by decide +kernel⟩,
   ⟨.evq, (State.foundBy (.queueFlush .evq) s52_10),
    ⟨s52_10, rfl⟩, by decide +kernel⟩,
   ⟨5, d52_11,
    by decide +kernel⟩,
   ⟨d52_12,
    by decide +kernel⟩⟩

def s53_0 : State := st (atT 77)
def g53_2 : Gt := { load := some 9, cen := true }
def s53_3 : State := st fun d => (allUp (inM .m4 (d))).onNvm fun v => { v with fwRuns := true }
def s53_5 : State := st fun d => (inM .m4 d).onTim fun t => { t with gt := upd t.gt 7 fun g => { g with cen := true, cnt := 9, cmp := 9, per := 4 } }
def s53_6 : State := st fun d => (inM .m4 d).onTim fun t => { t with gt := upd t.gt 7 fun g => { g with shot := some (9, 0) } }
def s53_7 : State := st fun d => (inM .m4 d).onTim fun t => { t with zt := upd t.zt 5 fun v => upd v 1 fun z => { z with cen := true, cnt := 3, cmp := 3 } }

/-- States and operands that meet the premises of each clause of `Obligations.TimersCountAndFire`. -/
theorem witness_TimersCountAndFire :
    (∃ (m : Master) (s : State), (∃ s0, State.foundBy (.tscLRead m) s0 = s) ∧ (m = .hsp ∨ (s.dev.codeRuns m = true ∧
        s.dev.stalled m = false))) ∧
    (∃ (g : Gt) (v : Word), g.load = some v) ∧
    (∃ (m : Master) (n : Fin 32) (v : Nat) (s : State), (∃ s0, State.foundBy (.gtCtlWrite m n v) s0 = s) ∧ s.dev.codeRuns m = true ∧
        s.dev.stalled m = false ∧ s.dev.may m true .tim (0x10C + 0x20 * n.val) = true) ∧
    (∃ (n : Fin 32) (s : State), (∃ s0, State.foundBy (.gtCompareFire n) s0 = s) ∧ (s.dev.tim.gt[n]).shot = none ∧
        (s.dev.tim.gt[n]).cmpSet = false ∧ (s.dev.tim.gt[n]).cen = true ∧ tested (s.dev.tim.gt[n]).cnt (s.dev.tim.gt[n]).cmp = true ∧
        (s.dev.tim.gt[n]).per < 2 ^ 31) ∧
    (∃ (n : Fin 32) (c : Word) (s : State), (∃ s0, State.foundBy (.gtCompareFire n) s0 = s) ∧ (s.dev.tim.gt[n]).shot = some (c, 0)) ∧
    (∃ (n : Fin 24) (k : Fin 2) (s : State), (∃ s0, State.foundBy (.zoneTimerFire n k) s0 = s) ∧ (s.dev.tim.zt[n][k]).due = true) :=
  ⟨⟨.hsp, (State.foundBy (.tscLRead .hsp) s53_0),
    ⟨s53_0, rfl⟩, by decide +kernel⟩,
   ⟨g53_2, 9,
    by decide +kernel⟩,
   ⟨.sc, 7, 1, (State.foundBy (.gtCtlWrite .sc 7 1) s53_3),
    ⟨s53_3, rfl⟩, by decide +kernel⟩,
   ⟨7, (State.foundBy (.gtCompareFire 7) s53_5),
    ⟨s53_5, rfl⟩, by decide +kernel⟩,
   ⟨7, 9, (State.foundBy (.gtCompareFire 7) s53_6),
    ⟨s53_6, rfl⟩, by decide +kernel⟩,
   ⟨5, 1, (State.foundBy (.zoneTimerFire 5 1) s53_7),
    ⟨s53_7, rfl⟩, by decide +kernel⟩⟩

def c54_0 : Cmd := { opc := 0x60, payload := [7, 0, 0, 0] ++ List.replicate 96 0 }
def s54_0 : State := st fun d => has c54_0 (allUp (inM .m4 d))
def c54_1 : Cmd := { opc := 0x61, payload := [7, 0] }
def s54_1 : State := st fun d => has c54_1 (allUp (inM .m4 d))
def c54_2 : Cmd := { opc := 0x61, payload := [255, 0] }
def s54_2 : State := st fun d => has c54_2 ((inM .m4 d).onPmu fun p => { p with dom := upd p.dom 14 fun m => { m with p := .down } })
def c54_3 : Cmd := { opc := 0x62, payload := [byteOf 7, 0] }
def s54_3 : State := st fun d => has c54_3 (allUp (inM .m4 d))
def c54_4 : Cmd := { opc := 0x63, payload := [0x10, 0xFF, 0xFF, 0, 3, 0, 0, 0, 0, 0, 0, 0, 0, 0, 0, 0, 0, 0, 0, 0, 97, 98, 99] }
def s54_4 : State := st fun d => has c54_4 ((allUp (inM .m4 d)).onKey fun k => { k with entOk := true })
def c54_5 : Cmd := { opc := 0x64, payload := le 2 256 }
def s54_5 : State := st fun d => has c54_5 ((allUp (inM .m4 d)).onKey fun k => { k with entOk := true })
def c54_6 : Cmd := { opc := 0xF3, payload := [1, 2] }
def s54_6 : State := st fun d => has c54_6 (allUp (inM .m10 d))
def r54_7 : KReq := { src := .port 0 .sc, what := .op, op := 0x10, data := [0, 0, 0], dst := sramBase + 0x100 }
def s54_7 : State := st fun d => ((allUp (inM .m4 d)).onNvm fun v => { v with fwRuns := true }).onKey fun k => { k with port := upd k.port 0 fun _ => { op := 0x10, src := sramBase, dst := sramBase + 0x100, dlen := 3 } }

/-- States and operands that meet the premises of each clause of `Obligations.KeyRequestsAreTakenUp`. -/
theorem witness_KeyRequestsAreTakenUp :
    (∃ (tag : Fin 32) (c : Cmd) (s : State), Ready 0x60 tag c s.dev ∧ s.dev.islandFree ∧ (∃ s0, State.foundBy (.keyLoad tag) s0 = s) ∧
        c.deadline = 0 ∧ c.payload.length = 100 ∧ byteAt c.payload 0 < 64 ∧ grantOk (byteAt c.payload 1) = true ∧
        zeros c.payload [2, 3] = true) ∧
    (∃ (tag : Fin 32) (c : Cmd) (s : State), Ready 0x61 tag c s.dev ∧ s.dev.islandFree ∧
        (∃ s0, State.foundBy (.keyUnload tag) s0 = s) ∧ c.deadline = 0 ∧ c.payload.length = 2 ∧
        (byteAt c.payload 0 < 64 ∨ byteAt c.payload 0 = 0xFF) ∧ byteAt c.payload 1 = 0) ∧
    (∃ (tag : Fin 32) (c : Cmd) (s : State), Ready 0x61 tag c s.dev ∧ (∃ s0, State.foundBy (.keyUnload tag) s0 = s) ∧
        s.dev.key.pend[(0 : Fin 5)] = [] ∧ c.payload.length = 2 ∧ (byteAt c.payload 0 < 64 ∨ byteAt c.payload 0 = 0xFF) ∧
        byteAt c.payload 1 = 0 ∧ (s.dev.pmu.dom[(14 : Fin 49)]).p = .down) ∧
    (∃ (tag : Fin 32) (c : Cmd) (k : Fin 64) (s : State), Ready 0x62 tag c s.dev ∧ (∃ s0, State.foundBy (.keyInfo tag) s0 = s) ∧
        c.payload = [byteOf k.val, 0]) ∧
    (∃ (tag : Fin 32) (c : Cmd) (s : State), Ready 0x63 tag c s.dev ∧ s.dev.islandFree ∧ (∃ s0, State.foundBy (.crypto tag) s0 = s) ∧
        c.deadline = 0 ∧ s.dev.key.entOk = true ∧
        c.payload.length = 20 + byteAt c.payload 8 + leAt c.payload 6 2 + leAt c.payload 4 2 + byteAt c.payload 9 ∧
        leAt c.payload 4 2 ≤ 4096 ∧ leAt c.payload 6 2 ≤ 256 ∧ zeros c.payload [15, 19] = true ∧
        paramOk (cryptoReq tag c.payload) = true) ∧
    (∃ (tag : Fin 32) (c : Cmd) (n : Nat) (s : State), Ready 0x64 tag c s.dev ∧ s.dev.islandFree ∧
        (∃ s0, State.foundBy (.random tag) s0 = s) ∧ c.deadline = 0 ∧ s.dev.key.entOk = true ∧ 1 ≤ n ∧ n ≤ 256 ∧ c.payload = le 2 n) ∧
    (∃ (tag : Fin 32) (c : Cmd) (s : State), s.dev.islandFree ∧ (∃ s0, State.foundBy (.kwathesTest tag) s0 = s) ∧
        s.dev.cmd tag = some c ∧ 0xF0 ≤ c.opc ∧ c.phase = .fresh ∧ s.dev.isHeld tag = false ∧ s.dev.modeCheck c.opc = none ∧
        c.deadline = 0) ∧
    (∃ (m : Master) (p : Fin 5) (r : KReq) (s : State), (m = .sc ∨ (∃ k, m = .zc k)) ∧ s.dev.islandFree ∧
        (r.random = false ∨ s.dev.key.entOk = true) ∧ (∃ s0, State.foundBy (.ksGo m p) s0 = s) ∧ s.dev.codeRuns m = true ∧
        s.dev.stalled m = false ∧ mayGo p m = true ∧ (s.dev.key.port[p]).busy = false ∧ (s.dev.key.port[p]).src % 4 = 0 ∧
        (s.dev.key.port[p]).dst % 4 = 0 ∧ r = (s.dev.key.port[p]).req p m (nums (memReads sramDflt s.sram (s.dev.key.port[p]).src ((s.dev.key.port[p]).nlen + (s.dev.key.port[p]).alen + (s.dev.key.port[p]).dlen + (s.dev.key.port[p]).tlen))) ∧ inSram (s.dev.key.port[p]).src ((s.dev.key.port[p]).nlen + (s.dev.key.port[p]).alen + (s.dev.key.port[p]).dlen + (s.dev.key.port[p]).tlen) = true ∧ inSram (s.dev.key.port[p]).dst (runOp r (List.replicate 256 0) s.dev).2.1.length = true ∧ paramOk r = true) :=
  ⟨⟨3, c54_0, (State.foundBy (.keyLoad 3) s54_0),
    by unfold Ready; decide +kernel, by unfold Dev.islandFree; decide +kernel, ⟨s54_0, rfl⟩, by decide +kernel⟩,
   ⟨3, c54_1, (State.foundBy (.keyUnload 3) s54_1),
    by unfold Ready; decide +kernel, by unfold Dev.islandFree; decide +kernel, ⟨s54_1, rfl⟩, by decide +kernel⟩,
   ⟨3, c54_2, (State.foundBy (.keyUnload 3) s54_2),
    by unfold Ready; decide +kernel, ⟨s54_2, rfl⟩, by decide +kernel⟩,
   ⟨3, c54_3, 7, (State.foundBy (.keyInfo 3) s54_3),
    by unfold Ready; decide +kernel, ⟨s54_3, rfl⟩, by decide +kernel⟩,
   ⟨3, c54_4, (State.foundBy (.crypto 3) s54_4),
    by unfold Ready; decide +kernel, by unfold Dev.islandFree; decide +kernel, ⟨s54_4, rfl⟩, by decide +kernel⟩,
   ⟨3, c54_5, 256, (State.foundBy (.random 3) s54_5),
    by unfold Ready; decide +kernel, by unfold Dev.islandFree; decide +kernel, ⟨s54_5, rfl⟩, by decide +kernel⟩,
   ⟨3, c54_6, (State.foundBy (.kwathesTest 3) s54_6),
    by unfold Dev.islandFree; decide +kernel, ⟨s54_6, rfl⟩, by decide +kernel⟩,
   ⟨.sc, 0, r54_7, (State.foundBy (.ksGo .sc 0) s54_7),
    .inl rfl, by unfold Dev.islandFree; decide +kernel, .inl (by decide +kernel), ⟨s54_7, rfl⟩, by decide +kernel⟩⟩

def x55_0 : KRun := { req := { src := .port 0 .sc, what := .op, op := 0x10, kslot := 0xFF, data := [1, 2, 3], dst := sramBase }, start := 0, refused := false }
def s55_0 : State := st fun d => ((inM .m4 (d)).onKey fun k => { k with cur := some x55_0 })
def out55_0 : List Nat := (runOp (KRun.req x55_0) (nums []) (State.dev s55_0)).2.1
def x55_1 : KRun := { req := { src := .ncp 3, what := .random, n := 2 }, start := 0, refused := false }
def c55_1 : Cmd := { opc := 0x64, payload := [], phase := .island }
def s55_1 : State := st fun d => has c55_1 ((inM .m4 (d)).onKey fun k => { k with cur := some x55_1 })
def x55_2 : KRun := { req := { src := .ncp 3, what := .unload, kslot := 5 }, start := 0, refused := false }
def c55_2 : Cmd := { opc := 0x61, payload := [], phase := .island }
def s55_2 : State := st fun d => has c55_2 ((inM .m4 (d)).onKey fun k => { k with cur := some x55_2 })
def x55_3 : KRun := { req := { src := .ncp 3, what := .load, kslot := 5, data := blob }, start := 0, refused := false }
def c55_3 : Cmd := { opc := 0x60, payload := [], phase := .island }
def s55_3 : State := st fun d => has c55_3 ((inM .m4 (d)).onKey fun k => { k with cur := some x55_3 })
def x55_4 : KRun := { req := { src := .ncp 3, what := .load, kslot := 5 }, start := 0, refused := true }
def c55_4 : Cmd := { opc := 0x60, payload := [], phase := .island }
def s55_4 : State := st fun d => has c55_4 ((inM .m4 (atT 8679 d)).onKey fun k => { k with cur := some x55_4 })
def x55_5 : KRun := { req := { src := .ncp 3, what := .load, kslot := 5 }, start := 0, refused := true }
def s55_5 : State := st fun d => ((inM .m4 (d)).onKey fun k => { k with cur := some x55_5 })
def s55_6 : State := st fun d => (inM .m4 d).onKey fun k => { k with entOk := true }
def s55_7 : State := st fun d => atT (msT 100) (inM .m4 d)

/-- States and operands that meet the premises of each clause of `Obligations.KeyRequestsEnd`. -/
theorem witness_KeyRequestsEnd :
    (∃ (x : KRun) (p : Fin 5) (m : Master) (rnd : List Byte) (out : List Nat) (s : State), out = (runOp x.req (nums rnd) s.dev).2.1 ∧
        (∃ s0, State.foundBy (.ksOpComplete rnd) s0 = s) ∧ s.memWf = true ∧ s.dev.key.cur = some x ∧ x.refused = false ∧
        x.req.src = .port p m ∧ s.dev.key.pend = Vector.replicate 5 []) ∧
    (∃ (x : KRun) (tag : Fin 32) (c : Cmd) (rnd : List Byte) (s : State), (∃ s0, State.foundBy (.ksOpComplete rnd) s0 = s) ∧
        s.dev.key.cur = some x ∧ x.refused = false ∧ x.req.src = .ncp tag ∧ x.req.what = .random ∧ rnd.length = x.req.n ∧
        s.dev.cmd tag = some c ∧ s.dev.key.pend = Vector.replicate 5 []) ∧
    (∃ (x : KRun) (tag : Fin 32) (c : Cmd) (k : Fin 64) (rnd : List Byte) (s : State), (∃ s0,
        State.foundBy (.ksOpComplete rnd) s0 = s) ∧ s.dev.key.cur = some x ∧ x.refused = false ∧ x.req.src = .ncp tag ∧
        x.req.what = .unload ∧ x.req.kslot = k.val ∧ s.dev.cmd tag = some c ∧ s.dev.key.pend = Vector.replicate 5 []) ∧
    (∃ (x : KRun) (tag : Fin 32) (c : Cmd) (k : Fin 64) (b : KSlot) (rnd : List Byte) (s : State), s.dev.key.cur = some x ∧
        x.refused = false ∧ x.req.src = .ncp tag ∧ x.req.what = .load ∧ x.req.kslot = k.val ∧ openBlob x.req.data = some b ∧
        (∃ s0, State.foundBy (.ksOpComplete rnd) s0 = s) ∧ s.dev.cmd tag = some c ∧ s.dev.key.pend = Vector.replicate 5 []) ∧
    (∃ (x : KRun) (tag : Fin 32) (c : Cmd) (s : State), (∃ s0, State.foundBy .ksRefusalEnd s0 = s) ∧ s.dev.key.cur = some x ∧
        x.refused = true ∧ x.req.src = .ncp tag ∧ s.dev.cmd tag = some c ∧ s.dev.key.pend = Vector.replicate 5 [] ∧
        x.start + 8679 ≤ s.dev.now) ∧
    (∃ (x : KRun) (s : State), (∃ s0, State.foundBy .ksRefusalEnd s0 = s) ∧ s.dev.key.cur = some x ∧ s.dev.now < x.start + 8679) ∧
    (∃ (s : State), (∃ s0, State.foundBy .entropyFail s0 = s) ∧ s.dev.key.entOk = true) ∧
    (∃ (s : State), (∃ s0, State.foundBy (.entropyRetest true) s0 = s) ∧ s.dev.key.entOk = false ∧
        s.dev.key.retestT + msT 100 ≤ s.dev.now) :=
  ⟨⟨x55_0, 0, .sc, [], out55_0, (State.foundBy (.ksOpComplete []) s55_0),
    rfl, ⟨s55_0, rfl⟩, by decide +kernel⟩,
   ⟨x55_1, 3, c55_1, ([7, 8]), (State.foundBy (.ksOpComplete ([7, 8])) s55_1),
    ⟨s55_1, rfl⟩, by decide +kernel⟩,
   ⟨x55_2, 3, c55_2, 5, [], (State.foundBy (.ksOpComplete []) s55_2),
    ⟨s55_2, rfl⟩, by decide +kernel⟩,
   ⟨x55_3, 3, c55_3, 5, ((openBlob blob).getD {}), [], (State.foundBy (.ksOpComplete []) s55_3),
    rfl, rfl, rfl, rfl, rfl, openBlob_blob, ⟨s55_3, rfl⟩, by decide +kernel⟩,
   ⟨x55_4, 3, c55_4, (State.foundBy .ksRefusalEnd s55_4),
    ⟨s55_4, rfl⟩, by decide +kernel⟩,
   ⟨x55_5, (State.foundBy .ksRefusalEnd s55_5),
    ⟨s55_5, rfl⟩, by decide +kernel⟩,
   ⟨(State.foundBy .entropyFail s55_6),
    ⟨s55_6, rfl⟩, by decide +kernel⟩,
   ⟨(State.foundBy (.entropyRetest true) s55_7),
    ⟨s55_7, rfl⟩, by decide +kernel⟩⟩

def s56_0 : State := st fun d => (inM .m4 (d)).onPmu fun p => { p with dom := upd p.dom 15 fun m => { m with p := .up, lim := 100, count := usT 100 } }
def s56_1 : State := st fun d => (inM .m4 (d)).onPmu fun p => { p with dom := upd p.dom 15 fun m => { m with p := .goingDown } }
def s56_2 : State := st fun d => (inM .m4 (d)).onPmu fun p => { p with dom := upd p.dom 15 fun m => { m with p := .waking } }
def s56_3 : State := st fun d => (inM .m4 (d)).onPmu fun p => { p with dom := upd p.dom 1 fun m => { m with p := .waking } }
def x56_4 : Stall := { master := .sc, dom := 15, addr := 0x40000000, data := none, since := 0 }
def s56_4 : State := st fun d => ((inM .m4 (atT (msT 1) d)).onPmu fun p => { p with dom := upd p.dom 15 fun m => { m with p := .waking } }).onBus fun b => { b with stalls := [x56_4] }
def c56_5 : Cmd := { opc := 0x70, payload := [0, 5] ++ (List.replicate 7 (le 2 100)).flatten }
def s56_5 : State := run .m4 c56_5
def c56_6 : Cmd := { opc := 0x70, payload := [1, 5] ++ (List.replicate 7 (le 2 100)).flatten }
def s56_6 : State := run .m4 c56_6
def e56_6 : Dev := policyTake (byteAt (Cmd.payload c56_6) 1) (Vector.ofFn fun i => leAt (Cmd.payload c56_6) (2 + 2 * i.val) 2)
    (State.dev (State.foundBy (.powerPolicy 3) s56_6))
def s56_7 : State := st fun d => (atT (usT 10) d).onPmu fun p => { p with guard := 3 }

/-- States and operands that meet the premises of each clause of `Obligations.DomainsComeAndGo`. -/
theorem witness_DomainsComeAndGo :
    (∃ (k : Fin 49) (s : State), (∃ s0, State.foundBy (.idleTimerExpiry k) s0 = s) ∧ s.dev.timerRuns k = true ∧
        idleT (s.dev.pmu.dom[k]).lim ≤ (s.dev.pmu.dom[k]).count ∧ s.dev.domBusy k = false) ∧
    (∃ (k : Fin 49) (s : State), (∃ s0, State.foundBy (.domainPowerDownDone k) s0 = s) ∧ (s.dev.pmu.dom[k]).p = .goingDown) ∧
    (∃ (k : Fin 49) (s : State), (∃ s0, State.foundBy (.domainWakeReady k) s0 = s) ∧ (s.dev.pmu.dom[k]).p = .waking ∧ k ≠ 1 ∧
        s.dev.bus.stalls = [] ∧ (s.dev.pmu.dom[k]).redown = false ∧ s.dev.key.pend = Vector.replicate 5 [] ∧ s.dev.pmu.keepWait = []) ∧
    (∃ (s : State), (∃ s0, State.foundBy (.domainWakeReady 1) s0 = s) ∧ (s.dev.pmu.dom[(1 : Fin 49)]).p = .waking) ∧
    (∃ (k : Fin 49) (x : Stall) (s : State), (∃ s0, State.foundBy (.domainWakeFail k) s0 = s) ∧ (s.dev.pmu.dom[k]).p = .waking ∧
        k ≠ 1 ∧ s.dev.bus.stalls = [x] ∧ x.dom = k.val ∧ (s.dev.pmu.dom[k]).since + msT 1 ≤ s.dev.now ∧
        mstate s.dev.mode.cur k.val ≠ .on) ∧
    (∃ (tag : Fin 32) (c : Cmd) (s : State), Ready 0x70 tag c s.dev ∧ (∃ s0, State.foundBy (.powerPolicy tag) s0 = s) ∧
        c.payload.length = 16 ∧ policyOk c.payload = true ∧ byteAt c.payload 0 = 0) ∧
    (∃ (tag : Fin 32) (c : Cmd) (e : Dev) (s : State), Ready 0x70 tag c s.dev ∧
        e = policyTake (byteAt c.payload 1) (Vector.ofFn fun i => leAt c.payload (2 + 2 * i.val) 2) s.dev ∧
        (∃ s0, State.foundBy (.powerPolicy tag) s0 = s) ∧ c.payload.length = 16 ∧ policyOk c.payload = true ∧ byteAt c.payload 0 = 1 ∧
        s.dev.busy = false) ∧
    (∃ (s : State), (∃ s0, State.foundBy .guardRailStep s0 = s) ∧ s.dev.pmu.railGuard ≠ s.dev.pmu.guard ∧
        s.dev.pmu.railT + usT 10 ≤ s.dev.now) :=
  ⟨⟨15, (State.foundBy (.idleTimerExpiry 15) s56_0),
    ⟨s56_0, rfl⟩, by decide +kernel⟩,
   ⟨15, (State.foundBy (.domainPowerDownDone 15) s56_1),
    ⟨s56_1, rfl⟩, by decide +kernel⟩,
   ⟨15, (State.foundBy (.domainWakeReady 15) s56_2),
    ⟨s56_2, rfl⟩, by decide +kernel⟩,
   ⟨(State.foundBy (.domainWakeReady 1) s56_3),
    ⟨s56_3, rfl⟩, by decide +kernel⟩,
   ⟨15, x56_4, (State.foundBy (.domainWakeFail 15) s56_4),
    ⟨s56_4, rfl⟩, by decide +kernel⟩,
   ⟨3, c56_5, (State.foundBy (.powerPolicy 3) s56_5),
    by unfold Ready; decide +kernel, ⟨s56_5, rfl⟩, by decide +kernel⟩,
   ⟨3, c56_6, e56_6, (State.foundBy (.powerPolicy 3) s56_6),
    by unfold Ready; decide +kernel, rfl, ⟨s56_6, rfl⟩, by decide +kernel⟩,
   ⟨(State.foundBy .guardRailStep s56_7),
    ⟨s56_7, rfl⟩, by decide +kernel⟩⟩

def s57_0 : State := st fun d => allUp (inM .m7 d)
def s57_1 : State := st fun d => (allUp (inM .m7 d)).onTh fun t => { t with over140 := true }
def s57_2 : State := st fun d => (allUp (inM .m7 d)).onTh fun t => { t with shut := true }
def s57_3 : State := State.reset

/-- States and operands that meet the premises of each clause of `Obligations.HeatShutsTheDeviceDown`. -/
theorem witness_HeatShutsTheDeviceDown :
    (∃ (temp : Int) (s : State), (∃ s0, State.foundBy (.tempMeasure temp) s0 = s) ∧ s.dev.bclk = true ∧ s.dev.mode.cur ≠ .m0 ∧
        temp < 140 ∧ (120 < temp ∨ s.dev.th.shut = false)) ∧
    (∃ (temp : Int) (s : State), (∃ s0, State.foundBy (.tempMeasure temp) s0 = s) ∧ s.dev.bclk = true ∧ s.dev.mode.cur ≠ .m0 ∧
        140 ≤ temp ∧ s.dev.th.over140 = true ∧ s.dev.th.shut = false ∧ s.dev.drv.swkill = false) ∧
    (∃ (temp : Int) (s : State), (∃ s0, State.foundBy (.tempMeasure temp) s0 = s) ∧ s.dev.bclk = true ∧ s.dev.mode.cur ≠ .m0 ∧
        temp ≤ 120 ∧ s.dev.th.shut = true) ∧
    (∃ (s : State), (∃ s0, State.foundBy .lpxStable s0 = s) ∧ s.dev.mode.cur ≠ .m0) :=
  ⟨⟨130, (State.foundBy (.tempMeasure 130) s57_0),
    ⟨s57_0, rfl⟩, by decide +kernel⟩,
   ⟨140, (State.foundBy (.tempMeasure 140) s57_1),
    ⟨s57_1, rfl⟩, by decide +kernel⟩,
   ⟨120, (State.foundBy (.tempMeasure 120) s57_2),
    ⟨s57_2, rfl⟩, by decide +kernel⟩,
   ⟨(State.foundBy .lpxStable s57_3),
    ⟨s57_3, rfl⟩, by decide +kernel⟩⟩

def fs58_0 : Vector (Nat × Nat) 48 := Vector.replicate 48 (400000, 400000)
def s58_0 : State := st fun d => (allUp (inM .m7 d)).onKiln fun k => { k with ksec := 60 }
def s58_1 : State := st fun d => (allUp (inM .m7 d)).onKiln fun k => { k with ksec := 60 }
def s58_2 : State := st fun d => (allUp (inM .m7 d)).onKiln fun k => { k with ksec := 3600 }
def s58_3 : State := st fun d => (allUp (inM .m7 d)).onKiln fun k => { k with ksec := 86400, lowAt := some 0, pairs := upd k.pairs 0 fun x => { x with valid := true, deg := 3 } }
def s58_4 : State := st fun d => (allUp (inM .m7 d)).onKiln fun k => { k with ksec := 86400 }
def s58_5 : State := st fun d => allUp (inM .m7 d)
def c58_6 : Cmd := { opc := 0x84, payload := [0, 0, 191, 0] }
def s58_6 : State := run .m9 c58_6
def c58_7 : Cmd := { opc := 0x84, payload := [1, 0, 191, 0] }
def s58_7 : State := run .m9 c58_7
def c58_8 : Cmd := { opc := 0x84, payload := [1, 0, 191, 0], phase := .coilSet }
def s58_8 : State := st fun d => (has c58_8 (inM .m9 d)).onDrv (fun v => { v with seq := some { tag := 3, survey := true, todo := [] } })
def c58_9 : Cmd := { opc := 0x93, payload := [byteOf 2, byteOf 6] }
def r58_9 : List Byte := [byteOf 0] ++ List.replicate 7 (byteOf 0)
def s58_9 : State := run .m4 c58_9

/-- States and operands that meet the premises of each clause of `Obligations.KilnMeasuresAdjustsAndReplies`. -/
theorem witness_KilnMeasuresAdjustsAndReplies :
    (∃ (fs : Vector (Nat × Nat) 48) (s : State), (∃ s0, State.foundBy (.kilnRoMeasure fs) s0 = s) ∧ s.dev.kilnOn = true ∧
        s.dev.kiln.roAt + 60 ≤ s.dev.kiln.ksec) ∧
    (∃ (ref : Vector Nat 24) (s : State), (∃ s0, State.foundBy (.kilnRefMeasure ref) s0 = s) ∧ s.dev.kilnOn = true ∧
        s.dev.kiln.refAt + 60 ≤ s.dev.kiln.ksec) ∧
    (∃ (ron : Vector (Option Nat) 192) (s : State), (∃ s0, State.foundBy (.kilnRonAverage ron) s0 = s) ∧ s.dev.kilnOn = true ∧
        s.dev.kiln.ronAt + 3600 ≤ s.dev.kiln.ksec) ∧
    (∃ (t0 : Nat) (x : Nat) (s : State), (∃ s0, State.foundBy .kilnGuardLower s0 = s) ∧ s.dev.kilnOn = true ∧
        s.dev.kiln.lowAt = some t0 ∧ t0 + 86400 ≤ s.dev.kiln.ksec ∧ s.dev.kiln.dMax = some x) ∧
    (∃ (s : State), (∃ s0, State.foundBy .kilnDayBoundary s0 = s) ∧ s.dev.bclk = true ∧ s.dev.kiln.day < s.dev.kiln.ksec / 86400 ∧
        s.dev.surveying = false) ∧
    (∃ (s : State), (∃ s0, State.foundBy .kilnSurveyDue s0 = s) ∧ s.dev.kilnOn = true ∧ s.dev.kiln.due = false ∧
        ((∀ i : Fin 192, (s.dev.kiln.coil[i]).base = false))) ∧
    (∃ (tag : Fin 32) (c : Cmd) (fs : Vector (Nat × Nat) 48) (ref : Vector Nat 24) (s : State), Ready 0x84 tag c s.dev ∧
        (∃ s0, State.foundBy (.kilnSurvey tag fs ref) s0 = s) ∧ c.payload = [0, 0, 191, 0] ∧ s.dev.drv.calRun = none ∧
        s.dev.uhf.calRun = none) ∧
    (∃ (tag : Fin 32) (c : Cmd) (fs : Vector (Nat × Nat) 48) (ref : Vector Nat 24) (s : State), Ready 0x84 tag c s.dev ∧
        (∃ s0, State.foundBy (.kilnSurvey tag fs ref) s0 = s) ∧ c.payload = [1, 0, 191, 0] ∧ s.dev.seqDone tag = false ∧
        s.dev.drv.calRun = none ∧ s.dev.uhf.calRun = none) ∧
    (∃ (tag : Fin 32) (c : Cmd) (fs : Vector (Nat × Nat) 48) (ref : Vector Nat 24) (s : State), (∃ s0,
        State.foundBy (.kilnSurvey tag fs ref) s0 = s) ∧ s.dev.cmd tag = some c ∧ c.opc = 0x84 ∧ c.phase = .coilSet ∧
        c.stopReq = false ∧ c.payload = [1, 0, 191, 0] ∧ s.dev.seqDone tag = true ∧ s.dev.drv.calRun = none ∧ s.dev.uhf.calRun = none) ∧
    (∃ (tag : Fin 32) (c : Cmd) (what : Fin 256) (arg : Fin 256) (r : List Byte) (s : State), Ready 0x93 tag c s.dev ∧
        (∃ s0, State.foundBy (.kilnRead tag) s0 = s) ∧ c.payload = [byteOf what.val, byteOf arg.val] ∧
        s.dev.kilnRead what.val arg.val = some r) :=
  ⟨⟨fs58_0, (State.foundBy (.kilnRoMeasure fs58_0) s58_0),
    ⟨s58_0, rfl⟩, by decide +kernel⟩,
   ⟨(Vector.replicate 24 5), (State.foundBy (.kilnRefMeasure (Vector.replicate 24 5)) s58_1),
    ⟨s58_1, rfl⟩, by decide +kernel⟩,
   ⟨(Vector.replicate 192 (some 7)), (State.foundBy (.kilnRonAverage (Vector.replicate 192 (some 7))) s58_2),
    ⟨s58_2, rfl⟩, by decide +kernel⟩,
   ⟨0, 3, (State.foundBy .kilnGuardLower s58_3),
    ⟨s58_3, rfl⟩, by decide +kernel⟩,
   ⟨(State.foundBy .kilnDayBoundary s58_4),
    ⟨s58_4, rfl⟩, by decide +kernel⟩,
   ⟨(State.foundBy .kilnSurveyDue s58_5),
    ⟨s58_5, rfl⟩, by decide +kernel⟩,
   ⟨3, c58_6, (Vector.replicate 48 (0, 0)), (Vector.replicate 24 0), (State.foundBy (.kilnSurvey 3 (Vector.replicate 48 (0,
       0)) (Vector.replicate 24 0)) s58_6),
    by unfold Ready; decide +kernel, ⟨s58_6, rfl⟩, by decide +kernel⟩,
   ⟨3, c58_7, (Vector.replicate 48 (0, 0)), (Vector.replicate 24 0), (State.foundBy (.kilnSurvey 3 (Vector.replicate 48 (0,
       0)) (Vector.replicate 24 0)) s58_7),
    by unfold Ready; decide +kernel, ⟨s58_7, rfl⟩, by decide +kernel⟩,
   ⟨3, c58_8, (Vector.replicate 48 (0, 0)), (Vector.replicate 24 0), (State.foundBy (.kilnSurvey 3 (Vector.replicate 48 (0,
       0)) (Vector.replicate 24 0)) s58_8),
    ⟨s58_8, rfl⟩, by decide +kernel⟩,
   ⟨3, c58_9, 2, 6, r58_9, (State.foundBy (.kilnRead 3) s58_9),
    by unfold Ready; decide +kernel, ⟨s58_9, rfl⟩, by decide +kernel⟩⟩

def x59_0 : Session := { module := some 9, slotB := false, next := 192, total := 196, base := 182, erased := 1, count := 1 }
def c59_0 : Cmd := { opc := 0x0A, payload := [2, 0, 9, 0, 192, 0, 0, 0, 1, 2, 3, 4] }
def s59_0 : State := st fun d => has c59_0 ((inM .m4 d).onNvm fun v => { v with sess := some x59_0 })
def data59_1 : List Byte := [0x4B, 0x57, 0x49, 0x4D, 1, 2, 2, 0, 0, 0, 0, 0, 4, 0, 0, 0] ++ List.replicate 176 0
def c59_1 : Cmd := { opc := 0x0A, payload := [2, 1, byteOf 9, 0, 0, 0, 0, 0] ++ data59_1 }
def s59_1 : State := run .m4 c59_1
def x59_2 : Session := { module := some 9, slotB := false, next := 196, total := 196, base := 182, erased := 1, count := 1 }
def c59_2 : Cmd := { opc := 0x0B, payload := [2, 0, byteOf 9, 0] }
def s59_2 : State := { (st fun d => has c59_2 (inM .m4 { d with nvm := { knowing.nvm with sess := some x59_2 }, key := knowing.key })) with flash := flashWith 182 modImage }
def x59_3 : Session := { module := none, slotB := true, next := 196, total := 196, base := 92, erased := 1, count := 1 }
def c59_3 : Cmd := { opc := 0x0B, payload := [1, 0, 0xFF, 0] }
def s59_3 : State := st fun d => has c59_3 ((inM .m4 d).onNvm fun v => { v with sess := some x59_3 })
def c59_4 : Cmd := { opc := 0x0B, payload := [1, 1, 0xFF, 0] }
def s59_4 : State := st fun d => has c59_4 ((inM .m4 d).onNvm fun v => { v with fwRuns := true, slotA := .trial })
def c59_5 : Cmd := { opc := 0x0E, payload := [1, 0, 0, 0] ++ emptyLayout }
def s59_5 : State := run .m4 c59_5
def c59_6 : Cmd := { opc := 0x0E, payload := [2, 0] ++ le 2 65535 }
def s59_6 : State := run .m4 c59_6
def c59_7 : Cmd := { opc := 0x0E, payload := [3, 0, 0, 0] ++ (List.replicate 32 7) }
def s59_7 : State := run .m4 c59_7
def s59_8 : State := st fun d => (inM .m4 d).onNvm fun v => { v with jobs := [{ ops := [.erase 4, .prog 4 0 [1]], who := .spare }] }
def ps59_9 : List Nat := [249, 250, 251, 252, 253, 254, 255]
def s59_9 : State := st fun d => (inM .m4 d).onNvm fun v => { v with jobs := [{ ops := [.erase 4], who := .spare }] }
def s59_10 : State := st fun d => (inM .m4 d).onNvm fun v => { v with jobs := [{ ops := [.prog 4 0 [1, 2], .prog 4 256 [1]], who := .spare }] }
def c59_11 : Cmd := { opc := 0x0E, payload := [1, 0, 0, 0], phase := .flash }
def s59_11 : State := st fun d => has c59_11 ((inM .m4 d).onNvm fun v => { v with jobs := [{ ops := [.prog 236 0 [1, 2]], who := .record 2 (.layout []) (some 3) [1, 2] }] })

/-- States and operands that meet the premises of each clause of `Obligations.FlashHoldsWhatIsWritten`. -/
theorem witness_FlashHoldsWhatIsWritten :
    (∃ (tag : Fin 32) (c : Cmd) (x : Session) (data : List Byte) (s : State), Ready 0x0A tag c s.dev ∧
        (s.dev.mode.cur = .m4 ∨ s.dev.mode.cur = .m11) ∧ ((x.module = none → s.dev.nvm.slot s.dev.nvm.bootedB ≠ .trial ∧
        s.dev.nvm.slotBad x.slotB = false)) ∧ (∃ s0, State.foundBy (.imageWrite tag) s0 = s) ∧ c.deadline = 0 ∧ 8 ≤ c.payload.length ∧
        data = c.payload.drop 8 ∧ s.dev.nvm.sess = some x ∧ imageTarget (byteAt c.payload 0) (byteAt c.payload 2) = some x.module ∧
        byteAt c.payload 1 = 0 ∧ byteAt c.payload 3 = 0 ∧ leAt c.payload 4 4 = x.next ∧ 4 ≤ data.length ∧ data.length ≤ 4096 ∧
        data.length % 4 = 0 ∧ x.next + data.length ≤ x.total) ∧
    (∃ (tag : Fin 32) (c : Cmd) (k : Fin 63) (a : Nat) (data : List Byte) (s : State), Ready 0x0A tag c s.dev ∧
        (s.dev.mode.cur = .m4 ∨ s.dev.mode.cur = .m11) ∧ (∃ s0, State.foundBy (.imageWrite tag) s0 = s) ∧ c.deadline = 0 ∧
        c.payload = [2, 1, byteOf k.val, 0, 0, 0, 0, 0] ++ data ∧ 4 ≤ data.length ∧ data.length ≤ 4096 ∧ data.length % 4 = 0 ∧
        formatOk 2 data = true ∧ data.length ≤ 192 + leAt data 12 4 ∧ (s.dev.nvm.mods[k]).st ≠ .running ∧
        s.dev.nvm.allocate k (sectorsFor (192 + leAt data 12 4)) = some a) ∧
    (∃ (tag : Fin 32) (c : Cmd) (k : Fin 63) (x : Session) (s : State), Ready 0x0B tag c s.dev ∧
        (s.dev.mode.cur = .m4 ∨ s.dev.mode.cur = .m11) ∧ s.verifyAt 2 x.base = 0 ∧ (∃ s0, State.foundBy (.imageCommit tag) s0 = s) ∧
        c.payload = [2, 0, byteOf k.val, 0] ∧ s.dev.nvm.sess = some x ∧ x.module = some k ∧ x.next = x.total) ∧
    (∃ (tag : Fin 32) (c : Cmd) (x : Session) (s : State), Ready 0x0B tag c s.dev ∧ (s.dev.mode.cur = .m4 ∨ s.dev.mode.cur = .m11) ∧
        (∃ s0, State.foundBy (.imageCommit tag) s0 = s) ∧ c.payload = [1, 0, 0xFF, 0] ∧ s.dev.nvm.sess = some x ∧ x.module = none ∧
        x.next = x.total) ∧
    (∃ (tag : Fin 32) (c : Cmd) (s : State), Ready 0x0B tag c s.dev ∧ (∃ s0, State.foundBy (.imageCommit tag) s0 = s) ∧
        s.dev.mode.cur = .m4 ∧ c.payload = [1, 1, 0xFF, 0] ∧ s.dev.nvm.fwRuns = true ∧ s.dev.nvm.slot s.dev.nvm.bootedB = .trial) ∧
    (∃ (tag : Fin 32) (c : Cmd) (data : List Byte) (s : State), Ready 0x0E tag c s.dev ∧
        (s.dev.mode.cur = .m4 ∨ s.dev.mode.cur = .m9) ∧ c.payload = [1, 0, 0, 0] ++ data ∧ layoutOk data = true ∧
        (∃ s0, State.foundBy (.configStore tag) s0 = s)) ∧
    (∃ (tag : Fin 32) (c : Cmd) (f : Nat) (s : State), Ready 0x0E tag c s.dev ∧ (s.dev.mode.cur = .m4 ∨ s.dev.mode.cur = .m9) ∧
        (∃ s0, State.foundBy (.configStore tag) s0 = s) ∧ f < 65536 ∧ c.payload = [2, 0] ++ le 2 f) ∧
    (∃ (tag : Fin 32) (c : Cmd) (data : List Byte) (s : State), Ready 0x0E tag c s.dev ∧
        (∃ s0, State.foundBy (.configStore tag) s0 = s) ∧ s.dev.mode.cur = .m4 ∧ c.payload = [3, 0, 0, 0] ++ data ∧ data.length = 32 ∧
        s.dev.key.ih = none) ∧
    (∃ (us : Nat) (sec : Nat) (o : FOp) (rest : List FOp) (w : FWho) (others : List FJob) (s : State), (∃ s0,
        State.foundBy (.flashEraseDone true us) s0 = s) ∧ s.dev.nvm.jobs = { ops := .erase sec :: o :: rest, who := w } :: others ∧
        s.dev.bus.stalls = [] ∧ us ≤ 4 * s.dev.nvm.eraseBase[Fin.ofNat 256 (s.dev.nvm.sect[sectNo sec]).phys] ∧
        s.dev.nvm.growthOf (s.dev.nvm.sect[sectNo sec]).phys us < 3000) ∧
    (∃ (us : Nat) (sec : Nat) (p : Nat) (rest : List FOp) (w : FWho) (others : List FJob) (ps : List Nat) (s : State), (∃ s0,
        State.foundBy (.flashEraseDone false us) s0 = s) ∧ s.dev.nvm.jobs = { ops := .erase sec :: rest, who := w } :: others ∧
        s.dev.nvm.spares = p :: ps ∧ s.dev.bus.stalls = [] ∧ (s.dev.nvm.sect[sectNo sec]).bad = false) ∧
    (∃ (sec : Nat) (off : Nat) (data : List Byte) (o : FOp) (rest : List FOp) (w : FWho) (others : List FJob) (s : State), (∃ s0,
        State.foundBy (.flashProgramDone true) s0 = s) ∧ s.memWf = true ∧
        s.dev.nvm.jobs = { ops := .prog sec off data :: o :: rest, who := w } :: others ∧ s.dev.bus.stalls = []) ∧
    (∃ (sec : Nat) (off : Nat) (data : List Byte) (reply : List Byte) (typ : Fin 6) (x : RecData) (tag : Fin 32) (c : Cmd)
        (s : State), (∃ s0, State.foundBy (.flashProgramDone true) s0 = s) ∧
        s.dev.nvm.jobs = [{ ops := [.prog sec off data], who := .record typ x (some tag) reply }] ∧ s.dev.cmd tag = some c ∧
        c.phase = .flash ∧ s.dev.bus.stalls = []) :=
  ⟨⟨3, c59_0, x59_0, ([1, 2, 3, 4]), (State.foundBy (.imageWrite 3) s59_0),
    by unfold Ready; decide +kernel, .inl rfl, nofun, ⟨s59_0, rfl⟩, by decide +kernel⟩,
   ⟨3, c59_1, 9, 182, data59_1, (State.foundBy (.imageWrite 3) s59_1),
    by unfold Ready; decide +kernel, .inl rfl, ⟨s59_1, rfl⟩, by decide +kernel⟩,
   ⟨3, c59_2, 9, x59_2, (State.foundBy (.imageCommit 3) s59_2),
    by unfold Ready; decide +kernel, .inl rfl, modImage_good _ rfl rfl rfl rfl rfl rfl rfl rfl, ⟨s59_2, rfl⟩, by decide +kernel⟩,
   ⟨3, c59_3, x59_3, (State.foundBy (.imageCommit 3) s59_3),
    by unfold Ready; decide +kernel, .inl rfl, ⟨s59_3, rfl⟩, by decide +kernel⟩,
   ⟨3, c59_4, (State.foundBy (.imageCommit 3) s59_4),
    by unfold Ready; decide +kernel, ⟨s59_4, rfl⟩, by decide +kernel⟩,
   ⟨3, c59_5, emptyLayout, (State.foundBy (.configStore 3) s59_5),
    by unfold Ready; decide +kernel, .inl rfl, rfl, emptyLayout_ok, ⟨s59_5, rfl⟩⟩,
   ⟨3, c59_6, 65535, (State.foundBy (.configStore 3) s59_6),
    by unfold Ready; decide +kernel, .inl rfl, ⟨s59_6, rfl⟩, by decide +kernel⟩,
   ⟨3, c59_7, (List.replicate 32 7), (State.foundBy (.configStore 3) s59_7),
    by unfold Ready; decide +kernel, ⟨s59_7, rfl⟩, by decide +kernel⟩,
   ⟨20000, 4, (.prog 4 0 [1]), [], .spare, [], (State.foundBy (.flashEraseDone true 20000) s59_8),
    ⟨s59_8, rfl⟩, by decide +kernel⟩,
   ⟨20000, 4, 248, [], .spare, [], ps59_9, (State.foundBy (.flashEraseDone false 20000) s59_9),
    ⟨s59_9, rfl⟩, by decide +kernel⟩,
   ⟨4, 0, ([1, 2]), (.prog 4 256 [1]), [], .spare, [], (State.foundBy (.flashProgramDone true) s59_10),
    ⟨s59_10, rfl⟩, by decide +kernel⟩,
   ⟨236, 0, ([1, 2]), ([1, 2]), 2, (.layout []), 3, c59_11, (State.foundBy (.flashProgramDone true) s59_11),
    ⟨s59_11, rfl⟩, by decide +kernel⟩⟩

def c60_0 : Cmd := { opc := 0x0C, payload := [byteOf 9, 0, 0, 0] }
def s60_0 : State := { (st fun d => has c60_0 (inM .m4 { d with nvm := { knowing.nvm with mods := upd knowing.nvm.mods 9 fun m => { m with st := .committed, sect := 182, nsect := 1 } }, key := knowing.key })) with flash := flashWith 182 modImage }
def c60_1 : Cmd := { opc := 0x0C, payload := [byteOf 9, 0, 0, 0] }
def s60_1 : State := st fun d => has c60_1 ((inM .m4 d).onNvm fun v => { v with mods := upd v.mods 9 fun m => { m with st := .committed, sect := 182, nsect := 1 } })
def c60_2 : Cmd := { opc := 0x0D, payload := [byteOf 9, 1, byteOf 1, 0, byteOf 1] ++ le 3 1 ++ le 4 1 }
def s60_2 : State := { (st fun d => has c60_2 (inM .m4 { d with nvm := { knowing.nvm with mods := upd knowing.nvm.mods 9 fun m => { m with st := .loaded, sect := 182, nsect := 1 } }, key := knowing.key })) with flash := flashWith 182 modImage }
def c60_3 : Cmd := { opc := 0x0D, payload := [byteOf 9, 2, 0, 0, 0, 0, 0, 0, 0, 0, 0, 0] }
def s60_3 : State := st fun d => has c60_3 ((inM .m4 d).onNvm fun v => { v with mods := upd v.mods 9 fun m => { m with st := .running, cmask := 1, zmask := 1 } })
def c60_4 : Cmd := { opc := 0x0D, payload := [byteOf 9, 3, 0, 0, 0, 0, 0, 0, 0, 0, 0, 0] }
def s60_4 : State := st fun d => has c60_4 ((inM .m4 d).onNvm fun v => { v with mods := upd v.mods 9 fun m => { m with st := .stopped } })
def c60_5 : Cmd := { opc := 0x0D, payload := [byteOf 9, 4, 0, 0, 0, 0, 0, 0, 0, 0, 0, 0] }
def s60_5 : State := st fun d => has c60_5 ((inM .m4 d).onNvm fun v => { v with mods := upd v.mods 9 fun m => { m with st := .stopped } })

/-- States and operands that meet the premises of each clause of `Obligations.ExtensionsAreLoadedAndRun`. -/
theorem witness_ExtensionsAreLoadedAndRun :
    (∃ (tag : Fin 32) (c : Cmd) (k : Fin 63) (s : State), Ready 0x0C tag c s.dev ∧ s.verifyAt 2 (s.dev.nvm.mods[k]).sect = 0 ∧
        (∃ s0, State.foundBy (.extLoad tag) s0 = s) ∧ s.dev.mode.cur = .m4 ∧ c.payload = [byteOf k.val, 0, 0, 0] ∧
        (s.dev.nvm.mods[k]).st = .committed) ∧
    (∃ (tag : Fin 32) (c : Cmd) (k : Fin 63) (s : State), Ready 0x0C tag c s.dev ∧ (∃ s0, State.foundBy (.extLoad tag) s0 = s) ∧
        s.dev.mode.cur = .m4 ∧ c.payload = [byteOf k.val, 0, 0, 0] ∧ (s.dev.nvm.mods[k]).st = .committed ∧
        s.verifyAt 2 (s.dev.nvm.mods[k]).sect ≠ 0) ∧
    (∃ (tag : Fin 32) (c : Cmd) (k : Fin 63) (cm : BitVec 4) (zm : BitVec 24) (tm : BitVec 32) (a : Fin 2)
        (ps : List (Fin 4 × Nat × Nat)) (s : State), Ready 0x0D tag c s.dev ∧
        ((s.dev.nvm.mods[k]).st = .loaded ∨ (s.dev.nvm.mods[k]).st = .stopped ∨ (s.dev.nvm.mods[k]).st = .faulted) ∧
        (∃ s0, State.foundBy (.extControl tag) s0 = s) ∧ s.dev.mode.cur = .m4 ∧
        c.payload = [byteOf k.val, 1, byteOf a.val, 0, byteOf cm.toNat] ++ le 3 zm.toNat ++ le 4 tm.toNat ∧
        ((∀ n : Fin 24, zm.getLsbD n.val = true → cm.getLsbD (n.val / 6) = true)) ∧ s.dev.granted k zm tm = false ∧
        s.wouldPlace k cm = some ps) ∧
    (∃ (tag : Fin 32) (c : Cmd) (k : Fin 63) (s : State), Ready 0x0D tag c s.dev ∧ (∃ s0, State.foundBy (.extControl tag) s0 = s) ∧
        s.dev.mode.cur = .m4 ∧ c.payload = [byteOf k.val, 2, 0, 0, 0, 0, 0, 0, 0, 0, 0, 0] ∧ (s.dev.nvm.mods[k]).st = .running) ∧
    (∃ (tag : Fin 32) (c : Cmd) (k : Fin 63) (s : State), Ready 0x0D tag c s.dev ∧ (∃ s0, State.foundBy (.extControl tag) s0 = s) ∧
        s.dev.mode.cur = .m4 ∧ c.payload = [byteOf k.val, 3, 0, 0, 0, 0, 0, 0, 0, 0, 0, 0] ∧ (s.dev.nvm.mods[k]).st ≠ .running) ∧
    (∃ (tag : Fin 32) (c : Cmd) (k : Fin 63) (s : State), Ready 0x0D tag c s.dev ∧ (∃ s0, State.foundBy (.extControl tag) s0 = s) ∧
        s.dev.mode.cur = .m4 ∧ c.payload = [byteOf k.val, 4, 0, 0, 0, 0, 0, 0, 0, 0, 0, 0]) :=
  ⟨⟨3, c60_0, 9, (State.foundBy (.extLoad 3) s60_0),
    by unfold Ready; decide +kernel, modImage_good _ rfl rfl rfl rfl rfl rfl rfl rfl, ⟨s60_0, rfl⟩, by decide +kernel⟩,
   ⟨3, c60_1, 9, (State.foundBy (.extLoad 3) s60_1),
    by unfold Ready; decide +kernel, ⟨s60_1, rfl⟩, by decide +kernel⟩,
   ⟨3, c60_2, 9, 1, 1, 1, 1, ([(0, 0x10500000, 4096)]), (State.foundBy (.extControl 3) s60_2),
    by unfold Ready; decide +kernel, .inl (by decide +kernel), ⟨s60_2, rfl⟩, by decide +kernel⟩,
   ⟨3, c60_3, 9, (State.foundBy (.extControl 3) s60_3),
    by unfold Ready; decide +kernel, ⟨s60_3, rfl⟩, by decide +kernel⟩,
   ⟨3, c60_4, 9, (State.foundBy (.extControl 3) s60_4),
    by unfold Ready; decide +kernel, ⟨s60_4, rfl⟩, by decide +kernel⟩,
   ⟨3, c60_5, 9, (State.foundBy (.extControl 3) s60_5),
    by unfold Ready; decide +kernel, ⟨s60_5, rfl⟩, by decide +kernel⟩⟩

end Sys2Proof.Tests
end

section
/-! PROOF. Phase compares: the periods added to a target, what a firing leaves, and O10 (R107 to R109). -/

namespace Sys2Proof.Machine
open Sys2Proof

/-! Commands that change the device alone -/

theorem Frame.tb_eq {m : Nat} {d e : Dev} (h : Frame m d e) (hm : m.testBit 1 = false) : e.tb = d.tb := h .tb hm

theorem SFrame.on {m : Nat} {s : State} {f : Dev → Dev} (h : Frame m s.dev (f s.dev)) : SFrame m s (s.on f) :=
  ⟨h, fun _ => rfl, fun _ => rfl, rfl⟩

/-- A command of hardware that changes the device alone does to the state that it finds what its change does. -/
theorem Completes.of_onDev {m : Nat} {i : Instr} {s : State} {post : State → Prop} {f : Dev → Dev} (hi : portOf i = none)
    (he : ∀ s0, exec i s0 = onDev s0 f) (hf : Frame m s.dev (f s.dev)) (hp : post (s.on f)) : Completes m i s post := by
  intro s0 hs
  have found : s0.ev = s := by rw [← hs, State.foundBy, hi]
  exact ⟨s.on f, by rw [he, onDev, found], SFrame.on hf, hp⟩

/-- An access of port `p` that changes the device alone does to the state that it finds what its change does. -/
theorem Completes.of_coreRow {m : Nat} {i : Instr} {p : Fin 6} {s : State} {post : State → Prop} {f : Dev → Dev}
    (hi : portOf i = some p) (he : ∀ s0, exec i s0 = coreRow p s0 f) (hf : Frame m s.dev (f s.dev)) (hp : post (s.on f)) :
    Completes m i s post := by
  intro s0 hs
  have found : s0.on (startCore p) = s := by rw [← hs, State.foundBy, hi]
  exact ⟨s.on f, by rw [he, coreRow, coreRowS, found], SFrame.on hf, hp⟩

/-! The target of a periodic compare (R109) -/

/-- The periods added reach past PHC by at most one period, so the new target lies ahead of PHC (R109). -/
theorem advance_ahead {phc per : Nat} {tgt : Word} (hpos : 0 < per) (hper : per ≤ 2 ^ 31) :
    passed phc (advance phc tgt per).1 = false := by
  simp only [passed, advance, decide_eq_false_iff_not, Nat.max_eq_right hpos]
  rw [← BitVec.sub_sub]
  generalize BitVec.ofNat 32 phc - tgt = gone
  have past : gone.toNat < (gone.toNat / per + 1) * per := Nat.lt_mul_of_div_lt (Nat.lt_succ_self _) hpos
  have near : (gone.toNat / per + 1) * per ≤ gone.toNat + per := by
    rw [Nat.succ_mul]; exact Nat.add_le_add_right (Nat.div_mul_le_self _ _) _
  generalize (gone.toNat / per + 1) * per = added at past near ⊢
  rw [BitVec.toNat_sub, BitVec.toNat_ofNat]
  omega

/-! A compare that fires (R107, R109) -/

@[simp] theorem Pcmp.fire_fired (c : Pcmp) (phc : Nat) : (c.fire phc).fired = true := by
  unfold Pcmp.fire
  split <;> rfl

theorem Pcmp.fire_oneShot {c : Pcmp} (phc : Nat) (h : c.per = 0) : c.fire phc = { c with fired := true, en := false } := if_pos h

theorem Pcmp.fire_periodic_en {c : Pcmp} (phc : Nat) (h : 0 < c.per) : (c.fire phc).en = c.en := by
  rw [Pcmp.fire, if_neg (Nat.ne_of_gt h)]

theorem Pcmp.fire_periodic_tgt {c : Pcmp} (phc : Nat) (h : 0 < c.per) : (c.fire phc).tgt = (advance phc c.tgt c.per).1 := by
  rw [Pcmp.fire, if_neg (Nat.ne_of_gt h)]

/-! Its effect on the time base -/

@[simp] theorem message_tb (id : SrcId) (d : Dev) : (message id d).tb = d.tb := (message_frame id d).tb_eq rfl

@[simp] theorem startTimers_tb (n : Fin 24) (e : Nat) (d : Dev) : (startTimers n e d).tb = d.tb := (startTimers_frame n e d).tb_eq rfl

@[simp] theorem armedStart_tb (n : Fin 24) (d : Dev) : (armedStart n d).tb = d.tb := (armedStart_frame n d).tb_eq rfl

/-- A firing changes its own compare and nothing else of the time base: the source, the timers and the armed frame lie outside it. -/
theorem pcmpFire_tb (n : Fin 32) (d : Dev) :
    (pcmpFire n d).tb = { d.tb with pcmp := upd d.tb.pcmp n fun c => c.fire d.phc } := by
  unfold pcmpFire
  extract_lets c phc fired told
  have told_tb : told.tb = fired.tb := by
    unfold told
    split
    · exact message_tb _ _
    · rfl
  split
  · split
    · rw [armedStart_tb, startTimers_tb, told_tb]; rfl
    · rw [startTimers_tb, told_tb]; rfl
  · rw [told_tb]; rfl

theorem pcmpDue_iff {n : Fin 32} {d : Dev} :
    d.pcmpDue n = true ↔ d.tb.pcmp[n].en = true ∧ passed d.phc d.tb.pcmp[n].tgt = true := by
  rw [Dev.pcmpDue, Bool.and_eq_true]

/-- Compare `n`, which was `c` when it fired in `d`, has fired once in `e` and the others are as they were (R107, R109). -/
def FiredOnce (n : Fin 32) (c : Pcmp) (d e : Dev) : Prop :=
  e.tb.pcmp[n].fired = true ∧
  (c.per = 0 → e.tb.pcmp[n].en = false ∧ e.tb.pcmp[n].tgt = c.tgt) ∧
  (0 < c.per → c.per < 2 ^ 17 → e.tb.pcmp[n].en = true ∧ passed d.phc e.tb.pcmp[n].tgt = false) ∧
  ∀ k, k ≠ n → e.tb.pcmp[k] = d.tb.pcmp[k]

theorem pcmpFire_firedOnce {n : Fin 32} {d : Dev} (h : d.pcmpDue n = true) : FiredOnce n d.tb.pcmp[n] d (pcmpFire n d) := by
  have hen := (pcmpDue_iff.mp h).1
  unfold FiredOnce
  simp only [pcmpFire_tb, upd_same]
  refine ⟨Pcmp.fire_fired _ _, fun oneShot => ?_, fun hpos hper => ⟨?_, ?_⟩, fun k hk => upd_other _ _ _ _ hk⟩
  · rw [Pcmp.fire_oneShot _ oneShot]
    exact ⟨rfl, rfl⟩
  · rw [Pcmp.fire_periodic_en _ hpos, hen]
  · rw [Pcmp.fire_periodic_tgt _ hpos]
    exact advance_ahead hpos (by omega)

/-! A write of a target (R108) -/

/-- The device with the target of compare `n` written and nothing fired yet. -/
def withTgt (n : Fin 32) (v : Nat) (d : Dev) : Dev := onPcmp n (fun c => { c with tgt := word v }) d

theorem pcmpTgtWrite_eq (n : Fin 32) (v : Nat) (d : Dev) :
    pcmpTgtWrite n v d = if (withTgt n v d).pcmpDue n then pcmpFire n (withTgt n v d) else withTgt n v d := rfl

theorem withTgt_same (n : Fin 32) (v : Nat) (d : Dev) : (withTgt n v d).tb.pcmp[n] = { d.tb.pcmp[n] with tgt := word v } :=
  upd_same _ _ _

theorem withTgt_other {n k : Fin 32} (v : Nat) (d : Dev) (h : k ≠ n) : (withTgt n v d).tb.pcmp[k] = d.tb.pcmp[k] :=
  upd_other _ _ _ _ h

theorem withTgt_due_iff {n : Fin 32} {v : Nat} {d : Dev} :
    (withTgt n v d).pcmpDue n = true ↔ d.tb.pcmp[n].en = true ∧ passed d.phc (word v) = true := by
  rw [pcmpDue_iff, withTgt_same]; rfl

theorem pcmpTgtWrite_notPassed {n : Fin 32} {v : Nat} {d : Dev} (h : d.tb.pcmp[n].en = false ∨ passed d.phc (word v) = false) :
    pcmpTgtWrite n v d = withTgt n v d := by
  rw [pcmpTgtWrite_eq, if_neg]
  rw [withTgt_due_iff]
  rintro ⟨hen, hpassed⟩
  rcases h with h | h
  · exact Bool.false_ne_true (h.symm.trans hen)
  · exact Bool.false_ne_true (h.symm.trans hpassed)

theorem pcmpTgtWrite_firedOnce {n : Fin 32} {v : Nat} {d : Dev} (hen : d.tb.pcmp[n].en = true)
    (hpassed : passed d.phc (word v) = true) : FiredOnce n { d.tb.pcmp[n] with tgt := word v } d (pcmpTgtWrite n v d) := by
  have due := withTgt_due_iff.mpr ⟨hen, hpassed⟩
  rw [pcmpTgtWrite_eq, if_pos due, ← withTgt_same]
  obtain ⟨fired, oneShot, periodic, others⟩ := pcmpFire_firedOnce due
  exact ⟨fired, oneShot, periodic, fun k hk => (others k hk).trans (withTgt_other v d hk)⟩

/-! The commands -/

/-- A write of a target completes as its change of the device does. -/
theorem pcmpTgtWrite_completes {n : Fin 32} {v : Nat} {s : State} {post : State → Prop} (hp : post (s.on (pcmpTgtWrite n v))) :
    Completes (mask [.tb, .hf, .evr, .tim, .pmu]) (.pcmpTgtWrite n v) s post :=
  Completes.of_coreRow rfl (fun _ => rfl) (pcmpTgtWrite_frame n v s.dev) hp

/-- A compare that is due, and first among those that are, fires. -/
theorem pcmpFire_completes {n : Fin 32} {s : State} {post : State → Prop} (due : s.dev.pcmpDue n = true)
    (first : s.dev.tb.firstDue n = true) (hp : post (s.on (pcmpFire n))) :
    Completes (mask [.tb, .hf, .evr, .tim, .pmu]) (.pcmpFire n) s post := by
  have fires : (if s.dev.pcmpDue n && s.dev.tb.firstDue n then pcmpFire n s.dev else s.dev) = pcmpFire n s.dev := by
    rw [due, first]; rfl
  refine Completes.of_onDev rfl (fun _ => rfl) ?_ ?_
  · rw [fires]; exact pcmpFire_frame n s.dev
  · rw [State.on, fires]; exact hp

/-- Settles O10: a written target fires its compare exactly where `withTgt` makes it due, and a firing is `Pcmp.fire` on one compare. -/
theorem phaseComparesFireOnce : Obligations.PhaseComparesFireOnce := by
  refine ⟨fun n v s h => pcmpTgtWrite_completes ?_, fun n v s hen hpassed => pcmpTgtWrite_completes ?_,
    fun n s due first => pcmpFire_completes due first (pcmpFire_firedOnce due)⟩
  · rw [State.on, pcmpTgtWrite_notPassed h]
    exact ⟨withTgt_same n v s.dev, fun k hk => withTgt_other v s.dev hk⟩
  · exact pcmpTgtWrite_firedOnce hen hpassed

end Sys2Proof.Machine
end

section
/-! PROOF. What a completion leaves of its source, and O50 (R570, R575, R577). -/

namespace Sys2Proof.Machine
open Sys2Proof

/-- What a command is claimed to leave holds of the next state that it answers. -/
theorem Completes.next {m : Nat} {i : Instr} {s0 s t : State} {post : State → Prop} (h : Completes m i s post)
    (found : s0.foundBy i = s) (he : exec i s0 = .next t) : post t := by
  obtain ⟨t', he', -, hp⟩ := h s0 found
  cases he.symm.trans he'
  exact hp

@[simp] theorem State.on_dev (s : State) (f : Dev → Dev) : (s.on f).dev = f s.dev := rfl

/-! The source that completes -/

theorem exec_evrEoi {t : Fin 6} {n : Nat} {s0 s : State} (found : s0.foundBy (.evrEoi t n) = s) (h : n < 512) :
    exec (.evrEoi t n) s0 = .next (s.on (eoi t n)) := by
  subst found
  have number : n % 512 = n := Nat.mod_eq_of_lt h
  change execEvrEoi t n s0 = _
  rw [execEvrEoi, number]
  rfl

@[simp] theorem modUpdate_src (t : Fin 6) (d : Dev) (id : SrcId) : (modUpdate t d).src id = d.src id := by
  cases id <;> rfl

@[simp] theorem Dev.onCyc_src (d : Dev) (f : Cyc → Cyc) (id : SrcId) : (d.onCyc f).src id = d.src id := by
  cases id <;> rfl

theorem onSrc_src_same (id : SrcId) (f : Src → Src) (d : Dev) : (onSrc id f d).src id = f (d.src id) := by
  cases id with
  | priv t s =>
    show (upd d.evr.priv t fun b => upd b s f)[t][s] = f d.evr.priv[t][s]
    rw [upd_same, upd_same]
  | shared i => exact upd_same _ _ _

/-- A completion clears ACT and samples the source's line (R570, R575). -/
theorem eoi_src {t : Fin 6} {n : Nat} {id : SrcId} {d : Dev} (named : srcOf t n = some id) (target : d.srcTarget id = t)
    (active : (d.src id).act = true) :
    (eoi t n d).src id = { d.src id with act := false }.sampled (d.line id) d.now := by
  have completes : eoi t n d = modUpdate t (onSrc id (fun s => { s with act := false }.sampled (d.line id) d.now) d) := by
    rw [eoi, named]
    exact if_pos ⟨target, active⟩
  rw [completes, modUpdate_src, onSrc_src_same]

/-- A line that has fallen since it was last sampled sets PEND of a FALLING source (R570). -/
theorem Src.sampled_pend_of_fall {s : Src} (now : Nat) (sense : s.sense = 3) (line : s.line = true) :
    (s.sampled false now).pend = true := by
  simp [Src.sampled, sense, line]

/-- An access in its place in the present cycle finds every part but the order as it was (R38). -/
theorem startCore_of_le {p : Fin 6} {d : Dev} (h : d.cyc.slot ≤ p) : startCore p d = d.onCyc fun c => { c with slot := p.val + 1 } := by
  rw [startCore, if_pos h]

/-! The clause of O50 that fails, and a state in which it does -/

/-- Source `id` is FALLING, active for target `t` and not pending, and its line has fallen since it was last sampled. -/
structure FallUnseen (t : Fin 6) (id : SrcId) (d : Dev) : Prop where
  target : d.srcTarget id = t
  active : (d.src id).act = true
  sense : (d.src id).sense = 3
  idle : (d.src id).pend = false
  lineWas : (d.src id).line = true
  lineIs : d.line id = false

/-- The edge that meets the EOI of its source leaves the source pending (R577). -/
theorem FallUnseen.eoi_pend {t : Fin 6} {n : Nat} {id : SrcId} {d : Dev} (h : FallUnseen t id d) (named : srcOf t n = some id) :
    ((eoi t n d).src id).pend = true := by
  rw [eoi_src named h.target h.active, h.lineIs]
  exact Src.sampled_pend_of_fall _ h.sense h.lineWas

/-- Where an EOI finds an edge that is not yet sampled, PEND of its source changes, although the source is not LEVEL. -/
theorem FallUnseen.refutes {t : Fin 6} {n : Nat} {id : SrcId} {s0 s : State} (h : FallUnseen t id s.dev)
    (found : s0.foundBy (.evrEoi t n) = s) (number : n < 512) (named : srcOf t n = some id) :
    ¬ Obligations.SourcesAreClaimedAndCompleted := by
  rintro ⟨-, -, -, completes, -⟩
  obtain ⟨-, -, -, pendKept, -⟩ := (completes t n id s number named h.target h.active).next found (exec_evrEoi found number)
  have notLevel : (s.dev.src id).sense ≠ 1 := by rw [h.sense]; decide
  have idle : ((eoi t n s.dev).src id).pend = false := (pendKept notLevel).trans h.idle
  exact Bool.noConfusion (idle.symm.trans (h.eoi_pend named))

/-- Source 32 while its FALLING edge is not yet sampled: active for ZC0, the line last seen at 1. -/
def unseenFall : Src := { sense := 3, act := true, line := true, target := 0 }

/-- FIRED of general timer 0, the line of source 32 (R617), is 0 and SC has acted in the present cycle: what its clear of FIRED leaves
before the line is next sampled. -/
def firedCleared : State :=
  State.reset.on fun d => (onSrc (.shared 0) (fun _ => unseenFall) d).onCyc fun c => { c with slot := 1 }

/-- The state that ZC0's completion of source 32 finds there. -/
def fallFound : State := firedCleared.foundBy (.evrEoi 0 32)

theorem fallFound_dev : fallFound.dev = firedCleared.dev.onCyc fun c => { c with slot := 2 } :=
  startCore_of_le (p := 1) (Nat.le_refl 1)

theorem fallFound_src : fallFound.dev.src (.shared 0) = unseenFall := by
  rw [fallFound_dev, firedCleared, State.on_dev, Dev.onCyc_src, Dev.onCyc_src, onSrc_src_same]

theorem fallFound_line : fallFound.dev.line (.shared 0) = false := by
  rw [fallFound_dev]
  rfl

theorem fallFound_fallUnseen : FallUnseen 0 (.shared 0) fallFound.dev where
  target := congrArg Src.target fallFound_src
  active := congrArg Src.act fallFound_src
  sense := congrArg Src.sense fallFound_src
  idle := congrArg Src.pend fallFound_src
  lineWas := congrArg Src.line fallFound_src
  lineIs := fallFound_line

/-- Refutes O50: by its fourth clause a completion leaves PEND of every source that is not LEVEL as it was. In `fallFound` the line of
the FALLING source 32 has fallen in the cycle of its EOI, and PEND is 1 after it, as R577 has it for an edge that meets an EOI. -/
theorem not_sourcesAreClaimedAndCompleted : ¬ Obligations.SourcesAreClaimedAndCompleted :=
  fallFound_fallUnseen.refutes (n := 32) (s0 := firedCleared) rfl (by decide) rfl

end Sys2Proof.Machine
end
